-- ==== Sys2Proof/Word.lean ====
section
/-! DEFINITION. The words the controller's registers, packets and memories are made of. -/

namespace Sys2Proof

/-- A byte of a packet, a record or the pond. -/
abbrev Byte := BitVec 8

/-- A 16-bit transport-port word (R10). -/
abbrev Half := BitVec 16

/-- A 32-bit BAR0 register word (R8). -/
abbrev Word := BitVec 32

/-- A 64-bit value held in a `_LO`/`_HI` register pair. -/
abbrev DWord := BitVec 64

/-- A port number, 0 to 15. -/
abbrev Port := Fin 16

/-- A DMA channel number, 0 to 19 (R82). -/
abbrev Chan := Fin 20

end Sys2Proof
end

