-- ==== Sys2Proof/Types.lean ====
section
/-! DEFINITION. The operand types of the commands: what the outside world hands the controller with an event.
External memories (host memory, the flash, a head's EEPROM) and physical readings (voltages, sensed cells,
upset words) reach the model as operands of the command that delivers them (log entry 2). -/

namespace Sys2Proof

/-- A firing engine: ENG[A] or ENG[B] (R14). -/
inductive EngId where
  | a | b
deriving DecidableEq, Repr

/-- The other engine of the pair. -/
def EngId.other : EngId → EngId
  | .a => .b
  | .b => .a

/-- A fantail loop: FTL[A] or FTL[B]. -/
inductive LoopId where
  | a | b
deriving DecidableEq, Repr

/-- The window a register write comes through: the PCI Express BAR0 register window, the doorbells of BAR2, the MSI-X
table of BAR4, or the transport port (R8, R10, R16). -/
inductive Bus where
  | bar0 | bar2 | bar4 | tp
deriving DecidableEq, Repr

/-- What the DEC-TED decoder finds in one stored word (R118, R119). -/
inductive WordErr where
  | one            -- one bit corrected
  | two            -- two bits corrected
  | uncorrectable
deriving DecidableEq, Repr

/-- Words of the pond with the bits of their 79 that upsets have changed since they were written (R117): what a read
through the decoder meets. -/
abbrev Upsets := List (Nat × BitVec 79)

/-- Why a read completion counts as errored (R102). -/
inductive CplError where
  | unsupported | abort | poisoned | malformed | unexpected
deriving DecidableEq, Repr

/-- A `_LO` register of BAR0 or of the transport port whose read captures its `_HI` register (R194, R259, R323,
R395, R432). -/
inductive LoReg where
  | pos (x : LoopId) | hwm (x : LoopId) | trig0 (x : LoopId) | trig1 (x : LoopId)
  | fires (n : Port) | lastTime | rtc
  | faultDoc | faultTag | faultLine | trig0Doc | trig1Doc | holdDoc | lastDone
deriving DecidableEq, Repr

/-- A signal of an encoder input (R170). -/
inductive EncSig where
  | chA | chB | index
deriving DecidableEq, Repr

/-- A condition of R266 that makes a rail fault. -/
inductive RailCause where
  | ov | uv | oc | uvDrv
deriving DecidableEq, Repr

/-- A bridge fault of R359. -/
inductive BridgeCause where
  | overcurrent (ax : Fin 4) | openCoil (ax : Fin 4) | vmLow | vmHigh
deriving DecidableEq, Repr

/-- What trips the hardware shut-down (R374). -/
inductive TripCause where
  | comparator | openShort | driveHot
deriving DecidableEq, Repr

/-- Which head-memory transfer an I²C failure ends (R240, R257). -/
inductive I2cPhase where
  | read (copy : Bool)   -- reading copy 0 (false) or copy 1 (true)
  | write                -- a page write or its ACK polling
deriving DecidableEq, Repr

/-- What one engine's pass met beside the data: everything that a fault-free pass has is `PassNote.clean`. -/
structure PassNote where
  /-- The engine read other bits than the pond delivered, so its read check fails (R201, R202). -/
  readFail  : Bool
  /-- An uncorrectable word was read in an engine memory (R302, MEM). -/
  memUe     : Bool
  /-- A stage sequence check failed (R302, WATCHDOG). -/
  sequence  : Bool
  /-- Engine memory words corrected (HEALTH.CORRECTED). -/
  corrected : Nat
  /-- Bytes of the packet that an undetected upset changed before its CHECK was computed: offset and exclusive-or. -/
  flips     : List (Nat × Byte)
  /-- Bytes of the finished packet that an upset changed in the emit buffer: offset and exclusive-or. -/
  emitFlips : List (Nat × Byte)
  /-- CORE clocks the pass took (R195, R302 WATCHDOG). -/
  clocks    : Nat
  /-- A fault that the other engine reports against the same load in the same clock (R305, R311): its kind of R302. -/
  other     : Option (BitVec 4)
deriving DecidableEq, Repr

/-- A pass that met nothing. -/
def PassNote.clean : PassNote := ⟨false, false, false, 0, [], [], 312, none⟩

/-- What one engine finds in a diagnosis window (R299). -/
structure DiagNote where
  /-- An uncorrectable word in a history, column-store or overlap-store word of the load (MEM). -/
  memUe     : Bool
  /-- A sequence check of the pass failed in its re-run (WATCHDOG). -/
  sequence  : Bool
  /-- Words corrected in the re-read. -/
  corrected : Nat
deriving DecidableEq, Repr

/-- The drive die's measurement of a rail's output (VHS[r].MEAS of R274). -/
structure RailRead where
  v10mV : Nat
  /-- Averaged over 1 ms. -/
  i10mA : Nat
deriving DecidableEq, Repr

/-- One echo window as the drive die measured it (R270, R272): which window of which plane of which load, and the conversions. -/
structure EchoIn where
  doc     : Word
  line    : Nat
  plane   : Nat
  /-- Number of the window in its plane, the earliest first. -/
  number  : Nat
  /-- Conversions in LSB at 62.5 ns spacing from the window's start, the first at its start. -/
  samples : List Nat
  /-- Samples taken in the line guard before this load, if this is the load's first window. -/
  guard   : List Nat
deriving DecidableEq, Repr

/-- The readings of one 50 µs servo period (R345, R350, R359): VM, and per axis the load angle in degrees. -/
structure ServoIn where
  vm10mV : Nat
  load0  : Nat
  load1  : Nat
  load2  : Nat
  load3  : Nat
deriving DecidableEq, Repr

/-- The readings of one 1 ms diode measurement (R368, R369, R379). -/
structure ThmIn where
  /-- Forward voltage at the higher current, in 0.1 mV. -/
  vf       : Nat
  /-- T_logic from the difference of the two voltages, in 1/16 °C. -/
  tLogic   : Int
  /-- Temperature from the forward voltage with the fused coefficients, in 1/16 °C. -/
  tForward : Int
  /-- VDRV supply power, in mW. -/
  pVdrv    : Nat
  /-- Bridge losses, in mW. -/
  pBridge  : Nat
  /-- Package power, in mW. -/
  pPackage : Nat
deriving DecidableEq, Repr

/-- What a calibration measured: the new code of every trim entry, the interpolator delays, and the fixed
checkers that failed their vectors (R386, R144). -/
structure CalIn where
  /-- New code per CAL.TRIM entry, as (entry, code). -/
  codes   : List (Nat × Int)
  /-- Interpolator delays in 0.25 ps, 16 of them. -/
  interp  : List Nat
  ingFail : BitVec 20
  egrFail : BitVec 16
deriving DecidableEq, Repr

/-- The three raw reads of one fuse word, at the normal, low-margin and high-margin levels (R399). -/
structure FuseRead where
  word   : Nat
  normal : BitVec 79
  low    : BitVec 79
  high   : BitVec 79
deriving DecidableEq, Repr

/-- The three cells of one lock fuse at the three levels (R396, R399). -/
structure LockRead where
  /-- 0 factory A, 1 factory B, 2 security A, 3 security B, 4 customer A, 5 customer B. -/
  fuse   : Fin 6
  normal : BitVec 3
  low    : BitVec 3
  high   : BitVec 3
deriving DecidableEq, Repr

end Sys2Proof
end

