-- ==== Sys2Proof/Syntax.lean ====
section
/-! DEFINITION. The commands of the block: one constructor per row of spec/opcode_table.json, in the table's order, with the
operands the row's rule names. Reads, timer expiries, arrivals and pin events are commands like register writes. -/

namespace Sys2Proof

/-- The commands and events of the PNX2416 (spec/opcode_table.json). -/
inductive Instr where
  /-- R2. A host or transport-port write to a register field that has no row of its own; it takes effect according to the field's access type. -/
  | registerWrite (bus : Bus) (off : Nat) (val : DWord) (be : BitVec 8)
  /-- R29. Writing 1 to TOP.IGNORED_WRITES_CLR.CLR clears the ignored-write count; a count in the same clock leaves it at 1. -/
  | ignoredWritesClr (sameClock : Bool)
  /-- R323. A read of a _LO register captures the matching _HI register for a later read. -/
  | captureReadLo (reg : LoReg)
  /-- R77. A PCI Express configuration request is answered with CRS until configuration readiness, and normally after it. -/
  | configRequest (write : Bool) (off : Nat) (val : Word)
  /-- R88. A write to the BAR2 doorbell of DMA[n] sets a new TAIL, or is ignored with DB_BAD. -/
  | doorbell (ch : Chan) (val : DWord) (lo hi : Bool)
  /-- R108. Writing 1 to DMA[n].CTL.ENABLE moves a DISABLED channel to RUNNING. -/
  | dmaEnable (ch : Chan)
  /-- R109. Writing 1 to STOP_REQ requests the stop bath at the next descriptor boundary. -/
  | dmaStopReq (ch : Chan)
  /-- R108. Writing 1 to RESUME clears STOP_REQ and returns a STOPPING or STOPPED channel to RUNNING. -/
  | dmaResume (ch : Chan)
  /-- R108. Writing 1 to KILL abandons every outstanding request and moves the channel to KILLED. -/
  | dmaKill (ch : Chan)
  /-- R108. Writing 1 to RESET starts a channel reset, acting first as a kill on a running channel. -/
  | dmaReset (ch : Chan)
  /-- R108. Once every outstanding request has ended, the reset clears pointers and counts, returns framing to IDLE and leaves the channel DISABLED. -/
  | dmaResetDone (ch : Chan)
  /-- R87. A write to RING_SIZE.ENTRIES is accepted, or refused with RING_SIZE_BAD if it is not a power of two from 16 to 65,536. -/
  | ringSizeWrite (ch : Chan) (val : Word)
  /-- R106. A fetched descriptor becomes current and the length and format conditions are applied to it. -/
  | descriptorArrival (ch : Chan) (req : Nat) (bytes : List Byte)
  /-- R96. The first 32 bytes of a line buffer arrive and the header is checked before the rest is read. -/
  | packetHeaderArrival (ch : Port) (bytes : List Byte)
  /-- R102. An errored read completion discards that request's data and schedules a re-issue, or halts the channel once the retries are used up. -/
  | readCompletionError (ch : Chan) (req : Nat) (err : CplError) (header : BitVec 128)
  /-- R102. A read request reaches the completion timeout and is treated as errored. -/
  | completionTimeout (ch : Chan) (req : Nat)
  /-- R103. The backoff of 1 µs × 2^k expires and the whole read request is issued again. -/
  | readReissue (ch : Chan) (req : Nat)
  /-- R97. 2 µs after a check failure, the ring slot and buffer are fetched again and checked afresh. -/
  | packetRefetch (ch : Port)
  /-- R45. A delivered doc-open packet is checked and opens, discards or sets aside a document on its channel. -/
  | docOpen (ch : Port) (bytes : List Byte)
  /-- R45. A delivered line packet is checked and stored as line k, or handled as a failing packet, and its descriptor retires. -/
  | linePacket (ch : Port) (bytes : List Byte)
  /-- R64. A delivered test-line packet is taken as line k inside a document, or is carried out as spits outside a document in MAINT. -/
  | testLine (ch : Port) (bytes : List Byte)
  /-- R62. A delivered doc-close packet ends the document's framing on its channel. -/
  | docClose (ch : Port) (bytes : List Byte)
  /-- R63. A delivered filler packet is checked and discarded without changing framing. -/
  | filler (ch : Port) (bytes : List Byte)
  /-- R99. A host-to-device descriptor of an auxiliary channel is delivered, handed to MGT and retired. -/
  | auxDescriptorDelivered (ch : Chan) (bytes : List Byte)
  /-- R100. A device-to-host descriptor retires when LEN bytes are written or its source is empty. -/
  | d2hDescriptorWritten (ch : Chan) (bytes : List Byte)
  /-- R106. A descriptor that waited for pond space proceeds once enough space has been released. -/
  | descSpaceWaitEnd (ch : Chan)
  /-- R127. A doc-open that waited for a free document-table entry proceeds once an entry is freed. -/
  | docTableWaitEnd (ch : Port)
  /-- R80. After 64 µs without traffic, with no document in progress and no work pending, the link enters ASPM L1. -/
  | l1Entry
  /-- R81. The function enters D3hot, killing channels that are not stopped, or acting as a SLEEP request. -/
  | d3hotEntry
  /-- R81. The function returns to D0 with register and channel state kept. -/
  | d0Return
  /-- R116. The negotiated link speed, width or data-link state changes. -/
  | linkStateChange (speed width : BitVec 4) (dlActive reversed : Bool)
  /-- R122. The scrubber's row timer expires and the next pond row is read through the decoder. -/
  | scrubRow (errs : Upsets)
  /-- R120. The copy into the spare row completes and the row's address is mapped to the spare. -/
  | spareRowCopyDone (errs : Upsets)
  /-- R124. A write to PND.PART_UNITS is applied, or refused with PART_BAD. -/
  | partUnitsWrite (p : Port) (val : Word)
  /-- R124. A write to PND.AUX_UNITS is applied, or refused with PART_BAD. -/
  | auxUnitsWrite (val : Word)
  /-- R131. A write to PND.CTL.ADMIT_HOLD holds or opens admission and DOCHOLD. -/
  | admitHoldWrite (v : Bool)
  /-- R141. Writing 1 to PND.CTL.CNT_CLR clears the CE, UE and underrun counters. -/
  | pndCntClr
  /-- R131. The sluice evaluates the admission conditions for offered documents every 100 µs, and also at each offer and at each line stored. -/
  | sluiceEvalTick
  /-- R136. Every 1 ms, the measured throughput B_p of each line channel is updated. -/
  | rateUpdateTick
  /-- R164. Writing 1 to CHK[i].CTL.ARM starts a scan or snoop, or is refused with ARM_BAD. -/
  | chkArm (i : Fin 8) (fromMgt : Bool)
  /-- R165. Writing 1 to ABORT stops a running unit in ABORTED. -/
  | chkAbort (i : Fin 8)
  /-- R164. A scan reaches its last byte or the end of its region and finishes in DONE. -/
  | chkScanDone (i : Fin 8) (ext : List Byte) (errs : Upsets)
  /-- R153. A whole record passes a snoop tap and is folded into a running unit. -/
  | chkSnoopRecord (tap : BitVec 8) (bytes : List Byte)
  /-- R161. A write to CFG.WIDTH is applied, or refused with ARM_BAD. -/
  | chkWidthWrite (i : Fin 8) (val : Word)
  /-- R169. Writing 1 to CHK.PERSIST_CLR clears CHK.PERSIST_COUNT. -/
  | chkPersistClr (sameClock : Bool)
  /-- R174. A decoded encoder edge updates the loop position and estimates. -/
  | encEdge (inp : Fin 2) (a b : Bool) (dt na nb : Nat)
  /-- R177. A rising index edge ends the count of decoded edges since the previous one, which is compared with INDEX_EDGES. -/
  | indexEdge (inp : Fin 2) (dt n : Nat)
  /-- R171. A pair stays within ±100 mV for 2 µs, so a line fault is set and the affected documents are marked. -/
  | encLineFault (inp : Fin 2) (sig : EncSig)
  /-- R171. The line fault clears, and the decoder takes the present levels as its new reference. -/
  | encLineFaultClear (inp : Fin 2) (sig : EncSig) (a b : Bool)
  /-- R190. The estimated line rate falls below 200 Hz, CRAWL is set and fire ticks stop. -/
  | crawlEnter (x : LoopId)
  /-- R190. The estimated line rate reaches 210 Hz and CRAWL clears. -/
  | crawlExit (x : LoopId)
  /-- R337. A qualified DOC_TRIG edge latches the loop positions and becomes the origin of the oldest pending document. -/
  | docTrigEdge (i : Fin 2) (rise : Bool) (dt n : Nat)
  /-- R187. The loop position reaches a line's read-ahead point, and the line is delivered to the engines. -/
  | lineAheadEvent (p : Port) (errs : Upsets)
  /-- R186. The loop position reaches a line's fire position for a column, and the port's strobe sequence is due. -/
  | fireTick (p : Port) (lag : Bool)
  /-- R188. The loop position crosses a multiple of 256 units, and held timing writes and fantail settings take effect. -/
  | loopLineBoundary (x : LoopId)
  /-- R183. A write to FTL[x].CTL.ENABLE moves the loop between OFF and ACQUIRE. -/
  | ftlEnableWrite (x : LoopId) (v : Bool)
  /-- R183. Writing 1 to CTL.RESET clears the position, the high-water mark and the estimates; it is ignored while a document uses the loop. -/
  | ftlReset (x : LoopId)
  /-- R193. Writing 1 to CTL.OVS_CLR returns f_ovs to 48,000 Hz. -/
  | ftlOvsClr (x : LoopId)
  /-- R194. Writing 1 to CTL.PEAK_CLR clears ERR_PEAK. -/
  | ftlPeakClr (x : LoopId)
  /-- R179. A write to RATIO_DEN commits the ratio pair, or refuses it with CFG_BAD. -/
  | ratioDenWrite (x : LoopId) (val : Word)
  /-- R172. A write to ENC_CFG is applied, or a bad IN_FILTER or DECODE value is refused with CFG_BAD. -/
  | encCfgWrite (x : LoopId) (val : Word)
  /-- R180. A write to LOOP_CFG is applied, or a bad BW or OVS_TOL value is refused with CFG_BAD. -/
  | loopCfgWrite (x : LoopId) (val : Word)
  /-- R197. An engine starts the queued pass with the earliest deadline. -/
  | enginePassStart (x : EngId)
  /-- R200. An engine completes a pass and emits a fire packet, or records the load after its last pass. -/
  | enginePassDone (x : EngId) (note : PassNote)
  /-- R199. A credited load's deadline expires with no emission from an engine, so a fault is reported. -/
  | deadlineMiss (x : EngId) (p : Port)
  /-- R225. A write to the PROFILE window is applied to both engines, or refused with PROFILE_BAD. -/
  | profileWrite (off : Nat) (val : Word)
  /-- R224. Writing 1 to ENG[x].CTL.CNT_CLR clears the engine counters. -/
  | engCntClr (x : EngId)
  /-- R233. The shift of a plane into the head completes, which may allow its latch. -/
  | planeShiftDone (p : Port)
  /-- R234. Every latch condition is met, so the plane is latched and its strobes begin. -/
  | planeLatch (p : Port)
  /-- R239. S0 − T_load′ − 60 ns is reached with no passing packet, so the load is handled as blank with reason 0x02. -/
  | egressCutoff (p : Port)
  /-- R188. The line guard after a load's last strobe expires, and the port line boundary passes. -/
  | portLineBoundary (p : Port)
  /-- R247. HPn_PRES_N has been low for 10 ms, so the port reads the head record. -/
  | headPresent (n : Port)
  /-- R247. HPn_PRES_N is high for 1 µs, so strobes stop, power goes off and the port is ABSENT. -/
  | headRemoved (n : Port)
  /-- R241. The head-record reads end, and a valid copy is loaded or the port becomes INVALID. -/
  | recordReadDone (n : Port) (copy0 copy1 : Option (List Byte))
  /-- R247. 1 ms after a failed transfer, the record copy is read again. -/
  | recordReadRetry (n : Port)
  /-- R248. A write to HP[n].CTL.ENABLE puts the port in or out of service. -/
  | hpEnableWrite (n : Port) (v : Bool)
  /-- R247. A write to CTL.PWR_OFF powers the port off or lets it power on, and ends SHORTED. -/
  | hpPwrOffWrite (n : Port) (v : Bool)
  /-- R248. Writing 1 to CTL.REREAD reads the record again; it is ignored while a document names the port. -/
  | headReread (n : Port)
  /-- R257. Writing 1 to CTL.USAGE_FLUSH starts the record write if usage is pending. -/
  | usageFlush (n : Port)
  /-- R251. The 250 µs thermistor conversion updates the head temperature. -/
  | headTempConversion (n : Port) (raw : BitVec 12)
  /-- R257. With usage pending and the temperature window open, the port starts writing the record copy not in use. -/
  | recordWriteStart (n : Port)
  /-- R257. An 8-byte page write is acknowledged, and the next page or the readback follows. -/
  | recordPageDone (n : Port)
  /-- R257. The written copy reads back valid and becomes the copy in use, or the write fails. -/
  | recordReadbackDone (n : Port) (bytes : List Byte)
  /-- R258. 1 s after a write failure, the record write is retried. -/
  | recordWriteRetry (n : Port)
  /-- R255. The spit-rate timer in MAINT fires the next spit or test-line repetition. -/
  | spitFire (n : Port) (noteA noteB : PassNote)
  /-- R261. The rail output has been within ±3 % for 1 ms, so it enters GOOD and closes pending switches. -/
  | railSoftstartGood (r : Fin 4)
  /-- R264. Every 64 µs the rail code steps 1 LSB towards its target. -/
  | railSlewStep (r : Fin 4)
  /-- R261. After 100 ms with no port powered, the rail stops. -/
  | railIdleOff (r : Fin 4)
  /-- R266. A rail fault stops the controller and powers off every port on the rail. -/
  | railFault (r : Fin 4) (cause : RailCause)
  /-- R261. 100 ms after a fault, the rail returns to OFF and its ports re-evaluate. -/
  | railFaultRecover (r : Fin 4)
  /-- R261. Writing 1 to VHS[r].CTL.FAULT_CLR leaves LATCHED. -/
  | vhsFaultClr (r : Fin 4)
  /-- R264. A write to HDV.VTAB sets a new set-point target, reached by slewing. -/
  | vtabWrite (i : Fin 8) (val : Word)
  /-- R274. A write to HDV[n].SENSE_CFG applies its in-range fields and keeps any field that is out of range. -/
  | senseCfgWrite (n : Port) (val : Word)
  /-- R265. The port voltage is at or above 95 % for 0.5 ms, so power good is reported and the port enters ACTIVE. -/
  | portPowerGood (n : Port)
  /-- R265. Power good has not come 5 ms after the switch closed, so the gate is released and failure is reported. -/
  | portPowerTimeout (n : Port)
  /-- R271. Every 100 µs the port voltage is measured for the nozzle current. -/
  | portVoltageMeasure (n : Port) (v10mV : Half) (rail : RailRead)
  /-- R278. An echo window record reaches NZH and is classified and processed for localisation. -/
  | echoRecord (n : Port) (rec : EchoIn)
  /-- R273. Samples or a baseline exceed the short threshold, so the gate is released and the port is SHORTED. -/
  | portShort (n : Port)
  /-- R269. The sense comparator trips at 1.100 V and releases the gate within 200 ns. -/
  | shortComparatorTrip (n : Port)
  /-- R289. MAP_CMD operation 1 adds NOZZLE as HOST, or refuses it. -/
  | mapAddHost (n : Port) (nozzle : BitVec 11)
  /-- R289. MAP_CMD operation 2 frees the entry of NOZZLE. -/
  | mapFreeNozzle (n : Port) (nozzle : BitVec 11)
  /-- R289. MAP_CMD operation 3 frees every ECHO and CONTACT entry. -/
  | mapFreeEchoContact (n : Port)
  /-- R289. MAP_CMD operation 4 frees every entry except FACTORY and INCOMING. -/
  | mapFreeNonFactory (n : Port)
  /-- R280. Writing 1 to NZH[n].CTL.SUSP_CLR empties the suspicion table. -/
  | suspClr (n : Port)
  /-- R293. Writing 1 to NZH[n].CTL.CNT_CLR clears the window, deficit and localisation counts. -/
  | nzhCntClr (n : Port)
  /-- R291. Writing 1 to CS_CTL.START starts a contact sheet, or is refused with CS_REFUSED. -/
  | csStart (n : Port)
  /-- R291. Writing 1 to CS_CTL.ABORT ends the running sheet ABORTED. -/
  | csAbort (n : Port)
  /-- R290. A 50 µs slot fires the next contact-sheet spit and judges the drop window. -/
  | csFire (n : Port) (before : List Nat) (dd : List (Nat × Nat)) (noteA noteB : PassNote)
  /-- R293. A write to CS_CFG is applied, or refused with CMD_BAD. -/
  | csCfgWrite (n : Port) (val : Word)
  /-- R299. The mismatch diagnosis window ends and the verdict is formed. -/
  | diagnosisWindowEnd (p : Port) (a b : DiagNote)
  /-- R307. The link reaches a queued segment, so the lead snapshots its committed copy and sends it. -/
  | copySnapshot
  /-- R308. The shadow fixes a received segment, or discards it as bad, stale or faulted. -/
  | copyFix (p : Port) (corrupt : Bool)
  /-- R312. An engine self-test ends, after which the engine waits to rejoin or is retired. -/
  | engineSelftestDone (x : EngId) (pass : Bool)
  /-- R313. The device reaches READY or GAP with no document in progress, and waiting actions run. -/
  | quietPoint
  /-- R315. SUP.CMD RETIRE sends the named non-SOLO engine to RETIRED. -/
  | engineRetire (x : EngId)
  /-- R315. SUP.CMD REVIVE self-tests a RETIRED engine for rejoining. -/
  | engineRevive (x : EngId)
  /-- R315. SUP.CMD FAILOVER_TEST makes the lead give up the brake at its next verdict. -/
  | failoverTest
  /-- R317. SUP.CMD SWAP_OPEN moves the shadow to staging and makes SUP.STAGE writable. -/
  | swapOpen
  /-- R317. SUP.CMD SWAP_ARM checks the staged CRC and self-tests the staging engine. -/
  | swapArm
  /-- R318. SUP.CMD SWAP_CANCEL closes the swap and rejoins the staging engine. -/
  | swapCancel
  /-- R315. SUP.CMD ENGINE_RESTART self-tests both engines to leave engine SAFE_HOLD. -/
  | engineRestart
  /-- R320. Writing 1 to SUP.CNT_CLR clears the supervisor counters. -/
  | supCntClr
  /-- R316. Every 24 h the firmware writes an ENGINES health record. -/
  | healthLogTimer
  /-- R331. Transport command NOP does nothing. -/
  | tpNop
  /-- R331. Transport command HOLD_ADMIT sets PND.CTL.ADMIT_HOLD. -/
  | holdAdmit (hostWrite : Option Bool)
  /-- R331. Transport command RELEASE_ADMIT clears PND.CTL.ADMIT_HOLD. -/
  | releaseAdmit (hostWrite : Option Bool)
  /-- R332. Transport command STOP holds admission, cancels deferred commands, aborts every document and stops MAINT. -/
  | stop
  /-- R333. Transport command ABORT_DOC aborts the named document. -/
  | abortDoc
  /-- R334. Transport command CALIBRATE starts or defers a full calibration. -/
  | calibrate
  /-- R334. Transport command TEST_STRIP starts or defers a partial calibration. -/
  | testStrip
  /-- R334. Transport command MAINT_ENTER enters or defers MAINT. -/
  | maintEnter
  /-- R331. Transport command MAINT_EXIT leaves MAINT for GAP or READY. -/
  | maintExit
  /-- R331. Transport command FAULT_ACK removes the oldest fault record. -/
  | faultAck
  /-- R331. Transport command OVS_CLEAR returns the f_ovs of the chosen loop to 48,000 Hz. -/
  | ovsClear
  /-- R335. Transport command CANCEL cancels the deferred command of a class. -/
  | cancel
  /-- R335. A deferred command becomes due and is carried out, or is cancelled by a state change. -/
  | deferredCmdExecute
  /-- R329. A host write to HOST_MAIL through TPT, where word 0xF7 sets EVENTS.MAIL. -/
  | hostMailWrite (i : Fin 8) (val : Half)
  /-- R329. A transport-port write to TP_MAIL, where word 0xFF raises TP_MAIL. -/
  | tpMailWrite (i : Fin 8) (val : Half)
  /-- R341. A queued DOCFAULT_N pulse falls once the previous pulse and its high time are over. -/
  | docfaultPulse
  /-- R341. After 2.0 µs low, the DOCFAULT_N pulse rises. -/
  | docfaultPulseEnd
  /-- R362. Axis command MOVE_ABS moves to TARGET. -/
  | moveAbs (a : Fin 4)
  /-- R362. Axis command MOVE_REL moves by TARGET. -/
  | moveRel (a : Fin 4)
  /-- R355. Axis command HOME starts homing against the hard stop. -/
  | home (a : Fin 4)
  /-- R358. Axis command SOFT_STOP decelerates at DEC, keeping the position state. -/
  | softStop (a : Fin 4)
  /-- R358. Axis command STOP stops the set-points at once. -/
  | axisStop (a : Fin 4)
  /-- R362. Axis command ENERGISE turns the bridges on at hold current. -/
  | energise (a : Fin 4)
  /-- R362. Axis command DISABLE turns the bridges off and sets LOST. -/
  | disable (a : Fin 4)
  /-- R362. Axis command SET_POS sets POS to TARGET and marks the axis HOMED. -/
  | setPos (a : Fin 4)
  /-- R362. Axis command JOG runs at VMAX until a stop. -/
  | jog (a : Fin 4)
  /-- R358. Writing 1 to MOT.STOP_ALL stops every axis. -/
  | motStopAll
  /-- R347. Every 50 µs a set-point is computed for each moving axis. -/
  | servoPeriod (rd : ServoIn)
  /-- R355. The 20 ms SETTLE phase ends, and BACKOFF begins. -/
  | homeSettleEnd (a : Fin 4)
  /-- R346. HOLD_DELAY after standstill ends, and the bridges drop to hold current. -/
  | holdDelayEnd (a : Fin 4)
  /-- R352. A limit input holds a new level for its debounce time, and the change is qualified. -/
  | limitQualified (a : Fin 4) (hi level : Bool) (n : Nat)
  /-- R359. Overcurrent, an open coil or a VM fault switches bridges off and sets LOST. -/
  | bridgeFault (cause : BridgeCause)
  /-- R359. VM has stayed at or above 7.5 V for 10 ms and counts as good. -/
  | vmGood
  /-- R368. The 1 ms diode measurement updates T_logic, T_drive, T_ctl and the thresholds. -/
  | thmUpdate (rd : ThmIn)
  /-- R375. A shut-down comparator trips, so heads, bridges and writes are cut and both dies are held in reset. -/
  | thermalShutdown (cause : TripCause)
  /-- R376. Each second during shut-down the diode is re-tested, and the device restarts when it is cool. -/
  | shutdownRetest (openShort : Bool) (t : Int)
  /-- R374. An open or shorted diode persisting for 2 s counts as hot. -/
  | diodeFaultTimeout
  /-- R377. Every 1 ms during printing, the thermal record is rewritten. -/
  | thermalRecordRewrite
  /-- R384. Every 8 s in STANDBY, a diode reading trims the 32 kHz RC. -/
  | standbyRcTrim (t : Int)
  /-- R381. Writing 1 to THM.CTL.SENSOR_RESUME allows the sensor SAFE_HOLD exit. -/
  | sensorResume
  /-- R385. Writing 1 to THM.CTL.PEAK_CLR clears THM.PEAK. -/
  | thmPeakClr
  /-- R389. A full or partial calibration completes, posts its targets and leaves CALIB. -/
  | calibrationDone (rd : CalIn)
  /-- R390. PERIOD minutes pass, so a partial calibration becomes due. -/
  | calPeriodExpiry
  /-- R391. A due calibration runs at the first quiet clock in READY or GAP. -/
  | calDueStart
  /-- R391. A trigger still due after GRACE becomes a deferred CAL command. -/
  | calGraceExpiry
  /-- R394. Every 64 µs each moving trim steps 1 LSB towards its target. -/
  | trimSlewStep
  /-- R390. Writing 1 to CAL.CTL.REQ_FULL requests a full calibration. -/
  | calReqFull
  /-- R390. Writing 1 to CAL.CTL.REQ_PART requests a partial calibration. -/
  | calReqPart
  /-- R402. OTP.CMD READ reads a word at a sense level into DATA. -/
  | otpRead (word : BitVec 9) (level : BitVec 2)
  /-- R404. OTP.CMD PROGRAM journals and starts burning a word. -/
  | otpProgram (word : BitVec 9)
  /-- R405. OTP.CMD REBURN completes an INCOMPLETE word or strengthens a WEAK item. -/
  | otpReburn (word : BitVec 9)
  /-- R402. OTP.CMD VOID burns every blank cell of a word. -/
  | otpVoid (word : BitVec 9)
  /-- R401. OTP.CMD SPARE burns a spare entry for a word. -/
  | otpSpare (word : BitVec 9)
  /-- R409. OTP.CMD LOCK checks a region and burns LOCK_A then LOCK_B. -/
  | otpLock (region : BitVec 9)
  /-- R399. OTP.CMD REREAD updates the three-level word statuses. -/
  | otpReread (words : List FuseRead) (locks : List LockRead)
  /-- R404. A 12 µs pulse-and-verify of one bit ends, and the burn continues, stops for temperature, or finishes. -/
  | otpBitPulse (verified : Bool)
  /-- R423. VAON becomes good, and the always-on domain starts in STANDBY. -/
  | vaonGood
  /-- R423. VAON is lost, and the device goes to OFF with retention lost. -/
  | vaonLost
  /-- R417. A main supply rises past its power-good threshold. -/
  | mainSupplyGood (i : Fin 6)
  /-- R421. A main supply stays below its threshold for 5 µs and resets both dies. -/
  | mainSupplyLost (i : Fin 6)
  /-- R421. PERST_N goes low and resets both dies. -/
  | perstAssert
  /-- R434. The monitor finds XIN lost and resets the device. -/
  | xinLost
  /-- R420, R429. Supplies, PERST_N and shut-down conditions are met, so the start stages begin; whether a retention bank fails its check. -/
  | resetRelease (ret0 ret1 : List (Nat × Byte))
  /-- R437. The CLOCKS stage completes or fails. -/
  | clocksStageDone (ok : Bool) (tenthMs : Nat)
  /-- R400. The three-level fuse read completes, or fails on an AMBIGUOUS item. -/
  | fusesStageDone (words : List FuseRead) (locks : List LockRead) (tenthMs : Nat)
  /-- R437. The FIRMWARE stage completes from a valid slot, or fails and offers recovery. -/
  | firmwareStageDone (header slotA slotB : List Byte) (tenthMs : Nat)
  /-- R437. The Kolto image is loaded from a valid slot, or the stage fails. -/
  | configStageDone (slotA slotB : List Byte) (tenthMs : Nat)
  /-- R437. The engine self-test and the fixed-checker test end, setting the roles. -/
  | selftestStageDone (passA passB : Bool) (ingFail : BitVec 20) (egrFail : BitVec 16) (tenthMs : Nat)
  /-- R437. The RESTORE stage completes, and the device reaches READY. -/
  | restoreStageDone (records : List (List Byte)) (tenthMs : Nat)
  /-- R438. The retry timer expires and the failed stage runs again. -/
  | startRetryTimer
  /-- R425. PWR.CMD SLEEP stops axes, loops and PLLs and enters SLEEP. -/
  | sleepRequest
  /-- R426. PWR.CMD WAKE leaves SLEEP. -/
  | wakeRequest
  /-- R428. PWR.CMD STANDBY shuts admission and starts the orderly standby entry. -/
  | standbyRequest
  /-- R428. PWR.CMD CANCEL_STANDBY clears a pending standby before its bank write. -/
  | cancelStandby
  /-- R428. No document is in progress and no write runs, so MAINT or CALIB ends and the axes soft-stop. -/
  | standbyQuiesced
  /-- R428. Every axis stands still, so bank 0 is written, power is removed and STANDBY is entered. -/
  | standbyAxesStill
  /-- R430. WAKE_N is held low for 100 µs, which raises MAIN_EN. -/
  | wakePin
  /-- R430. The RTC reaches PWR.ALARM, which raises MAIN_EN. -/
  | rtcAlarm
  /-- R433. After 1 s without XAON oscillation, the compensated RC is used. -/
  | aonXtalSearchEnd
  /-- R433. The crystal stops for 4 ms, and the domain changes to the RC. -/
  | aonXtalLost
  /-- R432. A write to RTC_HI arms the commit of both halves. -/
  | rtcHiWrite (val : Word)
  /-- R432. At the next RTC tick, the written RTC value is committed. -/
  | rtcCommit
  /-- R435. The PLL_CORE spread depth reaches its new value after 1 ms of ramping. -/
  | spreadRampDone
  /-- R429. A write to PWR.RET_USER updates bank 0 and rewrites its check. -/
  | retUserWrite (i : Fin 7) (val : Word)
  /-- R427. A BAR0, SMBus or UART access in SLEEP starts PLL_CORE and is answered after 25 µs. -/
  | coreOnDemandStart
  /-- R427. 1 ms after the last such access, PLL_CORE stops again. -/
  | coreOnDemandStop
  /-- R444. Writing 1 to MGT.CTL.RESTART starts a management restart. -/
  | mgtRestart
  /-- R444. The firmware watchdog trips after 100 ms without service and restarts the processor. -/
  | mgtWatchdog
  /-- R444. The processor runs again after a restart, and MGT_RESTART is raised. -/
  | mgtRestartDone (a b : List Byte)
  /-- R456. Writing 1 to MGT.CTL.DUMP queues one diagnostics dump on DMA[17]. -/
  | diagDump
  /-- R443. Every 100 ms the firmware reads supplies, rails, T_ctl and package power. -/
  | mgtMonitorTick (vm10mV package10mW : Nat) (rail0 rail1 rail2 rail3 : RailRead) (supplies : List Nat)
  /-- R454. The firmware writes a queued log record, compacting and erasing a sector when needed. -/
  | logRecordWrite (ok : Bool)
  /-- R457. MGT.UPD_CMD OPEN starts a session and erases the target slot. -/
  | updOpen (kolto : Bool)
  /-- R457. The erase completes, and DMA[18] data is accepted. -/
  | updEraseDone (ok : Bool)
  /-- R457. A page program completes, and verification starts after the last one. -/
  | updPageProgrammed (ok : Bool) (errs : Upsets)
  /-- R457. Verification ends, and the header is programmed to commit the image, or the session fails. -/
  | updVerifyDone (image : List Byte) (errs : Upsets)
  /-- R457. MGT.UPD_CMD ABORT ends the session and invalidates a committed target. -/
  | updAbort
  /-- R458. MGT.UPD_CMD ACTIVATE puts the committed image in force as its kind allows. -/
  | updActivate
  /-- R459. MGT.UPD_CMD INVALIDATE programs a slot's MAGIC to 0. -/
  | updInvalidate (kolto slotB : Bool)
  /-- R459. MGT.UPD_CMD RELOAD activates the slot left valid. -/
  | updReload (kolto : Bool)
  /-- R458. New firmware fails to report running within 60 ms, so its slot is invalidated and the other slot started. -/
  | fwActivationTimeout
  /-- R460. Mailbox operation HEAD_WRITE writes a head record for a port. -/
  | headWrite
  /-- R460. Mailbox operation USER_READ copies USER section bytes into the window. -/
  | userRead
  /-- R461. Mailbox operation RECOVERY_CHUNK programs a chunk of recovery firmware into slot A. -/
  | recoveryChunk (verified : Option (List Byte))
  /-- R462. An SMBus Read Word returns the status word of its command code. -/
  | smbusReadWord (addr : BitVec 7) (code : Byte) (extra : List Byte) (pec : Bool)
  /-- R462. An SMBus Block Read on 0x20 returns the identity block. -/
  | smbusBlockRead (addr : BitVec 7) (code : Byte) (extra : List Byte) (pec : Bool)
  /-- R462. A console request on the UART returns read-only status or log listings. -/
  | uartRequest
  /-- R467. A vector's holdoff ends and its pending raises produce one message. -/
  | msiHoldoffEnd (v : Fin 128)
  /-- R467. A vector or function mask is lifted, and a pending message is sent. -/
  | msixUnmask (v : Option (Fin 128))
  /-- R471. Writing 1 to an EVT.LASTING bit clears it and empties the class window. -/
  | lastingClear (bits : Word)
  /-- R478. Writing 1 to EVT.CTL.TEST raises EVT_TEST. -/
  | evtTest
  /-- R478. Writing 1 to EVT.CTL.CNT_CLR clears every class TOTAL. -/
  | evtCntClr
  /-- R474. The link reports a correctable error through AER, which is counted in error class LINK and raises PCIE_AER. -/
  | aerCorrectableError (bit : Fin 16)
  /-- R302. A pass runs for more than 400 CORE clocks, so the engine reports a WATCHDOG fault and its packets without a verdict are withdrawn. -/
  | passWatchdog (x : EngId)
  /-- R458. A Kolto reload begun at a quiet point ends within 45 ms; admission opens again and the UPDATE record is written, or the reload is rolled back. -/
  | koltoReloadDone (image : List Byte)
  /-- R125. The firmware consumes DMA[19] data for its purpose and releases that range of the auxiliary partition. -/
  | auxDataConsumed (n : Nat) (errs : Upsets)
  /-- R240. A head-memory clock stretch beyond 25 ms, or ACK polling beyond 10 ms for a page, ends the transfer with ERR.I2C or WRITE_FAIL. -/
  | i2cTimeout (n : Port) (phase : I2cPhase)
deriving DecidableEq, Repr

end Sys2Proof
end

