-- ==== Sys2Proof/Config.lean ====
section
/-! DEFINITION. What an implementation fixes and the spec leaves open: constants and functions without a body, so that no proof
can lean on a value of them (log entries 3 to 9, 12, 15, 16 and 25). -/

namespace Sys2Proof

/-- A fresh undefined value: word `i` of the values the device may hold where the spec leaves a value undefined. -/
opaque Config.freeWord : Nat → BitVec 64

/-- Javeca's PCI Vendor ID (R74). -/
opaque Config.vendorId : BitVec 16

/-- Die revisions of TOP.REV (R28): "per die". -/
opaque Config.logicRev : BitVec 8

/-- Drive-die revision of TOP.REV (R28). -/
opaque Config.driveRev : BitVec 8

/-- Configuration-space offset of the MSI-X capability's message control word (PCI Express base specification). -/
opaque Config.msixCap : Nat

/-- Configuration-space offset of the Device Control register. -/
opaque Config.devCtl : Nat

/-- Configuration-space offset of the Device Control 2 register. -/
opaque Config.devCtl2 : Nat

/-- Configuration-space offset of the power-management control/status register. -/
opaque Config.pmCsr : Nat

/-- Configuration-space offset of the Link Capabilities register. -/
opaque Config.linkCap : Nat

/-- L1 Exit Latency field of Link Capabilities: an encoding of less than 8 µs (R80). -/
opaque Config.l1Exit : Fin 4

/-- Configuration-space offset of the AER capability. -/
opaque Config.aerCap : Nat

/-- Size of the configuration and log flash in bytes, as read through SFDP (R150). -/
opaque Config.flashSize : Nat

/-- The bytes of the management boot ROM (R150). -/
opaque Config.bootRom : Nat → BitVec 8

/-- Every other word of the configuration space. -/
opaque Config.cfgSpace : Nat → BitVec 32

/-- Loop gains k1, k2, k3 in 2⁻³² from the effective bandwidth in Hz and the edge interval in fire clocks (R180): the
spec gives their arguments and not their formula. -/
opaque Config.loopGains : Nat → Nat → Int × Int × Int

/-- The check bits that data bit `i` contributes to the BCH code of R117 and R396, where they make one: the spec gives the code's widths and
what it corrects, and not its polynomial (log entry 7). -/
opaque Config.bchColumn : Nat → BitVec 14

/-- Code that a conversion of the whole bias voltage of a head thermistor would give (R251): the spec gives 12 bits and no scale (log
entry 8). -/
opaque Config.thermFull : Nat

/-- The fire-side fields of a PROFILE section (R449): its byte layout is not given. The list holds loop (0 or 1), NUM, DEN,
BW, OVS_TOL, READ_AHEAD, ADMIT_RATE, margin, dot pitch in pm, substitution flag, then per port present, class, COLS, A,
PRIMS, N, DLY_PORT, DLY_COLA, DLY_COLB, derived. -/
opaque Config.profileSection : List Byte → List Nat

/-- The register writes that an EVENTS section stands for (R449): its byte layout is not given. -/
opaque Config.eventsSection : List Byte → List (Nat × BitVec 32)

/-- SMBus address and health-record interval in hours of an MGT section (R449): its byte layout is not given. -/
opaque Config.mgtSection : List Byte → Nat × Nat

/-- Outcome byte of an UPDATE record (R453): 0 committed, 1 activated, 2 failed; the spec gives no codes. -/
opaque Config.updOutcome : Nat → Byte

/-- Whether a quotient that a register holds to a finite step is rounded up, for a numerator and a denominator: the spec
gives the step and not the rounding (log entry 12). -/
opaque Config.roundUp : Nat → Nat → Bool

/-- Time from the later emission to a match verdict, in 8 ns: at most 32 ns (R298). -/
opaque Config.matchTime : Fin 5

/-- A first-order low-pass filter at one 1 ms step (R369, R379): time constant in ms, value so far and new input, in µW.
The spec gives the time constant and not the discrete form; the model keeps the result between its two arguments. -/
opaque Config.lowPass : Nat → Nat → Nat → Nat

/-- Trim of the 100 MHz RC (`true`) or the 32 kHz RC from the two words of fused coefficients and a diode reading in 1/16 °C (R384): the
spec gives the arguments and not the formula (DESIGN CHOICE, log entry 91). -/
opaque Config.rcTrim : Bool → BitVec 64 → BitVec 64 → Int → BitVec 32

/-- LEVEL of a contact sheet's spits at 2 bits per nozzle (R290): any of 1 to 3. -/
opaque Config.sheetLevel : Fin 3

end Sys2Proof
end

