-- ==== Sys2Proof/Machine/Blocks/Core.lean ====
section
/-! DEFINITION. The state of the TOP, EVT, link, DMA, pond, document-table and check-unit blocks. A field's default is
its value at reset; INVENTORY.md lists each with the rule that names it. -/

namespace Sys2Proof.Machine

/-- Device states (R30). -/
inductive DevState where
  | off | standby | sleep | boot | resetHold | ready | print | gap | maint | calib | thermalHold | safeHold
deriving DecidableEq, Repr

/-- The TOP block (R28). -/
structure Top where
  state   : DevState := .boot
  prev    : DevState := .off
  changes : Word := 0
  /-- TOP.IGNORED_WRITES, saturating (R5). -/
  ignored : Half := 0
  scratch : Word := 0
deriving DecidableEq, Repr

/-- One EVT.CLASS_CFG entry (R478). -/
structure ClassCfg where
  action    : BitVec 2
  threshold : BitVec 8
  window    : BitVec 22
deriving DecidableEq, Repr

/-- The default class settings of R474: window in ms, threshold, ACTION. -/
def classDefault (window threshold action : Nat) : ClassCfg :=
  ⟨BitVec.ofNat 2 action, BitVec.ofNat 8 threshold, BitVec.ofNat 22 window⟩

/-- R474, in class order. -/
def classDefaults : Vector ClassCfg 32 :=
  #v[classDefault 1000 16 0, classDefault 10000 8 0, classDefault 3600000 2 0, classDefault 1000 64 0,
     classDefault 3600000 2 1, classDefault 10000 4 0, classDefault 3600000 1 0, classDefault 1000 32 0,
     classDefault 1000 16 0, classDefault 60000 3 0, classDefault 10000 4 0, classDefault 10000 3 0,
     classDefault 60000 10 0, classDefault 60000 4 0, classDefault 3600000 6 0, classDefault 3600000 2 0,
     classDefault 60000 3 0, classDefault 3600000 2 1, classDefault 1000 64 0, classDefault 3600000 16 0,
     classDefault 10000 3 0, classDefault 3600000 3 0, classDefault 3600000 3 0, classDefault 60000 10 0,
     classDefault 3600000 5 0, classDefault 3600000 3 0, classDefault 3600000 5 0, classDefault 3600000 9 0,
     classDefault 3600000 3 0, classDefault 3600000 1 0, classDefault 3600000 3 0, classDefault 3600000 3 0]

/-- One error class: the times in µs of its latest events, newest first (R470), and its TOTAL. -/
structure ErrClass where
  times   : List Nat := []
  total   : BitVec 24 := 0
  /-- Time of the last event that reached THRESHOLD. -/
  hitAt   : Option Nat := none
  /-- The last write of 1 to the class's LASTING bit: its time, whether the bit was set, and the window before it (R471). -/
  cleared : Option (Nat × Bool × List Nat) := none
deriving DecidableEq, Repr

/-- One MSI-X table entry of BAR4 (R16). -/
structure MsixEntry where
  addrLo : Word := 0
  addrHi : Word := 0
  data   : Word := 0
  masked : Bool := true
deriving DecidableEq, Repr

/-- The EVT block (R478) and the MSI-X table and pending array (R16, R467). -/
structure Evt where
  holdoff  : BitVec 8 := 0
  /-- Sources raised by the command being carried out, still to be routed (R465). -/
  raised   : BitVec 128 := 0
  pend     : BitVec 128 := 0
  msiEn    : BitVec 128 := 0
  tpEn     : BitVec 128 := 0
  logEn    : BitVec 128 := 0x0000EBDF_0BFFFFFF_3FFFBD91_BFF00000
  vec      : Vector (BitVec 7) 128 := Vector.ofFn fun i => BitVec.ofNat 7 i.val
  lasting  : Word := 0
  /-- Classes that have taken ACTION 2 and have not been cleared since (R472, R473). -/
  actDue   : Word := 0
  /-- Class in which the event of the last ENG_FAULT, and of the last PCIE_AER, is counted (R469). -/
  engClass : Option (Fin 32) := none
  aerClass : Option (Fin 32) := none
  cfg      : Vector ClassCfg 32 := classDefaults
  classes  : Vector ErrClass 32 := Vector.replicate 32 {}
  /-- Time in grid units of the last EVENT record of each source (R469). -/
  lastLog  : Vector (Option Nat) 128 := Vector.replicate 128 none
  table    : Vector MsixEntry 128 := Vector.replicate 128 {}
  pba      : BitVec 128 := 0
  /-- End of a running holdoff of each vector (R467), in grid units. -/
  holdEnd  : Vector (Option Nat) 128 := Vector.replicate 128 none
  /-- Vectors with raises that came during their holdoff. -/
  held     : BitVec 128 := 0
deriving DecidableEq, Repr

/-- The advanced error reporting registers (R73, R105), laid out as the base specification gives (log entry 5). -/
structure Aer where
  uncStatus   : Word := 0
  uncMask     : Word := 0
  uncSeverity : Word := 0x00462030
  corStatus   : Word := 0
  corMask     : Word := 0x00002000
  /-- First Error Pointer. -/
  firstError  : BitVec 5 := 0
  header      : BitVec 128 := 0
deriving DecidableEq, Repr

/-- The PCI Express function: configuration readiness, link and power state (R73 to R81, R116). -/
structure Link where
  cfgReady  : Bool := false
  speed     : BitVec 4 := 0
  width     : BitVec 4 := 0
  dlActive  : Bool := false
  reversed  : Bool := false
  /-- DMA.LINK_STAT.READY_GATE (R79). -/
  readyGate : Bool := true
  l1        : Bool := false
  d3hot     : Bool := false
  busMaster : Bool := false
  msixEn    : Bool := false
  funcMask  : Bool := false
  /-- Programmed Maximum Payload Size and Maximum Read Request Size, in bytes (R73, R75). -/
  mps       : Nat := 128
  mrrs      : Nat := 512
  /-- Completion Timeout value field; 0 is 10 ms (R73). -/
  ctoValue  : BitVec 4 := 0
  /-- Base addresses programmed into BAR0, BAR2 and BAR4 (R16). -/
  bars      : Vector DWord 3 := Vector.replicate 3 0
  aer       : Aer := {}
  /-- Time of the last traffic on the link (R80). -/
  traffic   : Nat := 0
deriving DecidableEq, Repr

/-- Channel states (R107). -/
inductive ChState where
  | disabled | running | stopping | stopped | halted | killed | resetting
deriving DecidableEq, Repr

/-- Framing states of a line channel (R43). -/
inductive Frame where
  | idle | opened | ended | discard
deriving DecidableEq, Repr

/-- Bytes 0 to 15 of a descriptor (R83). -/
structure Desc where
  addr  : DWord
  len   : Nat
  flags : BitVec 8
  user  : Word
deriving DecidableEq, Repr

/-- What a read request fetches: the descriptor after those in flight, the ring slot at HEAD again (R97), or bytes of the
current buffer. -/
inductive ReqKind where
  | next | slot | buffer
deriving DecidableEq, Repr

/-- An outstanding read request of a channel (R102, R103). -/
structure ReadReq where
  id       : Nat
  kind     : ReqKind
  off      : Nat
  len      : Nat
  reissues : Nat := 0
  /-- The request has failed and waits for its backoff; the time in grid units at which it ends. -/
  backoff  : Option Nat := none
deriving DecidableEq, Repr

/-- A descriptor fetched ahead, with the re-issues of its own read (R83, R95). -/
structure Fetched where
  desc    : Desc
  retries : Nat := 0
deriving DecidableEq, Repr

/-- The current descriptor of a channel. -/
structure CurDesc where
  desc      : Desc
  /-- Buffer bytes requested so far, and those to be requested by now: the header first, then all (R96). -/
  asked     : Nat := 0
  goal      : Nat := 0
  /-- The descriptor is being fetched again under R97. -/
  refetch   : Bool := false
  /-- CALC and RECV of the failed first fetch (R146). -/
  first     : Option (Word × Word) := none
  retries   : Nat := 0
  /-- Waiting for pond space (R106). -/
  waitSpace : Bool := false
  /-- A passed doc-open waiting for a document-table entry (R127). -/
  waitTable : Option (List Byte) := none
  /-- A check failure waits for the refetch 2 µs later (R68): the time it is due. -/
  refetchAt : Option Nat := none
  header    : List Byte := []
deriving DecidableEq, Repr

/-- One DMA channel (R107, R115). -/
structure Dma where
  enable     : Bool := false
  stopReq    : Bool := false
  ns         : Bool := false
  retryLimit : BitVec 3 := 3
  state      : ChState := .disabled
  code       : BitVec 8 := 0
  ringLo     : Word := 0
  ringHi     : Word := 0
  entries    : BitVec 17 := 16
  head       : Half := 0
  tail       : Half := 0
  retired    : Word := 0
  headWbLo   : Word := 0
  headWbHi   : Word := 0
  frame      : Frame := .idle
  k          : Nat := 0
  lastDoc    : Word := 0
  openDoc    : Word := 0
  /-- LINE_COUNT held for the document open or discarded on the channel (R45). -/
  lineCount  : Nat := 0
  /-- Profile of the document open on the channel, which outlasts the document's table entry (R45, R70). -/
  openProf   : Fin 8 := 0
  err        : Word := 0
  errCheck   : Half := 0
  errRetries : Half := 0
  /-- A doorbell latched before READY (R79). -/
  latched    : Option DWord := none
  cur        : Option CurDesc := none
  ahead      : Option Fetched := none
  reqs       : List ReadReq := []
  nextReq    : Nat := 0
  /-- Abandoned requests, whose completions are discarded on arrival (R108). -/
  dropped    : List Nat := []
  /-- The next descriptor to become current is the refetch of the one that failed (R97): its first CALC and RECV
  and its retries so far. -/
  refetching : Option (Word × Word × Nat) := none
  /-- What line k − 1 of the open document was, for R58 and R59. -/
  prevTest   : Bool := false
deriving DecidableEq, Repr

/-- One line of a partition (R126, R128). -/
structure Stored where
  doc       : Word
  line      : Nat
  /-- First granule within the port's line capacity. -/
  gran      : Nat
  /-- PKT_LEN in bytes. -/
  len       : Nat
  isTest    : Bool
  /-- An uncorrectable word was found in it (R119). -/
  flagged   : Bool := false
  delivered : Bool := false
  retiredA  : Bool := false
  retiredB  : Bool := false
  /-- Released, waiting for the lines stored before it (R128). -/
  gone      : Bool := false
deriving DecidableEq, Repr

/-- The repeat buffer of a port (R60, R119, R201): which line it holds. -/
structure RepeatBuf where
  doc     : Word
  line    : Nat
  len     : Nat
  flagged : Bool
deriving DecidableEq, Repr

/-- The throughput meter of a line channel (R136): finished milliseconds newest first, as bytes and owed time in grid units; then those of
the running millisecond. -/
structure Meter where
  window  : List (Nat × Nat) := []
  bytes   : Nat := 0
  owed    : Nat := 0
  /-- B_p in bytes per second. -/
  rate    : Nat := 0
deriving DecidableEq, Repr

/-- A port's part of the pond. -/
structure PortStore where
  units  : BitVec 14 := 608
  /-- Granule after the last one allocated. -/
  next   : Nat := 0
  /-- Stored lines, oldest first. -/
  lines  : List Stored := []
  repBuf : Option RepeatBuf := none
  meter  : Meter := {}
deriving DecidableEq, Repr

/-- The mill pond and the sluice (R117 to R141). -/
structure Pond where
  admitHold  : Bool := false
  err        : Word := 0
  ceSingle   : Half := 0
  ceDouble   : Half := 0
  ueCount    : Half := 0
  ueAddr     : Option Nat := none
  /-- Row and the spare row, 0 to 511, that replaces it (R120); of several entries for a row the last holds. -/
  spares     : List (Nat × Nat) := []
  /-- The row being copied into a spare, and rows waiting. -/
  copying    : List Nat := []
  sparesOut  : Bool := false
  /-- Next row of the scrub pass, 0 to 41,471 (R122). -/
  scrubRow   : Nat := 0
  scrubRuns  : Bool := false
  /-- Start of the running row's interval (R122). -/
  scrubMark  : Nat := 0
  passes     : Half := 0
  lastPassMs : Half := 0
  passStart  : Nat := 0
  /-- Physical rows, the spare ones from 40,960 on, with a one-bit error corrected on this pass and on the pass before (R120). -/
  onePrev    : List Nat := []
  oneNow     : List Nat := []
  auxUnits   : BitVec 14 := 512
  /-- Bytes of the auxiliary partition that the data of DMA[18] and of DMA[19] occupies, oldest first, as offsets and lengths (R125). -/
  aux        : Vector (List (Nat × Nat)) 2 := Vector.replicate 2 []
  underruns  : Word := 0
  /-- The pond's bytes, byte address to byte: strictly rising addresses, no zero listed (R117). -/
  mem        : List Host.Cell := []
  ports      : Vector PortStore 16 := Vector.replicate 16 {}
  /-- Documents offered so far. -/
  offers     : Nat := 0
  dochold    : Bool := true
  holdCause  : BitVec 8 := 7
  holdPort   : BitVec 4 := 0
  speedLimit : Nat := 48000
  /-- Throttle level L, in 1/64, that SPEEDLIMIT was computed with (R140). -/
  speedLevel : Nat := 0
  /-- f_prof and loop of the document that the last computation of SPEEDLIMIT chose (R140); none until one has been pending. -/
  chosen     : Option (Nat × LoopId) := none
  /-- f_prof and loop of the last document admitted (R140). -/
  lastAdmit  : Option (Nat × LoopId) := none
deriving DecidableEq, Repr

/-- How a line was given to print (R59): with data, as BLANK, or blank because of a fault. -/
inductive GivenAs where
  | data | blank | fault
deriving DecidableEq, Repr

/-- A document's progress on one port. -/
structure DocPort where
  /-- Lead line whose line-ahead event comes next; tail loads included (R187, R211). -/
  nextAhead : Nat := 0
  /-- Loads that have passed their port line boundary or counted as passed (R4). -/
  passed    : Nat := 0
  /-- Lines received on the port: stored, or taken as failing lines (R45). -/
  taken     : Nat := 0
  /-- Lines taken as failing (R70): delivered blank. -/
  bad       : List Nat := []
  dly       : Nat := 0
  dlyA      : Nat := 0
  dlyB      : Nat := 0
  fNom      : Nat := 0
  fCmp      : Nat := 0
  /-- f_fit in 0.01 Hz (R192). -/
  fFit      : Nat := 0
  /-- Every later load of the port is built blank: reason (R249, R253). -/
  blanked   : Option (BitVec 8) := none
  /-- The port has lost its power or its head: no later load is strobed (R249). -/
  lost      : Bool := false
  /-- A load of the document has been queued that clears the port's history (R206, R211). -/
  begun     : Bool := false
  /-- How line k − 1 was given to print (R59). -/
  prev      : GivenAs := .fault
deriving DecidableEq, Repr

/-- An entry of the document table (R127). -/
structure Doc where
  id        : Word
  payload   : List Byte
  profile   : Nat
  stream    : Bool
  trigger   : Fin 2
  mask      : BitVec 16
  lineCount : Nat
  startOff  : Nat
  hostTag   : Word
  /-- Channels on which its doc-open has passed. -/
  opened    : BitVec 16
  barred    : Bool := false
  /-- Channels that have left a barred document (R502). -/
  left      : BitVec 16 := 0
  offered   : Bool := false
  /-- Order in which it was offered (R131). -/
  offerNo   : Nat := 0
  admitted  : Bool := false
  /-- Order of its trigger edge, once taken (R53, R337). -/
  trigged   : Option Nat := none
  /-- The latched position that is its origin (R185). -/
  origin    : BitVec 48 := 0
  /-- Aborted or ended: later loads are built blank (R333, R112). -/
  aborted   : Bool := false
  downgrade : Bool := false
  /-- Reason of the marking (R71). -/
  faulty    : Option (BitVec 8) := none
  loop      : LoopId := .a
  ports     : Vector DocPort 16 := Vector.replicate 16 {}
deriving DecidableEq, Repr

/-- States of a general check unit (R164). -/
inductive ChkState where
  | idle | running | done | aborted
deriving DecidableEq, Repr

/-- A general check unit CHK[i] (R168). -/
structure ChkUnit where
  arm      : Bool := false
  mgtOwn   : Bool := false
  state    : ChkState := .idle
  armBad   : Bool := false
  ue       : Bool := false
  raced    : Bool := false
  clipped  : Bool := false
  mismatch : Bool := false
  matched  : Bool := false
  paused   : Bool := false
  cfg      : Word := 0x000001A0
  poly     : DWord := 0x1EDC6F41
  init     : DWord := 0xFFFFFFFF
  xorout   : DWord := 0xFFFFFFFF
  start    : DWord := 0
  length   : Word := 0
  records  : Half := 1
  seqStart : Word := 0
  expect   : DWord := 0
  result   : DWord := 0
  progress : Word := 0
  seq      : Word := 0
  /-- A snoop was armed in the middle of a record, which it does not take (R154). -/
  skip     : Bool := false
  /-- The copies, by port, that were on their way at ARM. -/
  skipCopies : BitVec 16 := 0
  /-- Running CRC register and records still to take. -/
  reg      : DWord := 0
  recsLeft : Nat := 0
deriving DecidableEq, Repr

/-- The block-wide CHK registers (R169). -/
structure ChkBlk where
  units    : Vector ChkUnit 8 := Vector.replicate 8 {}
  fixedIng : BitVec 20 := 0
  fixedEgr : BitVec 16 := 0
  persist  : Half := 0
  ingCalc  : Vector Word 16 := Vector.replicate 16 0
  ingRecv  : Vector Word 16 := Vector.replicate 16 0
  egrCalc  : Vector Word 16 := Vector.replicate 16 0
  egrRecv  : Vector Word 16 := Vector.replicate 16 0
deriving DecidableEq, Repr

end Sys2Proof.Machine
end

