-- ==== Sys2Proof/Machine/Blocks/Env.lean ====
section
/-! DEFINITION. The state of the thermal block (R385), the motion axes (R366, R367), calibration (R395) and the fuse array
(R416). A field's default is its value at reset. -/

namespace Sys2Proof.Machine

/-- The thermal block (R385), with the trip that the always-on domain holds (R375, R376). -/
structure Thm where
  /-- Throttle level L in 1/64, 0 to 64. -/
  level       : Nat := 0
  warn        : Bool := false
  throttle    : Bool := false
  /-- Admission is shut under R373. -/
  hold        : Bool := false
  sensorFail  : Bool := false
  modelActive : Bool := false
  err         : Word := 0
  /-- Temperatures in 1/16 °C. -/
  tLogic      : Int := 0
  tDrive      : Int := 0
  tCtl        : Int := 0
  tModel      : Int := 0
  /-- Highest T_ctl since PEAK_CLR; none before the first update after it, which reads 0. -/
  peak        : Option Int := none
  modelCfg    : Word := 0x1E143714
  flashLow    : Int := -40
  flashHigh   : Int := 105
  /-- Package power and P_drive in mW. -/
  package     : Nat := 0
  drive       : Nat := 0
  /-- The filtered powers of R369 and R379, in µW. -/
  driveAvg    : Nat := 0
  packageAvg  : Nat := 0
  /-- Last plausible reading T_v, and the package power in µW at it (R379). -/
  plausible   : Int := 0
  plausPower  : Nat := 0
  /-- Consecutive failed and passed plausibility tests. -/
  failRun     : Nat := 0
  passRun     : Nat := 0
  /-- SENSOR_RESUME has been written since the failure (R381). -/
  resume      : Bool := false
  sensorFails : BitVec 8 := 0
  plausFails  : Half := 0
  /-- Trim of the 100 MHz RC (R384). -/
  rcFast      : Word := 0
  /-- The trip of R374 that the always-on domain holds. -/
  tripped     : Option TripCause := none
deriving DecidableEq, Repr

/-- STAT.MOTION of an axis (R366). -/
inductive Motion where
  | idle | moving | homing | jogging | stopping
deriving DecidableEq, Repr

/-- Phases of homing (R355); `slow` is the deceleration after a limit reference (R356). -/
inductive HomePhase where
  | none | seek | slow | settle | backoff
deriving DecidableEq, Repr

/-- STAT.BRIDGE of an axis. -/
inductive Bridge where
  | off | hold | run
deriving DecidableEq, Repr

/-- A profile in progress (R348, R349): speeds in microsteps/s, positions in 1/65,536 microstep. -/
structure Leg where
  start : BitVec 48
  fwd   : Bool
  /-- Distance; none for a run without an end. -/
  dist  : Option Nat
  v0    : Nat
  vp    : Nat
  vEnd  : Nat
  acc   : Nat
  jerk  : Nat
  dec   : Nat
  jerkD : Nat
  /-- Servo periods since the start. -/
  t     : Nat := 0
deriving DecidableEq, Repr

/-- An axis AX[n] (R366). -/
structure Axis where
  cmdOp      : BitVec 4 := 0
  cmdResult  : BitVec 3 := 0
  motion     : Motion := .idle
  home       : HomePhase := .none
  bridge     : Bridge := .off
  posState   : BitVec 2 := 0
  phase      : BitVec 6 := 0
  err        : Word := 0
  cfg        : Word := 0x00000006
  target     : Word := 0
  /-- Position in 1/65,536 microstep. -/
  pos        : BitVec 48 := 0
  speed      : Int := 0
  speeds     : Word := 0x00003E80
  acc        : Word := 100000
  dec        : Word := 100000
  jerk       : Word := 0
  current    : Word := 0x3201E03C
  coil       : Word := 0x00000190
  stall      : Word := 0x004B0640
  homeCfg    : Word := 0x002812C0
  homeOffset : Word := 0
  homeMax    : Word := 64000
  backoff    : Word := 160
  limCfg     : Word := 0x00001414
  loNow      : Bool := false
  hiNow      : Bool := false
  chatter    : Bool := false
  pending    : Bool := false
  iLimited   : Bool := false
  vsat       : Bool := false
  loadNow    : BitVec 8 := 0
  loadPeak   : BitVec 8 := 0
  stalls     : BitVec 8 := 0
  limTrips   : BitVec 8 := 0
  refused    : Half := 0
  leg        : Option Leg := none
  /-- Servo periods in a row in which δ was above the stall threshold. -/
  stallRun   : Nat := 0
  /-- Times of the latest qualified transitions of LIM_LO and LIM_HI. -/
  loTimes    : List Nat := []
  hiTimes    : List Nat := []
  /-- End of HOLD_DELAY, and of SETTLE. -/
  holdAt     : Option Nat := none
  settleAt   : Nat := 0
  /-- Squares of the commanded coil currents of the last second, in (1/128 mA)² × 2 × 10⁸, newest first (R346). -/
  heat       : List (Nat × Nat) := []
  /-- I_set of the last servo period in 1/128 mA (R346). -/
  iSet       : Nat := 0
  /-- Set-point positions of the servo periods of the last 25.5 ms, newest first (R352). -/
  trail      : List (BitVec 48) := []
  /-- Time of the last stop by MOT.STOP_ALL, a fault or R332 (R364). -/
  stoppedAt  : Option Nat := none
  /-- The axis re-energises once VM is good (R361). -/
  reenergise : Bool := false
deriving DecidableEq, Repr

/-- The motion block (R367). -/
structure Mot where
  axes   : Vector Axis 4 := Vector.replicate 4 {}
  vmGood : Bool := false
  /-- Time of the next servo period. -/
  servoAt : Nat := 0
  vm     : Half := 0
  err    : Word := 0
deriving DecidableEq, Repr

/-- A trim entry: target and code in force (R394). -/
structure Trim where
  target  : BitVec 12 := 2048
  now     : BitVec 12 := 2048
deriving DecidableEq, Repr

/-- The calibration block (R395). Trim entries stand at 2,048, no correction, until the fuse stage has read the factory
codes. -/
structure Cal where
  /-- The calibration that runs (`true` for a full one), and the time of its reference (R389). -/
  running   : Option Bool := none
  startAt   : Nat := 0
  /-- A trigger is due since the given time: full and partial (R391). -/
  dueFull   : Option Nat := none
  duePart   : Option Nat := none
  /-- A full trigger has arisen during a partial calibration: it becomes due at the exit (R391). -/
  exitFull  : Bool := false
  overdue   : Bool := false
  lastFull  : Bool := false
  reqResult : BitVec 2 := 0
  err       : Word := 0
  cfg       : Word := 0x031E080A
  count     : Word := 0
  lastTime  : BitVec 48 := 0
  tempFull  : Int := 0
  tempAny   : Int := 0
  itemFail  : BitVec 10 := 0
  factory   : Vector (BitVec 12) 64 := Vector.replicate 64 2048
  trim      : Vector Trim 64 := Vector.replicate 64 {}
  interp    : Vector (BitVec 13) 16 := Vector.ofFn fun i => BitVec.ofNat 13 (500 * i.val)
  /-- Time of the last calibration of either kind. -/
  lastAt    : Nat := 0
  /-- Next 64 µs step of the moving trims. -/
  stepAt    : Nat := 0
  /-- Content of the BOARDCAL section loaded last (R449). -/
  board     : List Byte := []
  /-- What the last full calibration took from it: the CALRES deviation in 0.001 % and the divider corrections of the rails in 0.01 %. -/
  calres    : Int := 0
  railCorr  : Vector Int 4 := Vector.replicate 4 0
deriving DecidableEq, Repr

/-- What a burn is doing (R404, R405, R409). -/
inductive BurnStep where
  /-- The word itself; `true` for an operation that keeps a journal. -/
  | word (journal : Bool)
  /-- VOID of a word; `true` after a failure of PROGRAM or SPARE, with the outcome still to come. -/
  | void (failed : Bool)
  /-- Tag and data of spare entry `e`. -/
  | spareTag (e : Nat)
  | spareData (e : Nat)
  /-- A spare entry that failed is voided. -/
  | spareVoid (e : Nat)
  | lockA (region : Nat)
  | lockB (region : Nat)
  | fuse (f : Fin 6)
deriving DecidableEq, Repr

/-- A burn in progress. -/
structure Burn where
  op     : Nat
  /-- Word or, for LOCK, the region. -/
  target : Nat
  value  : DWord
  /-- Word whose cells are being pulsed. -/
  word   : Nat
  step   : BurnStep
  code   : BitVec 79
  /-- Bits still to burn, ascending. -/
  bits   : List Nat
  tries  : Nat := 0
  done   : Nat := 0
  /-- Time at which the running pulse and verify end. -/
  due    : Nat := 0
deriving DecidableEq, Repr

/-- Statuses of R399 but BLANK. -/
inductive WordStat where
  | good | weak | void | incomplete | spared | ambiguous
deriving DecidableEq, Repr

/-- The fuse array and its controller (R396 to R416). Words that no list names are blank. At manufacture word 0 has the part and the family
(R397); the cells of its other bits come with the first reading. -/
structure Otp where
  cmdOp     : BitVec 4 := 0
  cmdResult : BitVec 4 := 0
  cmdLevel  : BitVec 2 := 0
  cmdWord   : BitVec 9 := 0
  data      : DWord := 0
  err       : Word := 0
  reads     : Half := 0
  /-- First AMBIGUOUS item of the last read: lock fuse or word, and its number. -/
  ambig     : Option (Bool × Nat) := none
  /-- The fuse stage is failing (R400). -/
  failing   : Bool := false
  /-- The cells at the three levels, in ascending word order. -/
  cells     : List FuseRead := [⟨0, 0x24160200, 0x24160200, 0x24160200⟩]
  /-- The lock fuses' cells: factory A and B, security A and B, customer A and B. -/
  locks     : Vector LockRead 6 := #v[⟨0, 7, 7, 7⟩, ⟨1, 7, 7, 7⟩, ⟨2, 0, 0, 0⟩, ⟨3, 0, 0, 0⟩, ⟨4, 0, 0, 0⟩, ⟨5, 0, 0, 0⟩]
  /-- Lock fuses that count as set, by their numbers: those of the last fuse stage or LOCK (R402). -/
  lockUse   : BitVec 6 := 3
  /-- Word 185 has been found not BLANK: JTAG debug access is closed for good (R415). -/
  debugClosed : Bool := false
  status    : List (Nat × WordStat) := []
  /-- Logical values in use. -/
  values    : List (Nat × DWord) := []
  burn      : Option Burn := none
deriving DecidableEq, Repr

end Sys2Proof.Machine
end

