-- ==== Sys2Proof/Machine/Blocks/Head.lean ====
section
/-! DEFINITION. The state of the head ports (R259). A field's default is its value at reset. -/

namespace Sys2Proof.Machine

/-- Port states (R247). -/
inductive PState where
  | absent | reading | invalid | unpowered | powering | active | shorted
deriving DecidableEq, Repr

/-- A record write's progress (R257, R258). -/
inductive WriteState where
  | idle
  | page (k : Nat)      -- page k of 16 is in progress or next
  | readback
  | retryWait           -- a failed write waits 1 s
deriving DecidableEq, Repr

/-- A head port HP[n] (R259). -/
structure HeadPort where
  enable     : Bool := false
  pwrOff     : Bool := false
  slew       : BitVec 2 := 1
  pstate     : PState := .absent
  /-- The port has been ACTIVE since reset (R483). -/
  wasActive  : Bool := false
  present    : Bool := false
  /-- Copy of the record in use. -/
  copy       : Bool := false
  /-- The record in use, 128 bytes; empty without one. -/
  record     : List Byte := []
  /-- The record read last on the port (R244). -/
  lastRec    : List Byte := []
  sensorFail : Bool := false
  hot        : Bool := false
  hardHot    : Bool := false
  err        : Word := 0
  /-- Head temperature in use, in 1/16 °C. -/
  temp       : Int := 0
  /-- Last valid conversion of the head on the port. -/
  validTemp  : Option Int := none
  raw        : BitVec 12 := 0
  tempPeak   : Int := 0
  badConv    : Nat := 0
  goodConv   : Nat := 0
  memA16     : Bool := false
  memFast    : Bool := true
  memAddr    : BitVec 7 := 0x50
  spitRate   : Half := 5000
  /-- SPIT_CFG.RATE written and held for the next line boundary (R26). -/
  pendRate   : Option Half := none
  fires      : BitVec 48 := 0
  usagePend  : BitVec 8 := 0
  egrBlanked : Half := 0
  egrFailed  : Half := 0
  loads      : Word := 0
  /-- Spits since entry to MAINT (R238). -/
  spitCount  : Word := 0
  /-- Tries so far of each copy's read (R247). -/
  tries0     : Nat := 0
  tries1     : Nat := 0
  /-- Time of the retry. -/
  readAt     : Nat := 0
  /-- Copy read but not yet judged, or given up: `some none`. -/
  got0       : Option (Option (List Byte)) := none
  got1       : Option (Option (List Byte)) := none
  write      : WriteState := .idle
  /-- The copy being written, and units of usage it carries. -/
  writeData  : List Byte := []
  writeUnits : Nat := 0
  writeTries : Nat := 0
  writeAt    : Nat := 0
  /-- The usage write has failed as often as it may, and waits for further usage (R258). -/
  writeOver  : Bool := false
  /-- A SHORTED port reads its record again (R259). -/
  reread     : Bool := false
  /-- A mailbox HEAD_WRITE waits or runs (R460). -/
  mailWrite  : Option (List Byte) := none
  /-- The write that runs is the mailbox's. -/
  mailRuns   : Bool := false
  /-- The write held its page for temperature. -/
  writeHeld  : Bool := false
deriving DecidableEq, Repr

end Sys2Proof.Machine
end

