-- ==== Sys2Proof/Machine/Blocks/Mgmt.lean ====
section
/-! DEFINITION. The state of the transport port, the power block with its always-on domain, the management subsystem
and the records the device sends out. A field's default is its value at reset. -/

namespace Sys2Proof.Machine

/-- A fault record of the transport port (R340). -/
structure FaultRec where
  docId  : Word
  tag    : Word
  reason : BitVec 8
  port   : BitVec 4
  line   : BitVec 24
  time   : BitVec 48
  seq    : Half
deriving DecidableEq, Repr

/-- The transport port (R328). -/
structure Tpt where
  events      : Half := 0
  mask        : Half := 0
  ignored     : Half := 0
  scratch     : Half := 0
  arg0        : Half := 0
  arg1        : Half := 0
  resSeq      : BitVec 4 := 0
  resOp       : BitVec 8 := 0
  resOutcome  : BitVec 3 := 0
  /-- A STOP is deferred (R335). -/
  deferStop   : Bool := false
  /-- A calibration is deferred; `true` for a full one. -/
  deferCal    : Option Bool := none
  deferMaint  : Bool := false
  refused     : Half := 0
  pol         : BitVec 2 := 0
  /-- The fault FIFO, oldest first (R340). -/
  fifo        : List FaultRec := []
  lost        : BitVec 8 := 0
  /-- FAULT_SEQ of the next marking. -/
  faultSeq    : Half := 0
  trigDoc     : Vector Word 2 := Vector.replicate 2 0
  /-- Trigger edges taken so far: the trigger order of R53. -/
  trigOrder   : Nat := 0
  /-- The last edge that a document took: its input, its instant and the document (R338). -/
  lastEdge    : Option (Fin 2 × Nat × Word) := none
  orphans     : Vector (BitVec 8) 2 := Vector.replicate 2 0
  lastDone    : Word := 0
  doneCount   : Half := 0
  faultyCount : Half := 0
  hostMail    : Vector Half 8 := Vector.replicate 8 0
  tpMail      : Vector Half 8 := Vector.replicate 8 0
  /-- The registers by address as they stood when SLEEP was entered (R327). -/
  sleepRegs   : List Half := []
  /-- Pulses of R341 waiting. -/
  pulses      : Nat := 0
  /-- DOCFAULT_N is low. -/
  pulseLow    : Bool := false
  /-- Time at which DOCFAULT_N may fall, or at which the running pulse ends. -/
  pulseAt     : Nat := 0
deriving DecidableEq, Repr

/-- High halves captured by reads of `_LO` registers (R194, R259, R323, R395, R432). -/
structure Captures where
  pos       : Vector Word 2 := Vector.replicate 2 0
  hwm       : Vector Word 2 := Vector.replicate 2 0
  trig0     : Vector Word 2 := Vector.replicate 2 0
  trig1     : Vector Word 2 := Vector.replicate 2 0
  fires     : Vector Word 16 := Vector.replicate 16 0
  lastTime  : Word := 0
  rtc       : Word := 0
  faultDoc  : Half := 0
  faultTag  : Half := 0
  faultLine : Half := 0
  trig0Doc  : Half := 0
  trig1Doc  : Half := 0
  holdDoc   : Half := 0
  lastDone  : Half := 0
deriving DecidableEq, Repr

/-- An axis record of bank 0 (R360, R429). -/
structure AxisRec where
  pos       : Word := 0
  phase     : BitVec 6 := 0
  posState  : BitVec 2 := 0
  energised : Bool := false
deriving DecidableEq, Repr

/-- The burn journal of R404. -/
structure Journal where
  word     : BitVec 9
  doneBits : Nat
  code     : BitVec 79
deriving DecidableEq, Repr

/-- A document of the thermal record (R377). -/
structure ThermDoc where
  docId : Word
  line  : BitVec 24
deriving DecidableEq, Repr

/-- The power block; the fields from `resetCause` on lie in the always-on domain (R442, R429). -/
structure Pwr where
  cmdOp        : BitVec 4 := 0
  cmdResult    : BitVec 2 := 0
  standbyPend  : Bool := false
  /-- Step 2 of R428 has been taken: the axes are stopping. -/
  standbyAxes  : Bool := false
  spreadNow    : BitVec 4 := 0
  /-- Down-spread that a 1 ms ramp is reaching (R435). -/
  spreadRamp   : Option (BitVec 4) := none
  xinOk        : Bool := false
  fireLock     : Bool := false
  coreLock     : Bool := false
  coreOnDemand : Bool := false
  err          : Word := 0
  cfg          : Word := 0x00000300
  stage        : BitVec 4 := 1
  /-- Stage of the last failure since reset release. -/
  failed       : BitVec 4 := 0
  /-- Bit n: stage n has failed since reset release. -/
  failedSet    : Half := 0
  /-- Time at which the failed stage is retried (R438). -/
  retryAt      : Option Nat := none
  stageTime    : Vector Half 8 := Vector.replicate 8 0
  /-- The dies run: reset release has come and no reset of R421 since. -/
  released     : Bool := false
  /-- Time of the last reset release (R326). -/
  releasedAt   : Nat := 0
  /-- READY has been reached since reset release. -/
  readySeen    : Bool := false
  /-- Times of the last event of an enabled wake source, and of the last entry to SLEEP (R424). -/
  wakeSeen     : Option Nat := none
  sleptAt      : Option Nat := none
  perst        : Bool := true
  supply       : BitVec 7 := 0
  mainEn       : Bool := true
  resetCause   : Word := 0
  wakeCause    : Word := 0
  aonRc        : Bool := false
  /-- The search for XAON oscillation is running or has ended with the crystal (R433). -/
  aonSearch    : Bool := false
  /-- RTC count at grid time 0. -/
  rtcBase      : BitVec 48 := 0
  /-- A held write of RTC_LO. -/
  rtcLo        : Word := 0
  /-- A commit armed by a write of RTC_HI. -/
  rtcArmed     : Option (BitVec 48) := none
  alarmLo      : Word := 0
  alarmHi      : Word := 0
  /-- A held write of ALARM_LO. -/
  alarmHold    : Word := 0
  /-- Reset cause in bank 0 (R429). -/
  retCause     : Byte := 0
  /-- A hardware shut-down, and VM faults in STANDBY (low, high), whose flags the next start shows (R361, R376). -/
  heldShut     : Option TripCause := none
  heldVm       : BitVec 2 := 0
  attempts     : Half := 0
  shutdowns    : BitVec 8 := 0
  orderly      : Bool := false
  axisRecs     : Vector AxisRec 4 := Vector.replicate 4 {}
  retUser      : Vector Word 7 := Vector.replicate 7 0
  /-- Thermal record: number of documents in progress, and up to four of them. -/
  thermCount   : Nat := 0
  thermDocs    : List ThermDoc := []
  /-- PWR.CFG as it stood at the last orderly entry to STANDBY: WAKE_SRC for R430. -/
  aonCfg       : Word := 0
  journal      : Option Journal := none
  /-- Time of the latest trim of the 32 kHz RC in STANDBY, the trim in force, and the fused coefficients of both RCs (R384). -/
  rcTrimAt     : Nat := 0
  rcTrim       : Word := 0
  rcCoef       : DWord × DWord := (0, 0)
deriving DecidableEq, Repr

/-- A log record without its CHECK (R452). -/
structure LogRec where
  seq     : Word
  time    : BitVec 48
  type    : BitVec 8
  aux     : BitVec 8
  payload : List Byte
deriving DecidableEq, Repr

/-- States of an update session (R457). -/
inductive UpdState where
  | idle | erasing | receiving | verifying | committed | pending
deriving DecidableEq, Repr

/-- A directory entry of an image (R448) with its section's bytes. -/
structure Section where
  type   : BitVec 16
  index  : BitVec 8
  flags  : BitVec 8
  crc    : Word
  bytes  : List Byte
deriving DecidableEq, Repr

/-- A parsed image (R447). -/
structure Image where
  seq      : Word
  secVer   : Word
  build    : Word
  flashLo  : BitVec 8
  flashHi  : BitVec 8
  sections : List Section
deriving DecidableEq, Repr

/-- How an activation of R458 completes. -/
inductive Activation where
  | none | firmware | swap | energyReload | calibration | reload
deriving DecidableEq, Repr

/-- A flash operation the device issues (R446, R457). -/
inductive FlashOp where
  | erase (off len : Nat)
  | program (off : Nat) (data : List Byte)
deriving DecidableEq, Repr

/-- The management subsystem (R463). -/
structure Mgt where
  /-- The firmware runs: FIRMWARE has completed and no restart is running. -/
  running    : Bool := false
  restarting : Bool := false
  /-- Time by which the processor must run again (R444, R458). -/
  restartBy  : Nat := 0
  recovery   : Bool := false
  /-- Bytes of the recovery image received so far (R461). -/
  recImage   : List Byte := []
  err        : Word := 0
  fwSlot     : Bool := false
  cfgSlot    : Bool := false
  fwVer      : Word := 0
  cfgVer     : Word := 0
  cfgSeq     : Word := 0
  /-- The image at the last check of each slot: firmware A, firmware B, Kolto A, Kolto B; none if not valid. -/
  slots      : Vector (Option Image) 4 := Vector.replicate 4 none
  /-- The Kolto image in force (R451, R458). -/
  kolto      : Option Image := none
  updOp      : BitVec 4 := 0
  updKind    : Bool := false
  /-- SLOT of UPD_CMD as last written. -/
  updSlot    : Bool := false
  updResult  : BitVec 2 := 0
  updLen     : BitVec 22 := 0
  updState   : UpdState := .idle
  waitTemp   : Bool := false
  programmed : Nat := 0
  /-- Bytes the session has received. -/
  received   : List Byte := []
  /-- KIND and target slot of the session. -/
  sesKind    : Bool := false
  sesSlot    : Bool := false
  activation : Activation := .none
  /-- A firmware slot tried by an activation, with the slot in force before (R458). -/
  trying     : Option Bool := none
  logFrom    : Word := 0
  /-- SEQ of the record to deliver next on DMA[16] (R456). -/
  logNext    : Word := 0
  logSeq     : Word := 0
  logNewest  : Word := 0
  /-- Records waiting in the FIFO, oldest first (R444). -/
  fifo       : List LogRec := []
  lost       : Half := 0
  lostEvent  : Bool := false
  /-- The ring: place and record, oldest first, and the next blank place (R454). -/
  ring       : List (Nat × LogRec) := []
  place      : Nat := 0
  restarts   : Word := 0
  /-- The watchdog brought the restart about (R444, R474). -/
  byWatchdog : Bool := false
  /-- Flash operations that wait for FLASH_WIN, in their order (R383). -/
  flashWait  : List FlashOp := []
  /-- Places of the ring that hold a torn record, until their sector is erased (R452). -/
  torn       : List Nat := []
  /-- The scan of the ring has given the next place and SEQ (R455). -/
  logReady   : Bool := false
  /-- LOG_FROM has been written since the descriptor of DMA[16] now waiting was taken (R456). -/
  logFresh   : Bool := false
  /-- Bytes of the running dump that have been delivered (R456). -/
  dumpPos    : Nat := 0
  /-- The calibration of an activation runs (R458). -/
  calRun     : Bool := false
  /-- Time of the last periodic ENGINES record (R316, R449). -/
  healthAt   : Nat := 0
  dumps      : Nat := 0
  mbxOp      : BitVec 4 := 0
  mbxResult  : BitVec 2 := 0
  mbxLen     : BitVec 12 := 0
  mbxArg     : BitVec 12 := 0
  /-- The mailbox window, little-endian words. -/
  mbx        : List (Nat × Byte) := []
  smbAddr    : BitVec 7 := 0x5C
  healthH    : Nat := 24
  user       : List Byte := []
  /-- Latest readings of R443: T_ctl in 1/16 °C, the supplies, VM in 10 mV and package power in 10 mW, then VHS[0] to VHS[3] in 10 mV. -/
  tCtl       : Int := 0
  supplies   : List Nat := []
  vm10mV     : Nat := 0
  package    : Nat := 0
  rails      : Vector Nat 4 := Vector.replicate 4 0
deriving DecidableEq, Repr

/-- A page write to a head memory (R240, R257): device address, a two-byte word address, offset and data. -/
structure HeadPage where
  port   : Port
  device : BitVec 7
  wide   : Bool
  offset : Nat
  data   : List Byte
deriving DecidableEq, Repr

/-- An error of a descriptor with the USER word that is logged with it (R83): channel, status code of R114, USER. -/
structure DescError where
  chan : Chan
  code : Nat
  user : Word
deriving DecidableEq, Repr

/-- What the device has sent out, newest first. -/
structure Out where
  /-- Writes to host memory: address and data. -/
  host    : List (DWord × List Byte) := []
  /-- MSI-X messages sent: vector. -/
  msi     : List (Fin 128) := []
  /-- Answers to SMBus, UART and configuration requests. -/
  replies : List (List Byte) := []
  flash   : List FlashOp := []
  head    : List HeadPage := []
  /-- Errors of descriptors with their USER words (R83; DESIGN CHOICE, log entry 54). -/
  descErr : List DescError := []
  /-- Latency tolerance last reported through LTR in µs; none for "no requirement" (R80). -/
  ltr     : Option Nat := none
  /-- Fuse programming pulses: word and bit. -/
  fuse    : List (BitVec 9 × Nat) := []
deriving DecidableEq, Repr

end Sys2Proof.Machine
end

