-- ==== Sys2Proof/Machine/Blocks/Print.lean ====
section
/-! DEFINITION. The state of the encoder inputs, the fantail loops, the print profiles, the loads, the firing engines and
the supervisor. A field's default is its value at reset. -/

namespace Sys2Proof.Machine

/-- An encoder input ENC[i] (R170). -/
structure EncInput where
  a        : Bool := false
  b        : Bool := false
  faultA   : Bool := false
  faultB   : Bool := false
  faultI   : Bool := false
deriving DecidableEq, Repr

/-- States of a fantail loop (R183). -/
inductive LoopState where
  | off | acquire | locked
deriving DecidableEq, Repr

/-- Fantail settings of R189. -/
structure FantailSet where
  num : BitVec 24
  den : BitVec 24
  bw  : BitVec 13
  tol : BitVec 4
deriving DecidableEq, Repr

/-- What a loop makes of the medium's position between two changes of it (R180, R182, R185): edge position, and in 2⁻³² units its fraction,
the estimates of position, speed per fire clock and acceleration at the last edge, and one edge's move. -/
structure Est where
  pos  : BitVec 48
  frac : Int
  p    : Int
  v    : Int
  a    : Int
  lim  : Int
  edge : Option Nat
  /-- Time at which it gave way to the next one. -/
  upto : Nat
deriving DecidableEq, Repr

/-- A fantail loop FTL[x] (R194). -/
structure Loop where
  enable     : Bool := false
  state      : LoopState := .off
  /-- The loop has been LOCKED since its last entry from OFF (R184). -/
  hadLock    : Bool := false
  crawl      : Bool := false
  reverse    : Bool := false
  indexSeen  : Bool := false
  err        : Word := 0
  /-- ENC_CFG in force and one held for the next boundary (R26). -/
  encCfg     : Word := 0x00000800
  pendEnc    : Option Word := none
  /-- The held RATIO_NUM of R179. -/
  heldNum    : BitVec 24 := 16
  set        : FantailSet := ⟨16, 1, 500, 6⟩
  pendSet    : Option FantailSet := none
  indexEdges : BitVec 24 := 0
  pendIndex  : Option (BitVec 24) := none
  pos        : BitVec 48 := 0
  /-- Remainder of R178, in numerators modulo RATIO_DEN. -/
  rem        : Nat := 0
  hwm        : BitVec 48 := 0
  /-- Estimates relative to the edge position, in 2⁻³² units, units per fire clock and units per fire clock squared. -/
  estP       : Int := 0
  estV       : Int := 0
  estA       : Int := 0
  /-- Time of the last decoded edge; none before the first. -/
  lastEdge   : Option Nat := none
  /-- Estimates given up in the last 256 ns, newest first (R182). -/
  past       : List Est := []
  /-- The multiple of 256 that the position crossed last (R188). -/
  bound      : BitVec 48 := 0
  /-- Direction of the last legal edge: true forward. -/
  lastDir    : Bool := true
  okEdges    : Nat := 0
  badEdges   : Nat := 0
  edgeRate   : Nat := 0
  fOvs       : Nat := 48000
  errPeak    : Half := 0
  trig       : Vector (Option (BitVec 48)) 2 := Vector.replicate 2 none
  illegal    : Half := 0
  indexMiss  : Half := 0
  /-- Decoded edges since the last index edge, and whether that count is complete. -/
  indexCount : Nat := 0
  indexRef   : Bool := false
  dropped    : Word := 0
  /-- Delays of the document most recently admitted on each port (R186). -/
  dlyPort    : Vector (BitVec 24) 16 := Vector.replicate 16 0
  dlyA       : Vector (BitVec 24) 16 := Vector.replicate 16 0
  dlyB       : Vector (BitVec 24) 16 := Vector.replicate 16 0
  lateness   : Vector (BitVec 6) 16 := Vector.replicate 16 0
deriving DecidableEq, Repr

/-- What a profile expects on one port, and its delays (R245, R186, R246). -/
structure ProfPort where
  classL   : Bool
  cols     : Nat
  addrs    : Nat
  prims    : Nat
  nozzles  : Nat
  dlyPort  : BitVec 24
  dlyA     : BitVec 24
  dlyB     : BitVec 24
  derived  : Bool
deriving DecidableEq, Repr

/-- The non-energy content of a print profile (R449, "Print profiles"). -/
structure Profile where
  loop      : LoopId
  set       : FantailSet
  readAhead : Nat
  /-- ADMIT_RATE in Hz; 0 for none (R137). -/
  admitRate : Nat
  margin    : Nat
  /-- Dot pitch in pm. -/
  dotPitch  : Nat
  /-- Substitution is allowed (R283). -/
  subst     : Bool
  ports     : Vector (Option ProfPort) 16
deriving DecidableEq, Repr

/-- Packet kinds of R217. -/
inductive LoadKind where
  | print | blank | test | spit | drop
deriving DecidableEq, Repr

/-- Verdicts of R298. -/
inductive Verdict where
  | waiting | diagnosing | match_ | mismatch | single | none
deriving DecidableEq, Repr

/-- One active missing nozzle as a load sees it (R203, R283): the partners its dot may move to. -/
structure SubstEntry where
  nozzle   : Nat
  twinOk   : Bool
  ovOk     : Bool
  dnOk     : Bool
  upOk     : Bool
  ovPort   : Nat
  ovNozzle : Nat
deriving DecidableEq, Repr

/-- A segment of the state image without its CHECK (R306). -/
structure Segment where
  /-- A nibble per nozzle; missing entries are 0. -/
  hist    : List (BitVec 4) := []
  docId   : Word := 0
  line    : Word := 0
  mapVer  : Word := 0
  credit  : Half := 0
  temp    : Half := 0
  ovsAcc  : Word := 0
  fPeak   : Word := 0
  flags   : BitVec 8 := 0
  lag     : BitVec 8 := 0
  late    : Half := 0
  repLine : Word := 0
deriving DecidableEq, Repr

/-- One engine's work on a load (R195 to R204, R297). -/
structure Work where
  /-- The engine computes the load. -/
  part    : Bool := false
  /-- Passes still to run. -/
  left    : Nat := 0
  /-- The last pass has ended; the packet waits for the other engine's read-check outcome (R202). -/
  held    : Bool := false
  /-- The engine's read check of the load failed. -/
  badRead : Bool := false
  /-- Upset bytes of the engine's passes, before and after the CHECK. -/
  flips   : List (Nat × Byte) := []
  emit    : List (Nat × Byte) := []
  /-- The fire packet emitted (R217). -/
  pkt     : Option (List Byte) := none
deriving DecidableEq, Repr

/-- One load of a port (R195 to R239). -/
structure Load where
  docId     : Word
  line      : Nat
  kind      : LoadKind
  /-- The lead column is empty beyond the last line (R211). -/
  tail      : Bool := false
  /-- The lead line's stored packet as delivered; empty when delivered blank. -/
  pkt       : List Byte := []
  /-- The repeat buffer's packet and its line, for a REPEAT line. -/
  rep       : List Byte := []
  repLine   : Nat := 0
  /-- The test or spit payload of R64. -/
  test      : List Byte := []
  /-- Profile the load is built with; n, φ and whether column A lags (R210). -/
  profile   : Fin 8 := 0
  n         : Nat := 0
  phi       : Nat := 0
  /-- The head has two columns (R210). -/
  cols2     : Bool := false
  lagA      : Bool := false
  /-- The lag line was tagged FORCE_HIST (R195). -/
  lagForced : Bool := false
  temp      : Int := 0
  mapVer    : Word := 0
  missing   : List SubstEntry := []
  /-- Scale U of R271 in 1/256 LSB, fixed at the line-ahead event. -/
  scale     : Nat := 0
  /-- What the controller adds to the state of the load (R306): credit, R192's state, repeat line. -/
  shared    : Segment := {}
  workA     : Work := {}
  workB     : Work := {}
  emitAt    : Nat := 0
  verdict   : Verdict := .waiting
  /-- End of the diagnosis window. -/
  diagEnd   : Nat := 0
  used      : Option EngId := none
  /-- The brake holder's packet failed egress and no other passed (R239). -/
  failed    : Bool := false
  /-- The packet has passed egress and is in the port's buffer (R296). -/
  handed    : Bool := false
  /-- The port held too little pass credit (R196). -/
  short     : Bool := false
  /-- The fire position of a column was not above the high-water mark (R504). -/
  unplaced  : Bool := false
  /-- An earlier document's loads still run on the port (R211). -/
  overlap   : Bool := false
  /-- The first load of its document on the port: histories and column stores are cleared before it (R206, R211). -/
  fresh     : Bool := false
  /-- A first engine has built the load: lost dots are reported. -/
  reported  : Bool := false
  ticked    : Bool := false
  lagTicked : Bool := false
  /-- The fire tick of the lead column (R186). -/
  tick      : Nat := 0
  /-- Start S0 of the lead column's sequence (R232), and gap and guard in grid units after R505. -/
  tickAt    : Nat := 0
  gap       : Nat := 0
  guard     : Nat := 0
  /-- Planes shifted in and planes latched; when the last shift may begin; start of the plane latched last. -/
  shifted   : Nat := 0
  shiftAt   : Nat := 0
  latched   : Nat := 0
  planeAt   : Nat := 0
  lagAt     : Nat := 0
  /-- Drops of the latched plane that FIRES has not counted yet: lead and lag sequence. -/
  openLead  : Bool := false
  openLag   : Bool := false
  /-- Cut by a reversal or a loss of power (R191, R249). -/
  cut       : Bool := false
deriving DecidableEq, Repr

/-- A port's own timing state: credit (R196), the overspeed episode (R192), the load at its head. -/
structure PortTrack where
  /-- Pass credit in 1/500,000 pass; a port starts full (log entry 24). -/
  credit   : Option Nat := none
  creditAt : Nat := 0
  dropping : Bool := false
  /-- f_peak in 0.01 Hz. -/
  peak     : Nat := 0
  acc      : Nat := 0
  calm     : Nat := 0
  lateness : Nat := 0
  /-- Loop that the port's last tick came from (R194, OVS_PORTS). -/
  loop     : LoopId := .a
  /-- Start of the plane latched last, and the port line boundary that came last (R233, R234). -/
  latchAt  : Nat := 0
  boundAt  : Nat := 0
  /-- Original line number of the repeat buffer's packet (R201). -/
  repLine  : Nat := 0
  /-- Document and line of the lines tagged FORCE_HIST that a later load carries as lag (R195). -/
  forced   : List (Word × Nat) := []
  /-- Test lines outside a document still to be fired (R66), first to go first: spit profile, payload and repetitions
  left. -/
  spits    : List (Fin 8 × List Byte × Nat) := []
  /-- Time of the next spit. -/
  spitAt   : Nat := 0
  /-- The load whose plane was latched last, and the load strobed before it, until NZH has their last window (R275). -/
  firing   : Option Load := none
  fired    : Option Load := none
  /-- The load latched last is a spit, whose line guard is still to be strobed; a load has passed unstrobed since the load being strobed (R270). -/
  spitOpen : Bool := false
  skipped  : Bool := false
deriving DecidableEq, Repr

/-- Roles (R33). -/
inductive Role where
  | lead | shadow | solo | rejoining | retired
deriving DecidableEq, Repr

/-- One energy block of the PROFILE window, words +0x00 to +0x5C (R224). -/
abbrev EnergyBlock := Vector Word 24

/-- The reset values of an energy block (R224). -/
def energyReset : EnergyBlock :=
  #v[1, 0x00FA0064, 0, 0x00000039, 100, 0x01F401F4, 0x01F401F4, 0,
     0x10001000, 0x10001000, 0x10001000, 0x10001000, 0x10001000, 0x10001000, 0x10001000, 0x10001000,
     0x10001000, 0x10001000, 0x10001000, 0x10001000, 0x10001000, 0x10001000, 0x10001000, 0x10001000]

/-- Health counters of one engine (R320). -/
structure Health where
  lastKind  : BitVec 4 := 0
  corrected : BitVec 8 := 0
  selftests : BitVec 4 := 0
  faults    : Half := 0
deriving DecidableEq, Repr

/-- A firing engine ENG[x] (R224). -/
structure Engine where
  role      : Role
  err       : Word := 0
  passes    : Word := 0
  predrops  : Word := 0
  readFails : Word := 0
  clamps    : Word := 0
  slackMin  : Half := 0xFFFF
  line      : Vector Word 16 := Vector.replicate 16 0
  lastEmit  : Vector Word 16 := Vector.replicate 16 0
  mapVer    : Vector Word 16 := Vector.replicate 16 0
  limit     : Vector Word 16 := Vector.replicate 16 0
  blocks    : Vector EnergyBlock 8 := Vector.replicate 8 energyReset
  /-- The committed segment of each port, with its history store (R205, R306, R307). -/
  seg       : Vector Segment 16 := Vector.replicate 16 {}
  /-- Column store: per port, document, line, whether its column is classified (R209), and its lag-column values (R210). -/
  cols      : Vector (List (Word × Nat × Bool × List Nat)) 16 := Vector.replicate 16 []
  /-- Overlap store: per port, document, line and the nozzle values donated to it (R285). -/
  overlap   : Vector (List (Word × Nat × List (Nat × Nat))) 16 := Vector.replicate 16 []
  /-- Port, document and lead line of the load whose pass runs now. -/
  running   : Option (Port × Word × Nat) := none
  /-- Passes ended lately: end time and CORE clocks (LOAD). -/
  busy      : List (Nat × Nat) := []
  selftest  : Bool := false
  health    : Health := {}
deriving DecidableEq, Repr

/-- States of a swap (R317). -/
inductive SwapState where
  | closed | staging | armed | ready | failed
deriving DecidableEq, Repr

/-- The supervisor SUP (R320). -/
structure Sup where
  cmdOp       : BitVec 4 := 0
  cmdEng      : Bool := false
  cmdResult   : Bool := false
  autoRejoin  : Bool := true
  markMis     : Bool := false
  /-- The two bits of the brake (R294). -/
  brakeA      : Bool := false
  brakeB      : Bool := false
  swap        : SwapState := .closed
  /-- The engine that stages the swap. -/
  staging     : EngId := .b
  engSafeHold : Bool := false
  /-- The SELFTEST stage has ended since the start (R34). -/
  started     : Bool := false
  /-- Time of the fault report that came last (R311). -/
  faultAt     : Option Nat := none
  /-- The brake was cleared under R314 and SAFE_HOLD waits for a quiet point. -/
  safePending : Bool := false
  rejoinWait  : Bool := false
  /-- A self-tested engine replaces the faulty SOLO engine at the next quiet point (R314). -/
  switchPending : Bool := false
  /-- ENGINE_RESTART runs both self-tests: results so far (R315). -/
  restarting  : Bool := false
  resultA     : Option Bool := none
  resultB     : Option Bool := none
  /-- FAILOVER_TEST waits for the lead's next verdict. -/
  testPending : Bool := false
  err         : Word := 0
  mismatches  : Word := 0
  failovers   : Word := 0
  copies      : Word := 0
  copyDiff    : Half := 0
  copyStale   : BitVec 8 := 0
  copyDiscard : BitVec 8 := 0
  lastEvent   : Word := 0
  verdictMax  : BitVec 8 := 0
  /-- Time in SOLO, in grid units, up to `soloAt`. -/
  soloTime    : Nat := 0
  soloAt      : Nat := 0
  stageCrc    : Word := 0
  stage       : Vector EnergyBlock 8 := Vector.replicate 8 (Vector.replicate 24 0)
  /-- The reserved words of SUP.STAGE, by word index. -/
  stageRest   : List (Nat × Word) := []
  /-- Ports whose segments wait for the link, first to go first (R307). -/
  copyQueue   : List Port := []
  latent      : Vector (Option Segment) 16 := Vector.replicate 16 none
  /-- Ports whose next boundary sends a full copy (R309). -/
  fullDue     : BitVec 16 := 0
  /-- Segments of a running full copy whose snapshot is still to come (R309). -/
  fullLeft    : Nat := 0
  /-- Time at which a fault of the lead broke the pair last (R305, R311). -/
  brokeAt     : Option Nat := none
  /-- A full copy to a REJOINING engine runs (R313, R317), and ports whose segment is still to be fixed. -/
  rejoining   : Bool := false
  rejoinDue   : BitVec 16 := 0
deriving DecidableEq, Repr

end Sys2Proof.Machine
end

