-- ==== Sys2Proof/Machine/Blocks/Supply.lean ====
section
/-! DEFINITION. The state of the head supplies and echo sensing (R274) and of nozzle health (R293). A field's default is its
value at reset. -/

namespace Sys2Proof.Machine

/-- Rail states (R261). -/
inductive RailState where
  | off | softstart | good | slewing | fault | latched
deriving DecidableEq, Repr

/-- A rail VHS[r] (R274). -/
structure Rail where
  ilim    : BitVec 8 := 120
  use     : Bool := true
  state   : RailState := .off
  err     : Word := 0
  /-- The supply-voltage rank in force (R262). -/
  rank    : Option (Fin 8) := none
  target  : BitVec 12 := 0
  code    : BitVec 12 := 0
  vout    : Half := 0
  iout    : Half := 0
  /-- Ports of the rail that wait for GOOD, as HP[4r + i]. -/
  waiting : BitVec 4 := 0
  /-- Time at which the running soft start, slew step, idle time or fault time ends. -/
  due     : Nat := 0
deriving DecidableEq, Repr

/-- A port sub-block HDV[n] (R274). -/
structure HdvPort where
  rshunt   : Half := 30
  settle   : BitVec 4 := 4
  gain     : BitVec 2 := 1
  echoEn   : Bool := true
  vport    : Half := 0
  pwrGood  : Bool := false
  gate     : Bool := false
  err      : Word := 0
  /-- U in 1/256 LSB per nozzle, as of the last line-ahead event. -/
  scale    : Nat := 0
  /-- K in 2⁻²⁴ (R272). -/
  gainK    : Nat := 16777216
  /-- First baseline after power good and baseline in use, in 1/16 LSB. -/
  first    : Option Nat := none
  base     : Nat := 0
  shorts   : BitVec 8 := 0
  noEcho   : BitVec 24 := 0
  /-- The previous load strobed a whole line guard (R270). -/
  guardOk  : Bool := false
  /-- A calibration has ended since the last baseline: the next one is taken afresh (R388). -/
  afresh   : Bool := false
  /-- Time at which power good is no longer awaited (R265). -/
  pgDue    : Nat := 0
deriving DecidableEq, Repr

/-- The HDV block. -/
structure Hdv where
  rails : Vector Rail 4 := Vector.replicate 4 {}
  ports : Vector HdvPort 16 := Vector.replicate 16 {}
  vtab  : Vector Half 8 := Vector.replicate 8 534
  rohm  : Vector Half 16 := Vector.replicate 16 3000
  rdrv  : Half := 200
deriving DecidableEq, Repr

/-- Kinds of map entries (R282). -/
inductive MapKind where
  | factory | echo | contact | host | incoming
deriving DecidableEq, Repr

/-- An entry of a substitution map (R282, R293). -/
structure MapEntry where
  kind     : MapKind
  nozzle   : Nat
  twinOk   : Bool := false
  ovOk     : Bool := false
  dnOk     : Bool := false
  upOk     : Bool := false
  /-- Partner, or for INCOMING the donor. -/
  ovPort   : Nat := 0
  ovNozzle : Nat := 0
deriving DecidableEq, Repr

/-- An entry of the suspicion table (R280). -/
structure Susp where
  nozzle : Nat
  count  : Nat
  age    : Nat
deriving DecidableEq, Repr

/-- States of a contact sheet (R293). -/
inductive SheetState where
  | idle | running | done | aborted
deriving DecidableEq, Repr

/-- Nozzle health NZH[n] (R293). -/
structure Nzh where
  /-- Exonerated nozzles (R278), ascending. -/
  exon      : List Nat := []
  susp      : Vector (Option Susp) 32 := Vector.replicate 32 none
  map       : Vector (Option MapEntry) 128 := Vector.replicate 128 none
  exhausted : Bool := false
  err       : Word := 0
  mapOp     : BitVec 4 := 0
  mapResult : Bool := false
  mapNozzle : BitVec 11 := 0
  windows   : Word := 0
  deficits  : Half := 0
  excess    : Half := 0
  expired   : BitVec 8 := 0
  resets    : BitVec 8 := 0
  localised : Half := 0
  /-- COUNT after the last localisation, and its nozzle. -/
  lastLoc   : Option (Nat × Nat) := none
  mapVer    : Word := 0
  overlap   : Word := 0
  apply     : Bool := false
  csCfg     : Word := 0x78834078
  csState   : SheetState := .idle
  /-- Spit profile of the sheet (R503). -/
  csProfile : Fin 8 := 0
  csFailed  : Nat := 0
  csNozzle  : Nat := 0
  /-- Spits fired at the nozzle being tested, and drops seen. -/
  csDrops   : Nat := 0
  csSeen    : Nat := 0
  /-- Nozzles that have failed the running sheet, ascending. -/
  csBad     : List Nat := []
  /-- Failed nozzles of the last sheet completed, ascending (R292). -/
  csResult  : List Nat := []
  policy    : Vector (BitVec 4) 8 := Vector.replicate 8 4
  /-- Accumulator of R279. -/
  acc       : Nat := 0
deriving DecidableEq, Repr

end Sys2Proof.Machine
end

