-- ==== Sys2Proof/Machine/State.lean ====
section
/-! DEFINITION. The whole state of the PNX2416, its faults and refusals, and its state at reset. -/

namespace Sys2Proof.Machine

/-- The state: a field per block of R13, the link and the boundary. -/
structure State where
  /-- Commands waiting, first in first out. -/
  pending : List Instr := []
  /-- Elapsed time in units of the 125 ps fire grid (R22, R24; log entry 1). -/
  now     : Nat := 0
  /-- Number of free values read so far (the model's own; log entry 3). -/
  free    : Nat := 0
  top     : Top := {}
  evt     : Evt := {}
  link    : Link := {}
  dma     : Vector Dma 20 := Vector.replicate 20 {}
  pond    : Pond := {}
  /-- The document table, in the order in which entries were taken (R127). -/
  docs    : List Doc := []
  chk     : ChkBlk := {}
  enc     : Vector EncInput 2 := Vector.replicate 2 {}
  /-- FTL[A] and FTL[B]. -/
  ftl     : Vector Loop 2 := #v[{}, { encCfg := 0x00000801 }]
  /-- The profiles of the loaded Kolto image; none where it defines none. -/
  prof    : Vector (Option Profile) 8 := Vector.replicate 8 none
  /-- Loads of each port, oldest first. -/
  loads   : Vector (List Load) 16 := Vector.replicate 16 []
  track   : Vector PortTrack 16 := Vector.replicate 16 {}
  engA    : Engine := { role := .lead }
  engB    : Engine := { role := .shadow }
  sup     : Sup := {}
  hp      : Vector HeadPort 16 := Vector.replicate 16 {}
  hdv     : Hdv := {}
  nzh     : Vector Nzh 16 := Vector.replicate 16 {}
  thm     : Thm := {}
  mot     : Mot := {}
  cal     : Cal := {}
  otp     : Otp := {}
  tpt     : Tpt := {}
  cap     : Captures := {}
  pwr     : Pwr := {}
  mgt     : Mgt := {}
  out     : Out := {}
deriving DecidableEq, Repr

/-- Faults of the model. None of the spec's commands ends in one. -/
inductive Fault where
  /-- Raised by no meaning; safe. -/
  | none
deriving DecidableEq, Repr

/-- Refusals of the model. -/
inductive Refusal where
  /-- A command that the model gives no meaning yet; raised by the dispatcher alone; safe. -/
  | notModelled (mnemonic : String)
deriving DecidableEq, Repr

/-- The machine right after power-on reset: every register at its reset value, no command waiting. -/
def State.reset : State := {}

end Sys2Proof.Machine
end

