-- ==== Sys2Proof/Machine/Events.lean ====
section
/-! DEFINITION. The numbers of the event sources, error classes and transport-port flags (R464, R474, R328). -/

namespace Sys2Proof.Machine

/-- Source 20, CH_HALTED (R464). -/
abbrev Src.chHalted : Nat := 20

/-- Source 21, DESC_STOPPED (R464). -/
abbrev Src.descStopped : Nat := 21

/-- Source 22, DESC_EMPTY (R464). -/
abbrev Src.descEmpty : Nat := 22

/-- Source 23, DB_BAD (R464). -/
abbrev Src.dbBad : Nat := 23

/-- Source 24, CHK_FAIL (R464). -/
abbrev Src.chkFail : Nat := 24

/-- Source 25, CHK_PERSIST (R464). -/
abbrev Src.chkPersist : Nat := 25

/-- Source 26, PKT_MALFORMED (R464). -/
abbrev Src.pktMalformed : Nat := 26

/-- Source 27, DOC_MISMATCH (R464). -/
abbrev Src.docMismatch : Nat := 27

/-- Source 28, PND_UE (R464). -/
abbrev Src.pndUe : Nat := 28

/-- Source 29, PND_UNDERRUN (R464). -/
abbrev Src.pndUnderrun : Nat := 29

/-- Source 30, CHK_DONE (R464). -/
abbrev Src.chkDone : Nat := 30

/-- Source 31, CHK_MISMATCH (R464). -/
abbrev Src.chkMismatch : Nat := 31

/-- Source 32, DOC_FAULT (R464). -/
abbrev Src.docFault : Nat := 32

/-- Source 33, DOC_DONE (R464). -/
abbrev Src.docDone : Nat := 33

/-- Source 34, DOC_ADMITTED (R464). -/
abbrev Src.docAdmitted : Nat := 34

/-- Source 35, DOC_TRIGGERED (R464). -/
abbrev Src.docTriggered : Nat := 35

/-- Source 36, TRIG_ORPHAN (R464). -/
abbrev Src.trigOrphan : Nat := 36

/-- Source 37, DOCHOLD_CHANGE (R464). -/
abbrev Src.docholdChange : Nat := 37

/-- Source 38, SPEEDLIMIT_CHANGE (R464). -/
abbrev Src.speedlimitChange : Nat := 38

/-- Source 39, ADMIT_DOWNGRADE (R464). -/
abbrev Src.admitDowngrade : Nat := 39

/-- Source 40, ADMIT_FORCED (R464). -/
abbrev Src.admitForced : Nat := 40

/-- Source 41, STATE_CHANGE (R464). -/
abbrev Src.stateChange : Nat := 41

/-- Source 42, FTL_LOCK (R464). -/
abbrev Src.ftlLock : Nat := 42

/-- Source 43, FTL_UNLOCK (R464). -/
abbrev Src.ftlUnlock : Nat := 43

/-- Source 44, OVERSPEED (R464). -/
abbrev Src.overspeed : Nat := 44

/-- Source 45, LINE_DROPPED (R464). -/
abbrev Src.lineDropped : Nat := 45

/-- Source 46, LINE_LATE (R464). -/
abbrev Src.lineLate : Nat := 46

/-- Source 47, ENC_LINE (R464). -/
abbrev Src.encLine : Nat := 47

/-- Source 48, ENC_ILLEGAL (R464). -/
abbrev Src.encIllegal : Nat := 48

/-- Source 49, ENG_READ_CHECK (R464). -/
abbrev Src.engReadCheck : Nat := 49

/-- Source 50, ENG_FAULT (R464). -/
abbrev Src.engFault : Nat := 50

/-- Source 51, ENG_BOTH_MISS (R464). -/
abbrev Src.engBothMiss : Nat := 51

/-- Source 52, SUP_MISMATCH (R464). -/
abbrev Src.supMismatch : Nat := 52

/-- Source 53, SUP_COPY_DIFF (R464). -/
abbrev Src.supCopyDiff : Nat := 53

/-- Source 54, SUP_FAILOVER (R464). -/
abbrev Src.supFailover : Nat := 54

/-- Source 55, SUP_ROLE (R464). -/
abbrev Src.supRole : Nat := 55

/-- Source 56, SUP_SWAP (R464). -/
abbrev Src.supSwap : Nat := 56

/-- Source 57, EGRESS_FAIL (R464). -/
abbrev Src.egressFail : Nat := 57

/-- Source 58, HEAD_READY (R464). -/
abbrev Src.headReady : Nat := 58

/-- Source 59, HEAD_REMOVED (R464). -/
abbrev Src.headRemoved : Nat := 59

/-- Source 60, HEAD_CHANGED (R464). -/
abbrev Src.headChanged : Nat := 60

/-- Source 61, HEAD_RECORD_BAD (R464). -/
abbrev Src.headRecordBad : Nat := 61

/-- Source 62, TP_CMD (R464). -/
abbrev Src.tpCmd : Nat := 62

/-- Source 63, TP_MAIL (R464). -/
abbrev Src.tpMail : Nat := 63

/-- Source 64, HEAD_HOT (R464). -/
abbrev Src.headHot : Nat := 64

/-- Source 65, HEAD_SENSOR_FAIL (R464). -/
abbrev Src.headSensorFail : Nat := 65

/-- Source 66, HEAD_SHORT (R464). -/
abbrev Src.headShort : Nat := 66

/-- Source 67, RAIL_FAULT (R464). -/
abbrev Src.railFault : Nat := 67

/-- Source 68, ECHO_SCALE (R464). -/
abbrev Src.echoScale : Nat := 68

/-- Source 69, ECHO_EXCESS (R464). -/
abbrev Src.echoExcess : Nat := 69

/-- Source 70, NZH_CONFIRM (R464). -/
abbrev Src.nzhConfirm : Nat := 70

/-- Source 71, SUBST_EXHAUSTED (R464). -/
abbrev Src.substExhausted : Nat := 71

/-- Source 72, CS_DONE (R464). -/
abbrev Src.csDone : Nat := 72

/-- Source 73, HEAD_WRITE_FAIL (R464). -/
abbrev Src.headWriteFail : Nat := 73

/-- Source 74, PND_CE (R464). -/
abbrev Src.pndCe : Nat := 74

/-- Source 75, PND_SPARES_OUT (R464). -/
abbrev Src.pndSparesOut : Nat := 75

/-- Source 76, CHK_SELFTEST (R464). -/
abbrev Src.chkSelftest : Nat := 76

/-- Source 77, THM_WARN (R464). -/
abbrev Src.thmWarn : Nat := 77

/-- Source 78, THM_THROTTLE (R464). -/
abbrev Src.thmThrottle : Nat := 78

/-- Source 79, THM_HOLD (R464). -/
abbrev Src.thmHold : Nat := 79

/-- Source 80, THM_SENSOR_FAIL (R464). -/
abbrev Src.thmSensorFail : Nat := 80

/-- Source 81, THM_SHUT_UNLISTED (R464). -/
abbrev Src.thmShutUnlisted : Nat := 81

/-- Source 82, CAL_DONE (R464). -/
abbrev Src.calDone : Nat := 82

/-- Source 83, CAL_FAIL (R464). -/
abbrev Src.calFail : Nat := 83

/-- Source 84, OTP_WEAK (R464). -/
abbrev Src.otpWeak : Nat := 84

/-- Source 85, OTP_CHECK (R464). -/
abbrev Src.otpCheck : Nat := 85

/-- Source 86, MOT_STALL (R464). -/
abbrev Src.motStall : Nat := 86

/-- Source 87, MOT_LIMIT (R464). -/
abbrev Src.motLimit : Nat := 87

/-- Source 88, MOT_HOME_FAIL (R464). -/
abbrev Src.motHomeFail : Nat := 88

/-- Source 89, MOT_FAULT (R464). -/
abbrev Src.motFault : Nat := 89

/-- Source 90, MOT_DONE (R464). -/
abbrev Src.motDone : Nat := 90

/-- Source 91, ENG_SELFTEST (R464). -/
abbrev Src.engSelftest : Nat := 91

/-- Source 96, READY_REACHED (R464). -/
abbrev Src.readyReached : Nat := 96

/-- Source 97, START_RETRY (R464). -/
abbrev Src.startRetry : Nat := 97

/-- Source 98, MGT_RESTART (R464). -/
abbrev Src.mgtRestart : Nat := 98

/-- Source 99, MGT_UPDATE (R464). -/
abbrev Src.mgtUpdate : Nat := 99

/-- Source 100, LOG_LOST (R464). -/
abbrev Src.logLost : Nat := 100

/-- Source 101, OTP_DONE (R464). -/
abbrev Src.otpDone : Nat := 101

/-- Source 102, AON_XTAL_LOST (R464). -/
abbrev Src.aonXtalLost : Nat := 102

/-- Source 103, WAKE (R464). -/
abbrev Src.wake : Nat := 103

/-- Source 104, PCIE_AER (R464). -/
abbrev Src.pcieAer : Nat := 104

/-- Source 105, LINK_CHANGE (R464). -/
abbrev Src.linkChange : Nat := 105

/-- Source 106, MBX_DONE (R464). -/
abbrev Src.mbxDone : Nat := 106

/-- Source 107, CLASS_LASTING (R464). -/
abbrev Src.classLasting : Nat := 107

/-- Source 108, EVT_TEST (R464). -/
abbrev Src.evtTest : Nat := 108

/-- Source 109, THM_SHUTDOWN (R464). -/
abbrev Src.thmShutdown : Nat := 109

/-- Source 110, RET_BAD (R464). -/
abbrev Src.retBad : Nat := 110

/-- Source 111, XIN_LOST (R464). -/
abbrev Src.xinLost : Nat := 111

/-- Error class 0, DMA_BUS (R474). -/
abbrev Cls.dmaBus : Fin 32 := 0

/-- Error class 1, DMA_CHECK (R474). -/
abbrev Cls.dmaCheck : Fin 32 := 1

/-- Error class 2, DMA_HALT (R474). -/
abbrev Cls.dmaHalt : Fin 32 := 2

/-- Error class 3, PND_ECC (R474). -/
abbrev Cls.pndEcc : Fin 32 := 3

/-- Error class 4, PND_UE (R474). -/
abbrev Cls.pndUe : Fin 32 := 4

/-- Error class 5, PND_UNDERRUN (R474). -/
abbrev Cls.pndUnderrun : Fin 32 := 5

/-- Error class 6, CHK_SELFTEST (R474). -/
abbrev Cls.chkSelftest : Fin 32 := 6

/-- Error class 7, LINK (R474). -/
abbrev Cls.link : Fin 32 := 7

/-- Error class 8, FTL_ENC (R474). -/
abbrev Cls.ftlEnc : Fin 32 := 8

/-- Error class 9, FTL_OVERSPEED (R474). -/
abbrev Cls.ftlOverspeed : Fin 32 := 9

/-- Error class 10, TRIG_ORPHAN (R474). -/
abbrev Cls.trigOrphan : Fin 32 := 10

/-- Error class 11, HP_EGRESS (R474). -/
abbrev Cls.hpEgress : Fin 32 := 11

/-- Error class 12, HP_I2C (R474). -/
abbrev Cls.hpI2c : Fin 32 := 12

/-- Error class 13, HP_PRESENCE (R474). -/
abbrev Cls.hpPresence : Fin 32 := 13

/-- Error class 14, HP_HOT (R474). -/
abbrev Cls.hpHot : Fin 32 := 14

/-- Error class 15, HP_SENSOR (R474). -/
abbrev Cls.hpSensor : Fin 32 := 15

/-- Error class 16, HDV_RAIL (R474). -/
abbrev Cls.hdvRail : Fin 32 := 16

/-- Error class 17, HDV_SHORT (R474). -/
abbrev Cls.hdvShort : Fin 32 := 17

/-- Error class 18, NZH_ECHO (R474). -/
abbrev Cls.nzhEcho : Fin 32 := 18

/-- Error class 19, NZH_MISSING (R474). -/
abbrev Cls.nzhMissing : Fin 32 := 19

/-- Error class 20, SUP_MISMATCH (R474). -/
abbrev Cls.supMismatch : Fin 32 := 20

/-- Error class 21, ENG_FAULT_A (R474). -/
abbrev Cls.engFaultA : Fin 32 := 21

/-- Error class 22, ENG_FAULT_B (R474). -/
abbrev Cls.engFaultB : Fin 32 := 22

/-- Error class 23, DOC_FAULT (R474). -/
abbrev Cls.docFault : Fin 32 := 23

/-- Error class 24, MOT_STALL (R474). -/
abbrev Cls.motStall : Fin 32 := 24

/-- Error class 25, MOT_BRIDGE (R474). -/
abbrev Cls.motBridge : Fin 32 := 25

/-- Error class 26, MOT_LIMIT (R474). -/
abbrev Cls.motLimit : Fin 32 := 26

/-- Error class 27, THM_SENSOR (R474). -/
abbrev Cls.thmSensor : Fin 32 := 27

/-- Error class 28, CAL_FAIL (R474). -/
abbrev Cls.calFail : Fin 32 := 28

/-- Error class 29, OTP_WEAK (R474). -/
abbrev Cls.otpWeak : Fin 32 := 29

/-- Error class 30, MGT_WATCHDOG (R474). -/
abbrev Cls.mgtWatchdog : Fin 32 := 30

/-- Error class 31, FLASH (R474). -/
abbrev Cls.flash : Fin 32 := 31

/-- Bit 0 of the transport port's EVENTS, FAULT (R328). -/
abbrev Tpf.fault : Nat := 0

/-- Bit 1 of the transport port's EVENTS, DONE (R328). -/
abbrev Tpf.done : Nat := 1

/-- Bit 2 of the transport port's EVENTS, ORPHAN (R328). -/
abbrev Tpf.orphan : Nat := 2

/-- Bit 3 of the transport port's EVENTS, CMD_DONE (R328). -/
abbrev Tpf.cmdDone : Nat := 3

/-- Bit 4 of the transport port's EVENTS, CMD_CANCELLED (R328). -/
abbrev Tpf.cmdCancelled : Nat := 4

/-- Bit 5 of the transport port's EVENTS, STATE (R328). -/
abbrev Tpf.state : Nat := 5

/-- Bit 6 of the transport port's EVENTS, HOLD (R328). -/
abbrev Tpf.hold : Nat := 6

/-- Bit 7 of the transport port's EVENTS, SPEED (R328). -/
abbrev Tpf.speed : Nat := 7

/-- Bit 8 of the transport port's EVENTS, MAIL (R328). -/
abbrev Tpf.mail : Nat := 8

/-- Bit 9 of the transport port's EVENTS, ROUTER (R328). -/
abbrev Tpf.router : Nat := 9

/-- Bit 10 of the transport port's EVENTS, FAULT_LOST (R328). -/
abbrev Tpf.faultLost : Nat := 10

end Sys2Proof.Machine
end

