-- ==== Sys2Proof/Machine/Bits.lean ====
section
/-! DEFINITION. Bit fields, saturating counters, byte order, CRC-32C (R41, R42) and the grid of time. -/

namespace Sys2Proof.Machine

/-- `w` with bit `i` set. -/
def setBit {n : Nat} (w : BitVec n) (i : Nat) : BitVec n := w ||| (1#n <<< i)

/-- `w` with bit `i` clear. -/
def clearBit {n : Nat} (w : BitVec n) (i : Nat) : BitVec n := w &&& ~~~(1#n <<< i)

/-- `w` with bit `i` as given. -/
def putBit {n : Nat} (w : BitVec n) (i : Nat) (v : Bool) : BitVec n := if v then setBit w i else clearBit w i

/-- A counter that saturates at all ones. -/
def satInc {n : Nat} (w : BitVec n) : BitVec n := if w = BitVec.allOnes n then w else w + 1

/-- A saturating counter counts `k`. -/
def satAdd {n : Nat} (w : BitVec n) (k : Nat) : BitVec n :=
  if w.toNat + k < 2 ^ n then BitVec.ofNat n (w.toNat + k) else BitVec.allOnes n

/-- A natural number in an `n`-bit field that saturates. -/
def satNat (n k : Nat) : BitVec n := if k < 2 ^ n then BitVec.ofNat n k else BitVec.allOnes n

/-- 1 for true. -/
def b2n (b : Bool) : Nat := if b then 1 else 0

/-- A flag at bit `i` of a word. -/
def flagAt (b : Bool) (i : Nat) : Word := if b then 1#32 <<< i else 0

/-- A field value placed at bit `i` of a word. -/
def fieldAt {n : Nat} (v : BitVec n) (i : Nat) : Word := v.setWidth 32 <<< i

/-- Number of bits set among the low `n`. -/
def popCount {n : Nat} (w : BitVec n) : Nat := ((List.range n).filter fun i => w.getLsbD i).length

/-- The bits set, in ascending order. -/
def bitsOf {n : Nat} (w : BitVec n) : List Nat := (List.range n).filter fun i => w.getLsbD i

/-- The ports of a mask, in ascending order. -/
def portsOf (m : BitVec 16) : List Port := (List.finRange 16).filter fun p => m.getLsbD p.val

/-- Byte `i` of a byte list; 0 beyond its end. -/
def byteAt (l : List Byte) (i : Nat) : Byte := l.getD i 0

/-- A little-endian field of `n` bytes at offset `off`, as a number. -/
def leNat (l : List Byte) (off : Nat) : Nat → Nat
  | 0 => 0
  | n + 1 => (byteAt l off).toNat + 256 * leNat l (off + 1) n

/-- A little-endian 16-bit field. -/
def le16 (l : List Byte) (off : Nat) : Half := BitVec.ofNat 16 (leNat l off 2)

/-- A little-endian 32-bit field. -/
def le32 (l : List Byte) (off : Nat) : Word := BitVec.ofNat 32 (leNat l off 4)

/-- A little-endian 64-bit field. -/
def le64 (l : List Byte) (off : Nat) : DWord := BitVec.ofNat 64 (leNat l off 8)

/-- The `n` little-endian bytes of a number. -/
def toLe : Nat → Nat → List Byte
  | 0, _ => []
  | n + 1, v => BitVec.ofNat 8 v :: toLe n (v / 256)

/-- The bytes from offset `off`, `n` of them. -/
def slice (l : List Byte) (off n : Nat) : List Byte := (l.drop off).take n

/-- One bit step of the reflected CRC-32C register (R41). -/
def crcBit (r : Word) : Word := if r.getLsbD 0 then (r >>> 1) ^^^ 0x82F63B78#32 else r >>> 1

/-- One byte of the CRC-32C register. -/
def crcByte (r : Word) (b : Byte) : Word :=
  crcBit (crcBit (crcBit (crcBit (crcBit (crcBit (crcBit (crcBit (r ^^^ b.setWidth 32))))))))

/-- The CRC-32C register after a byte stream, from the register `r`. -/
def crcFrom (r : Word) (l : List Byte) : Word := l.foldl crcByte r

/-- CRC-32C with the parameters of R41. -/
def crc32c (l : List Byte) : Word := crcFrom 0xFFFFFFFF#32 l ^^^ 0xFFFFFFFF#32

/-- The fold block of R40 on channel `n`. -/
def foldBlock (n : Nat) (doc line : Word) : List Byte :=
  toLe 4 n ++ toLe 4 doc.toNat ++ toLe 4 line.toNat ++ toLe 4 2

/-! ## The DEC-TED code (R117, R396) -/

/-- The sums of two distinct entries of a list. -/
def pairSums : List (BitVec 14) → List (BitVec 14)
  | [] => []
  | x :: xs => xs.map (x ^^^ ·) ++ pairSums xs

/-- No number occurs twice, nor among those seen before, which are the bits of `seen`. -/
def allFresh : Nat → List Nat → Bool
  | _, [] => true
  | seen, x :: xs => !seen.testBit x && allFresh (seen ||| 1 <<< x) xs

/-- Check bits `c` for the data bits make a code that corrects two errors and, with the overall parity bit, detects three (R117): the sums of
at most two columns of its parity check are all different. -/
def isDecTed (c : Nat → BitVec 14) : Bool :=
  let cols := (List.range 64).map c ++ (List.range 14).map fun i => 1#14 <<< i
  allFresh 0 ((0 :: cols ++ pairSums cols).map (·.toNat))

/-- Such a code: the shortened BCH code of (x⁷ + x³ + 1)(x⁷ + x³ + x² + x + 1). -/
def bchSample : Nat → BitVec 14
  | 0 => 0x377
  | i + 1 => let c := bchSample i; if c.msb then c <<< 1 ^^^ 0x377 else c <<< 1

/-- The free code of log entry 7 has the property of R117. -/
def freeBchFits : Bool := isDecTed Config.bchColumn

/-- The check bits that data bit `i` contributes: any that make a code with the property of R117 (DESIGN CHOICE, log entry 7). -/
def bchColumn (i : Nat) : BitVec 14 := if freeBchFits then Config.bchColumn i else bchSample i

/-- The 14 check bits of a data word: the code is linear. -/
def bchCheck (d : DWord) : BitVec 14 :=
  (List.range 64).foldl (fun c i => if d.getLsbD i then c ^^^ bchColumn i else c) 0

/-- The 79 bits of a word (R117): data from bit 0, then check bits, then the overall parity bit, which makes the number of ones even
(DEDUCED, log entry 7). -/
def eccEncode (d : DWord) : BitVec 79 :=
  let w : BitVec 78 := bchCheck d ++ d
  (BitVec.ofBool (popCount w % 2 == 1) ++ w : BitVec 79)

/-- The bits form a codeword. -/
def isCodeword (w : BitVec 79) : Bool := eccEncode (w.setWidth 64) == w

/-- A word with bit `i` inverted. -/
def flipBit (w : BitVec 79) (i : Nat) : BitVec 79 := w ^^^ (1#79 <<< i)

/-- The decoder (R117): the data and the number of bits corrected, at most two; none for an uncorrectable word. -/
def eccDecode (w : BitVec 79) : Option (DWord × Nat) :=
  if isCodeword w then some (w.setWidth 64, 0)
  else match (List.range 79).find? fun i => isCodeword (flipBit w i) with
    | some i => some ((flipBit w i).setWidth 64, 1)
    | none => (List.range 79).findSome? fun i =>
      ((List.range i).find? fun j => isCodeword (flipBit (flipBit w i) j)).map fun j => ((flipBit (flipBit w i) j).setWidth 64, 2)

/-- Microseconds in grid units (8,000 to the µs). -/
def usGrid (us : Nat) : Nat := us * 8000

/-- Milliseconds in grid units. -/
def msGrid (ms : Nat) : Nat := ms * 8000000

/-- Ceiling of a quotient. -/
def ceilDiv (a b : Nat) : Nat := (a + b - 1) / b

/-- A quotient held to a step whose rounding the spec leaves open: exact where it is whole (log entry 12). -/
def heldQuot (a b : Nat) : Nat := a / b + (if a % b = 0 then 0 else if Config.roundUp a b then 1 else 0)

/-- A signed quotient held to a step, as `heldQuot` for its magnitude. -/
def heldInt (a : Int) (b : Nat) : Int := if a < 0 then -(heldQuot a.natAbs b : Int) else heldQuot a.natAbs b

/-- Rounding to nearest, halves up, for nonnegative numbers. -/
def roundDiv (a b : Nat) : Nat := (2 * a + b) / (2 * b)

/-- Signed number of a two's complement field. -/
def toI {n : Nat} (w : BitVec n) : Int := w.toInt

/-- Insert into a list in ascending order of a key, after equal keys. -/
def insertBy {α : Type} (key : α → Nat) (x : α) : List α → List α
  | [] => [x]
  | y :: l => if key x < key y then x :: y :: l else y :: insertBy key x l

/-- A list in ascending order of a key; equal keys keep their order. -/
def sortBy {α : Type} (key : α → Nat) (l : List α) : List α := l.foldl (fun acc x => insertBy key x acc) []

/-- Padded packet length (R36). -/
def pktLen (payload : Nat) : Nat := 32 * ceilDiv (20 + payload) 32

/-- The smallest `k` from `lo` to `hi` for which a monotone test holds; `hi` if none does. -/
def leastFrom (f : Nat → Bool) : Nat → Nat → Nat → Nat
  | 0, lo, _ => lo
  | fuel + 1, lo, hi =>
    if lo < hi then
      let mid := (lo + hi) / 2
      if f mid then leastFrom f fuel lo mid else leastFrom f fuel (mid + 1) hi
    else lo

/-- 2⁶⁴ ÷ odd powers: the sum of z^(2i+1)/(2i+1) for the next `n` terms, from the term `t` = z^(2i+1), all in 2⁻⁶⁴. -/
def atanhSum (z2 : Nat) : Nat → Nat → Nat → Nat
  | 0, _, _ => 0
  | n + 1, i, t => t / (2 * i + 1) + atanhSum z2 n (i + 1) (t * z2 / 18446744073709551616)

/-- The natural logarithm of `a / b` in 2⁻⁶⁴, by ln x = 2 artanh ((x − 1)/(x + 1)) and powers of two, to within 2⁻⁵⁰. -/
def lnQuot (a b : Nat) : Int :=
  let k : Int := (Nat.log2 a : Int) - Nat.log2 b
  let (a, b) := if 0 ≤ k then (a, b * 2 ^ k.toNat) else (a * 2 ^ (-k).toNat, b)
  let z := (max a b - min a b) * 18446744073709551616 / (a + b)
  let m : Int := 2 * atanhSum (z * z / 18446744073709551616) 34 0 z
  (if a < b then -m else m) + k * 12786308645202655660

end Sys2Proof.Machine
end

