-- ==== Sys2Proof/Machine/Ops.lean ====
section
/-! DEFINITION. The operations every block shares: time, events and error classes (R464 to R478), the log queue (R444), the
transport port's flags (R328), device states (R30) and writes to the outside. -/

namespace Sys2Proof.Machine

/-! ## Time -/

/-- Time in µs (R470). -/
def usNow (s : State) : Nat := s.now / 8000

/-- The 48-bit RTC count (R432): 32,768 periods per second of 8 × 10⁹ grid units. -/
def rtcNow (s : State) : BitVec 48 := s.pwr.rtcBase + BitVec.ofNat 48 (s.now * 4096 / 1000000000)

/-- The clock advances to a due time, never backwards (log entry 1). -/
def advanceTo (t : Nat) (s : State) : State := { s with now := max s.now t }

/-- The clock reaches the next tick of a period of `p` grid units (log entry 1). -/
def tickTo (p : Nat) (s : State) : State := { s with now := (s.now / p + 1) * p }

/-- The next free value's index, and the counter moved on (log entry 3). -/
def nextFree (s : State) : Nat × State := (s.free, { s with free := s.free + 1 })

/-! ## Writes to the outside -/

/-- A posted write to host memory (R76). -/
def hostWrite (addr : DWord) (data : List Byte) (s : State) : State :=
  { s with out := { s.out with host := (addr, data) :: s.out.host } }

/-- An answer on the configuration, SMBus or UART port. -/
def reply (data : List Byte) (s : State) : State :=
  { s with out := { s.out with replies := data :: s.out.replies } }

/-- A running scan of region `src` whose range meets the bytes [lo, hi) written there is RACED (R159). -/
def raceRegion (src lo hi : Nat) (u : ChkUnit) : ChkUnit :=
  if u.state = .running ∧ (u.cfg.toNat / 512) % 4 = 0 ∧ (u.cfg.toNat / 65536) % 256 = src ∧
      max u.start.toNat lo < min (u.start.toNat + u.length.toNat) hi
  then { u with raced := true } else u

/-- Every running scan takes note of bytes written in a region outside the pond. -/
def noteRegion (src lo hi : Nat) (s : State) : State :=
  { s with chk := { s.chk with units := s.chk.units.map (raceRegion src lo hi) } }

/-- First byte that a flash operation changes, and the one past the last. -/
def flashSpan : FlashOp → Nat × Nat
  | .erase off len => (off, off + len)
  | .program off data => (off, off + data.length)

/-- A flash operation (R446); a scan of the bytes it changes is RACED (R159). -/
def flashOp (op : FlashOp) (s : State) : State :=
  noteRegion 0x14 (flashSpan op).1 (flashSpan op).2 { s with out := { s.out with flash := op :: s.out.flash } }

/-! ## Event sources -/

/-- Raise a source (R466): its pending bit is set, and `settle` routes it at the end of the command, once however
often the command raised it (R465). -/
def raise (src : Nat) (s : State) : State :=
  { s with evt := { s.evt with pend := setBit s.evt.pend src, raised := setBit s.evt.raised src } }

/-- Set a flag of the transport port's EVENTS. -/
def tpFlag (i : Nat) (s : State) : State :=
  { s with tpt := { s.tpt with events := setBit s.tpt.events i } }

/-! ## The log queue -/

/-- Queue a log record in the FIFO of 512 (R444); SEQ is given when it is written. A record that finds the FIFO full
is lost, counted, and reported once the firmware runs. -/
def pushLog (type aux : BitVec 8) (payload : List Byte) (s : State) : State :=
  if s.mgt.fifo.length < 512 then
    { s with mgt := { s.mgt with
        fifo := s.mgt.fifo ++ [⟨0, rtcNow s, type, aux, payload⟩] } }
  else { s with mgt := { s.mgt with lost := satInc s.mgt.lost, lostEvent := true } }

/-! ## Error classes -/

/-- Events less than `win` µs old (R470). -/
def inWindow (times : List Nat) (now win : Nat) : Nat := (times.filter fun t => now < t + win).length

/-- IN_WINDOW of a class, saturating (R478). -/
def classInWindow (c : Fin 32) (s : State) : Nat :=
  min 255 (inWindow s.evt.classes[c].times (usNow s) (s.evt.cfg[c].window.toNat * 1000))

/-- The class's EVT.LASTING bit. -/
def isLasting (c : Fin 32) (s : State) : Bool := s.evt.lasting.getLsbD c.val

/-- Set PND.CTL.ADMIT_HOLD, as HOLD_ADMIT does (R331). -/
def setAdmitHold (v : Bool) (s : State) : State := { s with pond := { s.pond with admitHold := v } }

/-- The class's ACTION at an escalation (R472): ACTION 2 is noted, and `settle` finds the clock of R473. -/
def escalate (c : Fin 32) (s : State) : State :=
  if s.evt.cfg[c].action = 1 then setAdmitHold true s
  else if s.evt.cfg[c].action = 2 then { s with evt := { s.evt with actDue := setBit s.evt.actDue c.val } }
  else s

/-- The class's LASTING bit was written with 1 in this clock: whether the bit was set, and the window before the write (R471). -/
def clearedNow (c : Fin 32) (s : State) : Option (Bool × List Nat) :=
  match s.evt.classes[c].cleared with
  | some (t, was, old) => if t = s.now then some (was, old) else none
  | none => none

/-- One event of a class (R470 to R472). An event in the clock of a write that clears the class is judged by the window before that write
(R471). -/
def countClass (c : Fin 32) (s : State) : State :=
  let cfg := s.evt.cfg[c]
  let k := s.evt.classes[c]
  let clr := clearedNow c s
  let win := (usNow s :: (match clr with | some r => r.2 | none => k.times)).take cfg.threshold.toNat
  let hit := decide (cfg.threshold.toNat ≤ inWindow win (usNow s) (cfg.window.toNat * 1000))
  let s := { s with evt := { s.evt with
    classes := s.evt.classes.set c.val { k with
      times := if clr.isSome then [] else win, total := satInc k.total, hitAt := if hit then some s.now else k.hitAt
      cleared := clr.map fun r => (s.now, r.1, win) } } }
  if isLasting c s then escalate c s
  else if hit then
    let s := { s with evt := { s.evt with lasting := setBit s.evt.lasting c.val } }
    escalate c (if (match clr with | some r => r.1 | none => false) then s else raise Src.classLasting s)
  else s

/-- A write of 1 to the class's LASTING bit (R471): the window is emptied, and the bit clears unless an event reached THRESHOLD in this
clock. -/
def clearClass (c : Fin 32) (s : State) : State :=
  let k := s.evt.classes[c]
  let kept := isLasting c s && k.hitAt == some s.now
  { s with evt := { s.evt with
    lasting := if kept then s.evt.lasting else clearBit s.evt.lasting c.val
    actDue := if kept then s.evt.actDue else clearBit s.evt.actDue c.val
    classes := s.evt.classes.set c.val { k with times := [], cleared := some (s.now, isLasting c s, k.times) } } }

/-- `n` events of a class in one clock. -/
def countClassN (c : Fin 32) : Nat → State → State
  | 0, s => s
  | n + 1, s => countClassN c n (countClass c s)

/-- The error class an EVENT record names for a source; none for a source without one (R469; log entry 10). -/
def sourceClass (src : Nat) (s : State) : Option (Fin 32) :=
  match src with
  | 20 => some Cls.dmaHalt
  | 24 | 26 => some Cls.dmaCheck
  | 28 => some Cls.pndUe
  | 29 => some Cls.pndUnderrun
  | 32 => some Cls.docFault
  | 36 => some Cls.trigOrphan
  | 43 | 48 => some Cls.ftlEnc
  | 44 => some Cls.ftlOverspeed
  | 50 => s.evt.engClass
  | 52 | 53 => some Cls.supMismatch
  | 57 => some Cls.hpEgress
  | 59 => some Cls.hpPresence
  | 64 => some Cls.hpHot
  | 65 => some Cls.hpSensor
  | 66 => some Cls.hdvShort
  | 67 => some Cls.hdvRail
  | 69 => some Cls.nzhEcho
  | 70 => some Cls.nzhMissing
  | 74 => some Cls.pndEcc
  | 76 => some Cls.chkSelftest
  | 80 => some Cls.thmSensor
  | 83 => some Cls.calFail
  | 84 => some Cls.otpWeak
  | 86 => some Cls.motStall
  | 87 => some Cls.motLimit
  | 89 => some Cls.motBridge
  | 98 => if s.mgt.byWatchdog then some Cls.mgtWatchdog else none
  | 104 => s.evt.aerClass
  | _ => none

/-! ## Routing -/

/-- A vector is masked by its own bit or by the function mask (R467). -/
def vecMasked (v : Fin 128) (s : State) : Bool := s.link.funcMask || s.evt.table[v].masked

/-- Send a message on a vector and start its holdoff (R467). -/
def sendMsi (v : Fin 128) (s : State) : State :=
  { s with
    evt := { s.evt with pba := clearBit s.evt.pba v.val, held := clearBit s.evt.held v.val,
                        holdEnd := s.evt.holdEnd.set v.val (some (s.now + usGrid s.evt.holdoff.toNat)) }
    out := { s.out with msi := v :: s.out.msi } }

/-- The vector's holdoff still runs. -/
def holdingOff (v : Fin 128) (s : State) : Bool :=
  match s.evt.holdEnd[v] with
  | some t => decide (s.now < t)
  | none => false

/-- Request a message on a vector (R467). -/
def requestMsi (v : Fin 128) (s : State) : State :=
  if !(s.link.msixEn && s.link.busMaster) then s
  else if vecMasked v s then { s with evt := { s.evt with pba := setBit s.evt.pba v.val } }
  else if holdingOff v s then { s with evt := { s.evt with held := setBit s.evt.held v.val } }
  else sendMsi v s

/-- The EVENT log record of a raise, at most one in 10 ms per source (R469). -/
def logEvent (src : Fin 128) (s : State) : State :=
  let due := match s.evt.lastLog[src] with
    | some t => decide (t + msGrid 10 ≤ s.now)
    | none => true
  if s.evt.logEn.getLsbD src.val && due then
    let (cls, n) := match sourceClass src.val s with
      | some c => (c.val, inWindow s.evt.classes[c].times (usNow s) (s.evt.cfg[c].window.toNat * 1000))
      | none => (0xFF, 0)
    pushLog 0x04 (BitVec.ofNat 8 (src.val / 32)) (toLe 1 (src.val % 32) ++ toLe 1 cls ++ toLe 4 n)
      { s with evt := { s.evt with lastLog := s.evt.lastLog.set src.val (some s.now) } }
  else s

/-- Route one raised source: message, transport-port flag, log (R467 to R469). -/
def routeOne (src : Fin 128) (s : State) : State :=
  let s := if s.evt.msiEn.getLsbD src.val
    then requestMsi ⟨s.evt.vec[src].toNat, s.evt.vec[src].isLt⟩ s else s
  let s := if s.evt.tpEn.getLsbD src.val then tpFlag Tpf.router s else s
  logEvent src s

/-- Route every source raised by the command (R465). -/
def routeAll (s : State) : State :=
  if s.evt.raised = 0 then s
  else
    let s := (List.finRange 128).foldl
      (fun s src => if s.evt.raised.getLsbD src.val then routeOne src s else s) s
    { s with evt := { s.evt with raised := 0 } }

/-! ## Device states -/

/-- Code of a device state (R30). -/
def devCode : DevState → Nat
  | .off => 0 | .standby => 1 | .sleep => 2 | .boot => 3 | .resetHold => 4 | .ready => 5
  | .print => 6 | .gap => 7 | .maint => 8 | .calib => 9 | .thermalHold => 10 | .safeHold => 11

/-- Change the device state (R30): the count, STATE_CHANGE, the STATE record and the transport port's flag. -/
def setState (st : DevState) (s : State) : State :=
  if st = s.top.state then s
  else
    let prev := s.top.state
    let s := { s with top := { s.top with state := st, prev := prev, changes := s.top.changes + 1 } }
    pushLog 0x02 (BitVec.ofNat 8 (devCode st)) (toLe 1 (devCode prev))
      (tpFlag Tpf.state (raise Src.stateChange s))

/-- Count an ignored write (R5). -/
def countIgnored (s : State) : State :=
  { s with top := { s.top with ignored := satInc s.top.ignored } }

/-- Any document is in progress (R4): an entry of the document table that has been admitted. -/
def docInProgress (s : State) : Bool := s.docs.any fun d => d.admitted

/-- The management firmware can act. -/
def fwRuns (s : State) : Bool := s.mgt.running && !s.mgt.restarting

/-- The port's outputs have left the fixed levels of reset: from 1 µs after reset release on (R326). -/
def portOpen (s : State) : Bool := s.pwr.released && decide (s.pwr.releasedAt + usGrid 1 ≤ s.now)

end Sys2Proof.Machine
end

