-- ==== Sys2Proof/Machine/Profiles.lean ====
section
/-! DEFINITION. Head records (R242), print profiles and energy blocks (R224), strobe widths (R213), column delays (R210,
R246), the line period and the rate limits (R220, R221), and the matching of a head with a profile (R245). -/

namespace Sys2Proof.Machine

/-! ## The head record (R242) -/

/-- Bit 0 of CLASS_COLS: a class L head. -/
def recClassL (r : List Byte) : Bool := (byteAt r 16).getLsbD 0
/-- COLS. -/
def recCols (r : List Byte) : Nat := ((byteAt r 16).toNat / 2) % 4
/-- ORIENT: true if column B meets the medium first. -/
def recOrient (r : List Byte) : Bool := (byteAt r 16).getLsbD 3
/-- SHIFT_DIR: true for last nozzle first. -/
def recShiftDir (r : List Byte) : Bool := (byteAt r 16).getLsbD 4
/-- TWO_BIT. -/
def recTwoBit (r : List Byte) : Bool := (byteAt r 16).getLsbD 5
/-- Resistance rank. -/
def recRank (r : List Byte) : Nat := (byteAt r 17).toNat % 16
/-- Supply-voltage rank. -/
def recVRank (r : List Byte) : Nat := ((byteAt r 17).toNat / 16) % 8
/-- A. -/
def recAddrs (r : List Byte) : Nat := (byteAt r 18).toNat
/-- PRIMS. -/
def recPrims (r : List Byte) : Nat := (byteAt r 19).toNat
/-- N. -/
def recNozzles (r : List Byte) : Nat := leNat r 20 2
/-- ASTRIDE. -/
def recAstride (r : List Byte) : Nat := (byteAt r 22).toNat
/-- OSTEP. -/
def recOstep (r : List Byte) : Nat := (byteAt r 23).toNat
/-- COL_SPACING in 0.1 µm. -/
def recColSpacing (r : List Byte) : Nat := leNat r 24 2
/-- LANE_MAX in Mbit/s. -/
def recLaneMax (r : List Byte) : Nat := (byteAt r 28).toNat
/-- TLIM in °C. -/
def recTlim (r : List Byte) : Nat := (byteAt r 29).toNat
/-- TH_R25. -/
def recR25 (r : List Byte) : Nat := leNat r 30 2
/-- TH_BETA. -/
def recBeta (r : List Byte) : Nat := leNat r 32 2
/-- REDUND. -/
def recRedund (r : List Byte) : Nat := (byteAt r 34).toNat
/-- DEAD_COUNT. -/
def recDeadCount (r : List Byte) : Nat := (byteAt r 35).toNat
/-- DEAD entry `i`. -/
def recDead (r : List Byte) (i : Nat) : Nat := leNat r (36 + 2 * i) 2
/-- USAGE. -/
def recUsage (r : List Byte) : Word := le32 r 68
/-- SERIAL. -/
def recSerial (r : List Byte) : DWord := le64 r 8

/-- One bit step of CRC-16/CCITT-FALSE (R243). -/
def crc16Bit (c : Half) : Half := if c.getLsbD 15 then (c <<< 1) ^^^ 0x1021#16 else c <<< 1

/-- One byte of CRC-16/CCITT-FALSE. -/
def crc16Byte (c : Half) (b : Byte) : Half :=
  crc16Bit (crc16Bit (crc16Bit (crc16Bit (crc16Bit (crc16Bit (crc16Bit (crc16Bit
    (c ^^^ (b.setWidth 16 <<< 8)))))))))

/-- The check of a head record (R243): over the serial number and bytes 0 to 125. -/
def recordCrc (r : List Byte) : Half :=
  (slice r 8 8 ++ slice r 0 126).foldl crc16Byte 0xFFFF#16

/-- A copy of the head record is valid (R241, R242). -/
def recordValid (r : List Byte) : Bool :=
  let a := recAddrs r
  let pr := recPrims r
  let n := recNozzles r
  let cols := recCols r
  decide (r.length = 128) && le16 r 0 == 0xA552#16 && byteAt r 2 == 1#8 &&
  !(recSerial r == 0) && !(recSerial r == BitVec.allOnes 64) &&
  (cols == 1 || cols == 2) && byteAt r 16 < 0x40#8 && byteAt r 17 < 0x80#8 &&
  (if recClassL r then a == 0 && pr == 0 && decide (4 ≤ n) && decide (n ≤ 2048) && n % 4 == 0
   else decide (1 ≤ a) && decide (a ≤ 32) && decide (1 ≤ pr) && decide (pr ≤ 64) &&
     (cols == 1 || pr % 2 == 0) && n == a * pr &&
     (if a == 1 then recAstride r == 1 && recOstep r == 1
      else Nat.gcd (recAstride r) a == 1 && Nat.gcd (recOstep r) a == 1)) &&
  (cols == 2 || recColSpacing r == 0) &&
  decide (30 ≤ recTlim r) && decide (recTlim r ≤ 90) &&
  decide (100 ≤ recR25 r) && decide (recR25 r ≤ 50000) &&
  decide (2000 ≤ recBeta r) && decide (recBeta r ≤ 6000) &&
  decide (recRedund r ≤ 1) && decide (recDeadCount r ≤ 16) &&
  ((List.range 16).all fun i =>
    if i < recDeadCount r then decide (recDead r i < n) else recDead r i == 0xFFFF) &&
  ((slice r 88 38).all fun b => b == 0) && le16 r 126 == recordCrc r

/-! ## Energy blocks (R224) -/

/-- b. -/
def ebBpn (e : EnergyBlock) : Nat := (e[0].toNat) % 4
/-- MODE 1: history. -/
def ebHist (e : EnergyBlock) : Bool := e[0].getLsbD 4
/-- C. -/
def ebClasses (e : EnergyBlock) : Nat := (e[0].toNat / 32) % 8
/-- D. -/
def ebDepth (e : EnergyBlock) : Nat := (e[0].toNat / 256) % 8
/-- GAP in 2 ns. -/
def ebGap (e : EnergyBlock) : Nat := e[1].toNat % 4096
/-- GUARD in 2 ns. -/
def ebGuard (e : EnergyBlock) : Nat := e[1].toNat / 65536
/-- CLASS_MAP entry. -/
def ebClassMap (e : EnergyBlock) (h : Nat) : Nat := (e[2].toNat / 4 ^ h) % 4
/-- WS_MAP code of class `c`, value `v` (1 to 3). -/
def ebWs (e : EnergyBlock) (c v : Nat) : Nat := (e[3].toNat / 2 ^ (6 * c + 2 * v - 2)) % 4
/-- TRIG in 2 ns. -/
def ebTrig (e : EnergyBlock) : Nat := e[4].toNat % 4096
/-- LMIN in 2 ns. -/
def ebLmin (e : EnergyBlock) : Nat := e[4].toNat / 65536
/-- BASE[j] in 2 ns. -/
def ebBase (e : EnergyBlock) (j : Nat) : Nat :=
  let w := if j < 2 then e[5].toNat else e[6].toNat
  if j % 2 = 0 then w % 4096 else (w / 65536) % 4096
/-- Entry `i` of a pair table that begins at word `w0`. -/
def ebPair (e : EnergyBlock) (w0 i : Nat) : Nat :=
  let w := (e.toList.getD (w0 + i / 2) 0).toNat
  if i % 2 = 0 then w % 65536 else w / 65536
/-- RANK_SCALE[r]. -/
def ebRank (e : EnergyBlock) (r : Nat) : Nat := ebPair e 8 r
/-- TEMP_SCALE[i]. -/
def ebTemp (e : EnergyBlock) (i : Nat) : Nat := ebPair e 16 i
/-- The largest TEMP_SCALE entry. -/
def ebTempMax (e : EnergyBlock) : Nat := ((List.range 16).map (ebTemp e)).foldl max 0

/-- Largest plane count the profile can require: C with a class table, else 1 (R221). -/
def ebPmax (e : EnergyBlock) : Nat := max 1 (ebClasses e)

/-- A written PROFILE word lies in range (R224): field by field. -/
def energyWordOk (i : Nat) (w : Word) : Bool :=
  let v := w.toNat
  let pair (lo hi : Nat) (x : Nat) := decide (lo ≤ x) && decide (x ≤ hi)
  if i = 0 then
    pair 1 2 (v % 4) && (v / 32 % 8 == 0 || pair 2 4 (v / 32 % 8)) && decide (v / 256 % 8 ≤ 4)
  else if i = 1 then pair 250 65535 (v / 65536) && pair 100 4095 (v % 4096)
  else if i = 4 then pair 100 2500 (v % 4096)
  else if i = 5 ∨ i = 6 then pair 100 2500 (v % 4096) && pair 100 2500 (v / 65536 % 4096)
  else if 8 ≤ i ∧ i < 24 then pair 2048 8192 (v % 65536) && pair 2048 8192 (v / 65536)
  else true

/-! ## Widths (R213) -/

/-- ts(t) for a head temperature in 1/16 °C. -/
def tempScale (e : EnergyBlock) (t : Int) : Nat :=
  if t < 0 then ebTemp e 0
  else if 1200 ≤ t then ebTemp e 15
  else
    let i := (t / 80).toNat
    let r := t % 80
    let a : Int := ebTemp e i
    let b : Int := ebTemp e (i + 1)
    (a + (b - a) * r / 80).toNat

/-- The width before its clamp. -/
def widthRaw (e : EnergyBlock) (j rank ts : Nat) : Nat :=
  (ebBase e j * ebRank e rank * ts + 2 ^ 23) / 2 ^ 24

/-- n_j of R213. -/
def strobeWidth (e : EnergyBlock) (j rank ts : Nat) : Nat := min (max (widthRaw e j rank ts) 100) 2500

/-! ## Column delays (R210, R246) -/

/-- Lead column, n and φ from the two column delays: lag column is A, n, φ. -/
def leadLag (dlyA dlyB : Nat) : Bool × Nat × Nat :=
  let d := if dlyA ≤ dlyB then dlyB - dlyA else dlyA - dlyB
  (decide (dlyB < dlyA), d / 256, d % 256)

/-- Δ of R246: COL_SPACING in 0.1 µm against the dot pitch in pm. -/
def derivedDelta (spacing dotPitch : Nat) : Nat := roundDiv (256 * spacing * 100000) dotPitch

/-- The column delays of a port for a head: the profile's, or derived from its record (R246). -/
def colDelays (pf : Profile) (pp : ProfPort) (r : List Byte) : Nat × Nat :=
  let a := pp.dlyA.toNat
  let b := pp.dlyB.toNat
  if pp.derived && pp.cols == 2 then
    let d := derivedDelta (recColSpacing r) pf.dotPitch
    if recOrient r then (b + d, b) else (a, a + d)
  else (a, b)

/-- n and φ of a port: 0 for a one-column head. -/
def portLag (pf : Profile) (pp : ProfPort) (r : List Byte) : Bool × Nat × Nat :=
  if pp.cols == 2 then
    let (a, b) := colDelays pf pp r
    leadLag a b
  else (false, 0, 0)

/-! ## Profiles (R222, R245) -/

/-- WS_MAP entries in use are not 0 (R216). -/
def wsOk (e : EnergyBlock) : Bool :=
  (List.range (ebPmax e)).all fun c =>
    (List.range (2 ^ ebBpn e - 1)).all fun v => ebWs e c (v + 1) != 0

/-- The profile is valid (R222). -/
def profileValid (pf : Profile) (e : EnergyBlock) : Bool :=
  let c := ebClasses e
  !(ebHist e && c == 0) && !(c != 0 && ebDepth e == 0) &&
  (c == 0 || (List.range (2 ^ ebDepth e)).all fun h => decide (ebClassMap e h < c)) &&
  (pf.ports.toList.all fun p => match p with
    | none => true
    | some pp =>
      (!pp.classL || wsOk e) &&
      (pp.derived || pp.cols != 2 || decide ((leadLag pp.dlyA.toNat pp.dlyB.toNat).2.1 < 16)))

/-- The engine of an identity. -/
def eng (x : EngId) (s : State) : Engine := match x with | .a => s.engA | .b => s.engB

/-- Replace an engine. -/
def setEng (x : EngId) (e : Engine) (s : State) : State :=
  match x with | .a => { s with engA := e } | .b => { s with engB := e }

/-- The engine in LEAD or SOLO. -/
def mainEng (s : State) : EngId :=
  if s.engA.role = .lead ∨ s.engA.role = .solo then .a else .b

/-- The energy block of a profile that printing uses (R318). -/
def energyOf (q : Fin 8) (s : State) : EnergyBlock := (eng (mainEng s) s).blocks[q]

/-- STAT.PROFILE_OK of an engine (R222): the Kolto image defines the profile and it is valid. -/
def profileOk (x : EngId) (q : Fin 8) (s : State) : Bool :=
  match s.prof[q] with
  | some pf => profileValid pf (eng x s).blocks[q]
  | none => false

/-- The head on port `p` matches profile `q` (R245, R246). -/
def headMatches (r : List Byte) (p : Port) (pf : Profile) (e : EnergyBlock) : Bool :=
  match pf.ports[p] with
  | none => false
  | some pp =>
    decide (r.length = 128) && recClassL r == pp.classL && recCols r == pp.cols && recAddrs r == pp.addrs &&
    recPrims r == pp.prims && recNozzles r == pp.nozzles &&
    (ebBpn e == 1 || recTwoBit r) && decide (100 ≤ recLaneMax r) &&
    (ebClasses e == 0 || (portLag pf pp r).2.2 == 0) &&
    (!pp.classL || pp.cols == 1) && (!pp.derived || decide ((portLag pf pp r).2.1 < 16))

/-- The MATCH register of a port. -/
def matchMask (r : List Byte) (p : Port) (s : State) : BitVec 8 :=
  (List.finRange 8).foldl (fun m q => match s.prof[q] with
    | some pf => if headMatches r p pf (energyOf q s) then setBit m q.val else m
    | none => m) 0

/-- HP[p].MATCH (R245, R259): no record in use, no match. -/
def headMatch (p : Port) (s : State) : BitVec 8 :=
  if s.hp[p].record.isEmpty then 0 else matchMask s.hp[p].record p s

/-- The spit profile of a port (R503). -/
def spitProfile (p : Port) (s : State) : Option (Fin 8) :=
  (List.finRange 8).find? fun q => (headMatch p s).getLsbD q.val && profileOk (mainEng s) q s

/-- RAW_BYTES (R54). -/
def rawBytes (n b : Nat) : Nat := ceilDiv (n * b) 8

/-- Nozzle count a profile expects on a port. -/
def profNozzles (q : Fin 8) (p : Port) (s : State) : Nat :=
  match s.prof[q] with
  | some pf => match pf.ports[p] with | some pp => pp.nozzles | none => 0
  | none => 0

/-! ## Line period and rate limits (R220, R221) -/

/-- The down-spread that counts for R27, in 0.1 % (R435): the larger of SPREAD and SPREAD_NOW. -/
def spreadUsed (s : State) : Nat := max ((s.pwr.cfg.toNat / 65536) % 16) s.pwr.spreadNow.toNat

/-- β of R208: bits per nozzle in a plane. -/
def planeBits (classL : Bool) (b : Nat) : Nat := if classL then 2 else b

/-- Q of R208. -/
def laneNozzles (n : Nat) : Nat := ceilDiv n 4

/-- Unspread load time of a plane in grid units (R208): 10 ns a bit and lane. -/
def tLoad (n beta : Nat) : Nat := laneNozzles n * beta * 80

/-- T_load′ of R27 in grid units, rounded up. -/
def tLoadSpread (n beta : Nat) (s : State) : Nat := ceilDiv (tLoad n beta * 1000) (1000 - spreadUsed s)

/-- The line-rate limit of R220 and R221 in Hz for given gap and guard in 2 ns steps. -/
def rateLimit (e : EnergyBlock) (classL : Bool) (n a planes rank phi gap guard spread : Nat) : Nat :=
  let beta := planeBits classL (ebBpn e)
  let sumW := if classL then ebTrig e
    else ((List.range planes).map fun j => strobeWidth e j rank (ebTempMax e)).foldl (· + ·) 0
  let a := if classL then 1 else a
  let p := if classL then 1 else planes
  let k := 1000 - spread
  let f1 := 8000000000 * k / max 1 (p * tLoad n beta * 1000 + guard * 16 * k)
  let f2 := 8000000000 * (256 - phi) / max 1 (256 * (a * (sumW + p * gap) + guard) * 16)
  let f3 := if classL && ebLmin e != 0 then 8000000000 / (ebLmin e * 16) else 48000
  min (min f1 f2) (min f3 (48000 / p))

/-- f_nom and f_cmp of a port under a profile with the head present (R221). -/
def portLimits (q : Fin 8) (p : Port) (s : State) : Nat × Nat :=
  match s.prof[q] with
  | none => (48000, 48000)
  | some pf =>
    match pf.ports[p] with
    | none => (48000, 48000)
    | some pp =>
      let e := energyOf q s
      let r := s.hp[p].record
      let phi := (portLag pf pp r).2.2
      (rateLimit e pp.classL pp.nozzles pp.addrs (ebPmax e) (recRank r) phi (ebGap e) (ebGuard e) (spreadUsed s),
       rateLimit e pp.classL pp.nozzles pp.addrs (ebPmax e) (recRank r) phi 100 250 (spreadUsed s))

/-- f_fit of R192 in 0.01 Hz: the least of f_nom × (1 + OVS_TOL), f_cmp and 48,000 Hz. -/
def fitLimit (fNom fCmp tol : Nat) : Nat := min (fNom * (100 + tol)) (min (fCmp * 100) 4800000)

/-- Index of a loop. -/
def loopIx : LoopId → Fin 2
  | .a => 0
  | .b => 1

/-- A loop's registers. -/
def loopOf (x : LoopId) (s : State) : Loop := s.ftl[loopIx x]

/-- Replace a loop. -/
def setLoop (x : LoopId) (l : Loop) (s : State) : State := { s with ftl := s.ftl.set (loopIx x).val l (loopIx x).isLt }

/-- A loop is LOCKED without CRAWL (R423). -/
def loopTracks (l : Loop) : Bool := l.state == .locked && !l.crawl

/-- READY, or GAP where a loop is LOCKED without CRAWL (R423). -/
def restState (s : State) : DevState :=
  if loopTracks s.ftl[0] || loopTracks s.ftl[1] then .gap else .ready

/-- Replace a channel. -/
def setDma (ch : Chan) (d : Dma) (s : State) : State := { s with dma := s.dma.set ch.val d ch.isLt }

/-- Replace a head port. -/
def setHp (p : Port) (h : HeadPort) (s : State) : State := { s with hp := s.hp.set p.val h p.isLt }

/-- Replace a port's store. -/
def setStore (p : Port) (t : PortStore) (s : State) : State :=
  { s with pond := { s.pond with ports := s.pond.ports.set p.val t p.isLt } }

/-- Replace a port's timing state. -/
def setTrack (p : Port) (t : PortTrack) (s : State) : State := { s with track := s.track.set p.val t p.isLt }

/-- Replace a port's loads. -/
def setLoads (p : Port) (l : List Load) (s : State) : State := { s with loads := s.loads.set p.val l p.isLt }

/-- The line channel of a port. -/
def chanOf (p : Port) : Chan := ⟨p.val, by omega⟩

end Sys2Proof.Machine
end

