-- ==== Sys2Proof/Machine/Snoop.lean ====
section
/-! DEFINITION. What the general check units compute and the taps they listen to (R148, R149, R153 to R156, R160, R164, R166). -/

namespace Sys2Proof.Machine

/-! ## The computation (R148) -/

/-- The `w` low bits of 64. -/
def maskOf (w : Nat) : DWord := if 64 ≤ w then BitVec.allOnes 64 else (1#64 <<< w) - 1

/-- One input bit. -/
def unitBit (w : Nat) (poly : DWord) (r : DWord) (bit : Bool) : DWord :=
  let top := r.getLsbD (w - 1) != bit
  let r := (r <<< 1) &&& maskOf w
  if top then r ^^^ poly else r

/-- One byte. -/
def unitByte (w : Nat) (poly : DWord) (refin : Bool) (r : DWord) (b : Byte) : DWord :=
  (List.range 8).foldl (fun r j => unitBit w poly r (b.getLsbD (if refin then j else 7 - j))) r

/-- A reflected value of `w` bits. -/
def reflect (w : Nat) (r : DWord) : DWord :=
  (List.range w).foldl (fun a i => if r.getLsbD i then setBit a (w - 1 - i) else a) 0

/-! ## Fields of CFG -/

/-- WIDTH. -/
def unitWidth (u : ChkUnit) : Nat := u.cfg.toNat % 128
/-- REFIN. -/
def unitRefin (u : ChkUnit) : Bool := u.cfg.getLsbD 7
/-- REFOUT. -/
def unitRefout (u : ChkUnit) : Bool := u.cfg.getLsbD 8
/-- FEED. -/
def unitFeed (u : ChkUnit) : Nat := (u.cfg.toNat / 512) % 4
/-- FOLD. -/
def unitFold (u : ChkUnit) : Nat := (u.cfg.toNat / 2048) % 4
/-- COMPARE. -/
def unitCompare (u : ChkUnit) : Bool := u.cfg.getLsbD 13
/-- DONE_EVT. -/
def unitDoneEvt (u : ChkUnit) : Bool := u.cfg.getLsbD 14
/-- SRC. -/
def unitSrc (u : ChkUnit) : Nat := (u.cfg.toNat / 65536) % 256

/-- The bytes pass through the unit. -/
def feedUnit (l : List Byte) (u : ChkUnit) : ChkUnit :=
  { u with reg := l.foldl (unitByte (unitWidth u) u.poly (unitRefin u)) u.reg }

/-- The final value. -/
def unitResult (u : ChkUnit) : DWord :=
  ((if unitRefout u then reflect (unitWidth u) u.reg else u.reg) ^^^ u.xorout) &&& maskOf (unitWidth u)

/-- Change a unit. -/
def modUnit (i : Fin 8) (f : ChkUnit → ChkUnit) (s : State) : State :=
  { s with chk := { s.chk with units := s.chk.units.set i.val (f s.chk.units[i]) i.isLt } }

/-! ## Ending and records -/

/-- A running unit ends: final step and comparison (R164, R166). -/
def finishUnit (i : Fin 8) (s : State) : State :=
  let u := s.chk.units[i]
  let r := unitResult u
  let compares := unitCompare u && !u.clipped && !u.raced && !u.ue
  let same := r == (u.expect &&& maskOf (unitWidth u))
  let s := modUnit i (fun u => { u with
    result := r, arm := false, state := .done, paused := false
    matched := compares && same, mismatch := compares && !same }) s
  let s := if compares && !same then raise Src.chkMismatch s else s
  if unitDoneEvt u then raise Src.chkDone s else s

/-- A unit takes a whole record of a tap (R153, R155, R156, R160). -/
def takeRecord (tap : Nat) (b : List Byte) (i : Fin 8) (s : State) : State :=
  let u := s.chk.units[i]
  let u := if unitFold u = 2 then feedUnit (toLe 4 tap ++ toLe 4 u.seq.toNat) u else u
  let u := feedUnit b { u with seq := u.seq + 1, progress := u.progress + BitVec.ofNat 32 b.length, recsLeft := u.recsLeft - 1 }
  let s := modUnit i (fun _ => u) s
  if u.records ≠ 0 ∧ u.recsLeft = 0 then finishUnit i s else s

/-- A whole record passes a tap (R153 to R156, R160). A unit armed in the middle of the record waits for the next one. -/
def snoopUnit (tap : Nat) (b : List Byte) (s : State) (i : Fin 8) : State :=
  let u := s.chk.units[i]
  if u.state = .running ∧ unitFeed u = 1 ∧ unitSrc u = tap then
    if u.skip then modUnit i (fun u => { u with skip := false }) s else takeRecord tap b i s
  else s

/-- Every unit that listens to the tap takes the record. -/
def snoopRecord (tap : Nat) (b : List Byte) (s : State) : State := (List.finRange 8).foldl (snoopUnit tap b) s

/-- The unit listens to the tap. -/
def listens (tap : Nat) (u : ChkUnit) : Bool := u.state == .running && unitFeed u == 1 && unitSrc u == tap

/-- The record on a tap is interrupted and dropped whole (R154): the next one is taken from its start. -/
def tapCut (tap : Nat) (s : State) : State :=
  { s with chk := { s.chk with units := s.chk.units.map fun u => if listens tap u then { u with skip := false } else u } }

/-- Tap numbers (R153): a channel, the egress of a port, the pond's delivery to a port, the copy link, the flash. -/
def tapChan (ch : Chan) : Nat := ch.val
/-- Egress of HP[p]. -/
def tapEgress (p : Port) : Nat := 0x20 + p.val
/-- Pond delivery for port `p`. -/
def tapDelivery (p : Port) : Nat := 0x30 + p.val
/-- The engines' state-copy link. -/
def tapCopy : Nat := 0x40
/-- Flash reads. -/
def tapFlash : Nat := 0x41

/-- A segment that is fixed passes the tap of the copy link (R153, R308), unless it was on its way when the unit was armed (R154). -/
def snoopCopyUnit (p : Port) (b : List Byte) (s : State) (i : Fin 8) : State :=
  let u := s.chk.units[i]
  if listens tapCopy u then
    if u.skipCopies.getLsbD p.val then modUnit i (fun u => { u with skipCopies := clearBit u.skipCopies p.val }) s
    else takeRecord tapCopy b i s
  else s

/-- Every unit that listens to the copy link takes the segment. -/
def snoopCopy (p : Port) (b : List Byte) (s : State) : State := (List.finRange 8).foldl (snoopCopyUnit p b) s

/-- The copies of the ports of `gone` are discarded: they are no records (R154). -/
def cutCopies (gone : BitVec 16) (s : State) : State :=
  { s with chk := { s.chk with units := s.chk.units.map fun u => { u with skipCopies := u.skipCopies &&& ~~~gone } } }

end Sys2Proof.Machine
end

