-- ==== Sys2Proof/Machine/PondOps.lean ====
section
/-! DEFINITION. The mill pond: its bytes in canonical form (R117), the layout of the partitions (R123, R125, R126), storing and
releasing lines (R126, R128), and word errors (R118 to R120). -/

namespace Sys2Proof.Machine

/-! ## Bytes -/

/-- What a byte of the pond that nothing has written reads as (log entry 11). -/
def pondBlank : Byte := 0

/-- The pond's memory is in canonical form: rising addresses, no blank byte listed. -/
def Memory.wf : List Host.Cell → Bool
  | [] => true
  | [c] => c.2 != pondBlank
  | c :: d :: l => c.2 != pondBlank && decide (c.1 < d.1) && Memory.wf (d :: l)

/-- Read a byte of the pond. -/
def memRead (m : List Host.Cell) (a : Nat) : Byte :=
  match m with
  | [] => pondBlank
  | c :: l => if c.1 = a then c.2 else memRead l a

/-- Put a byte into the list before the first larger address; a blank byte is not listed. -/
def memWrite (m : List Host.Cell) (a : Nat) (b : Byte) : List Host.Cell :=
  match m with
  | [] => if b = pondBlank then [] else [(a, b)]
  | c :: l =>
    if c.1 < a then c :: memWrite l a b
    else if c.1 = a then (if b = pondBlank then l else (a, b) :: l)
    else if b = pondBlank then c :: l else (a, b) :: c :: l

/-- Write bytes at the addresses a function gives them: byte `i` at `f i`. -/
def memWriteList (m : List Host.Cell) (f : Nat → Nat) : Nat → List Byte → List Host.Cell
  | _, [] => m
  | i, b :: l => memWriteList (memWrite m (f i) b) f (i + 1) l

/-! ## Partitions -/

/-- U_p of R126: units before the partition of index `p`; 16 is the auxiliary partition. -/
def unitsBefore (p : Nat) (s : State) : Nat :=
  ((List.finRange 16).filter fun q => q.val < p).foldl (fun n q => n + s.pond.ports[q].units.toNat) 0

/-- Units of every partition together (R123). -/
def unitsTotal (s : State) : Nat := unitsBefore 16 s + s.pond.auxUnits.toNat

/-- C_p of R125: line capacity in bytes; 0 for a partition of 0 units. -/
def lineCapacity (p : Port) (s : State) : Nat := 4096 * s.pond.ports[p].units.toNat - 1056

/-- Granules of the line capacity. -/
def lineGranules (p : Port) (s : State) : Nat := lineCapacity p s / 32

/-- Pond byte address of byte `b` of the line capacity of port `p` (R126). -/
def lineAddr (p : Port) (s : State) (b : Nat) : Nat := 4096 * unitsBefore p.val s + b

/-- Pond byte address of byte `i` of a stored line that starts at granule `g`: it may wrap (R126). -/
def storedAddr (p : Port) (s : State) (g i : Nat) : Nat :=
  lineAddr p s ((32 * g + i) % max 1 (32 * lineGranules p s))

/-- Pond byte address of byte `i` of the repeat buffer (R125). -/
def repeatAddr (p : Port) (s : State) (i : Nat) : Nat := lineAddr p s (lineCapacity p s + i)

/-- Occupied granules of a port (PND.FILL): lines released out of order keep theirs until those before them go (R128). -/
def fillGranules (p : Port) (s : State) : Nat :=
  s.pond.ports[p].lines.foldl (fun n l => n + ceilDiv l.len 32) 0

/-- Present free space of a line channel in bytes. -/
def lineFree (p : Port) (s : State) : Nat := 32 * (lineGranules p s - fillGranules p s)

/-! ## The auxiliary partition (R125) -/

/-- Bytes that a list of segments holds. -/
def segBytes (l : List (Nat × Nat)) : Nat := l.foldl (fun n g => n + g.2) 0

/-- Place of byte `i` of the data in a list of segments. -/
def segAt : List (Nat × Nat) → Nat → Nat
  | [], _ => 0
  | g :: l, i => if i < g.2 then g.1 + i else segAt l (i - g.2)

/-- The free segments below `size` from `start` on, beside occupied segments in ascending order. -/
def segGaps (size : Nat) : Nat → List (Nat × Nat) → List (Nat × Nat)
  | start, [] => if start < size then [(start, size - start)] else []
  | start, g :: l => (if start < g.1 then [(start, g.1 - start)] else []) ++ segGaps size (max start (g.1 + g.2)) l

/-- The first `n` bytes of a list of segments. -/
def segTake : Nat → List (Nat × Nat) → List (Nat × Nat)
  | _, [] => []
  | n, g :: l => if n = 0 then [] else (g.1, min n g.2) :: segTake (n - g.2) l

/-- A list of segments without the `n` bytes that follow the first `keep`. -/
def segDrop : Nat → Nat → List (Nat × Nat) → List (Nat × Nat)
  | _, _, [] => []
  | keep, n, g :: l =>
    if g.2 ≤ keep then g :: segDrop (keep - g.2) n l
    else
      let head := if keep = 0 then [] else [(g.1, keep)]
      let rest := g.2 - keep
      head ++ (if rest ≤ n then segDrop 0 (n - rest) l else (g.1 + keep + n, rest - n) :: l)

/-- Index of an auxiliary channel's data: DMA[18], or DMA[19]. -/
def auxIx (ch : Chan) : Fin 2 := if ch.val = 18 then 0 else 1

/-- Size of the auxiliary partition in bytes. -/
def auxSize (s : State) : Nat := 4096 * s.pond.auxUnits.toNat

/-- Every occupied segment of the auxiliary partition. -/
def auxSegs (s : State) : List (Nat × Nat) := s.pond.aux[0] ++ s.pond.aux[1]

/-- Free bytes of the auxiliary partition. -/
def auxFree (s : State) : Nat := auxSize s - segBytes (auxSegs s)

/-- Change the space that an auxiliary channel's data occupies. -/
def modAux (i : Fin 2) (f : List (Nat × Nat) → List (Nat × Nat)) (s : State) : State :=
  { s with pond := { s.pond with aux := s.pond.aux.set i.val (f s.pond.aux[i]) i.isLt } }

/-- `n` bytes are taken for a descriptor that begins to be delivered: the lowest free ones (DESIGN CHOICE, log entry 58). -/
def reserveAux (i : Fin 2) (n : Nat) (s : State) : State :=
  modAux i (fun l => l ++ segTake n (segGaps (auxSize s) 0 (sortBy (fun g => g.1) (auxSegs s)))) s

/-- The last `n` bytes of a channel are given back: their descriptor is not delivered. -/
def unreserveAux (i : Fin 2) (n : Nat) (s : State) : State := modAux i (fun l => segDrop (segBytes l - n) n l) s

/-- `n` bytes of a channel's data that follow its first `keep` are released. -/
def freeAux (i : Fin 2) (keep n : Nat) (s : State) : State := modAux i (segDrop keep n) s

/-- Pond address of byte `k` of a channel's data. -/
def auxAddr (i : Fin 2) (s : State) (k : Nat) : Nat := 4096 * unitsBefore 16 s + segAt s.pond.aux[i] k

/-! ## Writes -/

/-- Size of a scan's region in bytes (R150). -/
def regionSize (src : Nat) (s : State) : Nat :=
  if src = 0 then 41943040
  else if src ≤ 16 then 4096 * (s.pond.ports.toList.getD (src - 1) {}).units.toNat
  else if src = 0x11 then 4096 * s.pond.auxUnits.toNat
  else if src = 0x12 then 65536 else if src = 0x13 then 4096 else Config.flashSize

/-- The range [lo, hi) of pond bytes that a running scan covers, if it scans the pond (R150). -/
def scanRange (u : ChkUnit) (s : State) : Option (Nat × Nat) :=
  let src := (u.cfg.toNat / 65536) % 256
  let base := if src = 0 then some 0
    else if src ≤ 16 then some (4096 * unitsBefore (src - 1) s)
    else if src = 17 then some (4096 * unitsBefore 16 s) else none
  base.map fun b => (b + u.start.toNat, b + min (regionSize src s) (u.start.toNat + u.length.toNat))

/-- The unit runs a scan. -/
def scanning (u : ChkUnit) : Bool := u.state == .running && (u.cfg.toNat / 512) % 4 == 0

/-- A running scan whose range holds one of the written addresses is RACED (R159). -/
def raceUnit (addrs : List Nat) (s : State) (u : ChkUnit) : ChkUnit :=
  match scanning u, scanRange u s with
  | true, some (lo, hi) =>
    if addrs.any (fun a => decide (lo ≤ a) && decide (a < hi)) then { u with raced := true } else u
  | _, _ => u

/-- Every running scan takes note of written addresses. -/
def noteRace (addrs : List Nat) (s : State) : State :=
  { s with chk := { s.chk with units := s.chk.units.map (raceUnit addrs s) } }

/-- Write bytes into the pond. -/
def pondWrite (f : Nat → Nat) (bytes : List Byte) (s : State) : State :=
  let s := noteRace ((List.range bytes.length).map f) s
  { s with pond := { s.pond with mem := memWriteList s.pond.mem f 0 bytes } }

/-- Read `n` bytes of the pond. -/
def pondRead (f : Nat → Nat) (n : Nat) (s : State) : List Byte :=
  (List.range n).map fun i => memRead s.pond.mem (f i)

/-! ## Lines -/

/-- Store a packet as line `k` of document `doc` on port `p` (R126). -/
def storeLine (p : Port) (doc : Word) (k : Nat) (isTest : Bool) (bytes : List Byte) (s : State) : State :=
  let t := s.pond.ports[p]
  let g := t.next
  let s := pondWrite (storedAddr p s g) bytes s
  setStore p { t with
    next := (g + ceilDiv bytes.length 32) % max 1 (lineGranules p s)
    lines := t.lines ++ [{ doc := doc, line := k, gran := g, len := bytes.length, isTest := isTest }] } s

/-- Lines at the head of the list that are released go (R128). -/
def trimLines (l : List Stored) : List Stored := l.dropWhile fun x => x.gone

/-- Release the stored lines of a port that a test picks (R128). -/
def releaseLines (p : Port) (f : Stored → Bool) (s : State) : State :=
  let t := s.pond.ports[p]
  setStore p { t with lines := trimLines (t.lines.map fun l => if f l then { l with gone := true } else l) } s

/-- Release every stored line of a document on every port. -/
def releaseDoc (id : Word) (s : State) : State :=
  (List.finRange 16).foldl (fun s p => releaseLines p (fun l => l.doc == id) s) s

/-- An engine computes lines (R18). -/
def computes (r : Role) : Bool := r == .lead || r == .shadow || r == .solo

/-- An engine retires line `k` of document `id` on port `p` (R204); the line's space is released when every engine that
computes lines has retired it (R18). -/
def retireLine (x : EngId) (p : Port) (id : Word) (k : Nat) (s : State) : State :=
  let t := s.pond.ports[p]
  let mark (l : Stored) : Stored :=
    if l.doc == id && l.line == k then
      let l := match x with | .a => { l with retiredA := true } | .b => { l with retiredB := true }
      { l with gone := l.gone || ((l.retiredA || !computes s.engA.role) && (l.retiredB || !computes s.engB.role)) }
    else l
  setStore p { t with lines := trimLines (t.lines.map mark) } s

/-- Every computing engine retires the line at once: a line delivered blank or dropped (R204). -/
def retireBoth (p : Port) (id : Word) (k : Nat) (s : State) : State :=
  releaseLines p (fun l => l.doc == id && l.line == k) s

/-- A role change alters which engines hold back release (R18): delivered lines that every computing engine has retired
go. -/
def reviewRelease (s : State) : State :=
  (List.finRange 16).foldl (fun s p => releaseLines p (fun l =>
    l.delivered && (l.retiredA || !computes s.engA.role) && (l.retiredB || !computes s.engB.role)) s) s

/-! ## Word errors -/

/-- Row of a word: rows of 128 words (R117). -/
def rowOf (word : Nat) : Nat := word / 128

/-- The spare row that a row's address is mapped to: its latest assignment (R120). -/
def spareOf (row : Nat) (s : State) : Option Nat :=
  ((s.pond.spares.filter fun t => t.1 == row).getLast?).map fun t => t.2

/-- The 64 data bits of a pond word. -/
def pondWord (word : Nat) (s : State) : BitVec 64 :=
  BitVec.ofNat 64 (leNat (pondRead (fun i => 8 * word + i) 8 s) 0 8)

/-- The 79 bits that a pond word is stored as: data, BCH check bits and overall parity (R117). -/
def storedBits (word : Nat) (s : State) : BitVec 79 := eccEncode (pondWord word s)

/-- What the decoder finds in a word with upset bits, and the data it gives (R117): one or two are corrected, three detected; of more
the code decides. -/
def decodeWord (word : Nat) (upset : BitVec 79) (s : State) : Option WordErr × BitVec 64 :=
  match popCount upset with
  | 0 => (none, pondWord word s)
  | 1 => (some .one, pondWord word s)
  | 2 => (some .two, pondWord word s)
  | 3 => (some .uncorrectable, pondWord word s)
  | _ => match eccDecode (storedBits word s ^^^ upset) with
    | none => (some .uncorrectable, pondWord word s)
    | some (v, 0) => (none, v)
    | some (v, 1) => (some .one, v)
    | some (v, _) => (some .two, v)

/-- A row is to be replaced by a spare (R120): queued for the copy, unless it is being copied or no spare is free. PND_SPARES_OUT is
raised at the first row that then needs one, and a queued copy counts as in use (DESIGN CHOICE, log entry 55). -/
def replaceRow (row : Nat) (s : State) : State :=
  if s.pond.copying.contains row then s
  else if 512 ≤ s.pond.spares.length + s.pond.copying.length then
    let s := if s.pond.sparesOut then s else raise Src.pndSparesOut s
    { s with pond := { s.pond with sparesOut := true, err := setBit s.pond.err 3 } }
  else { s with pond := { s.pond with copying := s.pond.copying ++ [row] } }

/-- A corrected word (R118): counted, and a two-bit error replaces its row (R120). -/
def wordCorrected (word : Nat) (two : Bool) (s : State) : State :=
  let s := { s with pond := { s.pond with
    err := setBit s.pond.err 1
    ceSingle := if two then s.pond.ceSingle else satInc s.pond.ceSingle
    ceDouble := if two then satInc s.pond.ceDouble else s.pond.ceDouble } }
  let s := countClass Cls.pndEcc (raise Src.pndCe s)
  if two then replaceRow (rowOf word) s else s

/-- Port and stored line whose bytes include a pond word. -/
def lineOfWord (word : Nat) (s : State) : Option (Port × Stored) :=
  (List.finRange 16).findSome? fun p =>
    (s.pond.ports[p].lines.find? fun l =>
      !l.gone && (List.range l.len).any fun i => storedAddr p s l.gran i / 8 == word).map fun l => (p, l)

/-- Port whose repeat buffer includes a pond word. -/
def repeatOfWord (word : Nat) (s : State) : Option Port :=
  (List.finRange 16).find? fun p =>
    s.pond.ports[p].units != 0 && decide (repeatAddr p s 0 ≤ 8 * word) && decide (8 * word < repeatAddr p s 0 + 1056)

/-- The word holds auxiliary data. -/
def auxWord (word : Nat) (s : State) : Bool :=
  (auxSegs s).any fun g =>
    let a := 4096 * unitsBefore 16 s + g.1
    decide (a < 8 * word + 8) && decide (8 * word < a + g.2)

/-- An uncorrectable word (R119): the line or repeat buffer that holds it is flagged; free space is rewritten with
zeros; the row is replaced (R120). In auxiliary data, for which the table has no row, the word is counted and left as it is
(DESIGN CHOICE, log entry 56). -/
def wordLost (word : Nat) (s : State) : State :=
  let s := { s with pond := { s.pond with
    err := setBit s.pond.err 2, ueCount := satInc s.pond.ueCount, ueAddr := some word } }
  let s := countClass Cls.pndUe (raise Src.pndUe s)
  let s := match lineOfWord word s with
    | some (p, l) =>
      let t := s.pond.ports[p]
      setStore p { t with lines := t.lines.map fun x =>
        if x.doc == l.doc && x.line == l.line then { x with flagged := true } else x } s
    | none => match repeatOfWord word s with
      | some p =>
        let t := s.pond.ports[p]
        setStore p { t with repBuf := t.repBuf.map fun r => { r with flagged := true } } s
      | none => if auxWord word s then s else pondWrite (fun i => 8 * word + i) (List.replicate 8 0) s
  replaceRow (rowOf word) s

/-- The data that a word is written back with (R118); a correction is no write under R159. -/
def writeBackWord (word : Nat) (v : BitVec 64) (s : State) : State :=
  if v = pondWord word s then s
  else { s with pond := { s.pond with mem := memWriteList s.pond.mem (fun i => 8 * word + i) 0 (toLe 8 v.toNat) } }

/-- One word is read through the decoder (R118, R119). -/
def readThrough (s : State) (e : Nat × BitVec 79) : State :=
  let r := decodeWord e.1 e.2 s
  let s := writeBackWord e.1 r.2 s
  match r.1 with
  | none => s
  | some .one => wordCorrected e.1 false s
  | some .two => wordCorrected e.1 true s
  | some .uncorrectable => wordLost e.1 s

/-- What the decoder meets in a list of words (R118, R119). -/
def wordErrors (errs : Upsets) (s : State) : State := errs.foldl readThrough s

/-- MGT reads `n` bytes of a channel's data that follow its first `keep` through the decoder (R118). -/
def readAux (i : Fin 2) (keep n : Nat) (errs : Upsets) (s : State) : State :=
  wordErrors (errs.filter fun e => (List.range n).any fun k => auxAddr i s (keep + k) / 8 == e.1) s

end Sys2Proof.Machine
end

