-- ==== Sys2Proof/Machine/Docs.lean ====
section
/-! DEFINITION. The document table (R127), marking a document faulty (R71, R475), barring (R502), withdrawal and abort (R333), the
end of a document (R342), and what a channel that leaves its document does to it (R112). -/

namespace Sys2Proof.Machine

/-- The document table's entry of an ID. -/
def findDoc (id : Word) (s : State) : Option Doc := s.docs.find? fun d => d.id == id

/-- Change the entry of an ID. -/
def modDoc (id : Word) (f : Doc → Doc) (s : State) : State :=
  { s with docs := s.docs.map fun d => if d.id = id then f d else d }

/-- Change a document's progress on a port. -/
def modDocPort (id : Word) (p : Port) (f : DocPort → DocPort) (s : State) : State :=
  modDoc id (fun d => { d with ports := d.ports.set p.val (f d.ports[p]) p.isLt }) s

/-- A pending document (R139): its doc-open has passed, and its trigger edge has not been taken. -/
def isPending (d : Doc) : Bool := !d.barred && d.trigged.isNone

/-- The document that DOCHOLD concerns: the oldest pending one (R139). -/
def holdDoc (s : State) : Option Doc := s.docs.find? isPending

/-! ## Marking -/

/-- Payload of a DOC_FAULT log record (R453). -/
def faultPayload (id tag : Word) (port line : Nat) (seq : Half) : List Byte :=
  toLe 4 id.toNat ++ toLe 4 tag.toNat ++ toLe 1 port ++ toLe 3 line ++ toLe 2 seq.toNat

/-- The fault record that the port shows: the oldest, or zeros (R340). -/
def shownFault (t : Tpt) : FaultRec := t.fifo.headD ⟨0, 0, 0, 0, 0, 0, 0⟩

/-- The high halves of the record that the port shows: they change with it, so its words may be read in any order (R323, R340). -/
def captureFault (s : State) : State :=
  let f := shownFault s.tpt
  { s with cap := { s.cap with
    faultDoc := (f.docId >>> 16).setWidth 16, faultTag := (f.tag >>> 16).setWidth 16, faultLine := (f.line >>> 16).setWidth 16 } }

/-- The marking of R475: record, count, events, class, log record and pulse. -/
def pushFault (id tag : Word) (reason : Nat) (port line : Nat) (s : State) : State :=
  let seq := s.tpt.faultSeq + 1
  let r : FaultRec := ⟨id, tag, BitVec.ofNat 8 reason, BitVec.ofNat 4 port, BitVec.ofNat 24 line, rtcNow s, seq⟩
  let full := decide (64 ≤ s.tpt.fifo.length)
  let s := { s with tpt := { s.tpt with
    faultSeq := seq
    fifo := if full then s.tpt.fifo else s.tpt.fifo ++ [r]
    lost := if full then satInc s.tpt.lost else s.tpt.lost
    faultyCount := s.tpt.faultyCount + 1
    pulses := s.tpt.pulses + 1 } }
  let s := tpFlag Tpf.fault (captureFault (if full then tpFlag Tpf.faultLost s else s))
  let s := countClass Cls.docFault (raise Src.docFault s)
  pushLog 0x03 (BitVec.ofNat 8 reason) (faultPayload id tag port line seq) s

/-- Mark a document faulty (R71): once; a later fault writes only its log record (R475). -/
def markDoc (id : Word) (reason port line : Nat) (s : State) : State :=
  match findDoc id s with
  | none => s
  | some d =>
    if d.faulty.isSome then
      pushLog 0x03 (BitVec.ofNat 8 (reason + 0x80)) (faultPayload id d.hostTag port line s.tpt.faultSeq) s
    else
      pushFault id d.hostTag reason port line
        (modDoc id (fun d => { d with faulty := some (BitVec.ofNat 8 reason) }) s)

/-- FAULT_LINE of a document that never printed a line (R340). -/
def noLine : Nat := 0xFFFFFF

/-! ## The end of a document -/

/-- The document leaves the table: it is done (R342). -/
def docDone (id : Word) (s : State) : State :=
  if s.docs.any fun d => d.id == id then
    let s := { s with
      docs := s.docs.filter fun d => d.id != id
      tpt := { s.tpt with lastDone := id, doneCount := s.tpt.doneCount + 1 } }
    releaseDoc id (raise Src.docDone (tpFlag Tpf.done s))
  else s

/-- Barred documents that every channel of their mask has left are done (R502). -/
def sweepBarred (s : State) : State :=
  (s.docs.filter fun d => d.barred && (d.mask &&& ~~~d.left) == 0).foldl (fun s d => docDone d.id s) s

/-- Channel `p` has left DISCARD for the document (R502). -/
def noteLeft (p : Port) (id : Word) (s : State) : State :=
  sweepBarred (modDoc id (fun d => if d.barred then { d with left := setBit d.left p.val } else d) s)

/-- Channel `p` has passed a doc-open for `id`, or been reset (`none`): it has left every other barred document. -/
def noteOpened (p : Port) (id : Option Word) (s : State) : State :=
  sweepBarred { s with docs := s.docs.map fun d =>
    if d.barred && id != some d.id then { d with left := setBit d.left p.val } else d }

/-! ## Framing of a channel (R43, R45) -/

/-- The channel returns to IDLE; LAST_DOC stays. -/
def frameIdle (p : Port) (s : State) : State :=
  let d := s.dma[chanOf p]
  let s' := setDma (chanOf p) { d with frame := .idle, k := 0, openDoc := 0, lineCount := 0, prevTest := false } s
  if d.frame = .discard then noteLeft p d.openDoc s' else s'

/-- The channel goes to DISCARD for a document with `k` 0 (R45, R52, R502). -/
def frameDiscard (p : Port) (id : Word) (count : Nat) (s : State) : State :=
  let d := s.dma[chanOf p]
  let s := setDma (chanOf p) { d with
    frame := .discard, lastDoc := id, openDoc := id, k := 0, lineCount := count, prevTest := false } s
  if count = 0 then frameIdle p s else s

/-- A channel that holds the document goes to DISCARD for it with its own `k` (R51, R333). -/
def frameToDiscard (id : Word) (s : State) (p : Port) : State :=
  let d := s.dma[chanOf p]
  if (d.frame = .opened ∨ d.frame = .ended) ∧ d.openDoc = id then
    let s := setDma (chanOf p) { d with frame := .discard } s
    if d.lineCount ≤ d.k then frameIdle p s else s
  else s

/-- Every channel that holds the document goes to DISCARD for it. -/
def discardHolders (id : Word) (s : State) : State := (List.finRange 16).foldl (frameToDiscard id) s

/-- Bar a document (R502): never admitted, no longer pending, its lines released, its channels to DISCARD. -/
def barDoc (id : Word) (s : State) : State :=
  discardHolders id (releaseDoc id (modDoc id (fun d => { d with barred := true, offered := false, left := 0 }) s))

/-- Lowest lead line, over the mask's ports, whose line-ahead event has not come; at most LINE_COUNT. -/
def lowestAhead (d : Doc) : Nat :=
  (portsOf d.mask).foldl (fun n p => min n d.ports[p].nextAhead) d.lineCount

/-- An admitted document that has not taken its trigger edge leaves the table unprinted (R133, R333). Channels that still hold it go to DISCARD
for it (DEDUCED, log entry 65). -/
def withdrawDoc (id : Word) (s : State) : State := docDone id (discardHolders id s)

/-- Abort a document (R333): it keeps the reason that it carries, and is withdrawn before its trigger edge; blanked from its next line-ahead events after it. -/
def abortDocument (id : Word) (s : State) : State :=
  match findDoc id s with
  | none => s
  | some d =>
    if d.barred then s
    else if d.trigged.isSome then
      let s := markDoc id 0x0A 0 (lowestAhead d) s
      modDoc id (fun d => { d with aborted := true }) s
    else
      let s := markDoc id 0x0A 0 noLine s
      if d.admitted then withdrawDoc id s else barDoc id s

/-- Abort every pending document and every document in progress (R332). -/
def abortAll (s : State) : State := s.docs.foldl (fun s d => abortDocument d.id s) s

/-- The documents that a channel's halt, kill or reset marks (R112): open on the channel, or in progress on its port. -/
def channelDocs (p : Port) (s : State) : List Doc :=
  let c := s.dma[chanOf p]
  s.docs.filter fun d => !d.barred &&
    (((c.frame == .opened || c.frame == .ended) && c.openDoc == d.id) ||
     (d.admitted && d.mask.getLsbD p.val))

/-- The documents of a halted or killed channel are marked (R112). One not admitted is barred; an admitted one before its trigger edge ends
without printing (R133). -/
def channelLost (p : Port) (reason : Nat) (s : State) : State :=
  (channelDocs p s).foldl (fun s d =>
    let s := markDoc d.id reason p.val (if d.trigged.isSome then d.ports[p].taken else noLine) s
    if !d.admitted then barDoc d.id s else if d.trigged.isSome then s else withdrawDoc d.id s) s

/-- The documents of a channel whose reset completes: marked and ended as by a kill, and the channel's pond space is released (R112). -/
def channelReset (p : Port) (s : State) : State :=
  let docs := channelDocs p s
  let s := docs.foldl (fun s d =>
    let s := if d.faulty.isSome then s else
      markDoc d.id 0x0A p.val (if d.trigged.isSome then min d.ports[p].nextAhead d.lineCount else noLine) s
    if !d.admitted then barDoc d.id s
    else if d.trigged.isNone then withdrawDoc d.id s
    else releaseLines p (fun l => l.doc == d.id)
        (modDocPort d.id p (fun q => { q with blanked := some 0x0A }) s)) s
  noteOpened p none s

end Sys2Proof.Machine
end

