-- ==== Sys2Proof/Machine/Track.lean ====
section
/-! DEFINITION. The tracking loop between edges (R180, R182, R190): how the estimates of position and speed move, with the speed limited to one
edge per elapsed time, and what a change of the fantail settings does to them (R189). -/

namespace Sys2Proof.Machine

/-- One edge's move in 2⁻³² units. -/
def edgeStep (l : Loop) : Int := l.set.num.toNat * 4294967296 / max 1 l.set.den.toNat

/-- Position gained in `t` grid units from a speed and an acceleration per fire clock. -/
def freeMove (v a : Int) (t : Nat) : Int := v * t / 16 + a * t * t / 512

/-- The first time in `[m, hi]` after the last edge at which a speed of sign `s` passes one edge per elapsed time: its product with the time
since the edge, `(u + b t) t`, rises from `low` to `top`. -/
def limitAt (step v a s : Int) (m hi : Nat) : Option Nat :=
  let u := s * (16 * v - a * m)
  let b := s * a
  let low := if 0 < b then max m (-u / (2 * b)).toNat else m
  let top := if b < 0 then min hi (u / (-2 * b)).toNat else hi
  let beyond (t : Nat) : Bool := decide (256 * step < (u + b * t) * t)
  if low ≤ top ∧ beyond top then some (leastFrom beyond 42 low top) else none

/-- Estimates at `t` grid units after the last edge, from position `p` and speed `v` at `m` (R180): each fire clock the acceleration changes the
speed and the speed the position; a speed of more than one edge per elapsed time is held at that limit, until a deceleration takes it below. -/
def glide (step a : Int) (t : Nat) : Nat → Nat → Int → Int → Int × Int
  | 0, m, p, v => (p + freeMove v a (t - m), v + a * (t - m : Nat) / 16)
  | fuel + 1, m, p, v =>
    let up := limitAt step v a 1 m t
    let down := limitAt step v a (-1) m t
    let first := match up, down with
      | some i, some j => some (if i ≤ j then (1, i) else (-1, j))
      | some i, none => some (1, i)
      | none, some j => some (-1, j)
      | none, none => none
    match first with
    | none => (p + freeMove v a (t - m), v + a * (t - m : Nat) / 16)
    | some (s, k) =>
      let q := p + freeMove v a (k - m)
      let drift (x : Nat) : Int := s * (step * lnQuot x k / 18446744073709551616)
      let leaves (x : Nat) : Bool := decide (256 * step ≤ -(s * a) * x * x)
      if s * a < 0 ∧ leaves t then
        let x := leastFrom leaves 42 k t
        glide step a t fuel x (q + drift x) (s * (16 * step / max 1 x))
      else (q + drift t, s * (16 * step / max 1 t))

/-- Estimates of position, relative to the edge position, and of speed `t` grid units after the last edge. -/
def tracked (e : Est) (t : Nat) : Int × Int := glide e.lim e.a t 4 0 e.p e.v

/-- What the loop makes of the position now. -/
def estOf (now : Nat) (l : Loop) : Est :=
  { pos := l.pos, frac := l.rem * 4294967296 / max 1 l.set.den.toNat, p := l.estP, v := l.estV, a := l.estA
    lim := edgeStep l, edge := l.lastEdge, upto := now }

/-- The estimates give way to new ones (R182): those of the last 256 ns are kept, since fire times computed from them stand. -/
def keepEst (now : Nat) (l : Loop) : Loop :=
  { l with past := (estOf now l :: l.past).filter fun e => decide (now < e.upto + 2048) }

/-- The estimated speed at a time; 0 before the first edge. -/
def speedAt (l : Loop) (t : Nat) : Int :=
  match l.lastEdge with
  | none => 0
  | some t0 => (tracked (estOf t l) (t - t0)).2

/-- Decoded edges per second at a time (R180, R194): those of the last interval, and no more than one edge per elapsed time. -/
def edgeRateAt (l : Loop) (t : Nat) : Nat :=
  match l.lastEdge with
  | none => 0
  | some t0 => if t ≤ t0 then l.edgeRate else min l.edgeRate (heldQuot 8000000000 (t - t0))

/-- New fantail settings in a loop at a time (R189): the position is kept, the remainder of R178 to its new denominator and what that leaves out
to the estimate (log entry 21), and the estimates of speed and acceleration are rescaled. -/
def retune (f : FantailSet) (now : Nat) (l : Loop) : Loop :=
  let num : Int := f.num.toNat * l.set.den.toNat
  let den : Int := max 1 (f.den.toNat * l.set.num.toNat)
  let m := { keepEst now l with
    set := f, rem := l.rem * f.den.toNat / max 1 l.set.den.toNat, estP := 0, estV := l.estV * num / den, estA := l.estA * num / den }
  let gone (x : Loop) : Int :=
    let e := estOf now x
    e.frac + match x.lastEdge with | none => e.p | some t0 => (tracked e (now - t0)).1
  { m with estP := gone l - gone m }

end Sys2Proof.Machine
end

