-- ==== Sys2Proof/Machine/Sluice.lean ====
section
/-! DEFINITION. The sluice: admission (R131 to R138), DOCHOLD (R139), SPEEDLIMIT (R140), fantail settings (R53, R189). -/

namespace Sys2Proof.Machine

/-! ## Fantail settings (R179, R188, R189) -/

/-- Put fantail settings into force: the position is kept, and the speed and acceleration estimates are rescaled (R189). -/
def applySet (x : LoopId) (f : FantailSet) (s : State) : State :=
  let l := { loopOf x s with pendSet := none }
  setLoop x (if f.num = l.set.num ∧ f.den = l.set.den then { l with set := f } else retune f s.now l) s

/-- Writes held for a line boundary take effect at once while the loop is in OFF, in ACQUIRE or in CRAWL (R188). -/
def boundaryWaits (l : Loop) : Bool := l.state == .locked && !l.crawl

/-- Write fantail settings into a loop (R189): held to the next line boundary where the loop has one. -/
def writeSet (x : LoopId) (f : FantailSet) (s : State) : State :=
  let l := loopOf x s
  if boundaryWaits l then setLoop x { l with pendSet := some f } s else applySet x f s

/-- STAT.SETTINGS_PENDING. -/
def settingsPending (l : Loop) : Bool := l.pendSet.isSome || l.pendEnc.isSome || l.pendIndex.isSome

/-! ## Line sizes and limits -/

/-- L_max of R134 for a raw line. -/
def lineMax (raw : Nat) : Nat := pktLen (raw + ceilDiv raw 128)

/-- The document's profile as an index; a document in the table whose profile is out of range was never offered. -/
def docProf (d : Doc) : Fin 8 := ⟨d.profile % 8, Nat.mod_lt _ (by decide)⟩

/-- RAW_BYTES of a document's port. -/
def docRaw (d : Doc) (p : Port) (s : State) : Nat :=
  rawBytes (profNozzles (docProf d) p s) (ebBpn (energyOf (docProf d) s))

/-- The print profile of a document. -/
def docProfile (d : Doc) (s : State) : Option Profile := s.prof[docProf d]

/-- The loop of a document's profile. -/
def docLoop (d : Doc) (s : State) : LoopId :=
  match docProfile d s with
  | some pf => pf.loop
  | none => .a

/-- f_prof of R140: the lowest f_nom over the ports of the mask. -/
def docRate (d : Doc) (s : State) : Nat :=
  (portsOf d.mask).foldl (fun f p => min f (portLimits (docProf d) p s).1) 48000

/-- SPEEDLIMIT of R140 for f_prof, f_ovs and L in 1/64. -/
def speedFor (fProf fOvs level : Nat) : Nat := min fProf fOvs * (256 - 3 * level) / 256

/-! ## Conditions of R131 -/

/-- Admission is shut under R31: a deferred calibration or maintenance command, a pending standby, a Kolto
activation (R335, R428, R458), or the throttle at L = 1 (R373). -/
def admissionShut (s : State) : Bool :=
  s.tpt.deferCal.isSome || s.tpt.deferMaint || s.pwr.standbyPend ||
  (s.mgt.updState == .pending && s.mgt.sesKind) || s.thm.hold

/-- The states in which documents are admitted (R30). -/
def admitState (st : DevState) : Bool := st == .ready || st == .gap || st == .print

/-- Condition 1: its cause code if it fails. -/
def cond1 (s : State) : Nat :=
  if !(admitState s.top.state) || admissionShut s then 7 else if s.pond.admitHold then 8 else 0

/-- Condition 2: an earlier offered document that overlaps is not admitted. -/
def orderHeld (d : Doc) (s : State) : Bool :=
  s.docs.any fun e => e.offered && decide (e.offerNo < d.offerNo) && (e.mask &&& d.mask) != 0 && !e.admitted

/-- Fantail settings of two profiles agree (R53). -/
def sameFantail (a b : Profile) : Bool := a.set == b.set && a.dotPitch == b.dotPitch

/-- A document in progress on the same loop uses other fantail settings (R53). -/
def fantailClash (d : Doc) (pf : Profile) (s : State) : Bool :=
  s.docs.any fun e => e.admitted && docLoop e s == pf.loop &&
    (match docProfile e s with | some pe => !sameFantail pe pf | none => false) && e.id != d.id

/-- Condition 3. -/
def fantailHeld (d : Doc) (s : State) : Bool :=
  match docProfile d s with
  | none => true
  | some pf => fantailClash d pf s || !((loopOf pf.loop s).set == pf.set) || settingsPending (loopOf pf.loop s)

/-- Condition 4 on one port: 6 for the head port, 5 for the head temperature, else 0. -/
def portHeld (d : Doc) (s : State) (p : Port) : Nat :=
  let h := s.hp[p]
  if h.pstate != .active || !((headMatch p s).getLsbD d.profile) || s.chk.fixedEgr.getLsbD p.val then 6
  else if h.hot then 5 else 0

/-- Lines of the document received on a port (R132). -/
def linesOn (d : Doc) (p : Port) : Nat := d.ports[p].taken

/-- The document is resident (R132). -/
def resident (d : Doc) : Bool := (portsOf d.mask).all fun p => decide (d.lineCount ≤ linesOn d p)

/-- The document can never be resident (R135). -/
def tooLong (d : Doc) (s : State) : Bool :=
  (portsOf d.mask).any fun p => decide (lineCapacity p s < d.lineCount * lineMax (docRaw d p s))

/-- The inequality of R137 at line `k`, multiplied out. -/
def ratePasses (lMax got rate margin f100 startOff readAhead k : Nat) : Bool :=
  decide ((k - got + 1) * lMax * 256 * f100 ≤ (100 - margin) * rate * (startOff + 256 * k - 256 * readAhead))

/-- The prediction of R137 on one port. -/
def predicts (d : Doc) (pf : Profile) (s : State) (p : Port) : Bool :=
  let got := linesOn d p
  let sd := speedFor (docRate d s) (loopOf pf.loop s).fOvs s.thm.level * 100
  let f := if pf.admitRate = 0 then sd else min sd (pf.admitRate * (100 + pf.set.tol.toNat))
  let at_ := ratePasses (lineMax (docRaw d p s)) got s.pond.ports[p].meter.rate pf.margin f d.startOff pf.readAhead
  decide (d.lineCount ≤ got) || (at_ got && at_ (d.lineCount - 1))

/-- First port of the mask that fails a test. -/
def firstFailing (d : Doc) (f : Port → Bool) : Option Port := (portsOf d.mask).find? fun p => !f p

/-- Condition 5: cause and port, 0 if it holds. -/
def cond5 (d : Doc) (s : State) : Nat × Nat :=
  if resident d then (0, 0)
  else if d.stream || d.downgrade then
    match docProfile d s with
    | none => (2, 0)
    | some pf => match firstFailing d (predicts d pf s) with
      | some p => (2, p.val)
      | none => (0, 0)
  else match firstFailing d (fun p => decide (d.lineCount ≤ linesOn d p)) with
    | some p => (1, p.val)
    | none => (0, 0)

/-- R138: no further line of the document can arrive on some port. -/
def mustForce (d : Doc) (s : State) : Bool :=
  (portsOf d.mask).any fun p =>
    (match s.dma[chanOf p].cur with | some c => c.waitSpace | none => false) &&
    s.pond.ports[p].lines.all fun l => l.doc == d.id

/-- The first failing condition of R131 for a document: cause and port; (0, 0) if all hold. -/
def firstCause (d : Doc) (s : State) : Nat × Nat :=
  if cond1 s != 0 then (cond1 s, 0)
  else if !d.offered then
    (9, match firstFailing d (fun p => d.opened.getLsbD p.val) with | some p => p.val | none => 0)
  else if orderHeld d s then (3, 0)
  else if fantailHeld d s then (4, 0)
  else match (portsOf d.mask).find? fun p => portHeld d s p != 0 with
    | some p => (portHeld d s p, p.val)
    | none => cond5 d s

/-! ## SPEEDLIMIT and DOCHOLD -/

/-- Set SPEEDLIMIT, with its event and flag on a change (R464, R328). -/
def setSpeed (v : Nat) (s : State) : State :=
  if v = s.pond.speedLimit then s
  else tpFlag Tpf.speed (raise Src.speedlimitChange { s with pond := { s.pond with speedLimit := v } })

/-- f_ovs that enters SPEEDLIMIT (R140). -/
def limitOvs (s : State) : Nat :=
  match s.pond.chosen with
  | some (_, x) => (loopOf x s).fOvs
  | none => min s.ftl[0].fOvs s.ftl[1].fOvs

/-- f_prof and loop of the document that SPEEDLIMIT takes (R140): the one that DOCHOLD concerns, else the one admitted last. -/
def speedDoc (s : State) : Option (Nat × LoopId) :=
  match holdDoc s with
  | some d => some (docRate d s, docLoop d s)
  | none => s.pond.lastAdmit

/-- Recompute SPEEDLIMIT (R140) from the present inputs. -/
def recomputeSpeed (s : State) : State :=
  let ch := speedDoc s
  let s := { s with pond := { s.pond with chosen := ch, speedLevel := s.thm.level } }
  setSpeed (speedFor (match ch with | some c => c.1 | none => 48000) (limitOvs s) s.thm.level) s

/-- The inputs of SPEEDLIMIT (R140): f_prof and loop of the chosen document, f_ovs, and the level. -/
def speedInputs (s : State) : Option (Nat × LoopId) × Nat × Nat :=
  let c := speedDoc s
  (c, limitOvs { s with pond := { s.pond with chosen := c } }, s.thm.level)

/-- SPEEDLIMIT after a command from `s0` (R140): a change of an input while no document is in progress recomputes it; while one is, only a
lowered f_ovs lowers it, and what changes meanwhile takes effect at the next admission. -/
def refreshSpeed (s0 s : State) : State :=
  if docInProgress s then
    let v := speedFor (match s.pond.chosen with | some c => c.1 | none => 48000) (limitOvs s) s.pond.speedLevel
    if v < s.pond.speedLimit then setSpeed v s else s
  else if docInProgress s0 ∨ speedInputs s = speedInputs s0 then s
  else recomputeSpeed s

/-- The level of the DOCHOLD output (R139). -/
def holdLevel (s : State) : Bool :=
  cond1 s != 0 || (match holdDoc s with | some d => !d.admitted | none => false)

/-- HOLD_CAUSE (R131, R139): 0 when deasserted; the first failing condition of the document that DOCHOLD concerns. A
document that meets every condition waits for its evaluation under the cause recorded last. -/
def holdReason (s : State) : Nat × Nat :=
  if !holdLevel s then (0, 0)
  else match holdDoc s with
    | none => (cond1 s, 0)
    | some d =>
      if d.admitted then (cond1 s, 0)
      else
        let c := firstCause d s
        if c.1 = 0 then (s.pond.holdCause.toNat, s.pond.holdPort.toNat) else c

/-- Bring DOCHOLD and HOLD_CAUSE up to date, with the event and flag of a change (R139): after every command, and not at an evaluation alone
(DESIGN CHOICE, log entry 86). -/
def refreshHold (s : State) : State :=
  let h := holdLevel s
  let c := holdReason s
  let chg := h != s.pond.dochold
  let s := { s with pond := { s.pond with
    dochold := h, holdCause := BitVec.ofNat 8 c.1, holdPort := BitVec.ofNat 4 c.2 } }
  if chg then tpFlag Tpf.hold (raise Src.docholdChange s) else s

/-! ## Admission -/

/-- The rate limits and delays of a document on one port at its admission (R186, R221, R246). -/
def admitPort (id : Word) (pf : Profile) (q : Fin 8) (s : State) (p : Port) : State :=
  match pf.ports[p] with
  | none => s
  | some pp =>
    let lim := portLimits q p s
    let col := colDelays pf pp s.hp[p].record
    let l := loopOf pf.loop s
    let w : Word := BitVec.ofNat 32 (lim.1 * 65536 + lim.2)
    let s := setLoop pf.loop { l with
      dlyPort := l.dlyPort.set p.val pp.dlyPort p.isLt
      dlyA := l.dlyA.set p.val (BitVec.ofNat 24 col.1) p.isLt
      dlyB := l.dlyB.set p.val (BitVec.ofNat 24 col.2) p.isLt } s
    let s := { s with
      engA := { s.engA with limit := s.engA.limit.set p.val w p.isLt }
      engB := { s.engB with limit := s.engB.limit.set p.val w p.isLt } }
    modDocPort id p (fun x => { x with
      dly := pp.dlyPort.toNat, dlyA := col.1, dlyB := col.2, fNom := lim.1, fCmp := lim.2
      fFit := fitLimit lim.1 lim.2 pf.set.tol.toNat }) s

/-- Admit a document (R131): its limits are fixed, SPEEDLIMIT is recomputed, and READY or GAP becomes PRINT (R423). -/
def admitDoc (d : Doc) (s : State) : State :=
  match docProfile d s with
  | none => s
  | some pf =>
    let s := recomputeSpeed { s with pond := { s.pond with lastAdmit := some (docRate d s, pf.loop) } }
    let s := modDoc d.id (fun d => { d with admitted := true, loop := pf.loop }) s
    let s := (portsOf d.mask).foldl (admitPort d.id pf (docProf d)) s
    let s := raise Src.docAdmitted s
    if s.top.state = .ready ∨ s.top.state = .gap then setState .print s else s

/-- A RESIDENT document that can never be resident is evaluated as STREAM (R135). -/
def downgrade (d : Doc) (s : State) : State :=
  if !d.stream && !d.downgrade && tooLong d s then
    let s := { s with pond := { s.pond with err := setBit s.pond.err 5 } }
    raise Src.admitDowngrade (modDoc d.id (fun d => { d with downgrade := true }) s)
  else s

/-- Condition 3 loads the profile's settings into the loop where nothing on the loop forbids it (R189): RATIO_NUM holds its value too. -/
def loadFantail (d : Doc) (s : State) : State :=
  match docProfile d s with
  | none => s
  | some pf =>
    let l := loopOf pf.loop s
    if fantailClash d pf s || l.set == pf.set || l.pendSet == some pf.set then s
    else writeSet pf.loop pf.set (setLoop pf.loop { l with heldNum := pf.set.num } s)

/-- Evaluate one offered document (R131, R138). -/
def evaluateDoc (s : State) (id : Word) : State :=
  match findDoc id s with
  | none => s
  | some d =>
    if !d.offered || d.admitted || d.barred then s
    else
      let s := downgrade d s
      match findDoc id s with
      | none => s
      | some d =>
        if cond1 s != 0 || orderHeld d s then s
        else
          let s := loadFantail d s
          let c := firstCause d s
          if c.1 = 0 then admitDoc d s
          else if (c.1 = 1 ∨ c.1 = 2) ∧ mustForce d s then
            admitDoc d (raise Src.admitForced { s with pond := { s.pond with err := setBit s.pond.err 6 } })
          else s

/-- The sluice evaluates every offered document, in the order of their offers. -/
def evaluateAll (s : State) : State :=
  let ids := (sortBy (fun d => d.offerNo) (s.docs.filter fun d => d.offered && !d.admitted && !d.barred)).map
    fun d => d.id
  ids.foldl evaluateDoc s

end Sys2Proof.Machine
end

