-- ==== Sys2Proof/Machine/Channels.lean ====
section
/-! DEFINITION. DMA channels: fetching (R95 to R98), requests and retries (R102 to R105), the conditions on a descriptor (R106),
retiring (R99), stops, kills and resets (R107 to R113). -/

namespace Sys2Proof.Machine

/-- DMA[n] is a line channel. -/
def lineChan (ch : Chan) : Option Port := if h : ch.val < 16 then some ⟨ch.val, h⟩ else none

/-- The device has reached READY since reset release: channels may issue requests (R78). -/
def gateOpen (s : State) : Bool := !s.link.readyGate

/-- Pending descriptors (R86): (TAIL − HEAD) modulo ENTRIES. -/
def pendingDescs (d : Dma) : Nat :=
  let n := max 1 d.entries.toNat
  (d.tail.toNat % n + n - d.head.toNat % n) % n

/-- A descriptor is current, be it while its slot is read again (R97). -/
def hasCurrent (d : Dma) : Bool := d.cur.isSome || d.refetching.isSome

/-- Descriptors fetched and not retired: the current one and the one ahead (R95). -/
def inFlight (d : Dma) : Nat := b2n (hasCurrent d) + b2n d.ahead.isSome

/-- A read of the next descriptor is outstanding. -/
def nextReading (d : Dma) : Bool := d.reqs.any fun r => r.kind == .next

/-- A read of the current slot is outstanding (R97). -/
def slotReading (d : Dma) : Bool := d.reqs.any fun r => r.kind == .slot

/-- Host-to-device, by the channel and FLAGS.DIR (R82, R83). -/
def isH2d (ch : Chan) (d : Desc) : Bool :=
  if ch.val < 16 ∨ ch.val = 18 then true else if ch.val = 19 then !(d.flags.getLsbD 3) else false

/-- Set an error flag of a channel. -/
def chanErr (ch : Chan) (i : Nat) (s : State) : State :=
  let d := s.dma[ch]
  setDma ch { d with err := setBit d.err i } s

/-- The descriptor in 32 bytes of ring memory (R83). -/
def parseDesc (b : List Byte) : Desc :=
  { addr := le64 b 0, len := leNat b 8 3, flags := byteAt b 11, user := le32 b 12 }

/-- USER is logged with an error of the descriptor (R83). -/
def logUser (ch : Chan) (code : Nat) (desc : Desc) (s : State) : State :=
  { s with out := { s.out with descErr := ⟨ch, code, desc.user⟩ :: s.out.descErr } }

/-! ## Requests (R73, R75, R95, R96) -/

/-- Traffic passes on the link: it leaves L1, and the 64 µs of R80 start afresh. -/
def touchLink (s : State) : State := { s with link := { s.link with l1 := false, traffic := s.now } }

/-- Read requests of a channel that hold a place: its own, and those abandoned whose completions have not come yet (R108). -/
def placesHeld (d : Dma) : Nat := d.reqs.length + d.dropped.length

/-- Read requests outstanding in the device. -/
def outstanding (s : State) : Nat := s.dma.toList.foldl (fun n d => n + placesHeld d) 0

/-- The channel may issue one more read request: at most 4 outstanding, and 64 for the device (R73). -/
def requestRoom (ch : Chan) (s : State) : Bool := decide (placesHeld s.dma[ch] < 4) && decide (outstanding s < 64)

/-- Issue a read request. -/
def issueReq (ch : Chan) (kind : ReqKind) (off len : Nat) (s : State) : State :=
  let d := s.dma[ch]
  touchLink (setDma ch { d with
    reqs := d.reqs ++ [{ id := d.nextReq, kind := kind, off := off, len := len }]
    nextReq := d.nextReq + 1 } s)

/-- Length of a read request for bytes `off` to `stop` of a buffer: at most MRRS, and within 4 KiB (R75). -/
def readLen (addr off stop mrrs : Nat) : Nat := min (min (max 1 mrrs) (4096 - (addr + off) % 4096)) (stop - off)

/-- Issue the next read request of the current buffer, where one is owed and there is room. -/
def issueBuffer (ch : Chan) (s : State) : State :=
  let d := s.dma[ch]
  match d.cur with
  | none => s
  | some c =>
    if c.asked < c.goal ∧ requestRoom ch s then
      let n := readLen c.desc.addr.toNat c.asked c.goal s.link.mrrs
      issueReq ch .buffer c.asked n (setDma ch { d with cur := some { c with asked := c.asked + n } } s)
    else s

/-- Issue the read of the current slot that R97 owes, where there is room. -/
def issueSlot (ch : Chan) (s : State) : State :=
  let d := s.dma[ch]
  if d.refetching.isSome ∧ !slotReading d ∧ requestRoom ch s then issueReq ch .slot (32 * d.head.toNat) 32 s else s

/-- Issue the descriptor read a running channel owes (R95): never more than one descriptor ahead. It is one read of the slot's 32 bytes, as
the example under R76 counts it; bytes 16 to 31, which R84 leaves out, are not used (DESIGN CHOICE, log entry 75). -/
def fetchDesc (ch : Chan) (s : State) : State :=
  let d := s.dma[ch]
  if d.state = .running ∧ !nextReading d ∧ inFlight d < 2 ∧ inFlight d < pendingDescs d ∧ requestRoom ch s
  then issueReq ch .next (32 * ((d.head.toNat + inFlight d) % max 1 d.entries.toNat)) 32 s
  else s

/-- Issue every read request the channel owes and has room for (R73, R95, R96, R97). -/
def issueOwed (ch : Chan) (s : State) : State :=
  if gateOpen s then fetchDesc ch (issueBuffer ch (issueBuffer ch (issueBuffer ch (issueBuffer ch (issueSlot ch s))))) else s

/-- A running channel, or one that completes its descriptor, may owe requests. -/
def works (d : Dma) : Bool := d.state == .running || d.state == .stopping

/-- Every channel issues the requests it owes. -/
def issueAll (s : State) : State :=
  if gateOpen s then (List.finRange 20).foldl (fun s ch => if works s.dma[ch] then issueOwed ch s else s) s else s

/-- Requests abandoned: their completions are discarded on arrival (R108). A request that waits for its backoff is not outstanding. -/
def abandoned (d : Dma) : List Nat := d.dropped ++ (d.reqs.filter fun r => r.backoff.isNone).map fun r => r.id

/-! ## Stopping -/

/-- The channel stops at a boundary (R108): STOP_REQ set, the descriptor ahead dropped unretired. STOPPED means that no request is
outstanding (R107): while a read is, its completions are waited for in STOPPING (DEDUCED, log entry 76). -/
def stopAt (ch : Chan) (s : State) : State :=
  let d := s.dma[ch]
  let out := abandoned d
  setDma ch { d with
    state := if out.isEmpty then .stopped else .stopping, stopReq := true, ahead := none, reqs := [], dropped := out, refetching := none } s

/-- An abandoned request has ended: with the last one, a channel that has reached its boundary is STOPPED (R107, R108). -/
def endDropped (ch : Chan) (id : Nat) (s : State) : State :=
  let d := s.dma[ch]
  let out := d.dropped.filter fun i => i != id
  setDma ch { d with
    dropped := out, state := if d.state = .stopping ∧ !hasCurrent d ∧ out.isEmpty then .stopped else d.state } s

/-- A rejected descriptor (R106): the channel stops at it with DESC_BAD or DESC_LEN. -/
def rejectDesc (ch : Chan) (code errBit : Nat) (s : State) : State :=
  let d := s.dma[ch]
  let s := match d.cur with | some c => logUser ch code c.desc s | none => s
  let s := setDma ch { d with cur := none, code := BitVec.ofNat 8 code, err := setBit d.err errBit } s
  raise Src.descStopped (stopAt ch s)

/-! ## Retiring (R99) -/

/-- The 16 write-back bytes of R83. -/
def writeBack (status retries flags bytes : Nat) (crc seq : Word) : List Byte :=
  toLe 2 status ++ toLe 1 (min retries 255) ++ toLe 1 flags ++ toLe 3 bytes ++ [0] ++
  toLe 4 crc.toNat ++ toLe 4 seq.toNat

/-- Address of ring slot `i` (R85). -/
def slotAddr (d : Dma) (i : Nat) : DWord :=
  (d.ringHi.setWidth 64 <<< 32) + d.ringLo.setWidth 64 + BitVec.ofNat 64 (32 * i)

/-- Statuses of R114 that are errors of a descriptor found at its retirement; check failures are noted as they are found. -/
def isDescError (status : Nat) : Bool := status == 3 || status == 5

/-- Steps 3 to 6 of R99: HEAD and RETIRED advance; the bytes moved are a record of the channel's tap (R153); write-back; head write-back; DESC_DONE; then the stop rules of R108. -/
def retire (ch : Chan) (status wbFlags : Nat) (moved : List Byte) (crc : Word) (s : State) : State :=
  let d := s.dma[ch]
  match d.cur with
  | none => s
  | some c =>
    let slot := d.head.toNat
    let n := max 1 d.entries.toNat
    let d' := { d with
      head := BitVec.ofNat 16 ((slot + 1) % n)
      retired := d.retired + 1
      code := BitVec.ofNat 8 status
      cur := none
      reqs := d.reqs.filter fun r => r.kind == .next
      refetching := none }
    let s := snoopRecord (tapChan ch) moved (setDma ch d' s)
    let s := if isDescError status then logUser ch status c.desc s else s
    let s := if c.desc.flags.getLsbD 2 then
        hostWrite (slotAddr d slot + 16)
          (writeBack status c.retries (1 + wbFlags + (if c.refetch then 2 else 0)) moved.length crc d'.retired) s else s
    let s := if d.headWbLo.getLsbD 0 then
        hostWrite ((d.headWbHi.setWidth 64 <<< 32) + (d.headWbLo &&& ~~~7#32).setWidth 64)
          (toLe 4 d'.head.toNat) s else s
    let s := if c.desc.flags.getLsbD 0 then raise ch.val s else s
    if d.state = .stopping ∨ c.desc.flags.getLsbD 1 ∨ d.stopReq then stopAt ch s else s

/-- Bytes that the current descriptor of an auxiliary channel keeps in the auxiliary partition (R125). -/
def auxReserved (ch : Chan) (d : Dma) : Nat :=
  match d.cur with
  | some c => if isH2d ch c.desc && !c.waitSpace then c.desc.len else 0
  | none => 0

/-- A host-to-device descriptor begins to be delivered: on a line channel the first 32 bytes are read first (R96); on an auxiliary one
its data takes its space, and the whole buffer is read (R125). -/
def beginDelivery (ch : Chan) (c : CurDesc) (s : State) : State :=
  let d := s.dma[ch]
  let goal := if ch.val < 16 then 32 else c.desc.len
  let s := setDma ch { d with cur := some { c with waitSpace := false, goal := goal } } s
  if ch.val < 16 then s else reserveAux (auxIx ch) c.desc.len s

/-- Present free space for a channel's descriptor. -/
def chanFree (ch : Chan) (s : State) : Nat :=
  match lineChan ch with
  | some p => lineFree p s
  | none => auxFree s

/-- The descriptor becomes current: the conditions of R106 in order. WB_CRC of a descriptor of LEN 0, which covers no stream, is 0 (DESIGN
CHOICE, log entry 59). -/
def becomeCurrent (ch : Chan) (c : CurDesc) (s : State) : State :=
  let d := s.dma[ch]
  let desc := c.desc
  let align := if ch.val < 16 then 32 else 4
  let s0 := setDma ch { d with cur := some c, refetching := none } s
  if desc.len = 0 then
    raise Src.descEmpty (chanErr ch 7 (retire ch 3 0 [] 0 s0))
  else if desc.flags &&& 0xF0#8 ≠ 0 ∨ (desc.flags.getLsbD 3 ∧ ch.val ≠ 19) ∨ desc.addr.toNat % align ≠ 0 then
    rejectDesc ch 0x10 6 s0
  else if 0xFFFFE0 < desc.len then rejectDesc ch 0x11 5 s0
  else if !isH2d ch desc then s0
  else
    let capacity := match lineChan ch with
      | some p => lineCapacity p s
      | none => auxSize s
    if capacity < desc.len then rejectDesc ch 0x11 5 s0
    else if chanFree ch s < desc.len then setDma ch { s0.dma[ch] with cur := some { c with waitSpace := true } } s0
    else beginDelivery ch c s0

/-- After a retirement: the descriptor ahead becomes current (R95). The next is fetched as soon as a request can go out. -/
def proceed (ch : Chan) (s : State) : State :=
  let d := s.dma[ch]
  match d.state, hasCurrent d, d.ahead with
  | .running, false, some a => becomeCurrent ch { desc := a.desc, retries := a.retries } (setDma ch { d with ahead := none } s)
  | _, _, _ => s

/-! ## Errors and retries (R102 to R105) -/

/-- Bit of an error in the uncorrectable error status of AER (log entry 5). -/
def aerBit : CplError → Nat
  | .unsupported => 20 | .abort => 15 | .poisoned => 12 | .malformed => 18 | .unexpected => 16

/-- An uncorrectable error is reported through AER (R73, R105): its status bit, and the header of the first one unmasked. It counts in
DMA_BUS. -/
def reportAer (bit : Nat) (header : Option (BitVec 128)) (s : State) : State :=
  let a := s.link.aer
  let masked := a.uncMask.getLsbD bit
  let first := a.uncStatus &&& ~~~a.uncMask == 0 && !masked
  let a := { a with
    uncStatus := setBit a.uncStatus bit
    firstError := if first then BitVec.ofNat 5 bit else a.firstError
    header := if first then header.getD 0 else a.header }
  let s := { s with link := { s.link with aer := a } }
  countClass Cls.dmaBus (if masked then s else raise Src.pcieAer { s with evt := { s.evt with aerClass := some Cls.dmaBus } })

/-- A correctable error is reported through AER (R474). -/
def reportCorrectable (bit : Nat) (s : State) : State :=
  let a := s.link.aer
  countClass Cls.link (raise Src.pcieAer { s with
    evt := { s.evt with aerClass := some Cls.link }
    link := { s.link with aer := { a with corStatus := setBit a.corStatus bit } } })

/-- What an auxiliary channel's descriptor had taken is given back when it is not delivered (R104, R108). -/
def dropPartial (ch : Chan) (s : State) : State :=
  if ch.val < 16 then s else unreserveAux (auxIx ch) (auxReserved ch s.dma[ch]) s

/-- Re-issues are used up (R104): the channel halts, and its documents are marked (R112). The descriptors it had fetched are held no longer:
STAT.IN_FLIGHT and R89 count none while it waits for its reset (DESIGN CHOICE, log entry 77). -/
def haltChan (ch : Chan) (isDesc : Bool) (s : State) : State :=
  let s := dropPartial ch (tapCut (tapChan ch) s)
  let d := s.dma[ch]
  let s := match isDesc, d.cur with
    | false, some c => logUser ch 0x12 c.desc s
    | _, _ => s
  let s := setDma ch { d with
    state := .halted, cur := none, ahead := none, reqs := [], dropped := abandoned d, refetching := none
    code := if isDesc then 0x13 else 0x12
    err := setBit d.err (if isDesc then 4 else 3) } s
  let s := countClass Cls.dmaHalt (raise Src.chHalted s)
  match lineChan ch with
  | some p => channelLost p 0x06 s
  | none => s

/-- Good completions have no command of their own: an event that names a request not issued yet tells that requests before it have ended and
let it out (DESIGN CHOICE, log entry 60). -/
def letOut : Nat → Chan → Nat → State → State
  | 0, _, _, s => s
  | n + 1, ch, id, s =>
    let d := s.dma[ch]
    if id < d.nextReq then s
    else match d.reqs.find? fun r => r.kind == .buffer && r.backoff.isNone with
      | none => s
      | some r => letOut n ch id (issueBuffer ch (setDma ch { d with reqs := d.reqs.filter fun q => q.id != r.id } s))

/-- The requests as they stand when an event names `id`: those before it have ended only if `id` can have been issued. -/
def issuedBy (ch : Chan) (id : Nat) (s : State) : State :=
  let t := letOut (id + 1 - s.dma[ch].nextReq) ch id s
  if id < t.dma[ch].nextReq then t else s

/-- AER reports a failed read: an errored completion with its header, or a time-out (R102, R105). -/
def reportFailed (err : Option (CplError × BitVec 128)) (s : State) : State :=
  match err with
  | some (e, h) => touchLink (reportAer (aerBit e) (some h) s)
  | none => reportAer 14 none s

/-- A failed request is issued again after its backoff, or halts the channel once its retries are used up (R102, R103). -/
def retryOrHalt (ch : Chan) (r : ReadReq) (s : State) : State :=
  let d := s.dma[ch]
  if r.backoff.isSome then s
  else if d.retryLimit.toNat ≤ r.reissues then haltChan ch (r.kind != .buffer) s
  else setDma ch { d with reqs := d.reqs.map fun q =>
      if q.id = r.id then { q with backoff := some (s.now + usGrid (2 ^ r.reissues)) } else q } s

/-- An unexpected completion is reported and counted; a time-out without a request is none. -/
def unexpected (err : Option (CplError × BitVec 128)) (s : State) : State :=
  match err with
  | some (_, h) => touchLink (reportAer (aerBit .unexpected) (some h) s)
  | none => s

/-- A read request has failed, by an errored completion or by its time-out (R102, R103, R105). A completion without a request is an
unexpected one, reported and counted; a time-out without one is none. -/
def requestFailed (ch : Chan) (id : Nat) (err : Option (CplError × BitVec 128)) (s : State) : State :=
  let s := issuedBy ch id s
  let d := s.dma[ch]
  match d.reqs.find? fun r => r.id == id with
  | none => if d.dropped.contains id then endDropped ch id (reportFailed err s) else unexpected err s
  | some r => retryOrHalt ch r (reportFailed err s)

/-- The backoff ends and the whole request is issued again (R103). A re-issue counts for the descriptor that the request serves (R83). -/
def reissue (ch : Chan) (id : Nat) (s : State) : State :=
  let d := s.dma[ch]
  match d.reqs.find? fun r => r.id == id with
  | none => s
  | some r =>
    match r.backoff with
    | none => s
    | some t =>
      touchLink (setDma ch { d with
        reqs := d.reqs.map fun q => if q.id = id then { q with backoff := none, reissues := q.reissues + 1 } else q
        errRetries := satInc d.errRetries
        err := setBit d.err 2
        cur := if r.kind = .buffer then d.cur.map fun c => { c with retries := c.retries + 1 } else d.cur }
        (advanceTo t s))

/-! ## Arrivals -/

/-- A fetched descriptor arrives with the completions of request `id` (R95, R97, R106). The slot's second read answers R97; another descriptor
becomes current, or stands ahead, while TAIL keeps it pending. Completions of an abandoned request are discarded, and one without a request is
unexpected (R102). -/
def descArrives (ch : Chan) (id : Nat) (bytes : List Byte) (s : State) : State :=
  let d := s.dma[ch]
  match d.reqs.find? fun r => r.id == id && r.backoff.isNone && r.kind != .buffer with
  | none =>
    if d.dropped.contains id then touchLink (endDropped ch id s)
    else if (d.reqs.any fun r => r.id == id) || decide (bytes.length ≠ 32) then s
    else touchLink (reportAer (aerBit .unexpected) none s)
  | some r =>
    if bytes.length ≠ 32 then s
    else
      let s := touchLink (setDma ch { d with reqs := d.reqs.filter fun q => q.id != id } s)
      let d := s.dma[ch]
      let desc := parseDesc bytes
      match r.kind, d.refetching with
      | .slot, some (c0, r0, n) =>
        proceed ch (becomeCurrent ch { desc := desc, refetch := true, first := some (c0, r0), retries := n + r.reissues } s)
      | .slot, none => s
      | _, _ =>
        if pendingDescs d ≤ inFlight d ∨ d.ahead.isSome then s
        else proceed ch (setDma ch { d with ahead := some { desc := desc, retries := r.reissues } } s)

/-- The channel wakes: it acts on TAIL (R90, R108). -/
def chanWake (ch : Chan) (s : State) : State :=
  let d := s.dma[ch]
  if d.state = .running then
    if d.stopReq ∧ !hasCurrent d then stopAt ch s else proceed ch s
  else s

/-! ## Control (R108, R109) -/

/-- The fixed ingress checker keeps the channel out of service (R144). -/
def checkerOut (ch : Chan) (s : State) : Bool := s.chk.fixedIng.getLsbD ch.val

/-- CTL.ENABLE written 1. -/
def enableChan (ch : Chan) (s : State) : State :=
  let d := s.dma[ch]
  if d.state = .disabled ∧ !checkerOut ch s then
    chanWake ch (setDma ch { d with enable := true, state := .running } s)
  else s

/-- STOP_REQ written 1. -/
def stopChan (ch : Chan) (s : State) : State :=
  let d := s.dma[ch]
  let s := setDma ch { d with stopReq := true } s
  match d.state with
  | .running =>
    if hasCurrent d then setDma ch { d with stopReq := true, state := .stopping } s
    else stopAt ch s
  | _ => s

/-- CTL.RESUME written 1. -/
def resumeChan (ch : Chan) (s : State) : State :=
  let d := s.dma[ch]
  if d.state = .stopping ∨ d.state = .stopped then
    chanWake ch (setDma ch { d with stopReq := false, state := .running } s)
  else s

/-- An auxiliary channel's own data is dropped at a kill or reset (R113, R125): all of it, that of retired descriptors which the firmware has
not taken yet included (DESIGN CHOICE, log entry 78). -/
def dropTransfer (ch : Chan) (s : State) : State :=
  if ch.val = 18 ∨ ch.val = 19 then modAux (auxIx ch) (fun _ => []) s else s

/-- HEAD and RETIRED after a kill (R108, R110): undefined, so free values. -/
def loseCounts (ch : Chan) (s : State) : State :=
  let (i, s) := nextFree s
  let d := s.dma[ch]
  setDma ch { d with head := (Config.freeWord i).setWidth 16, retired := (Config.freeWord i >>> 16).setWidth 32 } s

/-- CTL.KILL acts in these states (R108). -/
def canKill (d : Dma) : Bool := works d || d.state == .stopped || d.state == .halted

/-- CTL.KILL written 1: outstanding requests are abandoned and the documents are marked (R108, R112). -/
def killChan (ch : Chan) (s : State) : State :=
  if canKill s.dma[ch] then
    let s := loseCounts ch (tapCut (tapChan ch) s)
    let d := s.dma[ch]
    let s := setDma ch { d with
      state := .killed, code := 0x14, cur := none, ahead := none, refetching := none, reqs := [], dropped := abandoned d } s
    match lineChan ch with
    | some p => channelLost p 0x07 s
    | none => dropTransfer ch s
  else s

/-- CTL.RESET written 1. -/
def resetChan (ch : Chan) (s : State) : State :=
  let s := if works s.dma[ch] then killChan ch s else s
  let d := s.dma[ch]
  match d.state with
  | .disabled | .stopped | .halted | .killed => setDma ch { d with state := .resetting } s
  | _ => s

/-- Every outstanding request has ended: the reset completes (R108, R44, R112). -/
def finishReset (ch : Chan) (s : State) : State :=
  let d := s.dma[ch]
  if d.state = .resetting then
    let s := match lineChan ch with
      | some p => channelReset p s
      | none => dropTransfer ch s
    let d := s.dma[ch]
    let s := setDma ch { d with
      state := .disabled, enable := false, stopReq := false, head := 0, tail := 0, retired := 0
      errCheck := 0, errRetries := 0, frame := .idle, k := 0, lastDoc := 0, openDoc := 0, lineCount := 0
      prevTest := false, cur := none, ahead := none, reqs := [], dropped := [], refetching := none, latched := none } s
    match lineChan ch with
    | some p =>
      let t := s.pond.ports[p]
      setStore p { t with meter := {} } s
    | none => s
  else s

/-! ## Doorbells (R88 to R90, R79) -/

/-- A doorbell value is ignored with DB_BAD (R89). -/
def badBell (d : Dma) (val : DWord) : Bool :=
  let t := (val.setWidth 16).toNat
  let n := max 1 d.entries.toNat
  decide (n ≤ t) || val >>> 16 != 0 || decide ((t + n - d.head.toNat % n) % n < inFlight d)

/-- Act on a doorbell value (R89, R90). -/
def ringBell (ch : Chan) (val : DWord) (s : State) : State :=
  let d := s.dma[ch]
  match d.state with
  | .killed | .resetting => s
  | _ =>
    if badBell d val then raise Src.dbBad (chanErr ch 0 s)
    else chanWake ch (setDma ch { d with tail := val.setWidth 16 } s)

/-- A doorbell write: latched until READY (R79), then acted on. -/
def doorbell (ch : Chan) (val : DWord) (s : State) : State :=
  if gateOpen s then ringBell ch val s
  else setDma ch { s.dma[ch] with latched := some val } s

/-- TAIL as it reads: the last value accepted, or the one latched under R79 (R115). -/
def tailShown (d : Dma) : Half :=
  match d.latched with
  | some v => v.setWidth 16
  | none => d.tail

/-- At READY the latched doorbells are acted on, and the gate opens (R79, R423). -/
def openGate (s : State) : State :=
  let s := { s with link := { s.link with readyGate := false } }
  (List.finRange 20).foldl (fun s ch =>
    match s.dma[ch].latched with
    | some v => ringBell ch v (setDma ch { s.dma[ch] with latched := none } s)
    | none => chanWake ch s) s

/-- A descriptor that waited for pond space proceeds if it fits now (R106). -/
def spaceFreed (ch : Chan) (s : State) : State :=
  match s.dma[ch].cur with
  | none => s
  | some c => if c.waitSpace ∧ c.desc.len ≤ chanFree ch s then beginDelivery ch c s else s

end Sys2Proof.Machine
end

