-- ==== Sys2Proof/Machine/Packets.lean ====
section
/-! DEFINITION. Line packets: the check (R41, R68), the framing state machine (R43 to R45), doc-opens (R46 to R52, R502), lines, test
lines, doc-closes and fillers (R55 to R67), and packets that fail (R70). -/

namespace Sys2Proof.Machine

/-! ## Zero-run encoding (R61) -/

/-- Decode an encoded payload: none where a token runs past the end. -/
def zrDecode : Nat → List Byte → Option (List Byte)
  | _, [] => some []
  | 0, _ :: _ => none
  | fuel + 1, t :: l =>
    if t < 0x80#8 then
      let n := t.toNat + 1
      if l.length < n then none
      else (zrDecode fuel (l.drop n)).map fun r => l.take n ++ r
    else (zrDecode fuel l).map fun r => List.replicate (t.toNat - 0x7F) 0 ++ r

/-- The raw line of an encoded payload, if it decodes to exactly `raw` bytes. -/
def decodeLine (payload : List Byte) (raw : Nat) : Option (List Byte) :=
  match zrDecode payload.length payload with
  | some r => if r.length = raw then some r else none
  | none => none

/-! ## Fields of a packet (R38) -/

/-- TYPE. -/
def pktType (b : List Byte) : Nat := (byteAt b 1).toNat
/-- TAGS. -/
def pktTags (b : List Byte) : Byte := byteAt b 2
/-- PORT. -/
def pktPort (b : List Byte) : Nat := (byteAt b 3).toNat % 16
/-- DOC_ID. -/
def pktDoc (b : List Byte) : Word := le32 b 4
/-- LINE. -/
def pktLine (b : List Byte) : Word := le32 b 8
/-- PAYLOAD_LEN. -/
def pktPlen (b : List Byte) : Nat := leNat b 12 2
/-- The payload. -/
def pktPayload (b : List Byte) : List Byte := slice b 16 (pktPlen b)

/-- PORT names the channel and the reserved header field is 0 (R69). -/
def headerOk (p : Port) (b : List Byte) : Bool := pktPort b == p.val && leNat b 14 2 == 0

/-- EXP_DOC and EXP_LINE of the framing state (R43). -/
def expected (d : Dma) : Word × Word :=
  match d.frame with
  | .idle => (d.lastDoc, BitVec.allOnes 32)
  | .opened | .discard => (d.openDoc, BitVec.ofNat 32 d.k)
  | .ended => (d.openDoc, BitVec.ofNat 32 d.lineCount)

/-- A check failure found in the first 32 bytes (R68, R96). -/
def headFails (len : Nat) (b : List Byte) : Bool :=
  decide (b.length < 32) || byteAt b 0 != 0xA7#8 || (byteAt b 3).toNat / 16 != 2 ||
  decide (1024 < pktPlen b) || len != pktLen (pktPlen b)

/-- CALC and RECV of a fetch (R146), and whether it passes. -/
def checkPacket (p : Port) (d : Dma) (len : Nat) (b : List Byte) : Bool × Word × Word :=
  if headFails len b then (false, crc32c (b.take 32), 0)
  else
    let e := expected d
    let c := crc32c (foldBlock p.val e.1 e.2 ++ b.take (16 + pktPlen b))
    let r := le32 b (16 + pktPlen b)
    (c == r, c, r)

/-- A filler obeys R63. -/
def fillerOk (p : Port) (d : Dma) (b : List Byte) : Bool :=
  pktType b == 4 && headerOk p b && pktTags b == 0 && pktDoc b == (expected d).1 && pktLine b == (expected d).2

/-! ## Lines (R55 to R59, R64, R67) -/

/-- The test payload obeys R64: `bpn` bits per nozzle, `n` nozzles. -/
def testOk (pl : List Byte) (bpn n : Nat) (inside : Bool) : Bool :=
  let lvl := (byteAt pl 1).toNat
  let param := leNat pl 2 2
  let phase := leNat pl 4 2
  let spits := leNat pl 6 2
  decide (pl.length = 8) && decide (1 ≤ lvl) && decide (lvl < 2 ^ bpn) &&
  (if inside then spits == 0 else spits != 0) &&
  (match (byteAt pl 0).toNat with
   | 0 | 1 | 2 => param == 0 && phase == 0
   | 3 => decide (2 ≤ param) && decide (param ≤ 2048) && decide (phase < param)
   | 4 => decide (param < n) && phase == 0
   | _ => false)

/-- A line or test-line packet obeys the rules for line `k` of the open document (R55, R58, R64). N is the number of nozzles that the profile
expects on the port, which a head that prints the document has too (DESIGN CHOICE where the head is absent or another, log entry 79). -/
def lineOk (p : Port) (d : Dma) (b : List Byte) (s : State) : Bool :=
  let tags := pktTags b
  let plen := pktPlen b
  let n := profNozzles d.openProf p s
  let bpn := ebBpn (energyOf d.openProf s)
  let last := tags.getLsbD 0
  let blank := tags.getLsbD 1
  let rep := tags.getLsbD 2
  let enc := tags.getLsbD 5
  headerOk p b && pktDoc b == d.openDoc && pktLine b == BitVec.ofNat 32 d.k &&
  tags &&& 0xC0#8 == 0 && last == (d.k + 1 == d.lineCount) &&
  (match pktType b with
   | 5 => tags &&& 0xFE#8 == 0 && plen == 8 && testOk (pktPayload b) bpn n true
   | 1 =>
     if blank && rep then false
     else if blank || rep then plen == 0 && !enc && (!rep || (d.k != 0 && !d.prevTest))
     else if enc then (decodeLine (pktPayload b) (rawBytes n bpn)).isSome
     else plen == rawBytes n bpn
   | _ => false)

/-- Line `k` has been taken: `k` advances, and OPEN ends or DISCARD returns to IDLE at LINE_COUNT (R45). -/
def advanceLine (p : Port) (isTest : Bool) (s : State) : State :=
  let d := s.dma[chanOf p]
  let d' := { d with k := d.k + 1, prevTest := isTest }
  if d.lineCount ≤ d.k + 1 then
    if d.frame = .opened then setDma (chanOf p) { d' with frame := .ended } s
    else frameIdle p (setDma (chanOf p) d' s)
  else setDma (chanOf p) d' s

/-- PKT_MALFORMED is recorded (R69). -/
def malformed (ch : Chan) (s : State) : State := raise Src.pktMalformed (chanErr ch 10 s)

/-- A packet that failed its check twice or breaches a rule (R70). Line `k` that such a packet takes counts as no test line for R58, whatever its
TYPE says (DESIGN CHOICE, log entry 80). -/
def handleFailing (p : Port) (s : State) : State :=
  let d := s.dma[chanOf p]
  match d.frame with
  | .opened =>
    let s := markDoc d.openDoc 0x02 p.val d.k s
    let s := modDocPort d.openDoc p (fun x => { x with taken := d.k + 1, bad := x.bad ++ [d.k] }) s
    advanceLine p false s
  | .ended => frameIdle p s
  | .discard => advanceLine p false s
  | .idle => s

/-- A breach: recorded, and handled under R70. -/
def breach (p : Port) (s : State) : Nat × State := (5, handleFailing p (malformed (chanOf p) s))

/-- Store line `k` (R45, R126). A line whose line-ahead event has passed is released at once (R130): it is neither written nor allocated
nor counted in B_p (DESIGN CHOICE, log entry 61). A line of a document that has left the table is taken all the same (R70, R130). The sluice
evaluates a document that is held (R131). -/
def takeLine (p : Port) (b : List Byte) (s : State) : State :=
  let d := s.dma[chanOf p]
  let isTest := pktType b == 5
  match findDoc d.openDoc s with
  | none => advanceLine p isTest s
  | some doc =>
    let late := decide (d.k < doc.ports[p].nextAhead)
    let s := if late then s else storeLine p doc.id d.k isTest b s
    let t := s.pond.ports[p]
    let s := if late then s
      else setStore p { t with meter := { t.meter with bytes := t.meter.bytes + b.length } } s
    let s := modDocPort doc.id p (fun x => { x with taken := d.k + 1 }) s
    advanceLine p isTest (if doc.offered && !doc.admitted then evaluateDoc s doc.id else s)

/-! ## Doc-open (R46 to R52, R502) -/

/-- The payload read as R47 gives: 32 bytes, zeros beyond PAYLOAD_LEN. -/
def openPayload (b : List Byte) : List Byte :=
  (List.range 32).map fun i => if i < pktPlen b then byteAt b (16 + i) else 0

/-- The doc-open obeys the rules of R46 and R47 but for the consistency item. -/
def openOk (p : Port) (d : Dma) (b : List Byte) (s : State) : Bool :=
  let pl := openPayload b
  let id := pktDoc b
  let q := (byteAt pl 0).toNat
  headerOk p b && pktTags b == 0 && pktLine b == BitVec.allOnes 32 && pktPlen b == 32 &&
  id != 0 && id != BitVec.allOnes 32 && id != d.lastDoc &&
  (match (List.finRange 8).find? fun k => k.val == q with
   | some k => profileOk (mainEng s) k s
   | none => false) &&
  decide (byteAt pl 1 ≤ 1#8) && decide (byteAt pl 2 ≤ 1#8) && byteAt pl 3 == 0 && leNat pl 6 2 == 0 &&
  ((slice pl 20 12).all fun x => x == 0) && (le16 pl 4).getLsbD p.val &&
  decide (1 ≤ leNat pl 8 4) && decide (leNat pl 8 4 ≤ 0xFFFFFF)

/-- A new document-table entry (R127). -/
def newDoc (id : Word) (pl : List Byte) : Doc :=
  { id := id, payload := pl, profile := (byteAt pl 0).toNat, stream := byteAt pl 1 == 1
    trigger := if (byteAt pl 2).getLsbD 0 then 1 else 0
    mask := le16 pl 4, lineCount := leNat pl 8 4, startOff := leNat pl 12 4, hostTag := le32 pl 16
    opened := 0 }

/-- The channel opens the document (R45), and it is offered once every channel has opened it (R50). -/
def openDoc (p : Port) (id : Word) (s : State) : State :=
  let s := modDoc id (fun d => { d with opened := setBit d.opened p.val }) s
  let s := noteOpened p (some id) s
  match findDoc id s with
  | none => s
  | some doc =>
    let d := s.dma[chanOf p]
    let s := setDma (chanOf p) { d with
      frame := .opened, lastDoc := id, openDoc := id, k := 0, lineCount := doc.lineCount, openProf := docProf doc, prevTest := false } s
    if (doc.mask &&& ~~~doc.opened) == 0 ∧ !doc.offered then
      let n := s.pond.offers
      let s := { s with pond := { s.pond with offers := n + 1 } }
      evaluateAll (modDoc id (fun d => { d with offered := true, offerNo := n }) s)
    else s

/-- A doc-open that passed its check arrives in IDLE: status, or none while it waits for a table entry (R127). -/
def openPacket (p : Port) (b : List Byte) (s : State) : Option (Nat × State) :=
  let ch := chanOf p
  let d := s.dma[ch]
  let pl := openPayload b
  let id := pktDoc b
  let count := leNat pl 8 4
  let ok := openOk p d b s
  match findDoc id s with
  | some doc =>
    if doc.barred then some (5, malformed ch (frameDiscard p id count s))
    else if doc.opened.getLsbD p.val || doc.admitted then
      some (5, raise Src.docMismatch (malformed ch (frameDiscard p id count s)))
    else if ok && doc.payload == pl then some (0, openDoc p id s)
    else
      let s := barDoc id (markDoc id 0x02 0 noLine s)
      let s := malformed ch (frameDiscard p id count s)
      some (5, if doc.payload == pl then s else raise Src.docMismatch s)
  | none =>
    let reserved := id == 0 || id == BitVec.allOnes 32
    if !reserved && decide (64 ≤ s.docs.length) then none
    else if ok then some (0, openDoc p id { s with docs := s.docs ++ [newDoc id pl] })
    else if reserved then
      some (5, malformed ch (frameDiscard p id count (pushFault id (le32 pl 16) 0x02 0 noLine s)))
    else
      let doc := newDoc id pl
      let s := { s with docs := s.docs ++ [{ doc with mask := setBit doc.mask p.val }] }
      let s := barDoc id (markDoc id 0x02 0 noLine s)
      some (5, malformed ch (frameDiscard p id count s))

/-! ## Routing a packet that passed its check -/

/-- Carry out a test line outside a document (R66): only in MAINT. -/
def spitTest (p : Port) (b : List Byte) (s : State) : Nat × State :=
  let d := s.dma[chanOf p]
  match spitProfile p s with
  | none => breach p s
  | some q =>
    let ok := headerOk p b && pktTags b &&& 0xFE#8 == 0 && pktPlen b == 8 && pktDoc b == (expected d).1 &&
      pktLine b == (expected d).2 &&
      testOk (pktPayload b) (ebBpn (energyOf q s)) (recNozzles s.hp[p].record) false
    if ok && s.top.state == .maint then
      let t := s.track[p]
      (0, setTrack p { t with spits := t.spits ++ [(q, pktPayload b, leNat (pktPayload b) 6 2)] } s)
    else breach p s

/-- A packet that passed its check, by framing state (R45): status and state; none while it waits (R127). -/
def routePacket (p : Port) (b : List Byte) (s : State) : Option (Nat × State) :=
  let d := s.dma[chanOf p]
  if fillerOk p d b then some (0, s)
  else match d.frame with
    | .discard => some (6, advanceLine p false s)
    | .idle =>
      match pktType b with
      | 2 => openPacket p b s
      | 5 => some (spitTest p b s)
      | _ => some (breach p s)
    | .ended =>
      if pktType b == 3 && headerOk p b && pktTags b == 0 && pktDoc b == d.openDoc &&
          pktLine b == BitVec.ofNat 32 d.lineCount && pktPlen b == 0
      then some (0, frameIdle p s) else some (breach p s)
    | .opened => some (if lineOk p d b s then (0, takeLine p b s) else breach p s)

/-- The descriptor retires with a status (R99, R101, R114), and the channel goes on. -/
def retirePacket (p : Port) (status : Nat) (flags : Nat) (moved : List Byte) (c : Word) (s : State) : State :=
  let ch := chanOf p
  let s := if status = 4 ∨ status = 5 then countClass Cls.dmaCheck s else s
  proceed ch (retire ch status flags moved c s)

/-- Record a failed fetch (R146, R147). -/
def recordFail (p : Port) (c r : Word) (s : State) : State :=
  let d := s.dma[chanOf p]
  let s := match d.cur with | some x => logUser (chanOf p) 4 x.desc s | none => s
  let s := setDma (chanOf p) { d with err := setBit d.err 8, errCheck := satInc d.errCheck } s
  raise Src.chkFail { s with chk := { s.chk with
    ingCalc := s.chk.ingCalc.set p.val c p.isLt, ingRecv := s.chk.ingRecv.set p.val r p.isLt } }

/-- Record CHK_PERSIST (R146). -/
def recordPersist (p : Port) (s : State) : State :=
  raise Src.chkPersist { chanErr (chanOf p) 9 s with chk := { s.chk with persist := satInc s.chk.persist } }

/-- The current descriptor of a channel takes completions: nothing else holds it up, and none of its requests has failed and waits for
its re-issue (R98). -/
def takesData (d : Dma) (c : CurDesc) : Bool :=
  works d && !c.waitSpace && c.waitTable.isNone && c.refetchAt.isNone && decide (32 ≤ c.asked) &&
  d.reqs.all fun r => r.kind != .buffer || r.backoff.isNone

/-- Every request of the buffer has been issued, or the last ones go out as those outstanding end (R98). -/
def allAsked (d : Dma) (c : CurDesc) : Bool :=
  decide (c.desc.len ≤ c.asked) || (decide (c.desc.len ≤ c.goal) && d.reqs.any fun r => r.kind == .buffer)

/-- The whole packet can have arrived: its header first, then the rest (R96). -/
def wholePacket (d : Dma) (c : CurDesc) (b : List Byte) : Bool :=
  decide (b.length = c.desc.len) && allAsked d c && (!c.header.isEmpty || decide (b.length ≤ 32))

/-- A packet delivered on a line channel (R96, R98, R99 step 1); the header is not read again. A failing fetch in DISCARD leaves CHK.ING_CALC
and CHK.ING_RECV (DESIGN CHOICE, log entry 62). -/
def deliverPacket (p : Port) (b : List Byte) (s : State) : State :=
  let ch := chanOf p
  let d := s.dma[ch]
  match d.cur with
  | none => s
  | some c =>
    if !takesData d c then s
    else
      let b := c.header ++ b.drop c.header.length
      let (pass, cc, rr) := checkPacket p d c.desc.len b
      let moved := if headFails c.desc.len b then b.take (min 32 c.desc.len) else b
      if !(headFails c.desc.len b) && !wholePacket d c b then s
      else if pass then
        match routePacket p b s with
        | none => setDma ch { d with cur := some { c with waitTable := some b } } s
        | some (st, s) =>
          retirePacket p (if st = 0 && c.refetch then 1 else st) 0 moved cc s
      else if d.frame = .discard then retirePacket p 6 0 moved cc (advanceLine p false s)
      else
        let s := recordFail p cc rr s
        if c.refetch then
          let persist := c.first == some (cc, rr)
          let s := if persist then recordPersist p s else s
          retirePacket p 4 (if persist then 4 else 0) moved cc (handleFailing p s)
        else
          let d := s.dma[ch]
          tapCut (tapChan ch) <| setDma ch { d with
            reqs := d.reqs.filter fun r => r.kind == .next
            cur := some { c with goal := 0, refetchAt := some (s.now + usGrid 2), first := some (cc, rr) } } s

/-- The first 32 bytes arrive (R96): a failure stops the read; otherwise the rest is requested. -/
def headerArrives (p : Port) (b : List Byte) (s : State) : State :=
  let ch := chanOf p
  let d := s.dma[ch]
  match d.cur with
  | none => s
  | some c =>
    if !takesData d c || !c.header.isEmpty || decide (c.asked ≠ 32) || decide (b.length ≠ 32) then s
    else if headFails c.desc.len b then deliverPacket p b s
    else setDma ch { d with
      reqs := d.reqs.filter (fun r => r.kind == .next), cur := some { c with header := b, goal := c.desc.len } } s

/-- The refetch of R97: the ring slot and the buffer are read again. -/
def refetchPacket (p : Port) (s : State) : State :=
  let ch := chanOf p
  let d := s.dma[ch]
  match d.cur with
  | none => s
  | some c =>
    match c.refetchAt, c.first with
    | some t, some f =>
      if works d then setDma ch { d with cur := none, refetching := some (f.1, f.2, c.retries) } (advanceTo t s) else s
    | _, _ => s

/-- A doc-open that waited for a table entry proceeds once one is free, or once its document has one (R127). -/
def tableFreed (p : Port) (s : State) : State :=
  let ch := chanOf p
  let d := s.dma[ch]
  match d.cur with
  | none => s
  | some c =>
    match c.waitTable with
    | some b => if s.docs.length < 64 ∨ (findDoc (pktDoc b) s).isSome
        then deliverPacket p b (setDma ch { d with cur := some { c with waitTable := none } } s) else s
    | none => s

end Sys2Proof.Machine
end

