-- ==== Sys2Proof/Machine/Nozzle.lean ====
section
/-! DEFINITION. Nozzle health: head geometry (R229, R230), the substitution map and its posting (R282 to R289), the classes of a
window (R276, R277), localisation (R278, R279), suspicion (R280) and contact sheets (R290 to R292). -/

namespace Sys2Proof.Machine

/-! ## Geometry -/

/-- Column of nozzle `i`: 0 for A, 1 for B (R229). -/
def nozCol (r : List Byte) (i : Nat) : Nat := i % max 1 (recCols r)

/-- Address of nozzle `i` (R229). -/
def nozAddr (r : List Byte) (i : Nat) : Nat := (i / max 1 (recCols r) * recAstride r) % max 1 (recAddrs r)

/-- Address that strobe `k` fires (R230). -/
def strobeAddr (r : List Byte) (k : Nat) : Nat := (k * recOstep r) % max 1 (recAddrs r)

/-- Strobe order number at which nozzle `i` fires. -/
def nozSlot (r : List Byte) (i : Nat) : Nat :=
  ((List.range (recAddrs r)).find? fun k => strobeAddr r k == nozAddr r i).getD 0

/-- Two nozzles are in one group: same address and same column. -/
def sameGroup (r : List Byte) (i j : Nat) : Bool := nozAddr r i == nozAddr r j && nozCol r i == nozCol r j

/-! ## The map -/

/-- Replace a port's nozzle health. -/
def setNzh (p : Port) (z : Nzh) (s : State) : State := { s with nzh := s.nzh.set p.val z p.isLt }

/-- Set an error flag of a port's nozzle health. -/
def nzhErr (p : Port) (i : Nat) (s : State) : State :=
  setNzh p { s.nzh[p] with err := setBit s.nzh[p].err i } s

/-- Entries in use. -/
def mapEntries (z : Nzh) : List MapEntry := z.map.toList.filterMap id

/-- The entry stands for an active missing nozzle (R282). -/
def isActive (e : MapEntry) : Bool := e.kind != .incoming

/-- The nozzle is an active missing nozzle of the map. -/
def activeMissing (z : Nzh) (x : Nat) : Bool := (mapEntries z).any fun e => isActive e && e.nozzle == x

/-- Number of active missing nozzles. -/
def activeCount (z : Nzh) : Nat := ((mapEntries z).filter isActive).length

/-- First free place of a map. -/
def freePlace (z : Nzh) : Option (Fin 128) := (List.finRange 128).find? fun i => z.map[i].isNone

/-- Put an entry into the first free place; unchanged where none is free. -/
def putEntry (e : MapEntry) (z : Nzh) : Nzh :=
  match freePlace z with
  | some i => { z with map := z.map.set i.val (some e) i.isLt }
  | none => z

/-- Keep the entries that a test accepts; a freed entry clears EXHAUSTED (R286). -/
def keepEntries (f : MapEntry → Bool) (z : Nzh) : Nzh :=
  { z with
    map := z.map.map fun o => match o with | some e => if f e then some e else none | none => none
    exhausted := z.exhausted && (mapEntries z).all f }

/-- OV_FIRST and OV_LAST as nozzles (R293). -/
def ovRange (z : Nzh) : Nat × Nat := (32 * (z.overlap.toNat % 64), 32 * ((z.overlap.toNat / 64) % 64) + 31)

/-- OV_PORT. -/
def ovPortOf (z : Nzh) : Port := ⟨(z.overlap.toNat / 134217728) % 16, Nat.mod_lt _ (by decide)⟩

/-- SHIFT. -/
def ovShift (z : Nzh) : Int := ((z.overlap >>> 15).setWidth 12).toInt

/-- Partner nozzle of `x` on the overlap port, if R283 allows it but for room. -/
def ovPartner (p : Port) (x : Nat) (s : State) : Option (Port × Nat) :=
  let z := s.nzh[p]
  let q := ovPortOf z
  let y : Int := x + ovShift z
  if z.overlap.getLsbD 31 && decide ((ovRange z).1 ≤ x) && decide (x ≤ (ovRange z).2) && decide (0 ≤ y) &&
      decide (y < recNozzles s.hp[q].record) && !activeMissing s.nzh[q] y.toNat
  then some (q, y.toNat) else none

/-- Every INCOMING entry that some active missing nozzle asks for: target port, nozzle, donor port, donor nozzle. -/
def wantedIncoming (s : State) : List (Port × Nat × Port × Nat) :=
  (List.finRange 16).flatMap fun p =>
    (sortBy (fun e => e.nozzle) ((mapEntries s.nzh[p]).filter isActive)).filterMap fun e =>
      (ovPartner p e.nozzle s).map fun t => (t.1, t.2, p, e.nozzle)

/-- The map of the port holds the INCOMING entry. -/
def hasIncoming (z : Nzh) (y : Nat) (p : Port) (x : Nat) : Bool :=
  (mapEntries z).any fun e => e.kind == .incoming && e.nozzle == y && e.ovPort == p.val && e.ovNozzle == x

/-- INCOMING entries that nothing asks for any more are freed. -/
def dropIncoming (w : List (Port × Nat × Port × Nat)) (s : State) (p : Port) : State :=
  setNzh p (keepEntries (fun e => isActive e || w.any fun t =>
    t.1 == p && t.2.1 == e.nozzle && t.2.2.1.val == e.ovPort && t.2.2.2 == e.ovNozzle) s.nzh[p]) s

/-- A wanted INCOMING entry is entered where there is room (R283, R286). -/
def addIncoming (s : State) (t : Port × Nat × Port × Nat) : State :=
  let z := s.nzh[t.1]
  if hasIncoming z t.2.1 t.2.2.1 t.2.2.2 then s
  else setNzh t.1 (putEntry { kind := .incoming, nozzle := t.2.1, ovPort := t.2.2.1.val, ovNozzle := t.2.2.2 } z) s

/-- The availability of R283 in one entry. -/
def evalEntry (p : Port) (s : State) (e : MapEntry) : MapEntry :=
  if !isActive e then e
  else
    let z := s.nzh[p]
    let r := s.hp[p].record
    let x := e.nozzle
    let ov := match ovPartner p x s with
      | some (q, y) => if hasIncoming s.nzh[q] y p x then some (q, y) else none
      | none => none
    { e with
      twinOk := recRedund r == 1 && recCols r == 2 && !activeMissing z (x ^^^ 1)
      dnOk := decide (1 ≤ x) && !activeMissing z (x - 1)
      upOk := decide (x + 2 ≤ recNozzles r) && !activeMissing z (x + 1)
      ovOk := ov.isSome
      ovPort := match ov with | some t => t.1.val | none => 0
      ovNozzle := match ov with | some t => t.2 | none => 0 }

/-- Code of a kind (R282). -/
def kindCode : MapKind → Nat
  | .factory => 0 | .echo => 1 | .contact => 2 | .host => 3 | .incoming => 4

/-- The kind of a code. -/
def kindOf (n : Nat) : Option MapKind :=
  if n = 0 then some .factory else if n = 1 then some .echo else if n = 2 then some .contact
  else if n = 3 then some .host else if n = 4 then some .incoming else none

/-- The same kind and nozzle. -/
def sameEntry (a b : MapEntry) : Bool :=
  a.kind == b.kind && a.nozzle == b.nozzle && (isActive a || (a.ovPort == b.ovPort && a.ovNozzle == b.ovNozzle))

/-- A SUBST (type 6) or SUBST_FREE (type 7) record for each of a port's entries, with the SERIAL of their head (R288, R453). -/
def logEntries (p : Port) (type : BitVec 8) (serial : DWord) (l : List MapEntry) (s : State) : State :=
  l.foldl (fun s e => pushLog type (BitVec.ofNat 8 p.val)
    (toLe 1 (kindCode e.kind) ++ [0] ++ toLe 2 e.nozzle ++ toLe 8 serial.toNat ++ toLe 4 s.nzh[p].mapVer.toNat) s) s

/-- SUBST_FREE and SUBST records of a port's changes against the map that it held in `s0`. -/
def logMap (s0 : State) (s : State) (p : Port) : State :=
  let old := mapEntries s0.nzh[p]
  let new := mapEntries s.nzh[p]
  let serial := recSerial s.hp[p].record
  logEntries p 0x06 serial (new.filter fun e => !old.any (sameEntry e))
    (logEntries p 0x07 serial (old.filter fun e => !new.any (sameEntry e)) s)

/-- One posting (R287): every entry of every port is evaluated, and MAP_VER steps on each port whose map differs from that of `s0`. -/
def evalMaps (s0 : State) (s : State) : State :=
  let w := wantedIncoming s
  let s := (List.finRange 16).foldl (dropIncoming w) s
  let s := w.foldl addIncoming s
  let e := s
  let s := { s with nzh := Vector.ofFn fun p => { s.nzh[p] with map := s.nzh[p].map.map (Option.map (evalEntry p e)) } }
  { s with nzh := Vector.ofFn fun p =>
    if s.nzh[p].map = s0.nzh[p].map then s.nzh[p] else { s.nzh[p] with mapVer := s.nzh[p].mapVer + 1 } }

/-- The changes of every port against `s0` are logged. -/
def logMaps (s0 : State) (s : State) : State := (List.finRange 16).foldl (logMap s0) s

/-- A posting, and its records in the log. -/
def postMaps (s0 : State) (s : State) : State := logMaps s0 (evalMaps s0 s)

/-- A nozzle is to enter the map (R286): refused where it holds 64 active missing nozzles or 128 entries. -/
def enterMissing (p : Port) (x : Nat) (k : MapKind) (s : State) : State :=
  let z := s.nzh[p]
  if activeMissing z x then s
  else if 64 ≤ activeCount z then
    raise Src.substExhausted (setNzh p { z with exhausted := true, err := setBit z.err 2 } s)
  else if (freePlace z).isNone then
    raise Src.substExhausted (setNzh p { z with exhausted := true, err := setBit z.err 1 } s)
  else setNzh p (putEntry { kind := k, nozzle := x } z) s

/-- The map at a discovery (R288): with a changed head, of which `gone` is the SERIAL of the head before, every entry but INCOMING is freed; the
DEAD list is entered as FACTORY; suspicion and exoneration are cleared (R279, R280). -/
def discoverMap (p : Port) (gone : Option DWord) (s0 : State) : State :=
  let s := setNzh p { s0.nzh[p] with exon := [], susp := Vector.replicate 32 none } s0
  let kept := if gone.isSome then setNzh p (keepEntries (fun e => !isActive e) s.nzh[p]) s else s
  let r := s.hp[p].record
  let s := ((List.range (recDeadCount r)).map (recDead r)).foldl (fun s x => enterMissing p x .factory s) kept
  let s := evalMaps s0 s
  let s := match gone with
    | some serial => logEntries p 0x07 serial ((mapEntries s0.nzh[p]).filter isActive) s
    | none => s
  logMaps kept s

/-! ## MAP_CMD (R289) -/

/-- A refused map command. -/
def refuseMap (p : Port) (s : State) : State :=
  setNzh p { s.nzh[p] with err := setBit s.nzh[p].err 4, mapResult := true } s

/-- Record a map command's fields. -/
def noteMapCmd (p : Port) (op : BitVec 4) (x : BitVec 11) (s : State) : State :=
  setNzh p { s.nzh[p] with mapOp := op, mapNozzle := x, mapResult := false } s

/-- Operation 1: add NOZZLE as HOST; refused where R286 would apply or the nozzle is active missing. -/
def addHost (p : Port) (x : Nat) (s : State) : State :=
  let z := s.nzh[p]
  if activeMissing z x || decide (64 ≤ activeCount z) || (freePlace z).isNone then refuseMap p s
  else postMaps s (enterMissing p x .host s)

/-- Operation 2: free the entry of NOZZLE, whatever its kind but INCOMING. -/
def freeNozzle (p : Port) (x : Nat) (s : State) : State :=
  if activeMissing s.nzh[p] x then
    postMaps s (setNzh p (keepEntries (fun e => !isActive e || e.nozzle != x) s.nzh[p]) s)
  else refuseMap p s

/-- Operations 3 and 4: free the entries that a test does not keep. -/
def freeKinds (p : Port) (keep : MapKind → Bool) (s : State) : State :=
  postMaps s (setNzh p (keepEntries (fun e => keep e.kind) s.nzh[p]) s)

/-! ## Suspicion (R280) -/

/-- AGE of a suspicion entry, one up; 0 for a free one. -/
def suspAge (z : Nzh) (j : Fin 32) : Nat := match z.susp[j] with | some e => e.age + 1 | none => 0

/-- The suspicion entry with the largest AGE; of equal ones the lowest index. -/
def oldestSusp (z : Nzh) : Fin 32 :=
  (List.finRange 32).foldl (fun b i => if suspAge z b < suspAge z i then i else b) 0

/-- Record the last localisation. -/
def noteLoc (x count : Nat) (z : Nzh) : Nzh := { z with localised := satInc z.localised, lastLoc := some (count, x) }

/-- A confirmed nozzle (R280): NZH_CONFIRM, the class, and the map. -/
def confirm (p : Port) (x : Nat) (s : State) : State :=
  enterMissing p x .echo (countClass Cls.nzhMissing (raise Src.nzhConfirm s))

/-- One localisation of a nozzle. -/
def suspect (p : Port) (x : Nat) (s : State) : State :=
  let z := s.nzh[p]
  match (List.finRange 32).find? fun i => match z.susp[i] with | some e => e.nozzle == x | none => false with
  | some i =>
    match z.susp[i] with
    | none => s
    | some e =>
      let n := e.count + 1
      let z := noteLoc x n z
      if 3 ≤ n ∧ e.age ≤ 2000 then confirm p x (setNzh p { z with susp := z.susp.set i.val none i.isLt } s)
      else setNzh p { z with susp := z.susp.set i.val (some { e with count := n }) i.isLt } s
  | none =>
    let z := noteLoc x 1 z
    match (List.finRange 32).find? fun i => z.susp[i].isNone with
    | some i => setNzh p { z with susp := z.susp.set i.val (some ⟨x, 1, 0⟩) i.isLt } s
    | none =>
      let i := oldestSusp z
      setNzh p { z with susp := z.susp.set i.val (some ⟨x, 1, 0⟩) i.isLt, err := setBit z.err 3 } s

/-- A suspicion entry one load older; freed past 2,000. -/
def ageEntry : Option Susp → Option Susp
  | some e => if e.age < 2000 then some { e with age := e.age + 1 } else none
  | none => none

/-- HP[n] has strobed a load (R280). -/
def ageSuspicions (p : Port) (s : State) : State :=
  let z := s.nzh[p]
  let gone := (z.susp.toList.filter fun o => o.isSome && (ageEntry o).isNone).length
  setNzh p { z with susp := z.susp.map ageEntry, expired := satAdd z.expired gone } s

/-! ## Windows (R276 to R279) -/

/-- The class of a window. -/
inductive WindowClass where
  | deficit (d : Nat) | excess | clean
deriving DecidableEq, Repr

/-- R276: expected count without the active missing nozzles, and M in 1/16 nozzle unit. -/
def classify (e : Int) (m : Int) : WindowClass :=
  let d := 16 * e - m
  if 1 ≤ e ∧ 8 ≤ d then .deficit ((d + 8) / 16).toNat
  else if d ≤ -8 then .excess else .clean

/-- Localise the nozzles of `u`, clearing the groups of each (R278); those that this confirms enter the map in ascending index (R287). -/
def localiseAll (p : Port) (u : List Nat) (s : State) : State :=
  let r := s.hp[p].record
  (sortBy id u).foldl (fun s x =>
    let s := suspect p x s
    let z := s.nzh[p]
    setNzh p { z with exon := z.exon.filter fun j => !sameGroup r x j } s) s

/-- The algorithm of R278 on one window with fired set `f`. -/
def localise (p : Port) (c : WindowClass) (f : List Nat) (s : State) : State :=
  let z := s.nzh[p]
  match c with
  | .clean => setNzh p { z with exon := f.foldl (fun l j => if l.contains j then l else insertBy id j l) z.exon } s
  | .excess => s
  | .deficit d =>
    let u := f.filter fun j => !z.exon.contains j
    if u.length = d then postMaps s (localiseAll p u s)
    else if u.length < d then
      let r := s.hp[p].record
      setNzh p { z with exon := z.exon.filter (fun j => !f.any fun i => sameGroup r i j), resets := satInc z.resets } s
    else s

/-- Count a window, raise its excess, and mark the document of a deficit (R277). -/
def countWindow (p : Port) (doc : Word) (line : Nat) (c : WindowClass) (s : State) : State :=
  let z := s.nzh[p]
  match c with
  | .clean => s
  | .excess =>
    countClass Cls.nzhEcho (raise Src.echoExcess
      (setNzh p { z with excess := satInc z.excess, err := setBit z.err 0 } s))
  | .deficit _ =>
    let s := setNzh p { z with deficits := satInc z.deficits } s
    match findDoc doc s with
    | some d =>
      if d.admitted && ((z.policy[docProf d]).getLsbD 3 || z.exhausted) then markDoc doc 0x08 p.val line s else s
    | none => s

/-- A window with a measurement reaches NZH: `e` expected, `m` measured, `f` its fired set (R276 to R279). -/
def takeWindow (p : Port) (doc : Word) (line : Nat) (e : Nat) (m : Int) (f : List Nat) (s : State) : State :=
  let z := s.nzh[p]
  let g := f.filter fun j => !activeMissing z j
  let c := classify ((e : Int) - (f.length - g.length : Nat)) m
  let s := countWindow p doc line c (setNzh p { z with windows := z.windows + 1 } s)
  let z := s.nzh[p]
  let acc := z.acc + (64 - s.thm.level)
  if 64 ≤ acc then localise p c g (setNzh p { z with acc := acc - 64 } s)
  else setNzh p { z with acc := acc } s

/-! ## Contact sheets (R290 to R292) -/

/-- DROPS. -/
def csDropsOf (z : Nzh) : Nat := (z.csCfg.toNat / 4096) % 16
/-- PASS_MIN. -/
def csPassMin (z : Nzh) : Nat := (z.csCfg.toNat / 65536) % 16

/-- A CS_CFG value lies in its ranges (R293). -/
def csCfgOk (w : Word) : Bool :=
  let mx := w.toNat / 67108864
  let mn := (w.toNat / 1048576) % 64
  let ps := (w.toNat / 65536) % 16
  let dr := (w.toNat / 4096) % 16
  decide (1 ≤ mx) && decide (mx ≤ 45) && decide (mn < mx) && decide (1 ≤ ps) && decide (ps ≤ dr) && decide (1 ≤ dr)

/-- A sheet runs on some port. -/
def sheetRuns (s : State) : Bool := s.nzh.toList.any fun z => z.csState == .running

/-- START (R291). -/
def startSheet (p : Port) (s : State) : State :=
  match spitProfile p s with
  | none => nzhErr p 5 s
  | some q =>
    if s.top.state = .maint ∧ s.hp[p].pstate = .active ∧ !sheetRuns s then
      setNzh p { s.nzh[p] with
        csState := .running, csProfile := q, csFailed := 0, csNozzle := 0, csDrops := 0, csSeen := 0, csBad := [] } s
    else nzhErr p 5 s

/-- DD_IN, in mV, reads the beam blocked: it is below CS_CFG.THRESH (R290, R493). -/
def beamBlocked (cfg : Word) (mv : Nat) : Bool := decide (mv < 10 * (cfg.toNat % 256))

/-- The drop is seen: the beam is blocked at some time from WIN_MIN to WIN_MAX after the fire edge (R290). -/
def dropSeen (cfg : Word) (dd : List (Nat × Nat)) : Bool :=
  dd.any fun t => decide (1000 * ((cfg.toNat / 1048576) % 64) ≤ t.1) && decide (t.1 ≤ 1000 * (cfg.toNat / 67108864)) && beamBlocked cfg t.2

/-- The running sheet of a port ends ABORTED (R291). -/
def abortSheet (p : Port) (s : State) : State :=
  if s.nzh[p].csState = .running then setNzh p { s.nzh[p] with csState := .aborted } s else s

/-- Every running sheet ends ABORTED: the device leaves MAINT (R291). -/
def abortSheets (s : State) : State := (List.finRange 16).foldl (fun s p => abortSheet p s) s

/-- A completed sheet (R292). -/
def finishSheet (p : Port) (s : State) : State :=
  let z := s.nzh[p]
  let s1 := raise Src.csDone (setNzh p { z with csState := .done, csResult := z.csBad } s)
  if 64 < z.csFailed then nzhErr p 7 s1
  else if z.apply then
    let s2 := z.csBad.foldl (fun s x => enterMissing p x .contact s) s1
    postMaps s1 (setNzh p (keepEntries (fun e =>
      !((e.kind == .echo || e.kind == .contact) && !z.csBad.contains e.nozzle)) s2.nzh[p]) s2)
  else s1

/-- The drop window of a fired spit has been judged (R290): after DROPS spits the nozzle passes or fails. -/
def judgeDrop (p : Port) (seen : Bool) (s : State) : State :=
  let z := s.nzh[p]
  let drops := z.csDrops + 1
  let ok := z.csSeen + b2n seen
  if drops < csDropsOf z then setNzh p { z with csDrops := drops, csSeen := ok } s
  else
    let bad := decide (ok < csPassMin z)
    let z := { z with
      csDrops := 0, csSeen := 0, csNozzle := z.csNozzle + 1
      csFailed := z.csFailed + b2n bad
      csBad := if bad then z.csBad ++ [z.csNozzle] else z.csBad }
    let s := setNzh p z s
    if recNozzles s.hp[p].record ≤ z.csNozzle then finishSheet p s else s

end Sys2Proof.Machine
end

