-- ==== Sys2Proof/Machine/Build.lean ====
section
/-! DEFINITION. What an engine computes for a load: decoding (R56, R59, R61), test patterns (R64), substitution (R284, R285),
classes and planes (R207 to R209, R216), widths (R213), expected counts (R212), and the fire packet (R208, R217, R218). -/

namespace Sys2Proof.Machine

/-- The line that a marking of a load names: its lead line, or beyond the last line the lag line that it carries (R477; DEDUCED, log entry
87). -/
def markLine (ld : Load) : Nat := if ld.tail then ld.line - ld.n else ld.line

/-! ## Nozzle values -/

/-- Value of nozzle `i` in a raw line of `b` bits per nozzle (R56). -/
def rawValue (raw : List Byte) (b i : Nat) : Nat :=
  if b = 1 then (byteAt raw (i / 8)).toNat / 2 ^ (i % 8) % 2 else (byteAt raw (i / 4)).toNat / 4 ^ (i % 4) % 4

/-- The nozzle values of a raw line. -/
def rawValues (raw : List Byte) (b n : Nat) : List Nat := (List.range n).map (rawValue raw b)

/-- The raw line of a stored packet (R55, R61). -/
def rawOf (b : List Byte) (raw : Nat) : List Byte :=
  if (pktTags b).getLsbD 5 then (decodeLine (pktPayload b) raw).getD [] else pktPayload b

/-- The nozzle values of a test payload (R64). -/
def patternValues (pl : List Byte) (r : List Byte) : List Nat :=
  let lvl := (byteAt pl 1).toNat
  let param := leNat pl 2 2
  let phase := leNat pl 4 2
  (List.range (recNozzles r)).map fun i =>
    let on : Bool := match (byteAt pl 0).toNat with
      | 0 => true
      | 1 => nozCol r i == 0
      | 2 => nozCol r i == 1
      | 3 => i % max 1 param == phase
      | 4 => i == param
      | _ => false
    if on then lvl else 0

/-- The load's lead line is a test line. -/
def leadIsTest (ld : Load) : Bool := pktType ld.pkt == 5

/-- The tags of the lead line; none on a test line or a line delivered blank. -/
def leadTags (ld : Load) : Byte := if pktType ld.pkt = 1 then pktTags ld.pkt else 0

/-- Stage 2 of R200: the nozzle values of the lead line; none where it was delivered blank or lies beyond the last line. -/
def decodeLead (ld : Load) (r : List Byte) (b : Nat) : Option (List Nat) :=
  let n := recNozzles r
  if ld.kind = .spit then some (patternValues ld.test r)
  else if ld.tail || ld.pkt.isEmpty then none
  else if leadIsTest ld then some (patternValues (pktPayload ld.pkt) r)
  else if (leadTags ld).getLsbD 1 then some (List.replicate n 0)
  else if (leadTags ld).getLsbD 2 then some (rawValues (rawOf ld.rep (rawBytes n b)) b n)
  else some (rawValues (rawOf ld.pkt (rawBytes n b)) b n)

/-! ## Substitution (R284) -/

/-- Where the dot of a missing nozzle goes. -/
inductive Dest where
  | own (y : Nat) | partner (q y : Nat) | lost
deriving DecidableEq, Repr

/-- The first usable method of R284 on line `k`: POLICY bits, and whether the overlap method is usable for the document. -/
def substDest (policy : BitVec 4) (ovUsable : Nat → Bool) (k : Nat) (e : SubstEntry) : Dest :=
  if policy.getLsbD 0 && e.twinOk then .own (e.nozzle ^^^ 1)
  else if policy.getLsbD 1 && e.ovOk && ovUsable e.ovPort then .partner e.ovPort e.ovNozzle
  else if policy.getLsbD 2 && (e.dnOk || e.upOk) then
    if k % 2 = 0 then .own (if e.dnOk then e.nozzle - 1 else e.nozzle + 1)
    else .own (if e.upOk then e.nozzle + 1 else e.nozzle - 1)
  else .lost

/-- Raise a nozzle's value to at least `v`. -/
def raiseTo (vals : List Nat) (i v : Nat) : List Nat := vals.set i (max (vals.getD i 0) v)

/-- Substitution on a line: the new values, the donated values (port, nozzle, value), and whether a dot is lost. -/
def substLine (policy : BitVec 4) (ovUsable : Nat → Bool) (k : Nat) (missing : List SubstEntry) (vals : List Nat) :
    List Nat × List (Nat × Nat × Nat) × Bool :=
  let base := missing.foldl (fun l e => l.set e.nozzle 0) vals
  missing.foldl (fun acc e =>
    let v := vals.getD e.nozzle 0
    if v = 0 then acc
    else match substDest policy ovUsable k e with
      | .own y => (raiseTo acc.1 y v, acc.2.1, acc.2.2)
      | .partner q y => (acc.1, acc.2.1 ++ [(q, y, v)], acc.2.2)
      | .lost => (acc.1, acc.2.1, true)) (base, [], false)

/-! ## Classes and planes -/

/-- Class of a nozzle from its history (R207). -/
def histClass (e : EnergyBlock) (h : BitVec 4) : Nat := ebClassMap e (h.toNat % 2 ^ ebDepth e)

/-- History control applies to the line: history mode or FORCE_HIST, with a class table (R57, R195). -/
def histOn (e : EnergyBlock) (forced : Bool) : Bool := (ebHist e || forced) && ebClasses e != 0

/-- Passes of a load, P_p of R195. -/
def loadPasses (e : EnergyBlock) (classL forced : Bool) : Nat := if classL || !histOn e forced then 1 else ebClasses e

/-- The planes of a class T load (R209): `own i` tells whether nozzle `i`'s column is classified. -/
def classPlanes (e : EnergyBlock) (count : Nat) (hist : List (BitVec 4)) (own : Nat → Bool) (vals : List Nat) :
    List (List Nat) :=
  (List.range count).map fun j =>
    (List.range vals.length).map fun i =>
      let c := if own i then histClass e (hist.getD i 0) else 0
      if c = j then vals.getD i 0 else 0

/-- The waveform codes of a class L load (R216). -/
def waveCodes (e : EnergyBlock) (hist : List (BitVec 4)) (classified : Bool) (vals : List Nat) : List Nat :=
  (List.range vals.length).map fun i =>
    let v := vals.getD i 0
    if v = 0 then 0 else ebWs e (if classified then histClass e (hist.getD i 0) else 0) v

/-! ## Packing (R208) -/

/-- Bits of one nozzle value, the more significant first. -/
def valueBits (beta v : Nat) : List Bool :=
  if beta = 1 then [v % 2 == 1] else [v / 2 % 2 == 1, v % 2 == 1]

/-- The bits of lane `l` in shift order, padding first. -/
def laneBits (vals : List Nat) (beta : Nat) (lastFirst : Bool) (l : Nat) : List Bool :=
  let q := laneNozzles vals.length
  let own := (vals.drop (q * l)).take q
  let own := if lastFirst then own.reverse else own
  List.replicate ((q - own.length) * beta) false ++ own.flatMap (valueBits beta)

/-- A byte from up to eight bits, bit 0 first. -/
def byteOfBits (l : List Bool) : Byte := BitVec.ofNat 8 ((l.zipIdx.map fun t => b2n t.1 * 2 ^ t.2).foldl (· + ·) 0)

/-- `n` bytes from a bit stream. -/
def packBits : Nat → List Bool → List Byte
  | 0, _ => []
  | n + 1, l => byteOfBits (l.take 8) :: packBits n (l.drop 8)

/-- PLANE_BYTES. -/
def planeBytes (n beta : Nat) : Nat := ceilDiv (laneNozzles n * beta) 2

/-- A plane of the fire packet. -/
def packPlane (vals : List Nat) (beta : Nat) (lastFirst : Bool) : List Byte :=
  packBits (planeBytes vals.length beta) ((List.range 4).flatMap (laneBits vals beta lastFirst))

/-- Nozzles that a plane fires at strobe `k` on column `c` (R212). -/
def firedAt (r : List Byte) (vals : List Nat) (k c : Nat) : List Nat :=
  (List.range vals.length).filter fun i =>
    vals.getD i 0 != 0 && nozAddr r i == strobeAddr r k && nozCol r i == c

/-- EXPECT of a plane: strobe order, column A before column B. -/
def expectBytes (r : List Byte) (vals : List Nat) : List Byte :=
  (List.range (recAddrs r)).flatMap fun k =>
    [BitVec.ofNat 8 (firedAt r vals k 0).length, BitVec.ofNat 8 (firedAt r vals k 1).length]

/-! ## The packet (R217) -/

/-- Code of a packet kind. -/
def kindByte : LoadKind → Nat
  | .print => 1 | .blank => 2 | .test => 3 | .spit => 4 | .drop => 5

/-- The egress fold (R218). -/
def egressFold (p : Port) (doc line : Word) : List Byte :=
  toLe 4 p.val ++ toLe 4 doc.toNat ++ toLe 4 line.toNat ++ toLe 4 0xF02

/-- LAG_LINE (R210, R217): a two-column load carries the lag column of line j − n. -/
def lagLine (ld : Load) : Word :=
  if !ld.cols2 ∨ ld.line < ld.n then BitVec.allOnes 32 else BitVec.ofNat 32 (ld.line - ld.n)

/-- Bytes 0 to end − 1 of a fire packet. -/
def packetBody (p : Port) (ld : Load) (kind : LoadKind) (r : List Byte) (e : EnergyBlock)
    (widths : List Nat) (planes : List (List Nat)) : List Byte :=
  let classL := recClassL r
  let beta := planeBits classL (ebBpn e)
  [0x5E#8] ++ toLe 1 (kindByte kind) ++ toLe 1 (p.val + if classL then 16 else 0) ++ toLe 1 planes.length ++
  toLe 4 ld.docId.toNat ++ toLe 4 ld.line ++ toLe 4 (lagLine ld).toNat ++
  toLe 2 (planeBytes (recNozzles r) beta) ++ toLe 1 (recAddrs r) ++ toLe 1 (ld.n % 16 + if ld.lagA then 16 else 0) ++
  ((List.range 4).flatMap fun j => toLe 2 (widths.getD j 0)) ++
  toLe 2 (ebGap e) ++ toLe 2 (ebGuard e) ++ toLe 4 ld.mapVer.toNat ++
  toLe 2 (BitVec.ofInt 16 ld.temp).toNat ++ [0, 0] ++
  (if classL then [] else planes.flatMap (expectBytes r)) ++
  planes.flatMap fun v => packPlane v beta (recShiftDir r)

/-- Change the bytes that an upset changed. -/
def flipBytes (l : List Byte) (f : List (Nat × Byte)) : List Byte :=
  f.foldl (fun l t => l.set t.1 (byteAt l t.1 ^^^ t.2)) l

/-- A packet with its CHECK, through the upsets before and after it. -/
def sealPacket (p : Port) (doc line : Word) (body : List Byte) (before after : List (Nat × Byte)) : List Byte :=
  let b := flipBytes body before
  flipBytes (b ++ toLe 4 (crc32c (egressFold p doc line ++ b)).toNat) after

/-- The CHECK of a packet: its last four bytes. -/
def packetCheck (b : List Byte) : Word := le32 b (b.length - 4)

/-- The egress check of R238. -/
def egressPasses (p : Port) (doc line : Word) (b : List Byte) : Bool :=
  packetCheck b == crc32c (egressFold p doc line ++ b.take (b.length - 4)) &&
  (byteAt b 2).toNat % 16 == p.val && le32 b 4 == doc && le32 b 8 == line

/-! ## One engine's build of a load -/

/-- What stages 1 to 7 of R200 give. -/
structure Built where
  kind    : LoadKind
  planes  : List (List Nat)
  widths  : List Nat
  clamps  : Nat
  body    : List Byte
  /-- Lag-column entry for the column store. -/
  store   : Option (Word × Nat × Bool × List Nat)
  /-- Donations to the overlap store: port, nozzle, value. -/
  donate  : List (Nat × Nat × Nat)
  lost    : Bool
deriving DecidableEq, Repr

/-- The overlap method is usable for a document on port `p` (R284, R285). -/
def ovUsable (p : Port) (ld : Load) (s : State) (q : Nat) : Bool :=
  match findDoc ld.docId s, s.prof[ld.profile] with
  | some d, some pf =>
    d.mask.getLsbD q &&
    (match pf.ports.toList.getD q none, pf.ports[p] with
     | some b, some a => decide (a.dlyPort.toNat ≤ b.dlyPort.toNat) &&
         decide (b.dlyPort.toNat - a.dlyPort.toNat ≤ 16128)
     | _, _ => false)
  | _, _ => false

/-- Nozzle `i` lies in the lead column. -/
def inLead (ld : Load) (r : List Byte) (i : Nat) : Bool := ld.n == 0 || (nozCol r i == 0) == !ld.lagA

/-- The widths of a load's planes before the clamp, for R213 and R215; class L takes TRIG (R216). -/
def loadWidths (e : EnergyBlock) (r : List Byte) (temp : Int) (count : Nat) : List Nat :=
  if recClassL r then [ebTrig e]
  else (List.range count).map fun j => strobeWidth e j (recRank r) (tempScale e temp)

/-- Number of clamped widths (R213). -/
def clampCount (e : EnergyBlock) (r : List Byte) (temp : Int) (count : Nat) : Nat :=
  if recClassL r then 0
  else ((List.range count).filter fun j =>
    widthRaw e j (recRank r) (tempScale e temp) != strobeWidth e j (recRank r) (tempScale e temp)).length

/-- Stages 2 to 7 of R200 for engine `x`, from its history, column store and overlap store. -/
def buildLoad (x : EngId) (p : Port) (ld : Load) (s : State) : Built :=
  let en := eng x s
  let e := en.blocks[ld.profile]
  let r := s.hp[p].record
  let hist := if ld.fresh then [] else en.seg[p].hist
  let none_ : Built := ⟨if ld.kind = .drop then .drop else .blank, [], [], 0,
    packetBody p ld (if ld.kind = .drop then .drop else .blank) r e [] [], none, [], false⟩
  let gift := en.overlap[p].find? fun t => t.1 == ld.docId && t.2.1 == ld.line
  let givenAway := gift.isSome && ld.kind != .spit
  if ld.kind = .drop ∨ ld.kind = .blank ∨ r.isEmpty then { none_ with lost := givenAway }
  else
    let lead := decodeLead ld r (ebBpn e)
    let tags := leadTags ld
    let isTest := ld.kind == .spit || leadIsTest ld
    let policy : BitVec 4 := s.nzh[p].policy[ld.profile]
    let sub : List Nat × List (Nat × Nat × Nat) × Bool := match lead with
      | some v => if isTest || tags.getLsbD 3 then (v, [], false)
          else substLine policy (ovUsable p ld s) ld.line ld.missing v
      | none => ([], [], false)
    let takes := lead.isSome && !isTest && !tags.getLsbD 1
    let own := match gift with
      | some g => if takes then g.2.2.foldl (fun (l : List Nat) (t : Nat × Nat) => raiseTo l t.1 t.2) sub.1 else sub.1
      | none => sub.1
    let lost := sub.2.2 || (givenAway && !takes)
    let lag := if ld.n = 0 then none else
      en.cols[p].find? fun t => t.1 == ld.docId && t.2.1 + ld.n == ld.line
    let n := recNozzles r
    let lagVals := match lag with | some t => t.2.2.2 | none => []
    let lagOwn := match lag with | some t => t.2.2.1 | none => false
    let leadOwn := !isTest && histOn e (tags.getLsbD 4)
    if lead.isNone && !ld.tail && lag.isNone then { none_ with donate := sub.2.1, lost := lost }
    else
      let vals := (List.range n).map fun i => if inLead ld r i then own.getD i 0 else lagVals.getD i 0
      let count := if ld.kind = .spit then 1
        else loadPasses e (recClassL r) (tags.getLsbD 4 || ld.lagForced)
      let planes := if recClassL r then [waveCodes e hist leadOwn vals]
        else if count = 1 then [vals]
        else classPlanes e count hist (fun i => if inLead ld r i then leadOwn else lagOwn) vals
      let kind := if ld.kind = .spit then .spit else if leadIsTest ld then .test else .print
      let widths := loadWidths e r ld.temp count
      { kind := kind, planes := planes, widths := widths, clamps := clampCount e r ld.temp count
        body := packetBody p ld kind r e widths planes
        store := if ld.n = 0 ∨ lead.isNone then none
          else some (ld.docId, ld.line, leadOwn, (List.range n).map fun i => if inLead ld r i then 0 else own.getD i 0)
        donate := sub.2.1, lost := lost }

/-! ## Stage 8 and the engine's records -/

/-- A nozzle fires in some plane. -/
def firesIn (planes : List (List Nat)) (i : Nat) : Bool := planes.any fun v => v.getD i 0 != 0

/-- The history after a load (R205). -/
def shiftHistory (hist : List (BitVec 4)) (planes : List (List Nat)) (n : Nat) : List (BitVec 4) :=
  (List.range (max n hist.length)).map fun i =>
    (hist.getD i 0 <<< 1) ||| (if firesIn planes i then 1#4 else 0#4)

/-- The engine after it has built and recorded a load (R204 to R206, R210, R224, R285, R307). -/
def recordLoad (p : Port) (ld : Load) (b : Built) (n : Nat) (en : Engine) : Engine :=
  let cols := en.cols[p].filter fun t => t.1 != ld.docId || t.2.1 + ld.n != ld.line
  let hist := if ld.fresh then [] else en.seg[p].hist
  let own := en.overlap[p].filter fun (t : Word × Nat × List (Nat × Nat)) => !(t.1 == ld.docId && t.2.1 == ld.line)
  let overlap := en.overlap.set p.val own p.isLt
  let overlap := b.donate.foldl (fun (v : Vector (List (Word × Nat × List (Nat × Nat))) 16) d =>
    if h : d.1 < 16 then
      let l : List (Word × Nat × List (Nat × Nat)) := v[d.1]
      let l := if l.any (fun t => t.1 == ld.docId && t.2.1 == ld.line)
        then l.map fun t => if t.1 == ld.docId && t.2.1 == ld.line then (t.1, t.2.1, t.2.2 ++ [d.2]) else t
        else l ++ [(ld.docId, ld.line, [d.2])]
      v.set d.1 l h
    else v) overlap
  { en with
    line := en.line.set p.val (BitVec.ofNat 32 ld.line) p.isLt
    lastEmit := en.lastEmit.set p.val (BitVec.ofNat 32
      ((BitVec.ofInt 16 ld.temp).toNat * 65536 + b.planes.length * 4096 + b.widths.headD 0 % 4096)) p.isLt
    mapVer := en.mapVer.set p.val ld.mapVer p.isLt
    clamps := satAdd en.clamps b.clamps
    err := if b.clamps = 0 then en.err else setBit en.err 3
    cols := en.cols.set p.val (match b.store with | some t => cols ++ [t] | none => cols) p.isLt
    overlap := overlap
    seg := en.seg.set p.val { ld.shared with
      hist := shiftHistory hist b.planes n, docId := ld.docId, line := BitVec.ofNat 32 ld.line
      mapVer := ld.mapVer, temp := BitVec.ofInt 16 ld.temp, lag := BitVec.ofNat 8 ld.n
      flags := if ld.fresh then setBit ld.shared.flags 1 else ld.shared.flags } p.isLt }

end Sys2Proof.Machine
end

