-- ==== Sys2Proof/Machine/Pair.lean ====
section
/-! DEFINITION. The engine pair and its supervisor: brake (R294), verdicts (R297 to R301), handover and egress (R238, R239, R296,
R304), faults (R302 to R305, R310, R314), roles (R312), the state copy (R306 to R309), quiet points (R313) and swaps (R317
to R319). -/

namespace Sys2Proof.Machine

/-! ## Access -/

/-- An engine's work on a load. -/
def workOf (x : EngId) (ld : Load) : Work := match x with | .a => ld.workA | .b => ld.workB

/-- Replace an engine's work. -/
def setWork (x : EngId) (w : Work) (ld : Load) : Load :=
  match x with | .a => { ld with workA := w } | .b => { ld with workB := w }

/-- The load of a document's lead line on a port. -/
def findLoad (p : Port) (doc : Word) (line : Nat) (s : State) : Option Load :=
  s.loads[p].find? fun l => l.docId == doc && l.line == line

/-- Change the load of a document's lead line. -/
def modLoad (p : Port) (doc : Word) (line : Nat) (f : Load → Load) (s : State) : State :=
  setLoads p (s.loads[p].map fun l => if l.docId == doc && l.line == line then f l else l) s

/-- Change every load. -/
def mapLoads (f : Load → Load) (s : State) : State := { s with loads := s.loads.map (List.map f) }

/-- A SUP error flag. -/
def supErr (i : Nat) (s : State) : State := { s with sup := { s.sup with err := setBit s.sup.err i } }

/-- The role of an engine. -/
def roleOf (x : EngId) (s : State) : Role := (eng x s).role

/-- The roles are LEAD and SHADOW. -/
def isPair (s : State) : Bool :=
  (s.engA.role == .lead && s.engB.role == .shadow) || (s.engA.role == .shadow && s.engB.role == .lead)

/-- The holder of the brake (R294). -/
def brakeHolder (s : State) : Option EngId :=
  if s.sup.brakeA then some .a else if s.sup.brakeB then some .b else none

/-- A transfer of the brake (R294): both bits are 0 for one clock, and then the new holder's bit is 1. -/
def giveBrake (x : EngId) (s : State) : State :=
  { s with sup := { s.sup with brakeA := x == .a, brakeB := x == .b } }

/-- SUP clears the brake. -/
def clearBrake (s : State) : State := { s with sup := { s.sup with brakeA := false, brakeB := false } }

/-! ## Health, roles and the log -/

/-- A HEALTH word (R320). -/
def healthWord (h : Health) : Word :=
  fieldAt h.lastKind 28 ||| fieldAt h.corrected 20 ||| fieldAt h.selftests 16 ||| h.faults.setWidth 32

/-- SUP.COPY_STAT. -/
def copyStat (u : Sup) : Word := fieldAt u.copyDiff 16 ||| fieldAt u.copyStale 8 ||| u.copyDiscard.setWidth 32

/-- Code of a role (R224). -/
def roleCode : Role → Nat
  | .lead => 0 | .shadow => 1 | .solo => 2 | .rejoining => 3 | .retired => 4

/-- An ENGINES log record (R316, R453). -/
def logEngines (periodic : Bool) (s : State) : State :=
  pushLog 0x09 (BitVec.ofNat 8 (roleCode s.engA.role + 8 * roleCode s.engB.role + 64 * b2n periodic))
    (toLe 4 (healthWord s.engA.health).toNat ++ toLe 4 (healthWord s.engB.health).toNat ++
      toLe 4 s.sup.mismatches.toNat ++ toLe 4 (copyStat s.sup).toNat) s

/-- One engine is SOLO. -/
def someSolo (s : State) : Bool := s.engA.role == .solo || s.engB.role == .solo

/-- Bring the time in SOLO up to date. -/
def noteSolo (s : State) : State :=
  { s with sup := { s.sup with
      soloTime := s.sup.soloTime + (if someSolo s then s.now - s.sup.soloAt else 0), soloAt := s.now } }

/-- Give the engines their roles: time in SOLO, the log record, and the release of lines that a departed engine held
back (R18, R316). -/
def setRoles (a b : Role) (s : State) : State :=
  if a = s.engA.role ∧ b = s.engB.role then s
  else
    let s := noteSolo s
    reviewRelease (logEngines false
      { s with engA := { s.engA with role := a }, engB := { s.engB with role := b } })

/-- Give `x` and the other engine their roles. -/
def rolesFor (x : EngId) (r other : Role) (s : State) : State :=
  match x with | .a => setRoles r other s | .b => setRoles other r s

/-- An engine starts its self-test (R312). -/
def startSelftest (x : EngId) (s : State) : State :=
  let e := eng x s
  setEng x { e with selftest := true, health := { e.health with selftests := satInc e.health.selftests } } s

/-- An engine's self-test is abandoned. -/
def stopSelftest (x : EngId) (s : State) : State := setEng x { eng x s with selftest := false } s

/-! ## Withdrawal and copies -/

/-- The engine's packet of a load without a verdict is withdrawn (R303). -/
def withdrawOne (x : EngId) (ld : Load) : Load :=
  if ld.verdict = .waiting ∨ ld.verdict = .diagnosing then { setWork x {} ld with verdict := .waiting } else ld

/-- Every packet of the engine without a verdict is withdrawn, and its pass ends. -/
def withdraw (x : EngId) (s : State) : State :=
  mapLoads (withdrawOne x) (setEng x { eng x s with running := none } s)

/-- Latent copies are discarded and queued ones not sent (R310), and no boundary sends a full copy of a pair that has ended (R309); a discarded
copy is no record of the tap (R153). -/
def dropCopies (s : State) : State :=
  let s := cutCopies (BitVec.allOnes 16) s
  let k := (s.sup.latent.toList.filter Option.isSome).length
  { s with sup := { s.sup with
      latent := Vector.replicate 16 none, copyQueue := [], fullLeft := 0, fullDue := 0
      copyDiscard := satAdd s.sup.copyDiscard k } }

/-- A full copy is queued: port `first`, then the others in ascending order (R309, R313). -/
def queueFull (first : Port) (s : State) : State :=
  { s with sup := { s.sup with
      copyQueue := first :: (List.finRange 16).filter (fun q => q != first), fullLeft := 16
      fullDue := clearBit s.sup.fullDue first.val } }

/-- A segment without its CHECK (R306). -/
def imageBytes (g : Segment) : List Byte :=
  ((List.range 1024).map fun i =>
    ((g.hist.getD (2 * i + 1) 0).setWidth 8 <<< 4) ||| (g.hist.getD (2 * i) 0).setWidth 8) ++
  toLe 4 g.docId.toNat ++ toLe 4 g.line.toNat ++ toLe 4 g.mapVer.toNat ++ toLe 2 g.credit.toNat ++
  toLe 2 g.temp.toNat ++ toLe 4 g.ovsAcc.toNat ++ toLe 4 g.fPeak.toNat ++ [g.flags, g.lag] ++
  toLe 2 g.late.toNat ++ toLe 4 g.repLine.toNat ++ List.replicate 28 0

/-- The CHECK of a segment with the copy fold. -/
def segCheck (p : Port) (g : Segment) : Word :=
  crc32c (toLe 4 p.val ++ toLe 4 g.docId.toNat ++ toLe 4 g.line.toNat ++ toLe 4 0xC02 ++ imageBytes g)

/-- A copy as the link carries it: the segment and its CHECK. -/
def segImage (p : Port) (g : Segment) : List Byte := imageBytes g ++ toLe 4 (segCheck p g).toNat

/-! ## Swaps (R317, R318) -/

/-- The engine loads the PROFILE window of the other engine. -/
def reloadBlocks (x : EngId) (s : State) : State := setEng x { eng x s with blocks := (eng x.other s).blocks } s

/-- SWAP reads STAGING, ARMED or READY. -/
def swapOpenNow (s : State) : Bool := s.sup.swap == .staging || s.sup.swap == .armed || s.sup.swap == .ready

/-- The swap ends (R318): SWAP_FAIL where it failed; the staging engine reloads and self-tests. -/
def endSwap (failed : Bool) (s : State) : State :=
  let x := s.sup.staging
  let s := if failed then supErr 9 s else s
  let s := dropCopies { s with sup := { s.sup with swap := .failed, rejoinWait := false, rejoining := false } }
  raise Src.supSwap (startSelftest x (reloadBlocks x s))

/-- A staging engine that has rejoined or been retired closes a failed swap (R319). -/
def closeFailed (s : State) : State :=
  if s.sup.swap = .failed then { s with sup := { s.sup with swap := .closed } } else s

/-! ## Faults (R302, R303, R310, R312, R314) -/

/-- Bits 31:0 of SUP.LAST_EVENT. -/
def lastEventWord (x : Option EngId) (kind : Nat) (p line : Nat) : Word :=
  0x80000000#32 ||| flagAt (x == some .b) 30 ||| fieldAt (BitVec.ofNat 4 kind) 24 |||
  fieldAt (BitVec.ofNat 4 p) 20 ||| BitVec.ofNat 32 (line % 1048576)

/-- The error class of an engine's faults. -/
def engClass : EngId → Fin 32
  | .a => Cls.engFaultA
  | .b => Cls.engFaultB

/-- Record a fault report: HEALTH, LAST_EVENT, class and event (R302). LINK counts in SUP_MISMATCH, COMMAND in no class. -/
def noteFault (x : EngId) (kind p line : Nat) (s : State) : State :=
  let e := eng x s
  let s := setEng x { e with
    health := { e.health with lastKind := BitVec.ofNat 4 kind, faults := satInc e.health.faults }
    err := if kind = 1 then setBit e.err 2 else if kind = 2 then setBit e.err 0 else e.err
    slackMin := if kind = 1 then 0 else e.slackMin } s
  let s := { s with sup := { s.sup with
    lastEvent := lastEventWord (some x) kind p line, faultAt := if kind = 8 then s.sup.faultAt else some s.now } }
  let cls := if kind = 8 then none else if kind = 6 then some Cls.supMismatch else some (engClass x)
  let s := raise Src.engFault { s with evt := { s.evt with engClass := cls } }
  match cls with
  | some c => countClass c s
  | none => s

/-- The engine leaves the pair (R312): self-test for rejoining, or RETIRED. -/
def leaveRole (retire : Bool) (s : State) : Role := if retire || !s.sup.autoRejoin then .retired else .rejoining

/-- The loads with a mismatch verdict that the departing lead has not handed over mark their documents (R310). -/
def markMismatched (x : EngId) (s : State) : State :=
  (List.finRange 16).foldl (fun s p =>
    (s.loads[p].filter fun l => l.verdict == .mismatch && !l.handed && !l.ticked && l.used == some x).foldl
      (fun s l => markDoc l.docId 0x02 p.val (markLine l) s) s) s

/-- The engine of the pair leaves and the other becomes SOLO. SUP_ROLE is raised where a fault or a command takes the shadow away, and not where
its mismatches stop it (R312, rows 2 and 4). -/
def leavePair (x : EngId) (retire raises : Bool) (s : State) : State :=
  let r := leaveRole retire s
  let wasLead := roleOf x s == .lead
  let s := if wasLead then markMismatched x s else s
  let s := dropCopies (withdraw x { s with sup := { s.sup with testPending := false, brokeAt := if wasLead then some s.now else none } })
  let s := rolesFor x r .solo s
  let s := if r = .rejoining then startSelftest x s else s
  if wasLead then
    let s := giveBrake x.other s
    let s := supErr 3 { s with sup := { s.sup with failovers := satInc s.sup.failovers } }
    raise Src.supFailover s
  else if raises then raise Src.supRole s else s

/-- Every document in progress is marked: no load of it gets a packet any more (R314). -/
def markStopped (s : State) : State :=
  let lowest (d : Doc) : Nat := match (portsOf d.mask).head? with | some p => p.val | none => 16
  (sortBy lowest (s.docs.filter fun d => d.admitted)).foldl (fun s d =>
    match (portsOf d.mask).head? with
    | some p => markDoc d.id 0x02 p.val (lowestAhead d) s
    | none => s) s

/-- ENG_FAULT of the SOLO engine is lasting (R314): the other one waits to take over, or the brake is cleared and SAFE_HOLD waits for a quiet
point. -/
def soloLasting (s : State) : State :=
  let s := supErr 8 s
  if s.sup.safePending then s
  else if s.sup.rejoinWait then { s with sup := { s.sup with switchPending := true } }
  else markStopped (clearBrake { s with sup := { s.sup with safePending := true } })

/-- A fault of a SOLO engine concerns one load (R314): its packet is withdrawn; MEM clears the port's history. -/
def soloFault (x : EngId) (kind : Nat) (p : Port) (doc : Word) (line : Nat) (s : State) : State :=
  let s := modLoad p doc line (withdrawOne x) s
  let e := eng x s
  let s := setEng x { e with
    running := if e.running = some (p, doc, line) then none else e.running
    seg := if kind = 4 then e.seg.set p.val { e.seg[p] with hist := [] } p.isLt else e.seg } s
  let s := if swapOpenNow s then endSwap true s else s
  if isLasting (engClass x) s then soloLasting s else s

/-- The shadow, which a fault of the lead has just made SOLO, reports a fault in the same clock: faults of both engines, after which the lead
keeps the brake as SOLO and the shadow leaves (R305, R311). What the first report has raised stays raised (DESIGN CHOICE, log entry 23). -/
def leadStays (x : EngId) (retire : Bool) (s : State) : State :=
  let y := x.other
  let r := leaveRole retire s
  let s := { s with sup := { s.sup with failovers := s.sup.failovers - 1, err := clearBit s.sup.err 3, brokeAt := none, rejoinWait := false } }
  let s := giveBrake y (rolesFor x r .solo (withdraw x (stopSelftest y s)))
  raise Src.supRole (if r = .rejoining then startSelftest x s else s)

/-- An engine reports a fault in itself (R302): against the lead line of a load on a port. -/
def engineFault (x : EngId) (kind : Nat) (retire : Bool) (p : Port) (doc : Word) (line : Nat) (s : State) : State :=
  let s := noteFault x kind p.val line s
  if isPair s then
    let lasting := kind != 6 && kind != 8 && isLasting (engClass x) s
    let s := if kind = 6 && isLasting Cls.supMismatch s then supErr 2 s else s
    leavePair x (retire || lasting || (kind == 6 && isLasting Cls.supMismatch s)) true s
  else if roleOf x s = .solo then
    if s.sup.brokeAt = some s.now ∧ kind ≠ 8 ∧ !isLasting (engClass x.other) s then leadStays x (retire || isLasting (engClass x) s) s
    else soloFault x kind p doc line s
  else s

/-- Which engine leaves after a fault of both in one clock (R305, R312): the shadow, unless only the lead's class is lasting. -/
def oneLeaves (s : State) : State :=
  let shadow : EngId := if s.engA.role = .shadow then .a else .b
  let gone := isLasting (engClass shadow) s
  if isLasting (engClass shadow.other) s then
    if gone then soloLasting (leavePair shadow true true s) else leavePair shadow.other true true s
  else leavePair shadow gone true s

/-- Both engines report faults against one load (R305): a double DEADLINE is an overload; otherwise the lead keeps the
brake as SOLO and the shadow leaves. A lead whose class is lasting is stopped and the brake moves (R312, last row); where both classes are, the
shadow retires and R314 handles the lead (DEDUCED, log entry 23). -/
def bothFault (kindA kindB : Nat) (p : Port) (doc : Word) (line : Nat) (s : State) : State :=
  let s := modLoad p doc line (fun l => { setWork .a {} (setWork .b {} l) with verdict := .none, failed := true }) s
  if kindA = 1 ∧ kindB = 1 then
    let miss (e : Engine) : Engine := { e with err := setBit e.err 2, slackMin := 0 }
    raise Src.engBothMiss (supErr 6 { s with engA := miss s.engA, engB := miss s.engB })
  else oneLeaves (noteFault .b kindB p.val line (noteFault .a kindA p.val line s))

/-! ## Verdicts (R297 to R301) -/

/-- Record a verdict time in 8 ns (R299). -/
def noteVerdict (units : Nat) (s : State) : State :=
  { s with sup := { s.sup with verdictMax := BitVec.ofNat 8 (max s.sup.verdictMax.toNat (min 150 units)) } }

/-- A mismatch verdict (R300, R301, R309): the lead's packet is used, and the port's next boundary sends a full copy. -/
def mismatchVerdict (p : Port) (doc : Word) (line : Nat) (s : State) : State :=
  let s := modLoad p doc line (fun l => { l with verdict := .mismatch, used := brakeHolder s }) s
  let s := { s with sup := { s.sup with
    mismatches := satInc s.sup.mismatches, fullDue := setBit s.sup.fullDue p.val
    lastEvent := lastEventWord none 9 p.val line } }
  let s := supErr 0 s
  let s := if s.sup.markMis then markDoc doc 0x02 p.val (match findLoad p doc line s with | some l => markLine l | none => line) s else s
  let s := countClass Cls.supMismatch (raise Src.supMismatch s)
  if isLasting Cls.supMismatch s && isPair s then
    let shadow : EngId := if s.engA.role = .shadow then .a else .b
    leavePair shadow true false (supErr 2 s)
  else s

/-- Form the verdict of a load whose participants have all emitted (R298). -/
def decideLoad (p : Port) (s : State) (key : Word × Nat) : State :=
  match findLoad p key.1 key.2 s with
  | none => s
  | some ld =>
    if ld.verdict != .waiting then s
    else match ld.workA.part, ld.workB.part with
    | true, true =>
      match ld.workA.pkt, ld.workB.pkt with
      | some a, some b =>
        if packetCheck a = packetCheck b then
          noteVerdict Config.matchTime.val
            (modLoad p key.1 key.2 (fun l => { l with verdict := .match_, used := brakeHolder s }) s)
        else
          modLoad p key.1 key.2 (fun l => { l with verdict := .diagnosing, diagEnd := ld.emitAt + 9600 }) s
      | _, _ => s
    | true, false =>
      if ld.workA.pkt.isSome then
        noteVerdict Config.matchTime.val (modLoad p key.1 key.2 (fun l => { l with
          verdict := .single, used := if brakeHolder s = some .a then some .a else none }) s)
      else s
    | false, true =>
      if ld.workB.pkt.isSome then
        noteVerdict Config.matchTime.val (modLoad p key.1 key.2 (fun l => { l with
          verdict := .single, used := if brakeHolder s = some .b then some .b else none }) s)
      else s
    | false, false => modLoad p key.1 key.2 (fun l => { l with verdict := .none }) s

/-- The lead gives up the brake at its next verdict (R315, FAILOVER_TEST): a load is ready for one, whose packets agree; where they differ the
verdict comes with the end of the diagnosis (R299). -/
def failoverDue (s : State) : Option (Port × Load) :=
  if s.sup.testPending && isPair s then
    (List.finRange 16).findSome? fun p =>
      (s.loads[p].find? fun l => l.verdict == .waiting && l.workA.pkt.isSome && l.workA.pkt.map packetCheck == l.workB.pkt.map packetCheck).map
        fun l => (p, l)
  else none

/-- Form every verdict that is due. -/
def decideAll (s : State) : State :=
  let s := match failoverDue s with
    | some (p, l) =>
      engineFault (mainEng s) 8 false p l.docId l.line { s with sup := { s.sup with testPending := false } }
    | none => s
  (List.finRange 16).foldl (fun s p => (s.loads[p].map fun l => (l.docId, l.line)).foldl (decideLoad p) s) s

/-! ## Handover and egress (R238, R239, R296, R304) -/

/-- The packet in use. -/
def usedPacket (ld : Load) : List Byte :=
  match ld.used with
  | some x => ((workOf x ld).pkt).getD []
  | none => []

/-- Value of nozzle `i` in plane `j` of a fire packet for the head of record `r` (R208, R217). -/
def pktValue (r b : List Byte) (j i : Nat) : Nat :=
  let n := recNozzles r
  let q := laneNozzles n
  let size := leNat b 16 2
  let beta := if size = planeBytes n 1 then 1 else 2
  let m := min q (n - i / q * q)
  let place := if recShiftDir r then m - 1 - i % q else i % q
  let k := (i / q * q + (q - m) + place) * beta
  let bit (k : Nat) : Nat :=
    (byteAt b (40 + 2 * (byteAt b 3).toNat * (byteAt b 18).toNat + j * size + k / 8)).toNat / 2 ^ (k % 8) % 2
  if beta = 1 then bit k else 2 * bit k + bit (k + 1)

/-- The nozzle values of plane `j` of the packet in use, as its bytes give them. -/
def usedValues (r : List Byte) (ld : Load) (j : Nat) : List Nat :=
  (List.range (recNozzles r)).map (pktValue r (usedPacket ld) j)

/-- P of the packet in use. -/
def usedPlanes (ld : Load) : Nat := (byteAt (usedPacket ld) 3).toNat

/-- The load occupies an entry of the port's buffer (R238). -/
def inBuffer (ld : Load) : Bool := ld.handed && (if usedPlanes ld = 0 then !ld.ticked else decide (ld.shifted < usedPlanes ld))

/-- Record an egress failure (R239, R147). -/
def noteEgress (p : Port) (doc line : Word) (b : List Byte) (s : State) : State :=
  let h := s.hp[p]
  let s := setHp p { h with err := setBit h.err 0, egrFailed := satInc h.egrFailed } s
  let s := { s with chk := { s.chk with
    egrCalc := s.chk.egrCalc.set p.val (crc32c (egressFold p doc line ++ b.take (b.length - 4))) p.isLt
    egrRecv := s.chk.egrRecv.set p.val (packetCheck b) p.isLt } }
  countClass Cls.hpEgress (raise Src.egressFail s)

/-- A packet of engine `x` for the load passes the port's egress check. -/
def offerOk (x : EngId) (p : Port) (ld : Load) : Bool :=
  match (workOf x ld).pkt with
  | some b => egressPasses p ld.docId (BitVec.ofNat 32 ld.line) b
  | none => false

/-- The packet enters the port's buffer. -/
def takeOver (x : EngId) (p : Port) (ld : Load) (s : State) : State :=
  modLoad p ld.docId ld.line (fun l => { l with handed := true, used := some x, shiftAt := max l.shiftAt s.now }) s

/-- A fire packet presented to the egress checker is a record of the port's tap, whether it passes or not (R153). -/
def presented (x : EngId) (p : Port) (ld : Load) (s : State) : State :=
  snoopRecord (tapEgress p) (((workOf x ld).pkt).getD []) s

/-- Offer the brake holder's packet of a load to the egress check (R239, R304). -/
def offerLoad (p : Port) (ld : Load) (s : State) : State :=
  match ld.used with
  | none => s
  | some x =>
    let s := presented x p ld s
    if offerOk x p ld then takeOver x p ld s
    else
      let line := BitVec.ofNat 32 ld.line
      let s := noteEgress p ld.docId line (usedPacket ld) s
      let y := x.other
      let pass2 := ld.verdict == .match_ && (workOf y ld).pkt.isSome && computes (roleOf y s)
      let s := if computes (roleOf x s) then engineFault x 3 false p ld.docId ld.line s else s
      if pass2 then
        let s := presented y p ld s
        if offerOk y p ld then takeOver y p ld s
        else
          let s := noteEgress p ld.docId line (((workOf y ld).pkt).getD []) s
          let s := engineFault y 3 false p ld.docId ld.line s
          modLoad p ld.docId ld.line (fun l => { l with failed := true }) s
      else modLoad p ld.docId ld.line (fun l => { l with failed := true }) s

/-- The load waits for its handover. -/
def wantsHandover (ld : Load) : Bool :=
  (ld.verdict == .match_ || ld.verdict == .mismatch || ld.verdict == .single) && ld.used.isSome &&
  !ld.handed && !ld.failed && !ld.ticked

/-- Hand over the loads of a port in order while its buffer has room. -/
def handOver (s : State) (p : Port) : State :=
  (s.loads[p].map fun l => (l.docId, l.line)).foldl (fun s key =>
    match findLoad p key.1 key.2 s with
    | none => s
    | some ld =>
      if wantsHandover ld ∧ (brakeHolder s).isSome ∧ (s.loads[p].filter inBuffer).length < 2 ∧
          s.loads[p].find? (fun l => !l.handed && !l.ticked && !l.failed) = some ld
      then offerLoad p ld s else s) s

/-- One round of verdicts and handovers. -/
def pairRound (s : State) : State := (List.finRange 16).foldl handOver (decideAll s)

/-- Verdicts and handovers until nothing more is due: roles change at most twice in one round of events. -/
def pairSettle (s : State) : State := pairRound (pairRound (pairRound s))

/-- Kind of the fault that a diagnosis found, if any (R299, R302). -/
def findingKind (n : DiagNote) : Option Nat := if n.memUe then some 4 else if n.sequence then some 5 else none

/-- Words that the re-read of a diagnosis corrected count in HEALTH.CORRECTED (R302). -/
def noteCorrected (x : EngId) (k : Nat) (s : State) : State :=
  let e := eng x s
  setEng x { e with health := { e.health with corrected := satAdd e.health.corrected k } } s

/-- The diagnosis window of a mismatch ends (R299): a finding decides; otherwise the lead's packet is used. A FAILOVER_TEST that waits makes
the lead report COMMAND at this verdict (R315). -/
def endDiagnosis (p : Port) (a b : DiagNote) (s : State) : State :=
  match s.loads[p].find? fun l => l.verdict == .diagnosing with
  | none => s
  | some ld =>
    let s := noteVerdict 150 (noteCorrected .b b.corrected (noteCorrected .a a.corrected (advanceTo ld.diagEnd s)))
    match findingKind a, findingKind b with
    | some k, some k' => bothFault k k' p ld.docId ld.line s
    | some k, none => engineFault .a k false p ld.docId ld.line s
    | none, some k => engineFault .b k false p ld.docId ld.line s
    | none, none =>
      if s.sup.testPending && isPair s then engineFault (mainEng s) 8 false p ld.docId ld.line s
      else mismatchVerdict p ld.docId ld.line s

/-! ## The state copy (R306 to R309) -/

/-- A line boundary of the port queues its copy (R307, R309). -/
def queueCopy (p : Port) (s : State) : State :=
  if !isPair s then s
  else if s.sup.fullDue.getLsbD p.val then queueFull p s
  else if 0 < s.sup.fullLeft then s
  else { s with sup := { s.sup with copyQueue := s.sup.copyQueue ++ [p] } }

/-- The link reaches a segment: the snapshot of the committed copy (R307). -/
def snapshot (s : State) : State :=
  match s.sup.copyQueue with
  | [] => s
  | p :: rest =>
    let g := (eng (mainEng s) s).seg[p]
    { s with sup := { s.sup with
        copyQueue := rest, fullLeft := s.sup.fullLeft - 1
        latent := s.sup.latent.set p.val (some g) p.isLt } }

/-- Order of a document by its trigger; 0 for one that is not in the table. -/
def trigOrderOf (id : Word) (s : State) : Nat :=
  match findDoc id s with
  | some d => match d.trigged with | some n => n + 1 | none => 0
  | none => 0

/-- The receiver's own last load is later than the state line (R308). -/
def copyStale (own g : Segment) (s : State) : Bool :=
  if own.docId = g.docId then decide (g.line < own.line)
  else decide (trigOrderOf g.docId s < trigOrderOf own.docId s)

/-- The receiver has not built the state line yet. -/
def copyEarly (own g : Segment) (s : State) : Bool :=
  if own.docId = g.docId then decide (own.line < g.line)
  else decide (trigOrderOf own.docId s < trigOrderOf g.docId s)

/-- A segment is fixed (R308): it is a record of the tap, and SUP.COPIES counts it. -/
def fixSegment (x : EngId) (p : Port) (g : Segment) (s : State) : State :=
  let e := eng x s
  let s := snoopCopy p (segImage p g) (setEng x { e with seg := e.seg.set p.val g p.isLt } s)
  { s with sup := { s.sup with copies := s.sup.copies + 1 } }

/-- The full copy of step 5 of a swap is complete (R317): both engines load the staged blocks, the staged engine becomes LEAD. -/
def exchangeBlocks (s : State) : State :=
  let x := s.sup.staging
  let s := { s with engA := { s.engA with blocks := s.sup.stage }, engB := { s.engB with blocks := s.sup.stage } }
  raise Src.supSwap (giveBrake x (rolesFor x .lead .shadow { s with sup := { s.sup with swap := .closed } }))

/-- The full copy to a REJOINING engine is complete (R313, R317): the pair becomes LEAD and SHADOW. -/
def finishRejoin (s : State) : State :=
  let solo := mainEng s
  let s := { s with sup := { s.sup with rejoining := false, rejoinWait := false } }
  if s.sup.swap = .ready then exchangeBlocks s else closeFailed (rolesFor solo .lead .shadow s)

/-- A segment of the full copy failed its check (R308): the copy ends, and the quiet point begins another one (DESIGN CHOICE, log entry 89). -/
def breakRejoin (s : State) : State := dropCopies { s with sup := { s.sup with rejoining := false } }

/-- The receiver fixes or discards a segment (R308). -/
def fixCopy (p : Port) (corrupt : Bool) (s : State) : State :=
  match s.sup.latent[p] with
  | none => s
  | some g =>
    let x := (mainEng s).other
    let own := (eng x s).seg[p]
    let s0 := { s with sup := { s.sup with latent := s.sup.latent.set p.val none p.isLt } }
    let cut := cutCopies (setBit 0 p.val) s0
    if corrupt then
      let s0 := cut
      let s1 := supErr 5 { s0 with sup := { s0.sup with copyDiscard := satInc s0.sup.copyDiscard } }
      engineFault x 6 false p g.docId g.line.toNat (if s1.sup.rejoining then breakRejoin s1 else s1)
    else if s.sup.rejoining then
      let s1 := fixSegment x p g s0
      let due := clearBit s1.sup.rejoinDue p.val
      let s1 := { s1 with sup := { s1.sup with rejoinDue := due } }
      if due = 0 then finishRejoin s1 else s1
    else if copyStale own g s then
      { cut with sup := { cut.sup with copyStale := satInc cut.sup.copyStale } }
    else if copyEarly own g s then s
    else
      let s1 := fixSegment x p g s0
      if segCheck p own = segCheck p g then s1
      else
        let s1 := supErr 4 { s1 with sup := { s1.sup with copyDiff := satInc s1.sup.copyDiff } }
        let s1 := countClass Cls.supMismatch (raise Src.supCopyDiff s1)
        if isLasting Cls.supMismatch s1 && isPair s1 then leavePair x true false (supErr 2 s1) else s1

/-! ## Self-tests, quiet points and commands -/

/-- A full copy from the SOLO engine begins (R313). -/
def startRejoin (s : State) : State :=
  queueFull 0 { s with sup := { s.sup with rejoining := true, rejoinDue := BitVec.allOnes 16 } }

/-- ENGINE_RESTART's self-tests have both ended (R315). -/
def finishRestart (a b : Bool) (s : State) : State :=
  let s := { s with sup := { s.sup with restarting := false, resultA := none, resultB := none } }
  if a || b then
    let s := if a && b then giveBrake .a (setRoles .lead .shadow s)
      else if a then giveBrake .a (setRoles .solo .retired s)
      else giveBrake .b (setRoles .retired .solo s)
    closeFailed { s with sup := { s.sup with
      engSafeHold := false, safePending := false, rejoinWait := false, switchPending := false } }
  else s

/-- An engine self-test ends (R312, R315, R317). -/
def endSelftest (x : EngId) (pass : Bool) (s : State) : State :=
  if !(eng x s).selftest then s
  else
    let s := raise Src.engSelftest (stopSelftest x s)
    let s := if pass then s else noteFault x 7 0 0 (supErr 7 s)
    if s.sup.restarting then
      let s := { s with sup := { s.sup with
        resultA := if x = EngId.a then some pass else s.sup.resultA
        resultB := if x = EngId.b then some pass else s.sup.resultB } }
      match s.sup.resultA, s.sup.resultB with
      | some a, some b => finishRestart a b s
      | _, _ => s
    else if s.sup.swap = .armed ∧ x = s.sup.staging then
      if pass then { s with sup := { s.sup with swap := .ready } } else endSwap true s
    else if roleOf x s = .rejoining then
      if pass then { s with sup := { s.sup with rejoinWait := true } }
      else closeFailed (rolesFor x .retired .solo s)
    else s

/-- The pair's waiting action at a quiet point (R313, R314, R317). -/
def pairQuiet (s : State) : State :=
  if s.sup.safePending then
    setState .safeHold { s with sup := { s.sup with safePending := false, engSafeHold := true } }
  else if s.sup.switchPending then
    let x := mainEng s
    let s := { s with sup := { s.sup with switchPending := false, rejoinWait := false } }
    closeFailed (startSelftest x (giveBrake x.other (rolesFor x .rejoining .solo s)))
  else if s.sup.swap = .ready && !s.sup.rejoining then startRejoin s
  else if s.sup.rejoinWait && !s.sup.rejoining && !swapOpenNow s then startRejoin s
  else s

/-- The fields of SUP.CMD as a write leaves them. -/
def supCmd (op : Nat) (x : EngId) (refused : Bool) (s : State) : State :=
  { s with sup := { s.sup with cmdOp := BitVec.ofNat 4 op, cmdEng := x == .b, cmdResult := refused } }

/-- A refused SUP command (R315). -/
def supRefuse (op : Nat) (x : EngId) (s : State) : State := supErr 10 (supCmd op x true s)

/-- Commands may act: the SELFTEST stage has ended, since no role changes before it (R34; DEDUCED, log entry 23), and no fault report came in
this clock, which would prevail (R311). -/
def supReady (s : State) : Bool := s.sup.started && s.sup.faultAt != some s.now

/-- The ENGINE field of SUP.CMD as an engine. -/
def cmdEngine (s : State) : EngId := if s.sup.cmdEng then .b else .a

/-- RETIRE (R315). -/
def retireEngine (x : EngId) (s : State) : State :=
  if roleOf x s = .solo ∨ !supReady s then supRefuse 1 x s
  else
    let s := supCmd 1 x false s
    if roleOf x s = .retired then s
    else if isPair s then engineFault x 8 true 0 0 0 s
    else
      let s := noteFault x 8 0 0 (stopSelftest x s)
      let s := { s with sup := { s.sup with rejoinWait := false, rejoining := false, switchPending := false } }
      let s := if swapOpenNow s then
          raise Src.supSwap (supErr 9 (reloadBlocks x { s with sup := { s.sup with swap := .closed } }))
        else closeFailed s
      rolesFor x .retired .solo (dropCopies s)

/-- REVIVE (R315). -/
def reviveEngine (x : EngId) (s : State) : State :=
  if roleOf x s = .retired ∧ supReady s then
    startSelftest x (rolesFor x .rejoining .solo (supCmd 2 x false s))
  else supRefuse 2 x s

/-- FAILOVER_TEST (R315). -/
def testFailover (s : State) : State :=
  if isPair s ∧ supReady s then
    let s := supCmd 3 (cmdEngine s) false s
    { s with sup := { s.sup with testPending := true } }
  else supRefuse 3 (cmdEngine s) s

/-- SWAP_OPEN (R317): the shadow leaves without a self-test and becomes the staging engine. -/
def openSwap (s : State) : State :=
  if isPair s ∧ s.sup.swap = .closed ∧ supReady s then
    let x := (mainEng s).other
    let s := noteFault x 8 0 0 (supCmd 4 (cmdEngine s) false s)
    let s := dropCopies (withdraw x s)
    raise Src.supRole (rolesFor x .rejoining .solo
      { s with sup := { s.sup with swap := .staging, staging := x, rejoinWait := false, testPending := false } })
  else supRefuse 4 (cmdEngine s) s

/-- CRC-32C over the staged window (R317). -/
def stageBytes (s : State) : List Byte :=
  (List.range 512).flatMap fun i =>
    let q := i / 64
    let w := i % 64
    let v := if w < 24 then (s.sup.stage.toList.getD q (Vector.replicate 24 0)).toList.getD w 0
      else ((s.sup.stageRest.find? fun t => t.1 == i).map fun t => t.2).getD 0
    toLe 4 v.toNat

/-- SWAP_ARM (R317). -/
def armSwap (s : State) : State :=
  if s.sup.swap = .staging ∧ supReady s then
    let s := supCmd 5 (cmdEngine s) false s
    if crc32c (stageBytes s) = s.sup.stageCrc then
      let x := s.sup.staging
      let s := setEng x { eng x s with blocks := s.sup.stage } s
      startSelftest x { s with sup := { s.sup with swap := .armed } }
    else endSwap true s
  else supRefuse 5 (cmdEngine s) s

/-- SWAP_CANCEL (R318). -/
def cancelSwap (s : State) : State :=
  if swapOpenNow s ∧ supReady s then endSwap false (supCmd 6 (cmdEngine s) false s)
  else supRefuse 6 (cmdEngine s) s

/-- ENGINE_RESTART (R315). -/
def restartEngines (s : State) : State :=
  if s.sup.engSafeHold ∧ supReady s then
    let s := supCmd 7 (cmdEngine s) false s
    startSelftest .b (startSelftest .a { s with sup := { s.sup with
      restarting := true, resultA := none, resultB := none } })
  else supRefuse 7 (cmdEngine s) s

end Sys2Proof.Machine
end

