-- ==== Sys2Proof/Machine/Flow.lean ====
section
/-! DEFINITION. The life of a load on its port: line-ahead events (R129, R130, R187, R196, R504), engine passes (R195 to R204), fire
ticks and overspeed (R184, R190, R192, R505), planes and latches (R233, R234), line boundaries (R188), and cuts (R191, R249). -/

namespace Sys2Proof.Machine

/-! ## Positions (R186) -/

/-- 2⁴⁸. -/
def posMod : Nat := 281474976710656

/-- Column lag of a document's port: whether column A lags, n, φ. -/
def docLag (d : Doc) (p : Port) (s : State) : Bool × Nat × Nat :=
  match docProfile d s with
  | some pf => match pf.ports[p] with
    | some pp => if pp.cols = 2 then leadLag d.ports[p].dlyA d.ports[p].dlyB else (false, 0, 0)
    | none => (false, 0, 0)
  | none => (false, 0, 0)

/-- Loads of a document on a port, tail loads included (R211). -/
def docLoads (d : Doc) (p : Port) (s : State) : Nat := d.lineCount + (docLag d p s).2.1

/-- Smaller column delay of the columns in use. -/
def leadDelay (d : Doc) (p : Port) (s : State) : Nat :=
  let q := d.ports[p]
  match docProfile d s with
  | some pf => match pf.ports[p] with
    | some pp => if pp.cols = 2 then min q.dlyA q.dlyB else q.dlyA
    | none => q.dlyA
  | none => q.dlyA

/-- Fire position of the lead column of load `j` (R186). -/
def leadPos (d : Doc) (p : Port) (j : Nat) (s : State) : Nat :=
  (d.origin.toNat + d.startOff + d.ports[p].dly + leadDelay d p s + 256 * j) % posMod

/-- `a` lies above `b`: their distance, modulo 2⁴⁸, is below 2⁴⁷. -/
def posAbove (a b : Nat) : Bool :=
  let d := (posMod + a - b % posMod) % posMod
  d != 0 && decide (2 * d < posMod)

/-- The position that an estimate gives at a time (R180). -/
def estPos (e : Est) (t : Nat) : Nat :=
  let p : Int := match e.edge with
    | none => 0
    | some t0 => (tracked e (t - t0)).1
  (((e.pos.toNat : Int) + (e.frac + p) / 4294967296) % (posMod : Int)).toNat

/-- The estimates, present and past, newest first. -/
def estList (l : Loop) (now : Nat) : List Est := estOf now l :: l.past

/-- The estimate that has taken every edge timed up to `t` and none later (R185). -/
def estFor (l : Loop) (t : Nat) : Est :=
  let c := estOf t l
  match c.edge with
  | none => c
  | some t0 => if t0 ≤ t then c else
      (l.past.find? fun e => match e.edge with | none => true | some t0 => decide (t0 ≤ t)).getD (l.past.getLastD c)

/-- The loop's position at a time: tracked between edges while LOCKED, else counted. -/
def loopPos (l : Loop) (t : Nat) : Nat :=
  let e := estFor l t
  if l.state = .locked then estPos e t else e.pos.toNat

/-- The first time at which an estimate reaches a position, on the 125 ps grid (R182); none where it needs another edge: the estimate is followed
while it runs forward, and no longer than until one edge per elapsed time is a line rate below 200 Hz (R190, log entry 1). -/
def timeAt (e : Est) (target : Nat) : Option Nat :=
  match e.edge with
  | none => if posAbove target e.pos.toNat then none else some 0
  | some t0 =>
    let far := (16 * e.lim / 439000).toNat + 1
    let hi := if e.a < 0 then leastFrom (fun n => decide ((tracked e n).2 ≤ 0)) 42 0 far else far
    let f (n : Nat) : Bool := !posAbove target (estPos e (t0 + n))
    if f hi then some (t0 + leastFrom f 42 0 hi) else none

/-- The fire time of a position (R182): that of the estimate in force 256 ns before it, whatever edges came after. -/
def fireTime (l : Loop) (target now : Nat) : Option Nat :=
  match l.past.reverse.findSome? fun e => match timeAt e target with
    | some t => if t < e.upto + 2048 then some t else none
    | none => none with
  | some t => some t
  | none => timeAt (estOf now l) target

/-- The time at which the loop reaches a position: now if it has, none where that needs another edge. -/
def reachTime (l : Loop) (target now : Nat) : Option Nat :=
  if !posAbove target (loopPos l now) then some now
  else if l.state = .locked && !l.reverse then (timeAt (estOf now l) target).map (max now)
  else none

/-- The high-water mark (R191): the highest position held; it stays as it is while the loop runs in reverse. -/
def loopMark (l : Loop) (t : Nat) : Nat :=
  if !l.reverse && posAbove (loopPos l t) l.hwm.toNat then loopPos l t else l.hwm.toNat

/-- Line rate in 0.01 Hz of a speed in 2⁻³² units per fire clock. -/
def rateOf (v : Int) : Int :=
  let n := v.natAbs * 50000000000
  let q : Int := heldQuot n 1099511627776
  if v < 0 then -q else q

/-- Line rate of a loop at a time in 0.01 Hz, without its sign. -/
def lineRate (l : Loop) (t : Nat) : Nat := (rateOf (speedAt l t)).natAbs

/-- One line period in grid units at a rate in 0.01 Hz. -/
def linePeriod (f : Nat) : Nat := 800000000000 / max 1 f

/-- The loop issues line-ahead events (R184, R191). -/
def issuesAhead (l : Loop) : Bool := l.state != .off && l.hadLock && !l.reverse

/-! ## Notes in the loop -/

/-- Change a loop. -/
def modLoop (x : LoopId) (f : Loop → Loop) (s : State) : State := setLoop x (f (loopOf x s)) s

/-- A line is dropped: counted, and with ERR.DROP and LINE_DROPPED where R194 names it. -/
def dropLine (x : LoopId) (flagged : Bool) (s : State) : State :=
  let s := modLoop x (fun l => { l with
    dropped := satInc l.dropped, err := if flagged then setBit l.err 9 else l.err }) s
  if flagged then raise Src.lineDropped s else s

/-! ## Head temperature at a line-ahead event (R253) -/

/-- Compare the head temperature with its limits; HOT and HARD_HOT clear 5 °C below TLIM. -/
def checkHot (p : Port) (s : State) : State :=
  let h := s.hp[p]
  let lim : Int := 16 * recTlim h.record
  if h.record.isEmpty then s
  else if lim ≤ h.temp then
    if h.hot then s
    else countClass Cls.hpHot (raise Src.headHot (setHp p { h with hot := true } s))
  else if h.temp ≤ lim - 80 then setHp p { h with hot := false, hardHot := false } s
  else s

/-- Hard limit at a line-ahead event of a document (R253): that load and every later one is built blank, and the document is to be marked. -/
def checkHard (p : Port) (id : Word) (s : State) : Bool × State :=
  let h := s.hp[p]
  if !h.record.isEmpty && decide ((16 * recTlim h.record + 160 : Int) ≤ h.temp) then
    let s := setHp p { h with hardHot := true } s
    let fresh := match findDoc id s with | some d => d.ports[p].blanked.isNone | none => false
    if fresh then (true, modDocPort id p (fun q => { q with blanked := some 4 }) s) else (false, s)
  else (false, s)

/-! ## Nozzle units (R271) -/

/-- U of a port in 1/256 LSB per nozzle. -/
def nozzleUnit (p : Port) (s : State) : Nat :=
  let v := s.hdv.ports[p]
  let rank := recRank s.hp[p].record
  let r := (s.hdv.rohm.toList.getD rank 0).toNat + s.hdv.rdrv.toNat
  heldQuot (v.vport.toNat * v.rshunt.toNat * 2 ^ v.gain.toNat * 160) (max 1 r)

/-! ## The end of a load -/

/-- A document whose loads have all passed on every port of its mask is done (R4, R342). -/
def checkDone (id : Word) (s : State) : State :=
  match findDoc id s with
  | none => s
  | some d =>
    if d.admitted && d.trigged.isSome && (portsOf d.mask).all fun p => decide (docLoads d p s ≤ d.ports[p].passed)
    then docDone id s else s

/-- A load leaves its port, passed or counted as passed (R4). -/
def finishLoad (p : Port) (ld : Load) (s : State) : State :=
  let s := setLoads p (s.loads[p].filter fun l => !(l.docId == ld.docId && l.line == ld.line)) s
  checkDone ld.docId (modDocPort ld.docId p (fun q => { q with passed := q.passed + 1 }) s)

/-- The baseline of R270 needs a line guard that was strobed. -/
def setGuardOk (p : Port) (v : Bool) (s : State) : State :=
  let h := s.hdv.ports[p]
  { s with hdv := { s.hdv with ports := s.hdv.ports.set p.val { h with guardOk := v } p.isLt } }

/-- A load that is dropped, blank or left unstrobed passes at its tick (R4): it strobes no line guard, so the load after it keeps the baseline
(R270). -/
def passLoad (p : Port) (ld : Load) (s : State) : State :=
  let strobed := s.loads[p].any fun l => l.ticked && !(l.docId == ld.docId && l.line == ld.line)
  finishLoad p ld (setGuardOk p false (setTrack p { s.track[p] with spitOpen := false, skipped := strobed } s))

/-! ## Emission (R200 to R204) -/

/-- The deadline of a load (R197): 1.5 µs and a plane's load time before its first strobe, at the loop's present line rate; none while the
medium stands. -/
def deadlineOf (p : Port) (ld : Load) (s : State) : Option Nat :=
  match findDoc ld.docId s with
  | none => none
  | some d =>
    let l := loopOf d.loop s
    let f := lineRate l s.now
    let target := leadPos d p ld.line s
    let here := loopPos l s.now
    let ahead := if posAbove target here then (posMod + target - here) % posMod else 0
    let r := s.hp[p].record
    let shift := tLoadSpread (recNozzles r) (planeBits (recClassL r) (ebBpn (energyOf ld.profile s))) s
    if f = 0 then none else some (s.now + ahead * linePeriod f / 256 - 12000 - shift)

/-- Apply an engine's build of a load: packet, records, lost dots, retirement (R204, R205, R284). -/
def emitBuilt (x : EngId) (p : Port) (ld : Load) (s : State) : State :=
  let b := buildLoad x p ld s
  let w := workOf x ld
  let pkt := sealPacket p ld.docId (BitVec.ofNat 32 ld.line) b.body w.flips w.emit
  let e := recordLoad p ld b (recNozzles s.hp[p].record) (eng x s)
  let slack := match deadlineOf p ld s with | some t => min 65535 ((t - s.now) / 128) | none => 65535
  let e := { e with
    slackMin := if ld.kind = .drop then e.slackMin else BitVec.ofNat 16 (min e.slackMin.toNat slack)
    predrops := if ld.short then satInc e.predrops else e.predrops
    err := if ld.short then setBit e.err 4 else e.err }
  let s := setEng x e s
  let s := modLoad p ld.docId ld.line (fun l =>
    { setWork x { w with pkt := some pkt, left := 0 } l with
      emitAt := s.now, reported := true }) s
  let s := if b.lost && !ld.reported then markDoc ld.docId 0x08 p.val (markLine ld) s else s
  if ld.kind = .drop then s else retireLine x p ld.docId ld.line s

/-- The load is the engine's next to be emitted on the port. -/
def nextToEmit (x : EngId) (p : Port) (s : State) : Option Load :=
  s.loads[p].find? fun l => (workOf x l).part && (workOf x l).pkt.isNone

/-- The load carries a REPEAT line. -/
def isRepeat (ld : Load) : Bool := pktType ld.pkt == 1 && (pktTags ld.pkt).getLsbD 2

/-- Line `k` is printed blank because of a fault, and so are the REPEAT lines that follow it and whose line-ahead events have come (R59). -/
def blankFrom (p : Port) (id : Word) : Nat → Nat → State → State
  | 0, _, s => s
  | fuel + 1, k, s =>
    let s := modDocPort id p (fun q => { q with prev := if q.nextAhead = k + 1 then .fault else q.prev }) s
    match findLoad p id (k + 1) s with
    | some ld => if isRepeat ld then blankFrom p id fuel (k + 1) (modLoad p id (k + 1) (fun l => { l with pkt := [], rep := [] }) s) else s
    | none => s

/-- Both read checks of a line failed, or the SOLO engine's (R202, R314): the line is built as blank. -/
def readBoth (p : Port) (ld : Load) (s : State) : State :=
  let flag (e : Engine) : Engine := { e with err := setBit e.err 1 }
  let s := { s with engA := if ld.workA.part then flag s.engA else s.engA
                    engB := if ld.workB.part then flag s.engB else s.engB }
  let s := markDoc ld.docId 0x02 p.val (markLine ld) (raise Src.engReadCheck s)
  let s := blankFrom p ld.docId s.loads[p].length ld.line s
  modLoad p ld.docId ld.line (fun l => { l with
    pkt := [], rep := [], workA := { l.workA with badRead := false }, workB := { l.workB with badRead := false } }) s

/-- Emit the engine's next load of the port if its passes are over and its read check is settled (R202). -/
def emitNext (x : EngId) (p : Port) (s : State) : State :=
  match nextToEmit x p s with
  | none => s
  | some ld =>
    let w := workOf x ld
    let y := workOf x.other ld
    if w.left ≠ 0 then s
    else if !w.badRead then emitBuilt x p ld s
    else if !y.part || y.badRead then
      let s := readBoth p ld s
      match nextToEmit x p s with
      | some ld => emitBuilt x p ld s
      | none => s
    else if y.pkt.isSome then engineFault x 2 false p ld.docId ld.line s
    else s

/-- Emit what is ready on a port: each engine in turn, as often as loads can wait. -/
def emitPort (p : Port) (s : State) : State :=
  (List.replicate (s.loads[p].length + 1) ()).foldl (fun s _ => emitNext .b p (emitNext .a p s)) s

/-! ## Passes (R195 to R199) -/

/-- The engine may start the port's next pass: the copy is not in hand (R308) and no donor goes first (R285). -/
def passReady (x : EngId) (s : State) (p : Port) (ld : Load) : Bool :=
  (s.sup.latent[p].isNone || x == mainEng s) &&
  !(List.finRange 16).any fun q => q != p && s.nzh[q].overlap.getLsbD 31 && ovPortOf s.nzh[q] == p &&
    s.loads[q].any fun l => l.docId == ld.docId && l.line == ld.line && (workOf x l).part && (workOf x l).pkt.isNone

/-- The queued pass with the earliest deadline (R197): its port, document and lead line. -/
def nextPass (x : EngId) (s : State) : Option (Port × Word × Nat) :=
  let c := (List.finRange 16).filterMap fun p => match nextToEmit x p s with
    | some ld => if (workOf x ld).left ≠ 0 ∧ passReady x s p ld then
        some (p, ld, (deadlineOf p ld s).getD (s.now + 9223372036854775808)) else none
    | none => none
  (sortBy (fun t => t.2.2) c).head?.map fun t => (t.1, t.2.1.docId, t.2.1.line)

/-- An engine starts a pass (R197). -/
def startPass (x : EngId) (s : State) : State :=
  let e := eng x s
  if computes e.role ∧ e.running.isNone then
    match nextPass x s with
    | some r => setEng x { e with running := some r } s
    | none => s
  else s

/-- The read check of a load's packets (R201). -/
def readChecks (p : Port) (ld : Load) : Bool :=
  let ok (b : List Byte) (line : Nat) : Bool :=
    b.isEmpty || crc32c (foldBlock p.val ld.docId (BitVec.ofNat 32 line) ++ b.take (16 + pktPlen b)) ==
      le32 b (16 + pktPlen b)
  ok ld.pkt ld.line && ok ld.rep ld.repLine

/-- The load whose pass an engine runs, while it is still the engine's to build. -/
def runningLoad (x : EngId) (s : State) : Option (Port × Load) :=
  match (eng x s).running with
  | none => none
  | some (p, id, line) => match findLoad p id line s with
    | some ld => if (workOf x ld).part ∧ (workOf x ld).pkt.isNone then some (p, ld) else none
    | none => none

/-- Kind of the fault that a pass found in its own engine (R302). -/
def passFault (note : PassNote) : Option Nat :=
  if note.memUe then some 4 else if note.sequence || decide (400 < note.clocks) then some 5 else none

/-- A pass without a fault ends (R200 to R202). -/
def passEnds (x : EngId) (p : Port) (ld : Load) (note : PassNote) (s : State) : State :=
  let w := workOf x ld
  let bad := !ld.pkt.isEmpty && (note.readFail || !readChecks p ld) && !w.badRead
  let e := eng x s
  let s := if bad then setEng x { e with readFails := satInc e.readFails } s else s
  let s := modLoad p ld.docId ld.line (setWork x { w with
    left := w.left - 1, badRead := w.badRead || bad
    flips := w.flips ++ note.flips, emit := w.emit ++ note.emitFlips }) s
  emitPort p s

/-- An engine completes a pass (R200). Where the other engine of the pair reports a fault against the load in the same clock, both are handled
together (R305, R311). -/
def donePass (x : EngId) (note : PassNote) (s : State) : State :=
  let e := eng x s
  match e.running with
  | none => s
  | some _ =>
    let r := runningLoad x s
    let s := setEng x { e with
      running := none, passes := e.passes + 1
      busy := (s.now, note.clocks) :: e.busy.filter fun t => decide (s.now < t.1 + msGrid 1)
      health := { e.health with corrected := satAdd e.health.corrected note.corrected } } s
    match r with
    | none => s
    | some (p, ld) =>
      let other := if isPair s then note.other.map BitVec.toNat else none
      match passFault note, other with
      | some k, some k' => match x with
        | .a => bothFault k k' p ld.docId ld.line s
        | .b => bothFault k' k p ld.docId ld.line s
      | some k, none => engineFault x k false p ld.docId ld.line s
      | none, some k' => passEnds x p ld note (engineFault x.other k' false p ld.docId ld.line s)
      | none, none => passEnds x p ld note s

/-- A credited load's deadline expires without an emission (R199, R298, R305). No deadline expires while the medium stands. -/
def missDeadline (x : EngId) (p : Port) (s : State) : State :=
  match nextToEmit x p s with
  | none => s
  | some ld =>
    if ld.kind = .drop ∨ ld.verdict ≠ .waiting then s
    else match deadlineOf p ld s with
      | none => s
      | some t =>
        let s := advanceTo t s
        let y := workOf x.other ld
        if y.part && y.pkt.isNone then bothFault 1 1 p ld.docId ld.line s
        else engineFault x 1 false p ld.docId ld.line s

/-- A pass runs too long (R302, WATCHDOG). -/
def watchdogPass (x : EngId) (s : State) : State :=
  match runningLoad x s with
  | none => setEng x { eng x s with running := none } s
  | some (p, ld) => engineFault x 5 false p ld.docId ld.line (setEng x { eng x s with running := none } s)

/-! ## Line-ahead events (R129, R187) -/

/-- READ_AHEAD of a document, in lines. -/
def readAheadOf (d : Doc) (s : State) : Nat := match docProfile d s with | some pf => pf.readAhead | none => 4

/-- The position of a load's line-ahead event (R187). -/
def aheadPos (d : Doc) (p : Port) (s : State) : Nat :=
  (posMod + leadPos d p d.ports[p].nextAhead s - 256 * readAheadOf d s) % posMod

/-- The document whose line-ahead event comes next on a port: the one whose read-ahead point is reached first. -/
def nextAheadDoc (p : Port) (s : State) : Option Doc :=
  let c := s.docs.filter fun d =>
    d.admitted && d.trigged.isSome && d.mask.getLsbD p.val && decide (d.ports[p].nextAhead < docLoads d p s) &&
    issuesAhead (loopOf d.loop s)
  let key (d : Doc) : Nat := (posMod + posMod / 2 + aheadPos d p s - loopPos (loopOf d.loop s) s.now) % posMod
  (sortBy key (sortBy (fun d => d.trigged.getD 0) c)).head?

/-- Document `e` was triggered before `d` and prints on the port too. -/
def triggeredBefore (e d : Doc) (p : Port) : Bool :=
  e.id != d.id && e.admitted && e.mask.getLsbD p.val &&
    (match e.trigged, d.trigged with | some a, some b => decide (a < b) | _, _ => false)

/-- An earlier document's tail loads reach beyond the load's position (R211). -/
def overlapsEarlier (d : Doc) (p : Port) (j : Nat) (s : State) : Bool :=
  s.docs.any fun e => triggeredBefore e d p && e.loop == d.loop && (docLag e p s).2.1 != 0 &&
    decide (e.ports[p].passed < docLoads e p s) &&
    !posAbove (leadPos d p j s) (leadPos e p (docLoads e p s - 1) s)

/-- What the pond delivers for a line: packet, repeat source and its line, and how the line is given to print. -/
structure Delivery where
  pkt     : List Byte := []
  rep     : List Byte := []
  repLine : Nat := 0
  given   : GivenAs := .fault
deriving DecidableEq, Repr

/-- A line that is not in time (R130). -/
def starve (p : Port) (id : Word) (k : Nat) (s : State) : State :=
  let s := markDoc id 0x01 p.val k s
  let s := { s with pond := { s.pond with underruns := satInc s.pond.underruns, err := setBit s.pond.err 4 } }
  countClass Cls.pndUnderrun (raise Src.pndUnderrun s)

/-- A payload-bearing line is copied into the repeat buffer as it is delivered (R60): the buffer belongs to the document in progress that
was triggered first and still has lines to deliver (DEDUCED, log entry 72). -/
def keepRepeat (p : Port) (d : Doc) (k : Nat) (b : List Byte) (s : State) : State :=
  if s.docs.any fun e => triggeredBefore e d p && decide (e.ports[p].nextAhead < e.lineCount) then s
  else
    let s := pondWrite (repeatAddr p s) b s
    let t := s.pond.ports[p]
    let s := setStore p { t with repBuf := some ⟨d.id, k, b.length, false⟩ } s
    setTrack p { s.track[p] with repLine := k } s

/-- The packet of a REPEAT line and the data that it repeats (R59, R60, R119). -/
def deliverRepeat (p : Port) (d : Doc) (k : Nat) (b : List Byte) (s : State) : Delivery × State :=
  match d.ports[p].prev with
  | .fault => ({}, s)
  | .blank => ({ pkt := b, given := .blank }, s)
  | .data =>
    match s.pond.ports[p].repBuf with
    | none => ({}, s)
    | some rb =>
      if rb.doc ≠ d.id then ({}, s)
      else if rb.flagged then ({}, markDoc d.id 0x02 p.val k s)
      else ({ pkt := b, rep := pondRead (repeatAddr p s) rb.len s, repLine := rb.line, given := .data }, s)

/-- Deliver line `k` (R59, R119, R129, R130). A test line, whose payload is no data that a REPEAT could use, is not copied into the repeat
buffer (DESIGN CHOICE, log entry 80). -/
def deliverLine (p : Port) (d : Doc) (k : Nat) (s : State) : Delivery × State :=
  if d.ports[p].bad.contains k then ({}, s)
  else match s.pond.ports[p].lines.find? fun l => l.doc == d.id && l.line == k && !l.gone with
  | none => ({}, starve p d.id k s)
  | some l =>
    if l.flagged then ({}, markDoc d.id 0x02 p.val k s)
    else
      let b := pondRead (storedAddr p s l.gran) l.len s
      let t := s.pond.ports[p]
      let s := setStore p { t with lines := t.lines.map fun q =>
        if q.doc == d.id && q.line == k then { q with delivered := true } else q } s
      if pktType b ≠ 1 then ({ pkt := b, given := .data }, s)
      else if (pktTags b).getLsbD 1 then ({ pkt := b, given := .blank }, s)
      else if (pktTags b).getLsbD 2 then deliverRepeat p d k b s
      else ({ pkt := b, given := .data }, keepRepeat p d k b s)

/-- Take the pass credit of a load (R196): whether the port holds it, and the port's timing state after. -/
def takeCredit (need pmax : Nat) (t : PortTrack) (now : Nat) : Bool × PortTrack :=
  let cap := 2 * pmax * 500000
  let have_ := match t.credit with
    | none => cap
    | some c => min cap (c + 3 * (now - t.creditAt))
  if need * 500000 ≤ have_ then (true, { t with credit := some (have_ - need * 500000), creditAt := now })
  else (false, { t with credit := some have_, creditAt := now })

/-- The active missing nozzles that a load sees (R203). -/
def substOf (p : Port) (s : State) : List SubstEntry :=
  ((mapEntries s.nzh[p]).filter isActive).map fun e =>
    ⟨e.nozzle, e.twinOk, e.ovOk, e.dnOk, e.upOk, e.ovPort, e.ovNozzle⟩

/-- What the controller adds to the copied state (R306). -/
def sharedState (t : PortTrack) : Segment :=
  { credit := satNat 16 (t.credit.getD 0 * 16 / 500000), ovsAcc := satNat 32 t.acc, fPeak := satNat 32 (t.peak / 100)
    flags := if t.dropping then 1 else 0, late := satNat 16 t.lateness, repLine := BitVec.ofNat 32 t.repLine }

/-- Load `a` fires before load `b`: by their fire positions on one loop, else by their deadlines. -/
def firesBefore (p : Port) (a b : Load) (s : State) : Bool :=
  match findDoc a.docId s, findDoc b.docId s with
  | some d, some e =>
    if d.loop = e.loop then posAbove (leadPos e p b.line s) (leadPos d p a.line s)
    else match deadlineOf p a s, deadlineOf p b s with
      | some t, some u => decide (t < u)
      | _, _ => false
  | _, _ => false

/-- Put a load before the first unticked one that fires after it. -/
def insertLoad (p : Port) (ld : Load) (s : State) : List Load → List Load
  | [] => [ld]
  | l :: r => if !l.ticked && firesBefore p ld l s then ld :: l :: r else l :: insertLoad p ld s r

/-- A load takes its place on its port: loads stand in the order in which they fire, whatever the READ_AHEAD of their documents (R197, R211). -/
def pushLoad (p : Port) (ld : Load) (s : State) : State := setLoads p (insertLoad p ld s s.loads[p]) s

/-- Build the load of lead line `j` from its delivery, and queue its passes (R195 to R197, R203, R214). The load of line 0 starts from a
cleared history (R206). Of the markings of one event the lower codes come first (R476): `hot` asks for the one of R253. -/
def queueLoad (p : Port) (d : Doc) (j : Nat) (dv : Delivery) (blank overlap unplaced hot : Bool) (s : State) : State :=
  let q := docProf d
  let e := energyOf q s
  let h := s.hp[p]
  let classL := recClassL h.record
  let lag := docLag d p s
  let tail := decide (d.lineCount ≤ j)
  let t := s.track[p]
  let fresh := !d.ports[p].begun
  let lead := !dv.pkt.isEmpty && pktType dv.pkt == 1 && (pktTags dv.pkt).getLsbD 4
  let lagForced := decide (lag.2.1 ≠ 0) && t.forced.contains (d.id, j - lag.2.1) && decide (lag.2.1 ≤ j)
  let need := loadPasses e classL (lead || lagForced)
  let t := { t with forced := (if lead && lag.2.1 != 0 && !overlap then (d.id, j) :: t.forced else t.forced).filter fun k =>
      k.1 != d.id || decide (j < k.2 + lag.2.1) }
  let (ok, t) := if unplaced then (true, t) else takeCredit need (if classL then 1 else ebPmax e) t s.now
  let s := modDocPort d.id p (fun q => { q with begun := q.begun || fresh }) (setTrack p t s)
  let kind : LoadKind := if overlap || unplaced || !ok then .drop else if blank then .blank else .print
  let s := if !ok then markDoc d.id 0x03 p.val (if tail then j - lag.2.1 else j) s else s
  let s := if hot then markDoc d.id 0x04 p.val (min j d.lineCount) s else s
  let work (x : EngId) : Work := { part := computes (roleOf x s), left := if kind = .drop then 0 else need }
  let u := nozzleUnit p s
  let v := s.hdv.ports[p]
  let s := { s with hdv := { s.hdv with ports := s.hdv.ports.set p.val { v with scale := u } p.isLt } }
  let ld : Load := {
    docId := d.id, line := j, kind := kind, tail := tail
    pkt := dv.pkt, rep := dv.rep, repLine := dv.repLine, profile := q
    n := lag.2.1, phi := lag.2.2, cols2 := recCols h.record == 2, lagA := lag.1, lagForced := lagForced
    temp := h.temp, mapVer := s.nzh[p].mapVer, missing := substOf p s, scale := u
    shared := sharedState t, workA := work .a, workB := work .b
    short := !ok, unplaced := unplaced, overlap := overlap, fresh := fresh }
  let s := pushLoad p ld s
  let s := if kind = .drop || dv.pkt.isEmpty then retireBoth p d.id j s else s
  emitPort p s

/-- A line's load cannot be placed (R504). -/
def unplacedLine (d : Doc) (p : Port) (j : Nat) (s : State) : Bool :=
  let lag := docLag d p s
  let mark := loopMark (loopOf d.loop s) s.now
  let a := leadPos d p j s
  decide (j < d.lineCount) && !(posAbove a mark && posAbove ((a + 256 * lag.2.1 + lag.2.2) % posMod) mark)

/-- The pond delivers line `j` of a document, unless its load is built blank or it lies beyond the last line. A line as delivered is a record
of the port's tap, of 0 bytes where it is delivered blank (R153). A line whose load is built blank for another reason is not counted as starved
(DESIGN CHOICE, log entry 85). -/
def deliver (p : Port) (d : Doc) (j : Nat) (blank : Bool) (s : State) : Delivery × State :=
  if d.lineCount ≤ j || blank then ({}, s)
  else
    let r := deliverLine p d j s
    (r.1, snoopRecord (tapDelivery p) r.1.pkt r.2)

/-- A line-ahead event of a document on a port (R129, R187, R196, R253, R504). -/
def aheadOf (p : Port) (d : Doc) (s : State) : State :=
  let j := d.ports[p].nextAhead
  let overlap := overlapsEarlier d p j s
  let s := modDocPort d.id p (fun q => { q with nextAhead := j + 1 }) s
  let s := checkHot p s
  let (hot, s) := checkHard p d.id s
  let blank := d.aborted || (match findDoc d.id s with | some e => e.ports[p].blanked.isSome | none => false)
  let unplaced := unplacedLine d p j s
  let (dv, s) := deliver p d j blank s
  let s := modDocPort d.id p (fun q => { q with prev := dv.given }) s
  let s := if unplaced then markDoc d.id 0x03 p.val j (dropLine d.loop true s)
    else if overlap then markDoc d.id 0x03 p.val j s else s
  let s := if blank then retireBoth p d.id j s else s
  queueLoad p d j dv blank overlap unplaced hot s

/-- The next line-ahead event of a document comes when the position reaches its point (R187). -/
def reachAhead (p : Port) (d : Doc) (ups : Upsets) (s : State) : State :=
  match reachTime (loopOf d.loop s) (aheadPos d p s) s.now with
  | none => s
  | some t => aheadOf p d (wordErrors ups (advanceTo t s))

/-- The line-ahead event that comes on a port, when the position reaches it (R187): none during a full copy to an engine that rejoins, for
which a document waits (R313). -/
def lineAhead (p : Port) (ups : Upsets) (s : State) : State :=
  if s.sup.rejoining then s
  else match nextAheadDoc p s with
    | none => s
    | some d => reachAhead p d ups s

/-! ## Strobes -/

/-- Width of plane `j` of a packet, in grid units (R217). -/
def pktWidth (b : List Byte) (j : Nat) : Nat := leNat b (20 + 2 * j) 2 * 16

/-- A of a packet: a class L load has one trigger. -/
def pktStrobes (b : List Byte) : Nat := max 1 (byteAt b 18).toNat

/-- EXPECT of plane `j`, strobe `k`, column `c`. -/
def pktExpect (b : List Byte) (j k c : Nat) : Nat := (byteAt b (40 + 2 * ((byteAt b 18).toNat * j + k) + c)).toNat

/-- The packet is for a class L head. -/
def pktClassL (b : List Byte) : Bool := (byteAt b 2).getLsbD 4

/-- Time from the start of plane `j` to the end of its last strobe. -/
def planeSpan (b : List Byte) (gap j : Nat) : Nat := pktStrobes b * (pktWidth b j + gap) - gap

/-- Strobes that have risen by time `t` in a sequence that began at `t0`. -/
def strobesRisen (b : List Byte) (gap j t0 t : Nat) : Nat :=
  if t < t0 then 0 else min (pktStrobes b) ((t - t0) / max 1 (pktWidth b j + gap) + 1)

/-- Drops fired by the first `n` strobes of plane `j` on the columns that a test picks (R256). -/
def dropsFired (r : List Byte) (ld : Load) (j n : Nat) (cols : Nat → Bool) : Nat :=
  let b := usedPacket ld
  if pktClassL b then (if n = 0 then 0 else ((usedValues r ld j).filter fun v => v != 0).length)
  else (List.range n).foldl (fun a k =>
    a + (if cols 0 then pktExpect b j k 0 else 0) + (if cols 1 then pktExpect b j k 1 else 0)) 0

/-- Count drops (R256): each further 10⁸ adds to the pending usage. -/
def countFires (p : Port) (k : Nat) (s : State) : State :=
  let h := s.hp[p]
  let a := h.fires.toNat
  setHp p { h with
    fires := BitVec.ofNat 48 (a + k)
    usagePend := satAdd h.usagePend ((a + k) / 100000000 - a / 100000000)
    writeOver := h.writeOver && (a + k) / 100000000 == a / 100000000 } s

/-- Count what the open sequences of a load have fired up to a time. -/
def closeStrobes (p : Port) (ld : Load) (t : Nat) (s : State) : State :=
  let b := usedPacket ld
  let j := ld.latched - 1
  let leadCol := if ld.lagA then 1 else 0
  let s := if ld.openLead then
      countFires p (dropsFired s.hp[p].record ld j (strobesRisen b ld.gap j ld.planeAt t)
        (fun c => ld.phi == 0 || c == leadCol)) s else s
  let s := if ld.openLag then
      countFires p (dropsFired s.hp[p].record ld 0 (strobesRisen b ld.gap 0 ld.lagAt t) (fun c => c != leadCol)) s else s
  modLoad p ld.docId ld.line (fun l => { l with openLead := false, openLag := false }) s

/-- Time at which the load's last strobe has fallen. -/
def strobesEnd (ld : Load) : Nat :=
  let b := usedPacket ld
  let a := ld.planeAt + planeSpan b ld.gap (ld.latched - 1)
  if ld.phi = 0 then a else max a (ld.lagAt + planeSpan b ld.gap 0)

/-- Cut a load whose strobes run or are due (R191, R249). -/
def cutLoad (p : Port) (ld : Load) (s : State) : State :=
  let s := closeStrobes p ld s.now s
  let t := s.track[p]
  let s := setTrack p { t with firing := t.firing.map fun f =>
    if f.docId == ld.docId && f.line == ld.line then { f with cut := true } else f } s
  passLoad p { ld with cut := true } s

/-- The loads of a port that are being strobed. -/
def runningLoads (p : Port) (s : State) : List Load := s.loads[p].filter fun l => l.ticked

/-- A head is removed, or its power is lost, during a document (R249): every later load is handled as blank, and the
document is marked with reason 0x05. -/
def portLost (p : Port) (s : State) : State :=
  let docs := s.docs.filter fun d => d.admitted && d.mask.getLsbD p.val
  let s := docs.foldl (fun s d => markDoc d.id 0x05 p.val (min d.ports[p].passed d.lineCount)
    (modDocPort d.id p (fun q => { q with lost := true, blanked := some 5 }) s)) s
  let s := (runningLoads p s).foldl (fun s l => cutLoad p l s) s
  setTrack p { s.track[p] with firing := s.track[p].firing.map (fun f => { f with cut := true }), spitOpen := false } s

/-- Strobes of a load remain to rise. -/
def strobesLeft (ld : Load) (t : Nat) : Bool :=
  let b := usedPacket ld
  decide (ld.latched < usedPlanes ld) ||
  decide (strobesRisen b ld.gap (ld.latched - 1) ld.planeAt t < pktStrobes b) ||
  (ld.phi != 0 && (!ld.lagTicked || decide (strobesRisen b ld.gap 0 ld.lagAt t < pktStrobes b)))

/-- A reversal cuts the lines on a loop's ports of which strobes remain (R191). -/
def reverseCut (x : LoopId) (s : State) : State :=
  (List.finRange 16).foldl (fun s p =>
    ((runningLoads p s).filter fun l => strobesLeft l s.now).foldl (fun s l =>
      match findDoc l.docId s with
      | some d =>
        if d.loop = x then
          let s := dropLine x false s
          let s := modLoop x (fun l => { l with err := setBit l.err 8 }) s
          cutLoad p l (markDoc l.docId 0x03 p.val (markLine l) (raise Src.lineDropped s))
        else s
      | none => s) s) s

/-! ## Fire ticks -/

/-- f_nom × (1 + OVS_TOL) in 0.01 Hz. -/
def tolLimit (d : Doc) (p : Port) (s : State) : Nat :=
  d.ports[p].fNom * (100 + (match docProfile d s with | some pf => pf.set.tol.toNat | none => 6))

/-- An overspeed episode's end (R192): f_ovs of the loop falls. -/
def lowerOvs (x : LoopId) (fit peak : Nat) (s : State) : State :=
  modLoop x (fun l => { l with fOvs := max 200 (min l.fOvs (s.pond.speedLimit * fit / max 1 peak)) }) s

/-- R192 on one line, in 0.01 Hz, for a lateness above 32 units and one above 0: fires, began, ended, and the port's timing state. -/
def overspeedStep (tol fit f : Nat) (beyond late : Bool) (t : PortTrack) : Bool × Bool × Bool × PortTrack :=
  let began := !t.dropping && (decide (tol < f) || beyond)
  let t := if began then { t with dropping := true, peak := f, acc := 0, calm := 0 } else t
  if !t.dropping then (true, false, false, t)
  else
    let acc := t.acc + fit
    let fire := decide (f ≤ acc)
    let calm := if f ≤ fit ∧ !late then t.calm + 1 else 0
    let ended := decide (64 ≤ calm)
    (fire && !beyond, began, ended, { t with
      peak := max t.peak f
      acc := if ended then 0 else if fire then acc - f else acc
      calm := if ended then 0 else calm, dropping := !ended })

/-- Start of the plane after plane `j`, which starts at `t` (R233). -/
def nextStart (b : List Byte) (shift gap t j : Nat) : Nat :=
  max (t + pktStrobes b * (pktWidth b j + gap)) (t + shift + 320)

/-- Start of a load's last plane, from the start of plane `j`. -/
def lastStart (b : List Byte) (planes shift gap j t : Nat) : Nat :=
  (List.range (planes - 1 - j)).foldl (fun t i => nextStart b shift gap t (j + i)) t

/-- Port line boundary of a load with a gap and a guard, from its start (R233, R505): the lag column starts φ/256 of a
period later. -/
def boundaryAfter (b : List Byte) (planes phi period shift gap guard : Nat) : Nat :=
  max (lastStart b planes shift gap 0 0 + planeSpan b gap (planes - 1)) (phi * period / 256 + planeSpan b gap 0) + guard

/-- Gap and guard of a load in grid units (R505): shortened only as far as the predicted next tick needs. -/
def shrink (b : List Byte) (planes phi period shift late : Nat) : Nat × Nat :=
  let gap := leNat b 28 2 * 16
  let guard := leNat b 30 2 * 16
  let room := period - 320
  let fits (g u : Nat) : Bool := decide (late + boundaryAfter b planes phi period shift g u ≤ room)
  let dg := leastFrom (fun k => fits (gap - k) guard) 20 0 (gap - 1600)
  let du := if fits (gap - dg) guard then 0
    else leastFrom (fun k => fits (gap - dg) (guard - k)) 24 0 (guard - 4000)
  (gap - dg, guard - du)

/-- T_load′ of a load's planes. -/
def loadShift (p : Port) (ld : Load) (s : State) : Nat :=
  let r := s.hp[p].record
  tLoadSpread (recNozzles r) (planeBits (recClassL r) (ebBpn (energyOf ld.profile s))) s

/-- Start of the last plane of a load that is being strobed, and its port line boundary (R188, R233): as they stand, or as they will come. -/
def loadEnds (period shift : Nat) (ld : Load) : Nat × Nat :=
  let b := usedPacket ld
  let n := usedPlanes ld
  let last := if ld.latched = 0 then lastStart b n shift ld.gap 0 ld.tickAt else lastStart b n shift ld.gap (ld.latched - 1) ld.planeAt
  let lag := if ld.phi = 0 then 0
    else (if ld.lagTicked then ld.lagAt else max ld.tickAt (ld.tick + ld.phi * period / 256)) + planeSpan b ld.gap 0
  (last, max (last + planeSpan b ld.gap (n - 1)) lag + ld.guard)

/-- The load is strobed when its tick comes. -/
def willFire (ld : Load) : Bool := ld.handed && usedPlanes ld != 0

/-- Earliest start that the port allows a load (R232 to R234): plane 0 shifted in after the latches before it, and 40 ns after the boundary of
the load before it. -/
def earliestStart (p : Port) (ld : Load) (period : Nat) (s : State) : Nat :=
  let t := s.track[p]
  let shift := loadShift p ld s
  let ends := (runningLoads p s).map fun l => loadEnds period (loadShift p l s) l
  let latch := ends.foldl (fun a e => max a e.1) t.latchAt
  let bound := ends.foldl (fun a e => max a e.2) t.boundAt
  let own := if !willFire ld then 0
    else if ld.shifted = 0 then max ld.shiftAt (latch - 160) + shift + 480 else ld.shiftAt + 480
  max own (if bound = 0 then 0 else bound + 320)

/-- Lateness of `delay` at a line period, in units (R192). -/
def lateUnits (delay period : Nat) : Nat := min 32 (heldQuot (delay * 256) (max 1 period))

/-- The load of a port fires late (R192, R234). -/
def noteLate (p : Port) (x : LoopId) (delay period : Nat) (s : State) : State :=
  let u := lateUnits delay period
  let s := setTrack p { s.track[p] with lateness := u } s
  let s := modLoop x (fun l => { l with lateness := l.lateness.set p.val (BitVec.ofNat 6 u) p.isLt }) s
  if delay = 0 then s
  else
    let h := s.hp[p]
    raise Src.lineLate (modLoop x (fun l => { l with err := setBit l.err 7 }) (setHp p { h with err := setBit h.err 1 } s))

/-- A load that fires starts its sequence `delay` after its tick (R192, R232, R505). -/
def startLoad (p : Port) (d : Doc) (ld : Load) (delay : Nat) (s : State) : State :=
  let period := linePeriod (lineRate (loopOf d.loop s) s.now)
  if !ld.handed && ld.failed && ld.kind == .blank then passLoad p ld s
  else if !ld.handed then
    let h := s.hp[p]
    let s := setHp p { h with egrBlanked := satInc h.egrBlanked } s
    passLoad p ld (markDoc ld.docId 0x02 p.val (markLine ld) s)
  else if usedPlanes ld = 0 then passLoad p ld s
  else
    let g := shrink (usedPacket ld) (usedPlanes ld) ld.phi period (loadShift p ld s) delay
    modLoad p ld.docId ld.line (fun l => { l with
      ticked := true, tick := s.now, tickAt := s.now + delay, gap := g.1, guard := g.2 }) (noteLate p d.loop delay period s)

/-- An earlier document's last tail load has not fired yet on the port (R211). -/
def earlierFires (d : Doc) (p : Port) (s : State) : Bool :=
  s.docs.any fun e => triggeredBefore e d p && (docLag e p s).2.1 != 0 && decide (e.ports[p].passed < docLoads e p s) &&
    (match findLoad p e.id (docLoads e p s - 1) s with
     | some l => !l.ticked || strobesLeft l s.now
     | none => true)

/-- A line is dropped at its tick because the loop cannot print through its motion (R184, R190). -/
def dropMotion (p : Port) (d : Doc) (ld : Load) (s : State) : State :=
  passLoad p ld (markDoc d.id 0x03 p.val (markLine ld) (dropLine d.loop true s))

/-- The fire tick of a load's lead column, at its time (R186, R192, R211, R232). -/
def tickLead (p : Port) (d : Doc) (ld : Load) (s : State) : State :=
  let x := d.loop
  let s := setTrack p { s.track[p] with loop := x } s
  if d.ports[p].lost then passLoad p ld s
  else if ld.overlap || earlierFires d p s then
    passLoad p ld (markDoc d.id 0x03 p.val (markLine ld) (if ld.short then dropLine x false s else s))
  else
    let f := lineRate (loopOf x s) s.now
    let period := linePeriod f
    let delay := earliestStart p ld period s - s.now
    let r := overspeedStep (tolLimit d p s) d.ports[p].fFit f (decide (period < 8 * delay)) (decide (0 < delay)) s.track[p]
    let s := setTrack p r.2.2.2 s
    let s := if r.2.1 then
        let s := modLoop x (fun l => { l with err := setBit l.err 6 }) s
        markDoc d.id 0x03 p.val (markLine ld) (countClass Cls.ftlOverspeed (raise Src.overspeed s)) else s
    let s := if !r.1 || ld.kind == .drop then passLoad p ld (dropLine x false s) else startLoad p d ld delay s
    if r.2.2.1 then lowerOvs x d.ports[p].fFit r.2.2.2.peak s else s

/-- The loop issues fire ticks (R184, R190, R191). -/
def ticksIssue (l : Loop) : Bool := l.state == .locked && !l.crawl

/-- The position of a load's lead column is reached (R184, R186, R190): its tick where the loop issues ticks, else the line is dropped. -/
def leadReached (p : Port) (ld : Load) (s : State) : State :=
  match findDoc ld.docId s with
  | none => passLoad p ld s
  | some d =>
    let l := loopOf d.loop s
    let target := leadPos d p ld.line s
    if l.state = .off || !l.hadLock || l.reverse then s
    else if ld.unplaced then passLoad p ld s
    else if ticksIssue l then
      match fireTime l target s.now with
      | some t => tickLead p d ld (advanceTo t s)
      | none => s
    else match reachTime l target s.now with
      | some t => dropMotion p d ld (advanceTo t s)
      | none => s

/-- The lane and strobe outputs of a port may leave their low level: from its first entry to ACTIVE on, in POWERING and ACTIVE (R483). -/
def lanesMayMove (p : Port) (s : State) : Bool :=
  let h := s.hp[p]
  s.pwr.released && h.wasActive && (h.pstate == .powering || h.pstate == .active)

/-- The fire tick of a load's lag column (R235): its sequence starts at its own tick, or with the latch if the load is later than that. -/
def tickLag (p : Port) (d : Doc) (ld : Load) (s : State) : State :=
  let tick (q : Load) : Load := { q with lagTicked := true, lagAt := max s.now q.tickAt, openLag := lanesMayMove p s }
  modLoad p ld.docId ld.line tick (setTrack p { s.track[p] with
    loop := d.loop
    firing := s.track[p].firing.map fun f => if f.docId == ld.docId && f.line == ld.line then tick f else f } s)

/-- The position of a load's lag column is reached. -/
def lagReached (p : Port) (ld : Load) (s : State) : State :=
  match findDoc ld.docId s with
  | none => s
  | some d =>
    let l := loopOf d.loop s
    let target := (leadPos d p ld.line s + ld.phi) % posMod
    if l.state = .off || l.reverse then s
    else if ticksIssue l then
      match fireTime l target s.now with
      | some t => tickLag p d ld (advanceTo t s)
      | none => s
    else match reachTime l target s.now with
      | some t => modLoad p ld.docId ld.line (fun q => { q with lagTicked := true, lagAt := 0 })
          (markDoc d.id 0x03 p.val (ld.line - ld.n) (dropLine d.loop true (advanceTo t s)))
      | none => s

/-- A fire tick on a port (R182, R186). -/
def fireTickOn (p : Port) (lag : Bool) (s : State) : State :=
  if lag then
    match s.loads[p].find? fun l => l.ticked && !l.lagTicked && l.phi != 0 with
    | some ld => lagReached p ld s
    | none => s
  else
    match s.loads[p].find? fun l => !l.ticked with
    | some ld => leadReached p ld s
    | none => s

/-! ## Planes, latches and boundaries -/

/-- The load whose plane is shifted next: planes go in order, and a load's first plane waits for the latches of the load
before it (R233). -/
def shiftLoad (p : Port) (s : State) : Option Load :=
  match s.loads[p].find? fun l => if l.handed then decide (l.latched < usedPlanes l) else !l.failed && l.kind != .drop with
  | some l => if l.handed ∧ l.shifted = l.latched then some l else none
  | none => none

/-- When the next plane may begin to shift in (R233): for plane 0 after the latches of the load before it. -/
def shiftStart (p : Port) (ld : Load) (s : State) : Nat :=
  if ld.latched = 0 then max ld.shiftAt (s.track[p].latchAt - 160) else ld.shiftAt

/-- A plane has been shifted into the head (R233). -/
def shiftDone (p : Port) (s : State) : State :=
  match shiftLoad p s with
  | none => s
  | some ld =>
    let t := shiftStart p ld s + loadShift p ld s
    modLoad p ld.docId ld.line (fun l => { l with shifted := l.shifted + 1, shiftAt := t }) (advanceTo t s)

/-- Start of a load's next plane (R233, R234). -/
def planeStart (p : Port) (ld : Load) (s : State) : Nat :=
  let b := usedPacket ld
  if ld.latched = 0 then
    max (max ld.tickAt (ld.shiftAt + 480)) (if s.track[p].boundAt = 0 then 0 else s.track[p].boundAt + 320)
  else max (ld.planeAt + pktStrobes b * (pktWidth b (ld.latched - 1) + ld.gap)) (ld.shiftAt + 480)

/-- The line guard of a spit fired before has been strobed (R270). -/
def spitGuard (p : Port) (s : State) : State :=
  if s.track[p].spitOpen then setGuardOk p true (setTrack p { s.track[p] with spitOpen := false } s) else s

/-- NZH takes the planes of a load that is latched, and holds those of the load strobed before it (R275). -/
def holdPlanes (p : Port) (ld : Load) (s : State) : State :=
  let t := s.track[p]
  let fired := match t.firing with
    | some f => if f.docId = ld.docId ∧ f.line = ld.line then t.fired else some f
    | none => t.fired
  setTrack p { t with firing := some ld, fired := fired } s

/-- A load's first plane is latched (R256, R280): a start later than its tick allowed for counts as lateness (R234). -/
def firstLatch (p : Port) (ld : Load) (t : Nat) (s : State) : State :=
  let h := s.hp[p]
  let s := ageSuspicions p (spitGuard p (setHp p { h with loads := if lanesMayMove p s then h.loads + 1 else h.loads } s))
  if t ≤ ld.tickAt then s
  else
    let x := s.track[p].loop
    noteLate p x (t - ld.tick) (linePeriod (lineRate (loopOf x s) s.now)) s

/-- Every latch condition of R234 is met: the plane is latched and its strobes begin; 20 ns before them the next shift may begin (R233). -/
def latchPlane (p : Port) (s : State) : State :=
  match s.loads[p] with
  | [] => s
  | ld :: _ =>
    if ld.ticked ∧ ld.latched < ld.shifted then
      let t := planeStart p ld s
      let s := advanceTo t s
      let s := if ld.latched = 0 then firstLatch p ld t s else closeStrobes p ld t s
      let s := modLoad p ld.docId ld.line (fun l => { l with
        latched := l.latched + 1, planeAt := t, shiftAt := t - 160, openLead := lanesMayMove p s }) s
      let s := setTrack p { s.track[p] with latchAt := t } s
      match findLoad p ld.docId ld.line s with
      | some l => holdPlanes p l s
      | none => s
    else s

/-- The cut-off of R239 for the load that comes next: with no packet handed over it is handled as blank. -/
def cutoff (p : Port) (s : State) : State :=
  match s.loads[p].find? fun l => !l.ticked with
  | none => s
  | some ld =>
    if ld.handed || ld.kind == .drop || (ld.failed && ld.kind == .blank) then s
    else
      let h := s.hp[p]
      let s := setHp p { h with egrBlanked := satInc h.egrBlanked } s
      let s := markDoc ld.docId 0x02 p.val (markLine ld) s
      modLoad p ld.docId ld.line (fun l => { l with failed := true, kind := .blank, verdict := .none, used := none }) s

/-- Writes that wait for a port's line boundary take effect (R26). -/
def applyPort (p : Port) (s : State) : State :=
  let h := s.hp[p]
  match h.pendRate with
  | some r => setHp p { h with spitRate := r, pendRate := none } s
  | none => s

/-- The port line boundary of the load at the head of the port (R188): held writes take effect, its copy is queued, and it has passed. -/
def portBoundary (p : Port) (s : State) : State :=
  match s.loads[p] with
  | [] => s
  | ld :: _ =>
    if ld.ticked ∧ 0 < ld.latched ∧ ld.latched = usedPlanes ld ∧ (ld.phi = 0 ∨ ld.lagTicked) then
      let t := strobesEnd ld + ld.guard
      let s := advanceTo t (closeStrobes p ld (strobesEnd ld) s)
      let s := setTrack p { s.track[p] with boundAt := t, skipped := false } (setGuardOk p (!s.track[p].skipped) s)
      finishLoad p ld (queueCopy p (applyPort p s))
    else s

end Sys2Proof.Machine
end

