-- ==== Sys2Proof/Machine/Supply.lean ====
section
/-! DEFINITION. Head supplies (R260 to R267), shorts (R273), head discovery and removal (R240 to R250), head temperature (R251 to
R253), record writes (R257, R258), spits and contact sheets (R66, R255, R290), and echo windows (R270 to R272). -/

namespace Sys2Proof.Machine

/-! ## Access -/

/-- The rail of a port (R260). -/
def railOf (p : Port) : Fin 4 := ⟨p.val / 4, by omega⟩

/-- The ports of a rail. -/
def railPorts (r : Fin 4) : List Port := (List.finRange 16).filter fun p => railOf p == r

/-- Change a rail. -/
def modRail (r : Fin 4) (f : Rail → Rail) (s : State) : State :=
  { s with hdv := { s.hdv with rails := s.hdv.rails.set r.val (f s.hdv.rails[r]) r.isLt } }

/-- Change a port sub-block of HDV. -/
def modHdv (p : Port) (f : HdvPort → HdvPort) (s : State) : State :=
  { s with hdv := { s.hdv with ports := s.hdv.ports.set p.val (f s.hdv.ports[p]) p.isLt } }

/-- Change a head port. -/
def modHp (p : Port) (f : HeadPort → HeadPort) (s : State) : State := setHp p (f s.hp[p]) s

/-- An error flag of a head port. -/
def hpErr (p : Port) (i : Nat) (s : State) : State := modHp p (fun h => { h with err := setBit h.err i }) s

/-! ## Set-points (R263, R264, R387) -/

/-- The trim entry of a rail. -/
def railTrim (r : Fin 4) (s : State) : Trim := s.cal.trim[3 + r.val]'(by omega)

/-- Set-point code of a rank on a rail (R387). -/
def setPoint (r : Fin 4) (v : Fin 8) (s : State) : BitVec 12 :=
  let c : Int := (s.hdv.vtab[v].toNat : Int) + ((railTrim r s).target.toNat : Int) - 2048
  BitVec.ofNat 12 (max 0 (min 4095 c)).toNat

/-- Output of a set-point code in nV (R263), rounded down. -/
def codeNv (c : BitVec 12) : Nat := 9000000000 + c.toNat * 23000000000 / 4095

/-- Soft start of a rail: 97 % of the set-point at 2.0 V/ms, and 1 ms within the band (R261), in grid units. -/
def softTime (c : BitVec 12) : Nat := codeNv c * 97 / 100 * 4 / 1000 + msGrid 1

/-- A rail's target changes (R264, R387, R394): in a soft start the output has to stand 1 ms within the band of the new set-point (R261). -/
def retarget (r : Fin 4) (s : State) : State :=
  let l := s.hdv.rails[r]
  match l.rank with
  | none => s
  | some v =>
    let c := setPoint r v s
    match l.state with
    | .softstart =>
      let ramp := l.due - softTime l.code + (softTime c - msGrid 1)
      if c = l.code then s else modRail r (fun l => { l with target := c, code := c, due := max ramp s.now + msGrid 1 }) s
    | .good => if c = l.code then modRail r (fun l => { l with target := c }) s
      else modRail r (fun l => { l with target := c, state := .slewing, due := s.now + usGrid 64 }) s
    | .slewing => modRail r (fun l => { l with target := c }) s
    | _ => s

/-- Every rail takes up its target. -/
def retargetAll (s : State) : State := (List.finRange 4).foldl (fun s r => retarget r s) s

/-! ## Power of a port (R247, R262, R265) -/

/-- No port of the rail is powered. -/
def railIdle (r : Fin 4) (s : State) : Bool := (railPorts r).all fun p => !s.hdv.ports[p].gate

/-- The gate is released (R265): the port is off, and the rail's 100 ms start once no port is powered. -/
def releaseGate (p : Port) (s : State) : State :=
  let r := railOf p
  let was := s.hdv.ports[p].gate
  let s := modHdv p (fun h => { h with gate := false, pwrGood := false, guardOk := false }) s
  let s := modRail r (fun l => { l with waiting := clearBit l.waiting (p.val % 4) }) s
  if was && railIdle r s && s.hdv.rails[r].state == .good then
    modRail r (fun l => { l with due := s.now + msGrid 100 }) s
  else s

/-- A request that fails (R247, R260, R261, R262). -/
def refusePower (p : Port) (s : State) : State :=
  hpErr p 5 (modHp p (fun h => { h with pstate := .unpowered }) s)

/-- The port switch closes (R265). -/
def closeSwitch (p : Port) (s : State) : State :=
  modHdv p (fun h => { h with gate := true, pwrGood := false, pgDue := s.now + msGrid 5 }) s

/-- A port requests power from its rail. -/
def requestPower (p : Port) (s : State) : State :=
  let r := railOf p
  let l := s.hdv.rails[r]
  let v : Fin 8 := ⟨recVRank s.hp[p].record % 8, Nat.mod_lt _ (by decide)⟩
  let wait (s : State) : State := modRail r (fun l => { l with waiting := setBit l.waiting (p.val % 4) }) s
  if !l.use then refusePower p s
  else match l.state with
    | .fault | .latched => refusePower p s
    | .off =>
      let c := setPoint r v s
      wait (modRail r (fun l => { l with
        state := .softstart, rank := some v, target := c, code := c, due := s.now + softTime c }) s)
    | st =>
      if l.rank = some v then
        if st = .good then closeSwitch p s else wait s
      else refusePower p (modRail r (fun l => { l with err := setBit l.err 4 }) s)

/-- The conditions for POWERING (R247), and a valid record (R248). -/
def powerOk (p : Port) (s : State) : Bool :=
  let h := s.hp[p]
  !h.record.isEmpty && h.enable && !h.pwrOff && s.top.state != .safeHold && !s.pwr.standbyAxes

/-- An UNPOWERED port evaluates its conditions again. -/
def reevaluate (p : Port) (s : State) : State :=
  if s.hp[p].pstate = .unpowered ∧ powerOk p s then
    requestPower p (modHp p (fun h => { h with pstate := .powering }) s)
  else s

/-- The port's power goes off, and a document that names it loses it (R249). -/
def dropPower (p : Port) (s : State) : State := abortSheet p (portLost p (releaseGate p s))

/-- A change of CTL or of the device state on a port (R247). -/
def reviewPort (p : Port) (s : State) : State :=
  let h := s.hp[p]
  if (h.pstate = .powering ∨ h.pstate = .active) ∧ !powerOk p s then
    dropPower p (modHp p (fun h => { h with pstate := .unpowered }) s)
  else reevaluate p s

/-- Review every port. -/
def reviewPorts (s : State) : State := (List.finRange 16).foldl (fun s p => reviewPort p s) s

/-- A write to CTL.ENABLE takes effect (R248). -/
def setEnable (p : Port) (v : Bool) (s : State) : State := reviewPort p (modHp p (fun h => { h with enable := v }) s)

/-- The fields of CTL take their values together: PWR_OFF 1 and then 0 ends SHORTED (R247). -/
def setPower (p : Port) (enable pwrOff : Bool) (s : State) : State :=
  let h := s.hp[p]
  let ends := h.pstate == .shorted && h.pwrOff && !pwrOff
  reviewPort p (modHp p (fun h => { h with
    enable := enable, pwrOff := pwrOff
    pstate := if ends then (if h.reread then .reading else .unpowered) else h.pstate, reread := h.reread && !ends }) s)

/-- A write to CTL.PWR_OFF takes effect. -/
def setPwrOff (p : Port) (v : Bool) (s : State) : State := setPower p s.hp[p].enable v s

/-- Power good (R265, R272, R279). -/
def powerGood (p : Port) (s : State) : State :=
  if s.hp[p].pstate = .powering ∧ s.hdv.ports[p].gate then
    let s := modHdv p (fun h => { h with pwrGood := true, gainK := 16777216, first := none, guardOk := false }) s
    let s := setNzh p { s.nzh[p] with exon := [] } s
    raise Src.headReady (modHp p (fun h => { h with pstate := .active, wasActive := true }) s)
  else s

/-- Power good has not come in 5 ms (R265). -/
def powerTimeout (p : Port) (s : State) : State :=
  if s.hp[p].pstate = .powering ∧ s.hdv.ports[p].gate then
    let s := advanceTo s.hdv.ports[p].pgDue s
    refusePower p (releaseGate p (modHdv p (fun h => { h with err := setBit h.err 0 }) s))
  else s

/-! ## Rails (R261, R264, R266, R267) -/

/-- The switches that wait for GOOD close (R261). -/
def serveWaiting (r : Fin 4) (s : State) : State :=
  let w := s.hdv.rails[r].waiting
  let s := modRail r (fun l => { l with waiting := 0 }) s
  let s := (railPorts r).foldl (fun s p => if w.getLsbD (p.val % 4) then closeSwitch p s else s) s
  if railIdle r s then modRail r (fun l => { l with due := s.now + msGrid 100 }) s else s

/-- The soft start ends (R261). -/
def softstartGood (r : Fin 4) (s : State) : State :=
  let l := s.hdv.rails[r]
  if l.state = .softstart then
    serveWaiting r (modRail r (fun l => { l with state := .good }) (advanceTo l.due s))
  else s

/-- One slew step of 64 µs (R264). -/
def slewStep (r : Fin 4) (s : State) : State :=
  let l := s.hdv.rails[r]
  if l.state = .slewing then
    let s := advanceTo l.due s
    let c := if l.code.toNat < l.target.toNat then l.code + 1
      else if l.target.toNat < l.code.toNat then l.code - 1 else l.code
    if c = l.target then serveWaiting r (modRail r (fun l => { l with code := c, state := .good }) s)
    else modRail r (fun l => { l with code := c, due := s.now + usGrid 64 }) s
  else s

/-- 100 ms have passed with no port powered (R261). -/
def idleOff (r : Fin 4) (s : State) : State :=
  let l := s.hdv.rails[r]
  if l.state = .good ∧ railIdle r s then modRail r (fun l => { l with state := .off, rank := none }) (advanceTo l.due s)
  else s

/-- ERR bit of a fault cause. -/
def causeBit : RailCause → Nat
  | .ov => 0 | .uv => 1 | .oc => 2 | .uvDrv => 3

/-- A rail that can have a fault of this cause (R261, R266). -/
def faultable (cause : RailCause) (l : Rail) : Bool :=
  match l.state with
  | .good | .slewing => true
  | .softstart => cause != .uv
  | _ => false

/-- A rail fault on one rail (R266, R267). -/
def faultRail (r : Fin 4) (cause : RailCause) (s : State) : State :=
  if faultable cause s.hdv.rails[r] then
    let s := modRail r (fun l => { l with
      state := .fault, err := setBit l.err (causeBit cause), waiting := 0, due := s.now + msGrid 100 }) s
    let s := (railPorts r).foldl (fun s p =>
      if s.hp[p].pstate = .powering ∨ s.hp[p].pstate = .active then dropPower p (refusePower p s) else s) s
    countClass Cls.hdvRail (raise Src.railFault s)
  else s

/-- VDRV low is a fault of every rail at once (R266): one that is stopped already takes note of it. -/
def drvLow (s : State) (r : Fin 4) : State :=
  if faultable .uvDrv s.hdv.rails[r] then faultRail r .uvDrv s
  else countClass Cls.hdvRail (raise Src.railFault (modRail r (fun l => { l with err := setBit l.err (causeBit .uvDrv) }) s))

/-- Rails in FAULT latch once the class is lasting (R261). -/
def latchFaults (s : State) : State :=
  if isLasting Cls.hdvRail s then
    (List.finRange 4).foldl (fun s r => modRail r (fun l => { l with
      state := if l.state = .fault then .latched else l.state }) s) s
  else s

/-- A rail fault: VDRV low concerns every rail at once (R266). -/
def railFaulted (r : Fin 4) (cause : RailCause) (s : State) : State :=
  latchFaults (if cause = .uvDrv then (List.finRange 4).foldl drvLow s else faultRail r cause s)

/-- A rail returns to OFF, and its ports evaluate again (R261). -/
def railToOff (r : Fin 4) (s : State) : State :=
  (railPorts r).foldl (fun s p => reevaluate p s) (modRail r (fun l => { l with state := .off, rank := none }) s)

/-- 100 ms after a fault (R261). -/
def faultRecover (r : Fin 4) (s : State) : State :=
  let l := s.hdv.rails[r]
  if l.state = .fault then
    let s := latchFaults (advanceTo l.due s)
    if s.hdv.rails[r].state = .fault then railToOff r s else s
  else s

/-- FAULT_CLR (R261). -/
def clearFault (r : Fin 4) (s : State) : State := if s.hdv.rails[r].state = .latched then railToOff r s else s

/-- Every rail stops (R375, R428). -/
def stopRails (s : State) : State :=
  (List.finRange 4).foldl (fun s r => modRail r (fun l => { l with state := .off, rank := none, waiting := 0 }) s) s

/-- The output of a rail as the drive die measures it (R274, MEAS). -/
def measureRail (r : Fin 4) (m : RailRead) (s : State) : State :=
  modRail r (fun l => { l with vout := satNat 16 m.v10mV, iout := satNat 16 m.i10mA }) s

/-- The port voltage, and the output of its rail (R271, R274). -/
def measurePort (p : Port) (v : Half) (m : RailRead) (s : State) : State :=
  measureRail (railOf p) m (modHdv p (fun h => { h with vport := v }) s)

/-! ## Shorts (R273) -/

/-- A short is declared. -/
def declareShort (p : Port) (comparator : Bool) (s : State) : State :=
  if s.hdv.ports[p].gate then
    let s := modHdv p (fun h => { h with
      err := if comparator then setBit (setBit h.err 1) 2 else setBit h.err 1, shorts := satInc h.shorts }) s
    let s := hpErr p 4 (modHp p (fun h => { h with pstate := .shorted }) s)
    countClass Cls.hdvShort (raise Src.headShort (dropPower p s))
  else s

/-- A short that the samples or a new baseline show (R269, R273): only a class T head that is measured has them. -/
def sampledShort (p : Port) (s : State) : State :=
  if s.hdv.ports[p].echoEn && !recClassL s.hp[p].record then declareShort p false s else s

/-! ## Discovery and removal (R241 to R250) -/

/-- A document in progress names the port. -/
def portInDoc (p : Port) (s : State) : Bool := s.docs.any fun d => d.admitted && d.mask.getLsbD p.val

/-- The port starts to read its head record. A SHORTED port stays SHORTED, since only PWR_OFF and a removal end that state (R247). -/
def startReading (p : Port) (s : State) : State :=
  modHp p (fun h => { h with
    pstate := if h.pstate = .shorted then .shorted else .reading, reread := h.pstate == .shorted
    record := [], tries0 := 0, tries1 := 0, got0 := none, got1 := none
    write := .idle, writeTries := 0, writeHeld := false, writeOver := false, mailRuns := false }) s

/-- The port reads its head record. -/
def readsRecord (h : HeadPort) : Bool := h.pstate == .reading || h.reread

/-- A head has been present for 10 ms (R247). -/
def headPlugged (p : Port) (s : State) : State :=
  let h := s.hp[p]
  let s := modHp p (fun h => { h with present := true }) s
  if h.pstate = .absent then startReading p s else s

/-- A mailbox HEAD_WRITE of the port ends (R460): result 0 done, 2 refused. -/
def endMail (p : Port) (result : BitVec 2) (s : State) : State :=
  if s.hp[p].mailWrite.isSome then
    raise Src.mbxDone { modHp p (fun h => { h with mailWrite := none, mailRuns := false }) s with mgt := { s.mgt with mbxResult := result } }
  else s

/-- The head is removed (R247, R249). -/
def headUnplugged (p : Port) (s : State) : State :=
  let h := s.hp[p]
  if h.pstate = .absent then modHp p (fun h => { h with present := false }) s
  else
    let s := endMail p 2 s
    let s := modHp p (fun h => { h with
      present := false, pstate := .absent, reread := false, record := [], validTemp := none, err := setBit h.err 3, write := .idle, writeHeld := false
      hot := false, hardHot := false, usagePend := 0 }) s
    countClass Cls.hpPresence (raise Src.headRemoved (dropPower p s))

/-- Copy `x` is newer than copy `y` (R241). -/
def copyNewer (x y : List Byte) : Bool :=
  let d := ((byteAt x 3).toNat + 256 - (byteAt y 3).toNat) % 256
  decide (1 ≤ d) && decide (d ≤ 127)

/-- The copy that a discovery uses, and whether it is copy 1; none without a valid one. -/
def chooseCopy (c0 c1 : Option (List Byte)) : Option (Bool × List Byte) :=
  match c0.filter recordValid, c1.filter recordValid with
  | some a, some b => if copyNewer b a then some (true, b) else some (false, a)
  | some a, none => some (false, a)
  | none, some b => some (true, b)
  | none, none => none

/-- TYPE, SERIAL, geometry and ranks of a record (R244): bytes 6 to 27. -/
def recIdentity (r : List Byte) : List Byte := slice r 6 22

/-- A valid record is loaded (R241, R244, R247, R288). -/
def loadRecord (p : Port) (copy : Bool) (r : List Byte) (single : Bool) (s : State) : State :=
  let old := s.hp[p].lastRec
  let changed := !old.isEmpty && recIdentity old != recIdentity r
  let s := modHp p (fun h => { h with
    record := r, lastRec := r, copy := copy, pstate := if h.reread then .shorted else .unpowered, reread := false
    fires := 0, usagePend := 0, tempPeak := h.temp
    err := if single then setBit h.err 7 else h.err }) s
  let s := if changed then raise Src.headChanged (hpErr p 11 s) else s
  let s := pushLog 0x08 (BitVec.ofNat 8 p.val) (slice r 8 8 ++ slice r 4 4 ++ slice r 68 4) s
  reevaluate p (discoverMap p (if changed then some (recSerial old) else none) s)

/-- Both copies have been read or given up (R241, R247). -/
def finishReading (p : Port) (c0 c1 : Option (List Byte)) (s : State) : State :=
  let h := s.hp[p]
  if readsRecord h then
    let c0 := if h.got0 = some none then none else c0
    let c1 := if h.got1 = some none then none else c1
    match chooseCopy c0 c1 with
    | some (copy, r) => loadRecord p copy r ((c0.filter recordValid).isNone || (c1.filter recordValid).isNone) s
    | none => raise Src.headRecordBad (hpErr p 6 (modHp p (fun h => { h with
        pstate := if h.reread then .shorted else .invalid, reread := false }) s))
  else s

/-- An I²C transfer ends by a time-out or a NAK (R240). -/
def i2cFailed (p : Port) (s : State) : State := countClass Cls.hpI2c (hpErr p 8 s)

/-- The transfer of a copy fails (R247): after three retries the copy counts as invalid. -/
def copyFailed (p : Port) (copy : Bool) (s : State) : State :=
  if readsRecord s.hp[p] then
    i2cFailed p (modHp p (fun h =>
      let h := { h with readAt := s.now + msGrid 1 }
      if copy then { h with tries1 := h.tries1 + 1, got1 := if 4 ≤ h.tries1 + 1 then some none else h.got1 }
      else { h with tries0 := h.tries0 + 1, got0 := if 4 ≤ h.tries0 + 1 then some none else h.got0 }) s)
  else s

/-- 1 ms after a failed transfer the copy is read again (R247): the transfer itself ends with `recordReadDone`. -/
def retryRead (p : Port) (s : State) : State :=
  if readsRecord s.hp[p] ∧ (0 < s.hp[p].tries0 ∨ 0 < s.hp[p].tries1) then advanceTo s.hp[p].readAt s else s

/-- REREAD (R247, R248, R259): the record is read again and TEMP_PEAK starts afresh, with the head unpowered until the record has been checked
(DEDUCED, log entry 29). -/
def rereadHead (p : Port) (s : State) : State :=
  if portInDoc p s then countIgnored s
  else
    let h := s.hp[p]
    if h.pstate = .absent then s
    else
      let s := modHp p (fun h => { h with tempPeak := h.temp }) s
      startReading p (endMail p 2 (if h.pstate = .powering ∨ h.pstate = .active then dropPower p s else s))

/-! ## Head temperature (R251 to R253) -/

/-- The head temperature of R251, kept in 1/16 °C (log entries 8 and 12), from a conversion code: the thermistor and 10.0 kΩ divide the bias
voltage. None for a code that stands for no resistance between 0 and infinity. -/
def headTemp (code : Nat) (r : List Byte) : Option Int :=
  let full := Config.thermFull
  if code = 0 ∨ full ≤ code ∨ recR25 r = 0 ∨ recBeta r = 0 then none
  else
    let one : Int := 18446744073709551616
    let den : Int := recBeta r * one * 20 + 5963 * lnQuot (1000 * code) ((full - code) * recR25 r)
    if den ≤ 0 then none
    else some (heldInt (95408 * recBeta r * one * 5 - 21852 * den) (5 * den.toNat))

/-- The last valid conversion of each other head on the port's rail whose thermistor is good. -/
def railTemps (p : Port) (s : State) : List Int :=
  ((railPorts (railOf p)).filter fun q => q != p && !s.hp[q].record.isEmpty && !s.hp[q].sensorFail).filterMap fun q => s.hp[q].validTemp

/-- The value that stands in for a failed thermistor (R252); free where neither the head nor another one on the rail has had a valid conversion
(DESIGN CHOICE, log entry 71). -/
def standIn (p : Port) (s : State) : Int × State :=
  match s.hp[p].validTemp.toList ++ railTemps p s with
  | t :: l => (l.foldl max t + 80, s)
  | [] =>
    let f := nextFree s
    (((Config.freeWord f.1).setWidth 12).toInt, f.2)

/-- The temperature in use, its peak, and the limits outside documents (R252, R253): before a first valid conversion it stays as it is. -/
def useTemp (p : Port) (s : State) : State :=
  let h := s.hp[p]
  let r := if h.sensorFail then standIn p s else (h.validTemp.getD h.temp, s)
  let s := modHp p (fun h => { h with temp := r.1, tempPeak := max h.tempPeak r.1 }) r.2
  if portInDoc p s then s else checkHot p s

/-- A conversion of -20 °C to 125 °C. -/
def tempValid (t : Option Int) : Option Int := t.filter fun t => decide (-320 ≤ t) && decide (t ≤ 2000)

/-- A thermistor conversion (R251, R252). -/
def convertTemp (p : Port) (raw : BitVec 12) (s : State) : State :=
  let s := modHp p (fun h => { h with raw := raw }) s
  let r := s.hp[p].record
  if r.isEmpty then s
  else match tempValid (headTemp raw.toNat r) with
    | some t =>
      useTemp p (modHp p (fun h => { h with
        validTemp := some t, badConv := 0, goodConv := h.goodConv + 1
        sensorFail := h.sensorFail && decide (h.goodConv + 1 < 100) }) s)
    | none =>
      let begins := decide (s.hp[p].badConv + 1 = 3) && !s.hp[p].sensorFail
      let s := modHp p (fun h => { h with
        badConv := h.badConv + 1, goodConv := 0, sensorFail := h.sensorFail || begins
        err := if begins then setBit h.err 2 else h.err }) s
      useTemp p (if begins then countClass Cls.hpSensor (raise Src.headSensorFail s) else s)

/-! ## Record writes (R257, R258) -/

/-- T_ctl lies from 0 °C to 85 °C (R382). -/
def ctlInWindow (s : State) : Bool := decide (0 ≤ s.thm.tCtl) && decide (s.thm.tCtl ≤ 1360)

/-- Writes of head memories and fuses may start (R382): not while MODEL_ACTIVE is 1. -/
def writeWindow (s : State) : Bool := ctlInWindow s && !s.thm.modelActive

/-- The record in use with more usage, the next SEQ and a new CRC (R257). -/
def withUsage (r : List Byte) (units : Nat) : List Byte :=
  let body := r.take 3 ++ [byteAt r 3 + 1] ++ slice r 4 64 ++ toLe 4 ((recUsage r).toNat + units) ++ slice r 72 54
  body ++ toLe 2 (recordCrc body).toNat

/-- The port is in a state that may write its record. -/
def canWrite (h : HeadPort) : Bool := h.pstate == .unpowered || h.pstate == .powering || h.pstate == .active

/-- A page may start: in the window the page goes on, outside it the write is held (R258), and also where the port is in no state that writes
its record (R257). -/
def startPage (p : Port) (s : State) : State :=
  if !canWrite s.hp[p] then modHp p (fun h => { h with writeHeld := true }) s
  else if writeWindow s then modHp p (fun h => { h with writeHeld := false }) s
  else hpErr p 9 (modHp p (fun h => { h with writeHeld := true }) s)

/-- A write of the copy not in use begins with its first page. -/
def beginWrite (p : Port) (data : List Byte) (units : Nat) (s : State) : State :=
  startPage p (modHp p (fun h => { h with write := .page 0, writeData := data, writeUnits := units, writeTries := 0 }) s)

/-- The usage write of R257. -/
def beginUsage (p : Port) (s : State) : State :=
  let h := s.hp[p]
  beginWrite p (withUsage h.record h.usagePend.toNat) h.usagePend.toNat s

/-- HEAD_WRITE's record as it is written (R460): SEQ one above the copy in use, the larger USAGE, a new CRC. -/
def mailRecord (r inUse : List Byte) : List Byte :=
  let use := max (recUsage r).toNat (recUsage inUse).toNat
  let body := r.take 3 ++ [byteAt inUse 3 + 1] ++ slice r 4 64 ++ toLe 4 use ++ slice r 72 54
  body ++ toLe 2 (recordCrc body).toNat

/-- The write of a mailbox record begins. -/
def beginMail (p : Port) (r : List Byte) (s : State) : State :=
  beginWrite p (mailRecord r s.hp[p].record) 0 (modHp p (fun h => { h with mailRuns := true }) s)

/-- A record write starts or goes on (R257): a mailbox record before pending usage. A write that was given up waits for
further usage (R258). -/
def recordWrite (p : Port) (s : State) : State :=
  let h := s.hp[p]
  if !canWrite h then s
  else match h.write with
    | .page _ => if h.writeHeld then startPage p s else s
    | .idle => match h.mailWrite with
      | some r => beginMail p r s
      | none => if h.usagePend ≠ 0 ∧ !h.writeOver then beginUsage p s else s
    | _ => s

/-- USAGE_FLUSH (R257, R258). -/
def flushUsage (p : Port) (s : State) : State :=
  let h := s.hp[p]
  if h.usagePend ≠ 0 ∧ canWrite h ∧ h.write = .idle ∧ h.mailWrite.isNone then beginUsage p s else s

/-- A page write is acknowledged (R257): it went to the device and in the word-address form of MEM_CFG (R240). -/
def pageDone (p : Port) (s : State) : State :=
  let h := s.hp[p]
  match h.write with
  | .page k =>
    if h.writeHeld then s
    else
      let page : HeadPage := ⟨p, h.memAddr, h.memA16, (if h.copy then 0 else 128) + 8 * k, slice h.writeData (8 * k) 8⟩
      let s := { s with out := { s.out with head := page :: s.out.head } }
      if k < 15 then startPage p (modHp p (fun h => { h with write := .page (k + 1) }) s)
      else modHp p (fun h => { h with write := .readback }) s
  | _ => s

/-- A write fails (R258): it is retried after 1 s, up to 3 times. -/
def writeFailed (p : Port) (s : State) : State :=
  let h := s.hp[p]
  let tries := h.writeTries + 1
  let s := raise Src.headWriteFail (hpErr p 10 (modHp p (fun h => { h with
    write := if tries ≤ 3 then .retryWait else .idle, writeTries := tries
    writeOver := h.writeOver || (decide (3 < tries) && !h.mailRuns)
    writeAt := s.now + msGrid 1000, writeHeld := false }) s))
  if tries ≤ 3 || !h.mailRuns then s else endMail p 2 s

/-- The readback of a written copy ends (R257, R460): one that reads back valid under R241 becomes the copy in use, or ends a mailbox write. -/
def readbackDone (p : Port) (b : List Byte) (s : State) : State :=
  let h := s.hp[p]
  if h.write = .readback then
    if recordValid b then
      if h.mailRuns then endMail p 0 (modHp p (fun h => { h with write := .idle, writeTries := 0 }) s)
      else modHp p (fun h => { h with
        write := .idle, writeTries := 0, writeOver := false, copy := !h.copy, record := b
        usagePend := h.usagePend - BitVec.ofNat 8 h.writeUnits }) s
    else writeFailed p s
  else s

/-- The retry of a failed write (R258). -/
def retryWrite (p : Port) (s : State) : State :=
  let h := s.hp[p]
  if h.write = .retryWait then
    startPage p (modHp p (fun h => { h with write := .page 0 }) (advanceTo h.writeAt s))
  else s

/-- A head-memory transfer ends by R240. -/
def i2cTimedOut (p : Port) (phase : I2cPhase) (s : State) : State :=
  match phase with
  | .read copy => copyFailed p copy s
  | .write => match s.hp[p].write with
    | .page _ | .readback => writeFailed p (i2cFailed p s)
    | _ => s

/-! ## Spits (R66, R238, R255, R290) -/

/-- Spit rate of a port in Hz (R255). -/
def spitRate (p : Port) (q : Fin 8) (s : State) : Nat :=
  let e := energyOf q s
  let r := s.hp[p].record
  let phi := match s.prof[q] with
    | some pf => match pf.ports[p] with | some pp => (portLag pf pp r).2.2 | none => 0
    | none => 0
  let f := rateLimit e (recClassL r) (recNozzles r) (recAddrs r) 1 (recRank r) phi 100 250 (spreadUsed s)
  max 1 (min s.hp[p].spitRate.toNat f)

/-- The load of a spit. -/
def spitLoad (p : Port) (q : Fin 8) (payload : List Byte) (s : State) : Load :=
  let e := energyOf q s
  { docId := 0, line := s.hp[p].spitCount.toNat, kind := .spit, test := payload, profile := q
    temp := s.hp[p].temp, mapVer := s.nzh[p].mapVer, gap := ebGap e * 16, guard := ebGuard e * 16 }

/-- An engine that computes builds a spit in one pass (R200, R205, R219, R224): its history stays as it is. -/
def buildSpit (p : Port) (x : EngId) (note : PassNote) (ld : Load) (s : State) : Load × State :=
  let e := eng x s
  if computes e.role then
    let b := buildLoad x p ld s
    let k := recordLoad p ld b 0 e
    (setWork x { part := true,
                 pkt := some (sealPacket p 0 (BitVec.ofNat 32 ld.line) b.body note.flips note.emitFlips) } ld,
     setEng x { e with
       passes := e.passes + 1, clamps := k.clamps, err := k.err, line := k.line, lastEmit := k.lastEmit, mapVer := k.mapVer
       busy := (s.now, note.clocks) :: e.busy.filter fun t => decide (s.now < t.1 + msGrid 1)
       health := { e.health with corrected := satAdd e.health.corrected note.corrected } } s)
  else (ld, s)

/-- What the engines report against a spit (R302, R305). -/
def spitFaults (p : Port) (line : Nat) (a b : Option Nat) (s : State) : State :=
  match a, b with
  | some k, some k' => if isPair s then bothFault k k' p 0 line s else s
  | some k, none => if computes (roleOf .a s) then engineFault .a k false p 0 line s else s
  | none, some k' => if computes (roleOf .b s) then engineFault .b k' false p 0 line s else s
  | none, none => s

/-- A spit whose packets differ, and whose diagnosis finds nothing: a mismatch verdict (R299, R300). -/
def spitMismatch (p : Port) (line : Nat) (s : State) : State :=
  match findLoad p 0 line s with
  | some ld => if ld.verdict = .diagnosing then mismatchVerdict p 0 line (noteVerdict 150 s) else s
  | none => s

/-- The verdict and the handover of a spit. -/
def judgeSpit (p : Port) (line : Nat) (s : State) : State := pairSettle (spitMismatch p line (pairSettle s))

/-- A spit that has passed the egress check is fired. -/
def strobeSpit (p : Port) (ld : Load) (s : State) : State :=
  let ld := { ld with ticked := true, shifted := 1, latched := 1, scale := nozzleUnit p s }
  let drops := dropsFired s.hp[p].record ld 0 (pktStrobes (usedPacket ld)) (fun _ => true)
  let s := ageSuspicions p (modHp p (fun h => { h with loads := h.loads + 1 }) (countFires p drops (spitGuard p s)))
  let s := modHdv p (fun h => { h with scale := ld.scale }) s
  holdPlanes p ld (setTrack p { s.track[p] with spitOpen := true } s)

/-- A spit goes to the head once its packet has been handed over. -/
def sendSpit (p : Port) (r : Option Load) (s : State) : Bool × State :=
  match r with
  | some ld => if ld.handed then (true, strobeSpit p ld s) else (false, s)
  | none => (false, s)

/-- A spit is built by every computing engine, compared, handed over, egress-checked and fired (R17, R66, R219, R238, R239, R290); `false` if
it is not fired: its packet has not passed, or the head is not powered. A port whose egress checker has failed is unusable (R144). -/
def fireSpit (p : Port) (q : Fin 8) (payload : List Byte) (noteA noteB : PassNote) (s : State) : Bool × State :=
  if s.hp[p].pstate != .active || s.chk.fixedEgr.getLsbD p.val then (false, s)
  else
    let ld := spitLoad p q payload s
    let s := modHp p (fun h => { h with spitCount := h.spitCount + 1 }) s
    let a := buildSpit p .a noteA ld s
    let b := buildSpit p .b noteB a.1 a.2
    let s := judgeSpit p ld.line (spitFaults p ld.line (passFault noteA) (passFault noteB) (pushLoad p b.1 b.2))
    let r := findLoad p 0 ld.line s
    sendSpit p r (setLoads p (s.loads[p].filter fun l => l.docId != 0) s)

/-- The spit timer of a port in MAINT (R66, R255). -/
def spitTimer (p : Port) (noteA noteB : PassNote) (s : State) : State :=
  match s.track[p].spits with
  | [] => s
  | (q, payload, n) :: rest =>
    if s.top.state = .maint then
      let s := advanceTo s.track[p].spitAt s
      let t := s.track[p]
      let s := setTrack p { t with
        spits := if n ≤ 1 then rest else (q, payload, n - 1) :: rest
        spitAt := s.now + ceilDiv 8000000000 (spitRate p q s) } s
      (fireSpit p q payload noteA noteB s).2
    else s

/-- Payload of a contact-sheet spit (R290). -/
def sheetPayload (p : Port) (s : State) : List Byte :=
  let z := s.nzh[p]
  let level := if ebBpn (energyOf z.csProfile s) = 2 then Config.sheetLevel.val + 1 else 1
  [0x04#8] ++ toLe 1 level ++ toLe 2 z.csNozzle ++ [0, 0] ++ toLe 2 1

/-- A slot of a contact sheet (R290, R291). -/
def sheetSlot (p : Port) (before : List Nat) (dd : List (Nat × Nat)) (noteA noteB : PassNote) (s : State) : State :=
  let z := s.nzh[p]
  if z.csState = .running then
    if z.csNozzle = 0 ∧ z.csDrops = 0 ∧ before.any (beamBlocked z.csCfg) then nzhErr p 6 (abortSheet p s)
    else
      let s := advanceTo s.track[p].spitAt s
      let t := s.track[p]
      let s := setTrack p { t with spitAt := s.now + max (usGrid 50) (ceilDiv 8000000000 (spitRate p z.csProfile s)) } s
      let r := fireSpit p z.csProfile (sheetPayload p s) noteA noteB s
      if r.1 then judgeDrop p (dropSeen z.csCfg dd) r.2 else r.2
  else s

/-- MAINT ends: sheets are aborted and spits dropped (R66, R291). -/
def endMaint (s : State) : State :=
  let s := abortSheets s
  { s with track := s.track.map fun t => { t with spits := [] } }

/-- MAINT begins: the spit counts start at 0 (R238). -/
def beginMaint (s : State) : State :=
  setState .maint { s with hp := s.hp.map fun h => { h with spitCount := 0 } }

/-! ## Echo windows (R270 to R273) -/

/-- Sum of a list of samples. -/
def sumOf (l : List Nat) : Nat := l.foldl (· + ·) 0

/-- Mean of samples in 1/16 LSB. -/
def mean16 (l : List Nat) : Nat := heldQuot (16 * sumOf l) (max 1 l.length)

/-- The baseline a window brings, if any: the first after power good, or after a calibration (R388), from 16 samples, later ones
from 4 to 16 samples of a strobed line guard (R270). -/
def newBase (h : HdvPort) (guard : List Nat) : Option Nat :=
  let g := guard.take 16
  if h.first.isNone || h.afresh then (if g.length = 16 then some (mean16 g) else none)
  else if h.guardOk ∧ 4 ≤ g.length then some (mean16 g) else none

/-- `x` samples above the baseline, in 1/16 LSB over `n` samples: sum × 16 − n × B. -/
def aboveBase (l : List Nat) (base : Nat) : Int := (16 * sumOf l : Nat) - (l.length * base : Nat)

/-- A new baseline exceeds the first one by more than 4 × U × K (R273): U in 1/256, K in 2⁻²⁴, B in 1/16. -/
def baseShort (h : HdvPort) : Bool :=
  match h.first with
  | some f => decide ((4 * h.scale * h.gainK : Nat) < ((h.base : Int) - f) * 268435456)
  | none => false

/-- Two consecutive samples exceed B + (E + 4) × U × K (R273). -/
def sampleShort (h : HdvPort) (e : Nat) (l : List Nat) : Bool :=
  let above (v : Nat) : Bool := decide (h.base * 268435456 + (e + 4) * h.scale * h.gainK < v * 4294967296)
  (l.zip (l.drop 1)).any fun t => above t.1 && above t.2

/-- Rounding to nearest of a quotient of an integer by a positive number, halves up. -/
def roundInt (a : Int) (b : Nat) : Int := (2 * a + b) / (2 * b : Nat)

/-- M of a window in 1/16 nozzle unit (R272): 16 × (mean − B) / (U × K). Without a scale the spec states no result. -/
def windowM (h : HdvPort) (l : List Nat) (free : Nat) : Int :=
  if h.scale = 0 then (Config.freeWord free).toInt
  else roundInt (aboveBase l h.base * 4294967296) (l.length * h.scale * h.gainK)

/-- K after a window (R272), and whether it reached a clamp. -/
def nextGain (h : HdvPort) (e : Nat) (l : List Nat) : Nat × Bool :=
  let num : Int := aboveBase l h.base * 268435456
  let den : Nat := l.length * h.scale * e
  if h.scale = 0 ∨ e = 0 ∨ l.isEmpty then (h.gainK, false)
  else
    let k : Int := (4095 * h.gainK * den : Nat) + num
    let q := heldQuot k.toNat (4096 * den)
    (max 13421773 (min 20971520 q), decide (q ≤ 13421773) || decide (20971520 ≤ q))

/-- The plateau samples of a window of a length (R270): from SETTLE on, while they lie at least 62.5 ns before its end. -/
def plateau (settle length : Nat) (samples : List Nat) : List Nat := (samples.take (length / 500)).drop settle

/-- The strobes of plane `j` of a load: order number, columns (`false` A, `true` B), rise and fall (R233, R235). -/
def planeStrobes (ld : Load) (j : Nat) : List (Nat × List Bool × Nat × Nat) :=
  let b := usedPacket ld
  let width := pktWidth b j
  let row (cols : List Bool) (t0 : Nat) := (List.range (pktStrobes b)).map fun k =>
    (k, cols, t0 + k * (width + ld.gap), t0 + k * (width + ld.gap) + width)
  if ld.phi = 0 then row [false, true] ld.planeAt
  else row [ld.lagA] ld.planeAt ++ (if ld.lagTicked then row [!ld.lagA] ld.lagAt else [])

/-- The windows of plane `j` of a load, the earliest first: strobes that are high, with their columns, and length (R270). -/
def planeWindows (ld : Load) (j : Nat) : List (List (Nat × Bool) × Nat) :=
  let l := planeStrobes ld j
  let edges := (sortBy id (l.flatMap fun t => [t.2.2.1, t.2.2.2])).eraseDups
  (edges.zip (edges.drop 1)).filterMap fun e =>
    let high := (l.filter fun t => decide (t.2.2.1 ≤ e.1) && decide (e.1 < t.2.2.2)).flatMap fun t => t.2.1.map fun c => (t.1, c)
    if high.isEmpty then none else some (high, e.2 - e.1)

/-- The load whose planes NZH holds for a window (R275). -/
def heldPlanes (p : Port) (w : EchoIn) (s : State) : Option Load :=
  [s.track[p].firing, s.track[p].fired].findSome? fun o => match o with
    | some l => if l.docId = w.doc ∧ l.line = w.line ∧ w.plane < l.latched then some l else none
    | none => none

/-- The window is the load's last: NZH lets its planes go (R275). -/
def releasePlanes (p : Port) (ld : Load) (w : EchoIn) (s : State) : State :=
  let t := s.track[p]
  let drop (o : Option Load) : Option Load := match o with
    | some l => if l.docId = ld.docId ∧ l.line = ld.line then none else o
    | none => none
  if w.plane + 1 = usedPlanes ld ∧ w.number + 1 = (planeWindows ld w.plane).length ∧ (ld.phi = 0 ∨ ld.lagTicked) then
    setTrack p { t with firing := drop t.firing, fired := drop t.fired } s
  else s

/-- Take a window with its baseline settled: shorts, NO_ECHO, and the record for NZH. -/
def measureWindow (p : Port) (ld : Load) (w : EchoIn) (win : List (Nat × Bool) × Nat) (s : State) : State :=
  let h := { s.hdv.ports[p] with scale := ld.scale }
  let b := usedPacket ld
  let e := sumOf (win.1.map fun t => pktExpect b w.plane t.1 (b2n t.2))
  let l := plateau h.settle.toNat win.2 w.samples
  if sampleShort h e l then declareShort p false s
  else if l.length < 2 then modHdv p (fun h => { h with noEcho := satInc h.noEcho }) s
  else
    let m := windowM h l s.free
    let s := if h.scale = 0 then { s with free := s.free + 1 } else s
    let vals := usedValues s.hp[p].record ld w.plane
    let f := win.1.flatMap fun t => firedAt s.hp[p].record vals t.1 (b2n t.2)
    let g := nextGain h e l
    let learn := decide (8 ≤ e) && decide ((16 * e : Int) - m < 8)
    let s := if learn then modHdv p (fun h => { h with
        gainK := g.1, err := if g.2 then setBit h.err 3 else h.err }) s else s
    let s := if learn && g.2 then raise Src.echoScale s else s
    takeWindow p ld.docId ld.line e m f s

/-- An echo window (R270 to R273, R275) of a load whose planes NZH holds: windows of a cut load are discarded (R506). -/
def echoWindow (p : Port) (w : EchoIn) (s : State) : State :=
  let h := s.hdv.ports[p]
  match heldPlanes p w s with
  | none => s
  | some ld => match (planeWindows ld w.plane)[w.number]? with
  | none => s
  | some win =>
    if ld.cut || !h.echoEn || recClassL s.hp[p].record || !h.gate then s
    else match newBase h w.guard with
      | none => releasePlanes p ld w (measureWindow p ld w win s)
      | some b =>
        let s := modHdv p (fun h => { h with base := b, afresh := false, first := match h.first with | some f => some f | none => some b }) s
        if baseShort { s.hdv.ports[p] with scale := ld.scale } then declareShort p false s else releasePlanes p ld w (measureWindow p ld w win s)

end Sys2Proof.Machine
end

