-- ==== Sys2Proof/Machine/Fantail.lean ====
section
/-! DEFINITION. Encoder inputs, decoding and the fantail loops (R170 to R194): decoded edges, lock, index check, line faults, crawl,
reversal, line boundaries, and the writes of a loop's registers. -/

namespace Sys2Proof.Machine

/-! ## Inputs -/

/-- Every loop. -/
def loopIds : List LoopId := [.a, .b]

/-- The loop whose ENC_CFG configures an input (R170). -/
def inputOwner (inp : Fin 2) : LoopId := if inp = 0 then .a else .b

/-- ENC_CFG of an input's own settings. -/
def inputCfg (inp : Fin 2) (s : State) : Word := (loopOf (inputOwner inp) s).encCfg

/-- IDX_EN of an input. -/
def indexOn (inp : Fin 2) (s : State) : Bool := (inputCfg inp s).getLsbD 2

/-- The loop follows the input. -/
def follows (x : LoopId) (inp : Fin 2) (s : State) : Bool := (loopOf x s).encCfg.getLsbD 0 == decide (inp = 1)

/-- The input a loop follows. -/
def inputOf (x : LoopId) (s : State) : Fin 2 := if (loopOf x s).encCfg.getLsbD 0 then 1 else 0

/-- Change an input. -/
def modEnc (inp : Fin 2) (f : EncInput → EncInput) (s : State) : State :=
  { s with enc := s.enc.set inp.val (f s.enc[inp]) inp.isLt }

/-- A loop error flag. -/
def loopErr (x : LoopId) (i : Nat) (s : State) : State := modLoop x (fun l => { l with err := setBit l.err i }) s

/-! ## Writes that wait for a line boundary (R26, R183, R188) -/

/-- The estimates of a loop are cleared. -/
def clearEst (l : Loop) : Loop :=
  { l with estP := 0, estV := 0, estA := 0, lastEdge := none, past := [], okEdges := 0, badEdges := 0, edgeRate := 0 }

/-- IDX_EN 0 ends the index check of every loop that follows the input (R177): its count starts afresh with the next index edge. -/
def endIndex (inp : Fin 2) (s : State) : State :=
  loopIds.foldl (fun s y => if follows y inp s then modLoop y (fun l => { l with indexRef := false }) s else s) s

/-- The input that a loop's ENC_CFG configures (R170). -/
def ownInput : LoopId → Fin 2
  | .a => 0
  | .b => 1

/-- ENC_CFG goes into force: a new ENC_SEL or DECODE sends the loop to ACQUIRE (R183). A line fault that stands when IN_MODE becomes 1 stands
until it is cleared (DESIGN CHOICE, log entry 70). -/
def applyEnc (x : LoopId) (w : Word) (s : State) : State :=
  let l := loopOf x s
  let changed := l.encCfg.getLsbD 0 != w.getLsbD 0 || (l.encCfg.toNat / 16) % 4 != (w.toNat / 16) % 4
  let s := modLoop x (fun l => { l with encCfg := w, pendEnc := none }) s
  let s := if w.getLsbD 2 then s else endIndex (ownInput x) s
  if changed && l.state != .off then modLoop x (fun l => { clearEst l with state := .acquire, crawl := true, indexRef := false }) s
  else s

/-- INDEX_EDGES goes into force. -/
def applyIndex (x : LoopId) (w : BitVec 24) (s : State) : State :=
  modLoop x (fun l => { l with indexEdges := w, pendIndex := none }) s

/-- The boundary of a loop is the boundary of its ports that have no line in progress (R188). -/
def applyIdle (x : LoopId) (s : State) : State :=
  (List.finRange 16).foldl (fun s p => if s.track[p].loop = x ∧ runningLoads p s = [] then applyPort p s else s) s

/-- Every write that waits for a line boundary of the loop takes effect. -/
def applyHeld (x : LoopId) (s : State) : State :=
  let l := loopOf x s
  let s := match l.pendSet with | some f => applySet x f s | none => s
  let s := match l.pendEnc with | some w => applyEnc x w s | none => s
  applyIdle x (match l.pendIndex with | some w => applyIndex x w s | none => s)

/-! ## Lock (R183, R184) -/

/-- A loop loses lock: held writes wait no longer (R188). -/
def unlock (x : LoopId) (s : State) : State :=
  if (loopOf x s).state = .locked then
    let s := modLoop x (fun l => { l with state := .acquire, okEdges := 0, badEdges := 0, err := setBit l.err 5 }) s
    applyHeld x (countClass Cls.ftlEnc (raise Src.ftlUnlock s))
  else s

/-- A loop acquires lock. -/
def lock (x : LoopId) (s : State) : State :=
  raise Src.ftlLock (modLoop x (fun l => { l with state := .locked, hadLock := true, badEdges := 0 }) s)

/-- The count of edges within and beyond the error bounds, and the change of state that follows (R183). -/
def judgeEdge (x : LoopId) (e : Int) (s : State) : State :=
  let l := loopOf x s
  match l.state with
  | .off => s
  | .acquire =>
    let n := if e.natAbs ≤ 8 * 4294967296 then l.okEdges + 1 else 0
    let s := modLoop x (fun l => { l with okEdges := n }) s
    if 64 ≤ n then lock x s else s
  | .locked =>
    let n := if 32 * 4294967296 < e.natAbs then l.badEdges + 1 else 0
    let s := modLoop x (fun l => { l with badEdges := n }) s
    if 4 ≤ n then unlock x s else s

/-! ## Decoded edges (R174 to R178, R180, R191) -/

/-- `k` decoded edges move the edge position (R178). -/
def movePos (fwd : Bool) (k : Nat) (l : Loop) : Loop :=
  let den := max 1 l.set.den.toNat
  let step : Int := if fwd then (k * l.set.num.toNat : Nat) else -(k * l.set.num.toNat : Nat)
  let total : Int := (l.rem : Int) + step
  { l with pos := l.pos + BitVec.ofInt 48 (total / den), rem := (total % den).toNat }

/-- The move of `k` edges in 2⁻³² units, signed. -/
def edgeMove (fwd : Bool) (k : Nat) (l : Loop) : Int :=
  let m : Int := k * l.set.num.toNat * 4294967296 / max 1 l.set.den.toNat
  if fwd then m else -m

/-- The prediction error of an edge, time-stamped to one fire clock, and the corrected estimates (R180): none before a second edge. -/
def correctEst (move : Int) (t0 t : Nat) (l : Loop) : Loop × Int :=
  let n : Nat := (t - t0) / 16
  let g := tracked (estOf t l) (16 * n)
  let e := move - g.1
  let rate := heldQuot 500000000 (max 1 n)
  let bw := min l.set.bw.toNat (rate / 20)
  let k := Config.loopGains bw n
  ({ l with
      estP := k.1 * e / 4294967296 - e, estV := g.2 + k.2.1 * e / 4294967296, estA := l.estA + k.2.2 * e / 4294967296
      edgeRate := min 33554431 rate
      errPeak := satNat 16 (max l.errPeak.toNat (heldQuot e.natAbs 4294967296)) }, e)

/-- The multiple of 256 at or below a position. -/
def floorLine (p : BitVec 48) : BitVec 48 := (p >>> 8) <<< 8

/-- A decoded edge, or the two of an illegal transition, reaches a loop (R174 to R178, R183, R191): it moves no fire time that has been fixed
(R182). -/
def countEdge (x : LoopId) (fwd : Bool) (k t : Nat) (s : State) : State :=
  let l := loopOf x s
  let mark := loopMark l t
  let move := edgeMove fwd k l
  let r : Loop × Int := match l.lastEdge with
    | some t0 => correctEst move t0 t l
    | none => (l, 0)
  let overrate := match l.lastEdge with | some t0 => decide (t < t0 + 320) | none => false
  let m := movePos fwd k { r.1 with past := (keepEst s.now l).past }
  let up := posAbove m.pos.toNat mark
  let below := posAbove mark m.pos.toNat
  let m := { m with
    lastEdge := some t, lastDir := fwd, indexCount := m.indexCount + k
    hwm := BitVec.ofNat 48 (if up then m.pos.toNat else if fwd then l.hwm.toNat else mark)
    bound := if posAbove m.bound.toNat m.pos.toNat then floorLine m.pos else m.bound
    reverse := if up then false else m.reverse || (!fwd && below) }
  let reversed := m.reverse && !l.reverse
  let s := setLoop x m s
  let s := if overrate then loopErr x 2 s else s
  let s := if overrate && l.state == .locked then unlock x s else if l.lastEdge.isSome then judgeEdge x r.2 s else s
  if reversed then reverseCut x s else s

/-- The loop counts edges: it is enabled, FIRE runs (R425, R436), and no line fault stands on A or B
(R171). A flag that stands when IN_MODE is changed to 1 stays, and keeps edges uncounted until its pair is good again (DESIGN CHOICE, log
entry 70). -/
def countsEdges (x : LoopId) (s : State) : Bool :=
  let i := s.enc[inputOf x s]
  (loopOf x s).state != .off && s.pwr.fireLock && !i.faultA && !i.faultB

/-- An illegal transition on a loop (R175). -/
def illegalEdge (x : LoopId) (t : Nat) (s : State) : State :=
  let s := modLoop x (fun l => { l with err := setBit l.err 1, illegal := satInc l.illegal }) s
  let s := countClass Cls.ftlEnc (raise Src.encIllegal s)
  countEdge x (loopOf x s).lastDir 2 t s

/-- DECODE counts this transition (R174). -/
def decodes (mode : Nat) (onA rising : Bool) : Bool :=
  match mode with
  | 0 => true
  | 1 => onA
  | _ => onA && rising

/-- Levels of A and B on an input that its glitch filters have accepted in one sample reach its loops (R174, R175), for an edge timed `t`
(R172). Forward has A ahead of B (log entry 19). -/
def inputLevels (inp : Fin 2) (a b : Bool) (t : Nat) (s : State) : State :=
  let i := s.enc[inp]
  let onA := a != i.a
  let onB := b != i.b
  let s := modEnc inp (fun i => { i with a := a, b := b }) s
  loopIds.foldl (fun s x =>
    if follows x inp s && countsEdges x s then
      let l := loopOf x s
      if onA && onB then illegalEdge x t s
      else if (onA || onB) && decodes ((l.encCfg.toNat / 16) % 4) onA a then
        let fwd := if onA then a != b else a == b
        countEdge x (fwd != l.encCfg.getLsbD 3) 1 t s
      else s
    else s) s

/-- IN_FILTER of an input. -/
def filterOf (inp : Fin 2) (s : State) : Nat := ((inputCfg inp s).toNat / 256) % 32

/-- The inputs read levels `a` and `b`, `dt` fire clocks later, and have done so for `na` and `nb` samples. The glitch filters accept a level
once it has stood for IN_FILTER samples (R172): the one that has stood longer first, both in one sample where they have stood equally long.
The delay is subtracted from the time of each edge. -/
def encoderEdge (inp : Fin 2) (a b : Bool) (dt na nb : Nat) (s : State) : State :=
  let s := { s with now := s.now + 16 * dt }
  let i := s.enc[inp]
  let n := filterOf inp s
  let a := if n ≤ na then a else i.a
  let b := if n ≤ nb then b else i.b
  if na = nb then inputLevels inp a b (s.now - 16 * na) s
  else if nb < na then inputLevels inp a b (s.now - 16 * nb) (inputLevels inp a i.b (s.now - 16 * na) s)
  else inputLevels inp a b (s.now - 16 * na) (inputLevels inp i.a b (s.now - 16 * nb) s)

/-! ## Index and line faults (R171, R177) -/

/-- A rising index edge on a loop: with the check on, the decoded edges since the last one are compared with INDEX_EDGES (R177). -/
def indexOnLoop (x : LoopId) (check : Bool) (s : State) : State :=
  let l := loopOf x s
  let want := l.indexEdges.toNat
  let miss := check && l.indexRef && (decide (want + 1 < l.indexCount) || decide (l.indexCount + 1 < want))
  let s := modLoop x (fun l => { l with indexSeen := true, indexCount := 0, indexRef := check }) s
  if miss then
    countClass Cls.ftlEnc (modLoop x (fun l => { l with err := setBit l.err 4, indexMiss := satInc l.indexMiss }) s)
  else s

/-- An index input has read high for `n` samples, `dt` fire clocks later: with IN_FILTER samples the rising edge is accepted (R172, R177). -/
def indexRise (inp : Fin 2) (dt n : Nat) (s : State) : State :=
  let s := { s with now := s.now + 16 * dt }
  if n < filterOf inp s || s.enc[inp].faultI then s
  else loopIds.foldl (fun s x =>
    if follows x inp s && (loopOf x s).state != .off then indexOnLoop x (indexOn inp s) s else s) s

/-- The documents in progress on a loop are marked because a line fault may displace their lines (R171), in the order of R476. -/
def markLoopDocs (x : LoopId) (s : State) : State :=
  let lowest (d : Doc) : Nat := match (portsOf d.mask).head? with | some p => p.val | none => 16
  (sortBy lowest (s.docs.filter fun d => d.admitted && d.loop == x)).foldl (fun s d =>
    match (portsOf d.mask).head? with
    | some p => markDoc d.id 0x03 p.val (min d.ports[p].passed d.lineCount) s
    | none => s) s

/-- A pair of a differential input becomes faulty (R171). -/
def lineFault (inp : Fin 2) (sig : EncSig) (s : State) : State :=
  if (inputCfg inp s).getLsbD 1 then s
  else
    let s := modEnc inp (fun i => match sig with
      | .chA => { i with faultA := true } | .chB => { i with faultB := true } | .index => { i with faultI := true }) s
    let s := raise Src.encLine s
    loopIds.foldl (fun s x =>
      if follows x inp s then
        let s := loopErr x 3 s
        match sig with
        | .index => modLoop x (fun l => { l with indexRef := false }) s
        | _ => markLoopDocs x (unlock x s)
      else s) s

/-- A pair reads good again (R171): the decoder takes the present levels as its reference. -/
def lineFaultEnd (inp : Fin 2) (sig : EncSig) (a b : Bool) (s : State) : State :=
  modEnc inp (fun i => match sig with
    | .chA => { i with faultA := false, a := a, b := b }
    | .chB => { i with faultB := false, a := a, b := b }
    | .index => { i with faultI := false }) s

/-! ## Crawl (R190) -/

/-- The time at which the line rate falls below 200 Hz if no edge comes: one edge per elapsed time is the most it can be (R180). -/
def slowAt (l : Loop) (now : Nat) : Nat :=
  match l.lastEdge with
  | none => now
  | some t0 =>
    let hi := now + (edgeStep l * 16 / 439000).toNat + 1
    leastFrom (fun t => decide (lineRate l (max t0 t) < 20000)) 64 now hi

/-- The line rate falls below 200 Hz (R190): at the latest when no edge has come for long enough. Held writes wait no longer (R188). -/
def startCrawl (x : LoopId) (s : State) : State :=
  let l := loopOf x s
  if l.state = .off || l.crawl then s
  else applyHeld x (modLoop x (fun l => { l with crawl := true }) (advanceTo (slowAt l s.now) s))

/-- The line rate reaches 210 Hz. -/
def endCrawl (x : LoopId) (s : State) : State :=
  if lineRate (loopOf x s) s.now < 21000 then s else modLoop x (fun l => { l with crawl := false }) s

/-! ## Writes and boundaries (R26, R179, R183, R188, R189) -/

/-- Ports of the documents in progress on a loop (FTL[x].PORTS). -/
def loopPorts (x : LoopId) (s : State) : BitVec 16 :=
  (s.docs.filter fun d => d.admitted && d.loop == x).foldl (fun m d => m ||| d.mask) 0

/-- The next line boundary of a loop (R188), when its position reaches the next multiple of 256: held writes, and the boundaries of its ports
without a line in progress. -/
def loopBoundary (x : LoopId) (s : State) : State :=
  let l := loopOf x s
  if l.state = .off then s
  else match reachTime l ((l.bound.toNat + 256) % posMod) s.now with
    | none => s
    | some t =>
      let s := advanceTo t s
      let s := modLoop x (fun l => { l with bound := floorLine (BitVec.ofNat 48 (loopPos l t)) }) s
      let s := applyHeld x s
      (portsOf (loopPorts x s)).foldl (fun s p => if (runningLoads p s).isEmpty then queueCopy p s else s) s

/-- A write to a loop's ENC_CFG: refused fields keep their values (R172, R194). -/
def writeEncCfg (x : LoopId) (w : Word) (s : State) : State :=
  let l := loopOf x s
  let old := match l.pendEnc with | some v => v | none => l.encCfg
  let f := (w.toNat / 256) % 32
  let fBad := decide (f < 2) || decide (30 < f)
  let dBad := (w.toNat / 16) % 4 == 3
  let f := if fBad then (old.toNat / 256) % 32 else f
  let d := if dBad then (old.toNat / 16) % 4 else (w.toNat / 16) % 4
  let v := BitVec.ofNat 32 (256 * f + 16 * d + w.toNat % 16)
  let s := if fBad || dBad then loopErr x 0 s else s
  if boundaryWaits l then modLoop x (fun l => { l with pendEnc := some v }) s else applyEnc x v s

/-- The fantail settings that the next write starts from: those written last. -/
def writtenSet (l : Loop) : FantailSet := match l.pendSet with | some f => f | none => l.set

/-- A write to LOOP_CFG (R180, R194). -/
def writeLoopCfg (x : LoopId) (w : Word) (s : State) : State :=
  let l := loopOf x s
  let old := writtenSet l
  let bw := w.toNat % 8192
  let tol := (w.toNat / 65536) % 16
  let bBad := decide (bw < 20) || decide (5000 < bw)
  let tBad := decide (12 < tol)
  let f := { old with
    bw := if bBad then old.bw else BitVec.ofNat 13 bw
    tol := if tBad then old.tol else BitVec.ofNat 4 tol }
  writeSet x f (if bBad || tBad then loopErr x 0 s else s)

/-- A ratio obeys R178. -/
def ratioOk (num den : Nat) : Bool :=
  decide (1 ≤ num) && decide (1 ≤ den) && decide (den ≤ 4 * num) && decide (num ≤ 256 * den)

/-- A write to RATIO_DEN commits the pair (R179). -/
def commitRatio (x : LoopId) (w : Word) (s : State) : State :=
  let l := loopOf x s
  let den := w.toNat % 16777216
  if ratioOk l.heldNum.toNat den then
    writeSet x { writtenSet l with num := l.heldNum, den := BitVec.ofNat 24 den } s
  else loopErr x 0 s

/-- A write to RATIO_NUM is held (R179). -/
def holdRatio (x : LoopId) (w : Word) (s : State) : State :=
  modLoop x (fun l => { l with heldNum := BitVec.ofNat 24 w.toNat }) s

/-- A write to INDEX_EDGES. -/
def writeIndex (x : LoopId) (w : Word) (s : State) : State :=
  let v := BitVec.ofNat 24 w.toNat
  if boundaryWaits (loopOf x s) then modLoop x (fun l => { l with pendIndex := some v }) s else applyIndex x v s

/-- The loop counts from now on (R183). Its cleared estimate gives a rate of 0, below the threshold of R190, so it reports CRAWL
(DEDUCED, log 28). -/
def startLoop (x : LoopId) (s : State) : State :=
  applyHeld x (modLoop x (fun l => { clearEst l with
    state := .acquire, crawl := true, hadLock := false, indexSeen := false, indexRef := false, indexCount := 0 }) s)

/-- The loop stops counting; position and high-water mark stay (R183, R425). -/
def stopLoop (x : LoopId) (s : State) : State :=
  applyHeld x (modLoop x (fun l => { l with state := .off, crawl := false }) s)

/-- A write to CTL.ENABLE takes effect (R183). -/
def writeEnable (x : LoopId) (v : Bool) (s : State) : State :=
  let l := loopOf x s
  let s := modLoop x (fun l => { l with enable := v }) s
  if v then (if l.state = .off then startLoop x s else s)
  else if l.state = .off then s else stopLoop x s

/-- A document in progress uses the loop. -/
def loopInUse (x : LoopId) (s : State) : Bool := s.docs.any fun d => d.admitted && d.loop == x

/-- CTL.RESET (R183, R193): ignored and counted while a document uses the loop. -/
def resetLoop (x : LoopId) (s : State) : State :=
  if loopInUse x s then countIgnored s
  else applyHeld x (modLoop x (fun l => { clearEst l with
    enable := false, state := .off, hadLock := false, crawl := false, reverse := false
    pos := 0, hwm := 0, rem := 0, bound := 0, fOvs := 48000 }) s)

/-- CTL.OVS_CLR (R193). -/
def clearOvs (x : LoopId) (s : State) : State := modLoop x (fun l => { l with fOvs := 48000 }) s

/-- Every enabled loop starts again (R426). -/
def resumeLoops (s : State) : State :=
  loopIds.foldl (fun s x => if (loopOf x s).enable && (loopOf x s).state == .off then startLoop x s else s) s

/-- Every loop stops counting (R425). -/
def stopLoops (s : State) : State :=
  loopIds.foldl (fun s x => if (loopOf x s).state != .off then stopLoop x s else s) s

end Sys2Proof.Machine
end

