-- ==== Sys2Proof/Machine/Motion.lean ====
section
/-! DEFINITION. The motion axes (R343 to R367): profiles, servo periods, stalls, limits, homing, stops, faults and commands. -/

namespace Sys2Proof.Machine

/-! ## Profiles (R347, R348) -/

/-- Largest `k` below `hi` whose square is at most `n`. -/
def sqrtBelow (n hi : Nat) : Nat := leastFrom (fun k => decide (n < (k + 1) * (k + 1))) 128 0 hi

/-- The acceleration reaches `a` before the ramp ends (R348). -/
def reachesAcc (dv a j : Nat) : Bool := decide (a * a ≤ dv * j)

/-- Duration of a ramp in ns (R348). -/
def rampTime (dv a j : Nat) : Nat :=
  if j = 0 then heldQuot (dv * 1000000000) (max 1 a)
  else if reachesAcc dv a j then heldQuot (dv * 1000000000) (max 1 a) + heldQuot (a * 1000000000) j
  else 2 * sqrtBelow (dv * 1000000000000000000 / j) 1000000000000

/-- An exact distance in 1/65,536 microstep: a fraction, or the square root of one. -/
structure Dist where
  num  : Nat
  den  : Nat
  root : Bool := false
deriving DecidableEq, Repr

/-- Distance of a ramp (R348). -/
def rampDist (v0 v1 a j : Nat) : Dist :=
  let dv := v1 - v0
  if j = 0 then { num := (v0 + v1) * dv * 65536, den := 2 * max 1 a }
  else if reachesAcc dv a j then { num := (v0 + v1) * (dv * j + a * a) * 65536, den := 2 * max 1 a * j }
  else { num := (v0 + v1) * (v0 + v1) * dv * 4294967296, den := j, root := true }

/-- Two distances fit within `x`, without rounding (R348). -/
def rampsFit (p q : Dist) (x : Nat) : Bool :=
  match p.root, q.root with
  | false, false => decide (p.num * q.den + q.num * p.den ≤ x * p.den * q.den)
  | false, true => decide (p.num ≤ x * p.den) && decide (q.num * p.den * p.den ≤ (x * p.den - p.num) * (x * p.den - p.num) * q.den)
  | true, false => decide (q.num ≤ x * q.den) && decide (p.num * q.den * q.den ≤ (x * q.den - q.num) * (x * q.den - q.num) * p.den)
  | true, true =>
    let rest := x * x * p.den * q.den - p.num * q.den - q.num * p.den
    decide (p.num * q.den + q.num * p.den ≤ x * x * p.den * q.den) && decide (4 * p.num * q.num * p.den * q.den ≤ rest * rest)

/-- A distance held to 1/65,536 microstep. -/
def distOf (p : Dist) : Nat := if p.root then sqrtBelow (p.num / max 1 p.den) 1000000000000 else heldQuot p.num (max 1 p.den)

/-- Distance after `t` ns of an accelerating ramp, and beyond it at the final speed. -/
def rampPos (v0 v1 a j t : Nat) : Nat :=
  let d := rampTime (v1 - v0) a j
  let full := distOf (rampDist v0 v1 a j)
  if d ≤ t then full + heldQuot (v1 * (t - d) * 65536) 1000000000
  else if j = 0 then heldQuot ((2 * v0 * t * 1000000000 + a * t * t) * 65536) 2000000000000000000
  else
    let t1 := if reachesAcc (v1 - v0) a j then a * 1000000000 / j else d / 2
    if t ≤ t1 then
      heldQuot ((6 * v0 * t * 1000000000000000000 + j * t * t * t) * 65536) 6000000000000000000000000000
    else if d - t1 ≤ t then
      let r := d - t
      full - heldQuot ((6 * v1 * r * 1000000000000000000 - j * r * r * r) * 65536) 6000000000000000000000000000
    else
      let u := t - t1
      heldQuot ((6 * v0 * t1 * 1000000000000000000 + j * t1 * t1 * t1) * 65536) 6000000000000000000000000000 +
      heldQuot ((2 * v0 * u * 1000000000 + a * a * u * 1000000000 / j + a * u * u) * 65536) 2000000000000000000

/-- Speed in microsteps/s after `t` ns of an accelerating ramp. -/
def rampSpeed (v0 v1 a j t : Nat) : Nat :=
  let d := rampTime (v1 - v0) a j
  if d ≤ t then v1
  else if j = 0 then min v1 (v0 + heldQuot (a * t) 1000000000)
  else
    let t1 := if reachesAcc (v1 - v0) a j then a * 1000000000 / j else d / 2
    if t ≤ t1 then min v1 (v0 + heldQuot (j * t * t) 2000000000000000000)
    else if d - t1 ≤ t then v1 - heldQuot (j * (d - t) * (d - t)) 2000000000000000000
    else min v1 (v0 + heldQuot (a * a) (2 * j) + heldQuot (a * (t - t1)) 1000000000)

/-- Peak speed of a move over `x` (R348): the largest whole speed at which the two ramps fit, VSTART at least. -/
def peakSpeed (vs vmax acc jerk dec : Nat) (x : Nat) : Nat :=
  let fits (v : Nat) : Bool := rampsFit (rampDist vs v acc jerk) (rampDist vs v dec jerk) x
  if fits vmax then vmax else max vs (leastFrom (fun v => !fits v) 20 vs vmax - 1)

/-- Plan a profile: distance none for a run without an end. -/
def planLeg (start : BitVec 48) (fwd : Bool) (dist : Option Nat) (vs vmax acc jerk dec : Nat) : Leg :=
  let vs := min vs vmax
  { start := start, fwd := fwd, dist := dist, v0 := vs, vEnd := vs, acc := acc, jerk := jerk, dec := dec, jerkD := jerk
    vp := match dist with | some x => peakSpeed vs vmax acc jerk dec x | none => vmax }

/-- Elapsed time of a profile in ns. -/
def legTime (g : Leg) : Nat := g.t * 50000

/-- Durations of acceleration, cruise and deceleration in ns; the cruise of a run has no end. -/
def legTimes (g : Leg) : Nat × Option Nat × Nat :=
  let ta := rampTime (g.vp - g.v0) g.acc g.jerk
  let td := rampTime (g.vp - g.vEnd) g.dec g.jerkD
  match g.dist with
  | none => (ta, none, td)
  | some x =>
    let ramps := distOf (rampDist g.v0 g.vp g.acc g.jerk) + distOf (rampDist g.vEnd g.vp g.dec g.jerkD)
    (ta, some (heldQuot ((x - ramps) * 1000000000) (max 1 (g.vp * 65536))), td)

/-- The profile has reached its end. -/
def legDone (g : Leg) : Bool :=
  match legTimes g with
  | (ta, some tc, td) => decide (ta + tc + td ≤ legTime g)
  | _ => false

/-- Distance covered so far, in 1/65,536 microstep. -/
def legDist (g : Leg) : Nat :=
  let t := legTime g
  match g.dist, legTimes g with
  | some x, (ta, some tc, td) =>
    if ta + tc + td ≤ t then x
    else if ta + tc ≤ t then x - rampPos g.vEnd g.vp g.dec g.jerkD (ta + tc + td - t)
    else min x (rampPos g.v0 g.vp g.acc g.jerk t)
  | _, _ => rampPos g.v0 g.vp g.acc g.jerk t

/-- Present speed in microsteps/s. -/
def legSpeed (g : Leg) : Nat :=
  let t := legTime g
  match legTimes g with
  | (ta, some tc, td) =>
    if ta + tc + td ≤ t then 0
    else if ta + tc ≤ t then rampSpeed g.vEnd g.vp g.dec g.jerkD (ta + tc + td - t)
    else rampSpeed g.v0 g.vp g.acc g.jerk t
  | _ => rampSpeed g.v0 g.vp g.acc g.jerk t

/-- Time in ns at which a ramp can end its constant part and level off at its speed. -/
def levelAt (v0 v1 a j : Nat) : Nat :=
  let d := rampTime (v1 - v0) a j
  if j = 0 then d else if reachesAcc (v1 - v0) a j then d - a * 1000000000 / j else d / 2

/-- The lowest peak speed that a move can still take without a change of what it has run: its speed, or under a jerk limit the speed at which
its ramp can level off. -/
def lowestPeak (g : Leg) : Nat :=
  if rampTime (g.vp - g.v0) g.acc g.jerk ≤ legTime g then g.vp
  else leastFrom (fun v => decide (legTime g ≤ levelAt g.v0 v g.acc g.jerk)) 20 g.v0 g.vp

/-- The deceleration begins after the present servo period, whose writes count as after a ramp that starts in it (R349). -/
def beforeDecel (g : Leg) : Bool :=
  match legTimes g with
  | (ta, some tc, _) => decide (legTime g + 50000 ≤ ta + tc)
  | _ => true

/-! ## Register fields -/

/-- VMAX. -/
def vMax (a : Axis) : Nat := a.speeds.toNat % 65536
/-- VSTART. -/
def vStart (a : Axis) : Nat := a.speeds.toNat / 65536
/-- JERK in microsteps/s³. -/
def jerkOf (a : Axis) : Nat := a.jerk.toNat * 1000
/-- I_RUN in mA. -/
def iRun (a : Axis) : Nat := (a.current.toNat % 4096) * 10
/-- I_HOLD in mA. -/
def iHold (a : Axis) : Nat := ((a.current.toNat / 4096) % 4096) * 10
/-- HOLD_DELAY in ms. -/
def holdDelay (a : Axis) : Nat := a.current.toNat / 16777216
/-- HOME_SPEED. -/
def homeSpeed (a : Axis) : Nat := a.homeCfg.toNat % 65536
/-- HOME_CURRENT in mA. -/
def homeCurrent (a : Axis) : Nat := ((a.homeCfg.toNat / 65536) % 4096) * 10
/-- STALL.MIN_SPEED. -/
def minSpeed (a : Axis) : Nat := a.stall.toNat % 65536
/-- STALL.ANGLE. -/
def stallAngle (a : Axis) : Nat := (a.stall.toNat / 65536) % 256
/-- CFG.DIR_INV. -/
def dirInv (a : Axis) : Bool := a.cfg.getLsbD 0
/-- CFG.MAINT_ONLY. -/
def maintOnly (a : Axis) : Bool := a.cfg.getLsbD 1
/-- CFG.STALL_EN. -/
def stallEn (a : Axis) : Bool := a.cfg.getLsbD 2
/-- CFG.LIM_AS_HOME. -/
def limAsHome (a : Axis) : Bool := a.cfg.getLsbD 3
/-- CFG.HOME_DIR: true for positive. -/
def homeDir (a : Axis) : Bool := a.cfg.getLsbD 4
/-- POS in whole microsteps. -/
def posWord (a : Axis) : Word := (a.pos >>> 16).setWidth 32
/-- A position of whole microsteps. -/
def wholePos (w : Word) : BitVec 48 := w.setWidth 48 <<< 16

/-! ## Changes of an axis -/

/-- Change an axis. -/
def modAxis (i : Fin 4) (f : Axis → Axis) (s : State) : State :=
  { s with mot := { s.mot with axes := s.mot.axes.set i.val (f s.mot.axes[i]) i.isLt } }

/-- Every axis in turn. -/
def forAxes (f : Fin 4 → State → State) (s : State) : State := (List.finRange 4).foldl (fun s i => f i s) s

/-- An axis error flag. -/
def axisErr (i : Fin 4) (b : Nat) (s : State) : State := modAxis i (fun a => { a with err := setBit a.err b }) s

/-- The axis is moving. -/
def axisMoves (a : Axis) : Bool := a.leg.isSome

/-- A new position: PHASE follows the whole microsteps (R344). -/
def moveTo (p : BitVec 48) (a : Axis) : Axis :=
  let d := (p >>> 16).setWidth 6 - (a.pos >>> 16).setWidth 6
  { a with pos := p, phase := if dirInv a then a.phase - d else a.phase + d }

/-- Standstill: the bridges hold, at I_RUN for HOLD_DELAY (R346, R358). -/
def standStill (now : Nat) (a : Axis) : Axis :=
  { a with leg := none, motion := .idle, home := .none, speed := 0, stallRun := 0
           bridge := if a.bridge = .off then .off else .hold
           holdAt := if a.bridge = .off then none else some (now + msGrid (holdDelay a)) }

/-- The position is defined anew, and the positions of the past with it (R352, R355, R356, R362). -/
def redefine (p : BitVec 48) (a : Axis) : Axis := { a with pos := p, trail := a.trail.map fun x => x + (p - a.pos) }

/-- Start a profile on an axis. -/
def beginLeg (m : Motion) (h : HomePhase) (fwd : Bool) (dist : Option Nat) (vmax : Nat) (a : Axis) : Axis :=
  { a with motion := m, home := h, bridge := .run, holdAt := none, pending := false, loadPeak := 0, stallRun := 0
           leg := some (planLeg a.pos fwd dist (vStart a) vmax a.acc.toNat (jerkOf a) a.dec.toNat) }

/-- The present speed of an axis. -/
def speedNow (a : Axis) : Nat := match a.leg with | some g => legSpeed g | none => 0

/-- Decelerate at DEC from the present speed (R358), with the DEC, JERK and VSTART that R349 gives the move: those of its profile, which a
write has reached if the new braking distance fitted; a run without an end takes DEC and JERK as they stand. -/
def slowDown (m : Motion) (h : HomePhase) (now : Nat) (a : Axis) : Axis :=
  match a.leg with
  | none => a
  | some g =>
    let v := legSpeed g
    if v = 0 then standStill now a
    else
      let e := min g.vEnd v
      let (dec, jerk) := if g.dist.isSome then (g.dec, g.jerkD) else (a.dec.toNat, jerkOf a)
      { a with motion := m, home := h, leg := some {
          start := a.pos, fwd := g.fwd, dist := some (distOf (rampDist e v dec jerk))
          v0 := v, vp := v, vEnd := e, acc := g.acc, jerk := g.jerk, dec := dec, jerkD := jerk } }

/-- A profile has reached its end. -/
def legEnd (i : Fin 4) (s : State) : State :=
  let a := s.mot.axes[i]
  match a.motion, a.home with
  | .homing, .slow => modAxis i (fun a => { a with
      leg := none, speed := 0, home := .settle, bridge := .hold, settleAt := s.now + msGrid 20 }) s
  | .homing, _ => raise Src.motDone (modAxis i (fun a => { standStill s.now a with posState := 3 }) s)
  | .stopping, _ => modAxis i (standStill s.now) s
  | _, _ => raise Src.motDone (modAxis i (standStill s.now) s)

/-- The set-point of the next period of a profile (R347). -/
def axisPoint (i : Fin 4) (g : Leg) (s : State) : State :=
  let g := { g with t := g.t + 1 }
  let d := BitVec.ofNat 48 (legDist g)
  let v := legSpeed g
  let s := modAxis i (fun a => { moveTo (if g.fwd then g.start + d else g.start - d) a with
    leg := some g, speed := if g.fwd then v else -(v : Int) }) s
  if legDone g then legEnd i s else s

/-- The last set-point of a move lands on its target in the present servo period, which the next SERVO_PERIOD ends (R358). -/
def landsNow (a : Axis) (g : Leg) : Bool := (a.motion == .moving || a.home == .backoff) && legDone { g with t := g.t + 1 }

/-- SOFT_STOP on an axis (R358): a move that lands in the same servo period has completed. -/
def softStop (i : Fin 4) (s : State) : State :=
  let a := s.mot.axes[i]
  match a.leg with
  | some g =>
    if landsNow a g then axisPoint i g s
    else if a.motion = .stopping then s else modAxis i (slowDown .stopping .none s.now) s
  | none => if a.motion = .homing then modAxis i (fun a => { a with motion := .idle, home := .none }) s else s

/-- The set-points of an axis stop at once (R358): a moving axis is UNCERTAIN, and the bridges hold at I_RUN for HOLD_DELAY. -/
def haltAxis (i : Fin 4) (s : State) : State :=
  modAxis i (fun a => { standStill s.now a with posState := if axisMoves a then 1 else a.posState }) s

/-- STOP on an axis, and every stop request (R358): a move that lands in the same servo period has completed. -/
def stopAxis (i : Fin 4) (s : State) : State :=
  match s.mot.axes[i].leg with
  | some g => if landsNow s.mot.axes[i] g then axisPoint i g s else haltAxis i s
  | none => haltAxis i s

/-- A stop of MOT.STOP_ALL, of R332 or by a fault is in this clock (R364). -/
def noteStop (now : Nat) (a : Axis) : Axis := { a with stoppedAt := some now }

/-- MOT.STOP_ALL (R358). -/
def stopAll (s : State) : State := forAxes (fun i s => modAxis i (noteStop s.now) (stopAxis i s)) s

/-- The bridges of an axis switch off by a fault or a command: any move ends, the position is LOST (R359, R362). -/
def bridgesOff (a : Axis) : Axis :=
  { a with leg := none, motion := .idle, home := .none, bridge := .off, posState := 0, speed := 0, holdAt := none
           stallRun := 0, reenergise := false }

/-! ## Servo periods (R346, R347, R350, R351, R355) -/

/-- cos (11.25° × k) in 10⁻⁸. -/
def cosTable (k : Nat) : Int :=
  match k % 32 with
  | 0 => 100000000 | 1 | 31 => 98078528 | 2 | 30 => 92387953 | 3 | 29 => 83146961 | 4 | 28 => 70710678
  | 5 | 27 => 55557023 | 6 | 26 => 38268343 | 7 | 25 => 19509032 | 8 | 24 => 0
  | 9 | 23 => -19509032 | 10 | 22 => -38268343 | 11 | 21 => -55557023 | 12 | 20 => -70710678
  | 13 | 19 => -83146961 | 14 | 18 => -92387953 | 15 | 17 => -98078528 | _ => -100000000

/-- I_set before the limit of R346, in 1/128 mA: so the hold current scaled by 1 − 0.5 L is exact (R372). -/
def wantedCurrent (level : Nat) (a : Axis) : Nat :=
  match a.bridge with
  | .off => 0
  | _ =>
    match a.home with
    | .seek | .slow => 128 * homeCurrent a
    | .settle => 128 * iHold a
    | _ => if axisMoves a || a.holdAt.isSome then 128 * iRun a else iHold a * (128 - level)

/-- Largest current in 1/128 mA that keeps one coil's mean square at (800 mA)² (R346): `c` is 1 ± cos 2θ in 10⁻⁸. -/
def coilLimit (sum c : Nat) : Nat :=
  if c = 0 then 524288 else sqrtBelow ((41943040000000000000000 - sum) / c) 524288

/-- Apply the current limit, VSAT and the load angle of a servo period (R345, R346, R350). -/
def servoCurrents (level vm load : Nat) (a : Axis) : Axis :=
  let prev := a.heat.take 19999
  let c := cosTable a.phase.toNat
  let cA := (100000000 + c).toNat
  let cB := (100000000 - c).toNat
  let want := wantedCurrent level a
  let lim := min (coilLimit (sumOf (prev.map fun t => t.1)) cA) (coilLimit (sumOf (prev.map fun t => t.2)) cB)
  let i := min want lim
  let v := a.speed.natAbs
  let rcoil := a.coil.toNat % 65536
  let ke := a.coil.toNat / 65536
  { a with
    heat := if a.bridge = .off ∧ prev.all (fun t => t == (0, 0)) then [] else (i * i * cA, i * i * cB) :: prev
    iSet := i
    iLimited := decide (lim < want)
    vsat := a.bridge != .off && decide (vm * 1280000 ≤ 10 * i * rcoil + 128 * ke * v)
    loadNow := satNat 8 load
    loadPeak := BitVec.ofNat 8 (max a.loadPeak.toNat (min 255 load)) }

/-- A homing fails: the set-points stop, and the position is UNCERTAIN (R355, R356). -/
def homeFails (i : Fin 4) (bit : Nat) (s : State) : State :=
  raise Src.motHomeFail (modAxis i (fun a => { standStill s.now a with posState := 1, err := setBit a.err bit }) s)

/-- The stall reference of homing (R355). -/
def stallReference (i : Fin 4) (s : State) : State :=
  modAxis i (fun a => { a with
    leg := none, speed := 0, stallRun := 0, home := .settle, bridge := .hold, settleAt := s.now + msGrid 20 })
    (modAxis i (redefine (wholePos s.mot.axes[i].homeOffset)) s)

/-- A stall is declared (R351, R355). The set-point of its servo period stands already. -/
def declareStall (i : Fin 4) (s : State) : State :=
  let a := s.mot.axes[i]
  match a.home with
  | .seek => stallReference i s
  | .none =>
    let s := haltAxis i (modAxis i (fun a => { a with err := setBit a.err 1, stalls := satInc a.stalls }) s)
    countClass Cls.motStall (raise Src.motStall s)
  | _ => modAxis i (fun a => { a with stallRun := 0 }) s

/-- The seek of homing has gone farther than HOME_MAX (R355). -/
def seekTooFar (a : Axis) : Bool :=
  match a.leg with
  | some g => a.home == .seek && decide (a.homeMax.toNat * 65536 < legDist g)
  | none => false

/-- What the end of a servo period finds: a stall, or a seek that has gone too far without one. -/
def servoFinds (i : Fin 4) (run : Nat) (s : State) : State :=
  if 4 ≤ run then declareStall i s else if seekTooFar s.mot.axes[i] then homeFails i 5 s else s

/-- One servo period of an axis. -/
def servoAxis (i : Fin 4) (load : Nat) (s : State) : State :=
  let a := s.mot.axes[i]
  let s := match a.leg with
    | none => s
    | some g => axisPoint i g s
  let a := s.mot.axes[i]
  let high := stallEn a && axisMoves a && decide (minSpeed a ≤ a.speed.natAbs) && decide (stallAngle a < load)
  let run := if high then a.stallRun + 1 else 0
  let s := modAxis i (fun a => { a with trail := a.pos :: a.trail.take 511 }) s
  servoFinds i run (modAxis i (fun a => servoCurrents s.thm.level s.mot.vm.toNat load { a with stallRun := run }) s)

/-- A servo period of 50 µs (R347). -/
def servoTick (rd : ServoIn) (s : State) : State :=
  let s := advanceTo s.mot.servoAt s
  let s := { s with mot := { s.mot with servoAt := s.now + usGrid 50, vm := satNat 16 rd.vm10mV } }
  servoAxis 3 rd.load3 (servoAxis 2 rd.load2 (servoAxis 1 rd.load1 (servoAxis 0 rd.load0 s)))

/-- SETTLE ends and BACKOFF begins (R355). -/
def settleEnd (i : Fin 4) (s : State) : State :=
  let a := s.mot.axes[i]
  if a.home = .settle then
    let s := advanceTo a.settleAt s
    modAxis i (fun a => beginLeg .homing .backoff (!homeDir a) (some (a.backoff.toNat * 65536)) (homeSpeed a) a) s
  else s

/-- HOLD_DELAY ends (R346). -/
def holdEnd (i : Fin 4) (s : State) : State :=
  match s.mot.axes[i].holdAt with
  | some t => modAxis i (fun a => { a with holdAt := none, bridge := if a.bridge = .off then .off else .hold }) (advanceTo t s)
  | none => s

/-! ## Limits (R352 to R356) -/

/-- The axis travels in a direction now. -/
def travels (fwd : Bool) (a : Axis) : Bool := match a.leg with | some g => g.fwd == fwd | none => false

/-- The edge position of a qualified change whose first sample was `n` samples of 10 µs ago (R352): the set-point position of the servo
period in which that sample fell. -/
def edgePosition (n : Nat) (a : Axis) (s : State) : BitVec 48 :=
  let start := s.mot.servoAt - usGrid 50
  let at_ := s.now - usGrid (10 * n)
  a.trail.getD (ceilDiv (start - at_) (usGrid 50)) (a.trail.getLastD a.pos)

/-- The limit reference of homing (R356): POS is HOME_OFFSET at the edge, and the axis decelerates. -/
def limitReference (i : Fin 4) (edge : BitVec 48) (s : State) : State :=
  modAxis i (fun a =>
    let a := redefine (a.pos + (wholePos a.homeOffset - edge)) a
    match slowDown .homing .slow s.now a with
    | b => if b.leg.isSome then b
      else { b with motion := .homing, home := .settle, bridge := .hold, holdAt := none, settleAt := s.now + msGrid 20 }) s

/-- The effect of a limit that trips. -/
def limitTrips (i : Fin 4) (hi : Bool) (edge : BitVec 48) (s : State) : State :=
  let a := s.mot.axes[i]
  match a.home with
  | .seek => if limAsHome a && hi == homeDir a then limitReference i edge s else homeFails i 4 s
  | .backoff => homeFails i 4 s
  | .none =>
    if travels hi a then
      let s := stopAxis i (modAxis i (fun a => { a with err := setBit a.err 2, limTrips := satInc a.limTrips }) s)
      countClass Cls.motLimit (raise Src.motLimit s)
    else s
  | _ => s

/-- A limit input of an axis is enabled. -/
def limitOn (hi : Bool) (a : Axis) : Bool := a.limCfg.getLsbD (if hi then 17 else 16)

/-- Debounce time of a limit input in 0.1 ms. -/
def debounce (hi : Bool) (a : Axis) : Nat := (a.limCfg.toNat / (if hi then 256 else 1)) % 256

/-- The level means tripped (R352): the polarity decides. -/
def levelTrips (hi level : Bool) (a : Axis) : Bool := level == a.limCfg.getLsbD (if hi then 19 else 18)

/-- The input shows a level that is new to it and that it has held for its debounce time of samples (R352). -/
def limitQualifies (hi level : Bool) (n : Nat) (a : Axis) : Bool :=
  limitOn hi a && (levelTrips hi level a != if hi then a.hiNow else a.loNow) && decide (10 * debounce hi a ≤ n)

/-- A limit input has held a level for `n` samples of 10 µs (R352, R353). -/
def limitChange (i : Fin 4) (hi level : Bool) (n : Nat) (s : State) : State :=
  let a := s.mot.axes[i]
  let tripped := levelTrips hi level a
  let edge := edgePosition n a s
  if !limitQualifies hi level n a then s
  else
    let recent := (s.now :: if hi then a.hiTimes else a.loTimes).filter fun t => decide (s.now < t + msGrid 100)
    let s := modAxis i (fun a =>
      if hi then { a with hiNow := tripped, hiTimes := recent.take 8 }
      else { a with loNow := tripped, loTimes := recent.take 8 }) s
    let s := if tripped then limitTrips i hi edge s else s
    if 8 ≤ recent.length ∧ !s.mot.axes[i].chatter then
      let s := stopAxis i (modAxis i (fun a => { a with err := setBit a.err 3, chatter := true }) s)
      countClass Cls.motLimit (raise Src.motLimit s)
    else s

/-! ## Faults (R359, R361) -/

/-- A MOT error flag. -/
def motErr (b : Nat) (s : State) : State := { s with mot := { s.mot with err := setBit s.mot.err b } }

/-- VM falls out of its window: every axis is off and LOST. -/
def vmFault (flag : Nat) (perAxis : Bool) (s : State) : State :=
  let s := forAxes (fun i s => modAxis i (fun a =>
    { noteStop s.now (bridgesOff a) with err := if perAxis then setBit a.err 8 else a.err }) s) (motErr flag s)
  { s with mot := { s.mot with vmGood := if flag = 0 then false else s.mot.vmGood } }

/-- A VM fault while in STANDBY: the retained axes are LOST and stay off, and the start shows the fault (R361). -/
def retainedFault (cause : BridgeCause) (s : State) : State :=
  let lose (bit : Nat) : State := { s with pwr := { s.pwr with
    heldVm := setBit s.pwr.heldVm bit, axisRecs := s.pwr.axisRecs.map fun r => { r with posState := 0, energised := false } } }
  match cause with
  | .vmLow => lose 0
  | .vmHigh => lose 1
  | _ => s

/-- The drive die watches for the condition of a fault (R359): an open coil only with an I_set of 100 mA or more and below STALL.MIN_SPEED. -/
def faultWatched (cause : BridgeCause) (s : State) : Bool :=
  match cause with
  | .openCoil i =>
    let a := s.mot.axes[i]
    a.bridge != .off && decide (12800 ≤ a.iSet) && decide (a.speed.natAbs < minSpeed a)
  | _ => true

/-- The bridges of one axis are off by a fault. -/
def axisFault (i : Fin 4) (bit : Nat) (s : State) : State :=
  axisErr i bit (modAxis i (fun a => noteStop s.now (bridgesOff a)) s)

/-- A bridge fault (R359). -/
def faultBridge (cause : BridgeCause) (s : State) : State :=
  let s := match cause with
    | .overcurrent i => axisFault i 6 s
    | .openCoil i => axisFault i 7 s
    | .vmLow => vmFault 0 true s
    | .vmHigh => vmFault 1 false s
  countClass Cls.motBridge (raise Src.motFault s)

/-- A bridge fault in the dies, or of the supply in STANDBY (R359, R361). -/
def bridgeFault (cause : BridgeCause) (s : State) : State :=
  if s.pwr.released then (if faultWatched cause s then faultBridge cause s else s)
  else if s.top.state = .standby then retainedFault cause s else s

/-- LIM_CFG is written: a disabled input is not tripped, and a level that stands changes its meaning with its polarity (R352). -/
def newLimits (w : Word) (a : Axis) : Axis :=
  let now (en pol : Nat) (t : Bool) : Bool :=
    w.getLsbD en && a.limCfg.getLsbD en && (t != (w.getLsbD pol != a.limCfg.getLsbD pol))
  { a with limCfg := w &&& 0xFFFFF, loNow := now 16 18 a.loNow, hiNow := now 17 19 a.hiNow }

/-- VM counts as good (R359): axes restored from retention are energised (R361). -/
def vmIsGood (s : State) : State :=
  forAxes (fun i s => modAxis i (fun a =>
    if a.reenergise then { a with reenergise := false, bridge := .hold } else a) s)
    { s with mot := { s.mot with vmGood := true } }

/-! ## Commands (R362 to R364) -/

/-- The device states in which motion commands and SET_POS are accepted (R363). -/
def motionState (only : Bool) : DevState → Bool
  | .maint => true
  | .ready | .gap | .print | .thermalHold => !only
  | _ => false

/-- The device states in which SOFT_STOP and STOP are accepted. -/
def stopState : DevState → Bool
  | .ready | .gap | .print | .thermalHold | .maint | .calib | .safeHold => true
  | _ => false

/-- The device states in which ENERGISE and DISABLE are accepted. -/
def bridgeState : DevState → Bool
  | .ready | .gap | .print | .thermalHold | .maint | .safeHold => true
  | _ => false

/-- A move in a direction is barred by chatter or a tripped limit (R353, R354). -/
def limitBars (fwd : Bool) (a : Axis) : Bool := a.chatter || (if fwd then a.hiNow else a.loNow)

/-- The result of a command: 0 if it is accepted (R363, R364), the reasons in the order of R364. -/
def cmdResult (op now : Nat) (st : DevState) (vmGood : Bool) (a : Axis) : Nat :=
  let motion := op == 1 || op == 2 || op == 3 || op == 9
  let legal := if motion || op == 8 then motionState (maintOnly a) st
    else if op == 4 || op == 5 then stopState st else if op == 6 || op == 7 then bridgeState st else true
  let t := toI a.target
  let diff : Int := (wholePos a.target - a.pos).toInt
  let bars := if op = 3 then limitBars (homeDir a) a
    else if op = 1 then (if 0 < diff then limitBars true a else if diff < 0 then limitBars false a else a.chatter)
    else if 0 < t then limitBars true a else if t < 0 then limitBars false a else a.chatter
  if op = 0 ∨ 10 ≤ op then 6
  else if !legal then 1
  else if (motion || op == 8) && (a.motion != .idle || a.stoppedAt == some now) then 2
  else if op = 1 ∧ a.posState.toNat < 2 then 3
  else if motion && bars then 4
  else if motion && a.bridge == .off then 5
  else if op = 6 ∧ !vmGood then 5
  else if op = 9 ∧ a.target = 0 then 6
  else if op = 3 ∧ (homeSpeed a < minSpeed a ∨ (!stallEn a ∧ !limAsHome a)) then 6
  else 0

/-- Record a command and its result; a refusal counts (R364). -/
def noteAxisCmd (op res : Nat) (a : Axis) : Axis :=
  { a with cmdOp := BitVec.ofNat 4 op, cmdResult := BitVec.ofNat 3 res
           refused := if res = 0 then a.refused else satInc a.refused }

/-- Run a command that R363 and R364 allow; a refused one changes nothing else. -/
def axisCommand (op : Nat) (i : Fin 4) (act : Fin 4 → State → State) (s : State) : State :=
  let r := cmdResult op s.now s.top.state s.mot.vmGood s.mot.axes[i]
  let s := modAxis i (noteAxisCmd op r) s
  if r = 0 then act i s else s

/-- MOVE_ABS. -/
def moveAbs (i : Fin 4) (s : State) : State :=
  modAxis i (fun a =>
    let d : Int := (wholePos a.target - a.pos).toInt
    beginLeg .moving .none (decide (0 ≤ d)) (some d.natAbs) (vMax a) a) s

/-- MOVE_REL. -/
def moveRel (i : Fin 4) (s : State) : State :=
  modAxis i (fun a =>
    let d : Int := toI a.target
    beginLeg .moving .none (decide (0 ≤ d)) (some (d.natAbs * 65536)) (vMax a) a) s

/-- HOME (R355). -/
def startHome (i : Fin 4) (s : State) : State :=
  modAxis i (fun a => beginLeg .homing .seek (homeDir a) none (homeSpeed a) a) s

/-- ENERGISE. -/
def energise (i : Fin 4) (s : State) : State :=
  modAxis i (fun a => if a.bridge = .off then { a with bridge := .hold, holdAt := none } else a) s

/-- DISABLE. -/
def disableAxis (i : Fin 4) (s : State) : State := modAxis i bridgesOff s

/-- SET_POS. -/
def setPosition (i : Fin 4) (s : State) : State := modAxis i (fun a => { redefine (wholePos a.target) a with posState := 3 }) s

/-- JOG. -/
def jogAxis (i : Fin 4) (s : State) : State :=
  modAxis i (fun a => beginLeg .jogging .none (decide (0 < toI a.target)) none (vMax a) a) s

/-! ## Writes and changes of state -/

/-- DEC or JERK has been written: it reaches the move in progress if the new braking distance fits the distance that remains, counted from the
speed at which the move can still leave its acceleration; where the two ramps then no longer fit, the peak is lowered as R348 gives (DEDUCED,
log entry 94). -/
def takeBraking (a : Axis) : Axis :=
  match a.leg with
  | none => a
  | some g =>
    match g.dist with
    | none => a
    | some x =>
      if a.motion = .stopping ∨ a.home = .slow ∨ !beforeDecel g then { a with pending := true }
      else
        let low := lowestPeak g
        let brake (v : Nat) : Dist := rampDist g.vEnd v a.dec.toNat (jerkOf a)
        let fits (v : Nat) : Bool := rampsFit (rampDist g.v0 v g.acc g.jerk) (brake v) x
        let cruises := decide (rampTime (g.vp - g.v0) g.acc g.jerk ≤ legTime g)
        if if cruises then rampsFit { num := legDist g, den := 1 } (brake g.vp) x else fits low then
          { a with leg := some { g with
            dec := a.dec.toNat, jerkD := jerkOf a, vp := if cruises || fits g.vp then g.vp else leastFrom (fun v => !fits v) 20 low g.vp - 1 } }
        else { a with pending := true }

/-- SOFT_STOP on every moving axis (R365). -/
def softStopAll (s : State) : State := forAxes softStop s

/-- SOFT_STOP on every moving MAINT_ONLY axis (R365). -/
def softStopMaint (s : State) : State := forAxes (fun i s => if maintOnly s.mot.axes[i] then softStop i s else s) s

/-- Every axis stands still. -/
def axesStill (s : State) : Bool := s.mot.axes.toList.all fun a => !axisMoves a

end Sys2Proof.Machine
end

