-- ==== Sys2Proof/Machine/Check.lean ====
section
/-! DEFINITION. The general check units (R148 to R168) and the test of the fixed checkers (R144). -/

namespace Sys2Proof.Machine

/-! ## Arming and ending (R161 to R166) -/

/-- SRC is listed for the feed (R150, R153). -/
def srcOk (feed src : Nat) : Bool :=
  if feed = 0 then decide (src ≤ 0x14)
  else decide (src ≤ 0x13) || (decide (0x20 ≤ src) && decide (src ≤ 0x41))

/-- An ARM is refused (R162). -/
def armBad (i : Fin 8) (fromMgt : Bool) (u : ChkUnit) : Bool :=
  let hi := ~~~(maskOf (unitWidth u))
  (u.poly &&& hi) != 0 || (u.init &&& hi) != 0 || (u.xorout &&& hi) != 0 || (u.expect &&& hi) != 0 ||
  decide (2 ≤ unitFeed u) || unitFold u == 3 ||
  (unitFold u == 1 && unitFeed u == 1) || (unitFold u == 2 && unitFeed u == 0) ||
  !srcOk (unitFeed u) (unitSrc u) ||
  (unitCompare u && u.records == 0 && unitFeed u == 1) ||
  (i == 7 && u.mgtOwn && !fromMgt)

/-- A record runs on a tap: a descriptor whose reads have begun, and that does not wait to be fetched again (R154). -/
def midRecord (tap : Nat) (s : State) : Bool :=
  if h : tap < 20 then
    match s.dma[tap].cur with
    | some c => decide (0 < c.asked) && c.refetchAt.isNone
    | none => false
  else false

/-- The copies on their way, by port (R154). -/
def midCopies (s : State) : BitVec 16 := (List.finRange 16).foldl (fun m p => if s.sup.latent[p].isSome then setBit m p.val else m) 0

/-- A unit starts (R164): a scan takes its fold (R155), and one of the fuses is RACED while a burn runs (R403). A snoop armed in the middle of
a record waits for the next one (R154). -/
def startUnit (burning mid : Bool) (copies : BitVec 16) (level : Nat) (u : ChkUnit) : ChkUnit :=
  let u := { u with
    arm := true, state := .running, ue := false, clipped := false, mismatch := false, matched := false
    raced := burning && unitFeed u == 0 && unitSrc u == 0x13
    skip := mid && unitFeed u == 1, skipCopies := if unitFeed u = 1 ∧ unitSrc u = tapCopy then copies else 0
    paused := unitFeed u == 0 && level == 64, result := 0, progress := 0, seq := u.seqStart, reg := u.init
    recsLeft := u.records.toNat }
  if unitFeed u = 0 ∧ unitFold u = 1 then
    feedUnit (toLe 4 (unitSrc u) ++ toLe 4 u.length.toNat ++ toLe 8 u.start.toNat) u
  else u

/-- ARM (R164). -/
def armUnit (i : Fin 8) (fromMgt : Bool) (s : State) : State :=
  let u := s.chk.units[i]
  if u.state = .running then s
  else if armBad i fromMgt u then modUnit i (fun u => { u with armBad := true }) s
  else modUnit i (startUnit s.otp.burn.isSome (midRecord (unitSrc u) s) (midCopies s) s.thm.level) s

/-- ABORT (R164). -/
def abortUnit (i : Fin 8) (s : State) : State :=
  modUnit i (fun u => if u.state = .running then { u with state := .aborted, arm := false, result := 0, paused := false } else u) s

/-- The normal-level bytes of a fuse word, corrected (R150); of an uncorrectable word, its data bits as they stand (DESIGN CHOICE, log entry
66: the spec says what a READ gives, and nothing of a scan). -/
def otpBytes (s : State) (w : Nat) : List Byte :=
  match s.otp.cells.find? fun c => c.word == w with
  | some c => match eccDecode c.normal with
    | some d => toLe 8 d.1.toNat
    | none => toLe 8 (c.normal.setWidth 64).toNat
  | none => toLe 8 0

/-- The bytes of a scan's range up to its region's end (R150, R157): of the pond, the ROM or the fuses, or the flash bytes that the command
brings. -/
def scanBytes (u : ChkUnit) (ext : List Byte) (s : State) : List Byte :=
  let start := u.start.toNat
  let n := min (regionSize (unitSrc u) s) (start + u.length.toNat) - start
  match scanRange u s with
  | some (lo, hi) => pondRead (fun i => lo + i) (hi - lo) s
  | none =>
    if unitSrc u = 0x12 then (List.range n).map fun i => Config.bootRom (start + i)
    else if unitSrc u = 0x13 then slice ((List.range 512).flatMap (otpBytes s)) start n
    else (List.range n).map (byteAt ext)

/-- START + LENGTH exceeds the region's size (R157). -/
def scanClipped (u : ChkUnit) (s : State) : Bool := decide (regionSize (unitSrc u) s < u.start.toNat + u.length.toNat)

/-- A scan met an uncorrectable word (R151). -/
def metLost (errs : Upsets) (s : State) : Bool := errs.any fun e => (decodeWord e.1 e.2 s).1 == some .uncorrectable

/-- A scan reaches its last byte or its region's end (R157, R158, R164). PROGRESS is held at 0 until then, and reads 0 after an ABORT (DESIGN
CHOICE, log entry 67). -/
def scanEnds (i : Fin 8) (ext : List Byte) (errs : Upsets) (s : State) : State :=
  let u := s.chk.units[i]
  if scanning u && !u.paused then
    let lost := metLost errs s
    let clipped := scanClipped u s
    let s := wordErrors errs s
    let b := scanBytes s.chk.units[i] ext s
    finishUnit i (modUnit i (fun u =>
      feedUnit b { u with progress := BitVec.ofNat 32 b.length, ue := lost, clipped := clipped }) s)
  else s

/-- The unit's configuration is locked (R163). -/
def unitLocked (i : Fin 8) (u : ChkUnit) : Bool := u.arm || (i == 7 && u.mgtOwn)

/-- A write to CFG: a bad WIDTH keeps its field (R161). -/
def writeUnitCfg (i : Fin 8) (w : Word) (s : State) : State :=
  let u := s.chk.units[i]
  if unitLocked i u then countIgnored s
  else
    let width := w.toNat % 128
    let bad := width == 0 || decide (64 < width)
    let v := w &&& 0x00FF7FFF
    modUnit i (fun u => { u with
      cfg := if bad then (v &&& 0xFFFFFF80) ||| (u.cfg &&& 0x7F) else v
      armBad := u.armBad || bad }) s

/-- A running scan is paused at L = 1 and resumed below it (R152, R164). -/
def pauseUnit (level : Nat) (u : ChkUnit) : ChkUnit :=
  if scanning u then { u with paused := level == 64 } else u

/-- The throttle stops and resumes scans (R152, R164). -/
def pauseScans (s : State) : State :=
  { s with chk := { s.chk with units := s.chk.units.map (pauseUnit s.thm.level) } }

/-! ## The fixed checkers (R144) -/

/-- The ingress checker of a channel is out of service: the channel is DISABLED. Its descriptors are dropped unretired and its outstanding
requests abandoned, as at a stop, and no document is marked (DESIGN CHOICE, log entry 68). -/
def retireChannel (s : State) (ch : Chan) : State :=
  if s.chk.fixedIng.getLsbD ch.val then
    let s := dropPartial ch (tapCut (tapChan ch) s)
    let d := s.dma[ch]
    setDma ch { d with
      enable := false, state := .disabled, cur := none, ahead := none, reqs := [], dropped := abandoned d, refetching := none } s
  else s

/-- The fixed checkers have been run against the vectors of R42. -/
def fixedTest (ing : BitVec 20) (egr : BitVec 16) (s : State) : State :=
  let s := { s with chk := { s.chk with fixedIng := ing, fixedEgr := egr } }
  let s := (List.finRange 20).foldl retireChannel s
  let n := popCount ing + popCount egr
  if n = 0 then s else countClassN Cls.chkSelftest n (raise Src.chkSelftest s)

end Sys2Proof.Machine
end

