-- ==== Sys2Proof/Machine/Thermal.lean ====
section
/-! DEFINITION. Thermal management (R368 to R383): the 1 ms update, throttle, sensor failure and its model, and the thermal
record. -/

namespace Sys2Proof.Machine

/-- Change the thermal block. -/
def modThm (f : Thm → Thm) (s : State) : State := { s with thm := f s.thm }

/-- A THM error flag. -/
def thmErr (i : Nat) (s : State) : State := modThm (fun t => { t with err := setBit t.err i }) s

/-- A first-order filter's next value, between its old value and its input (R369, R379). -/
def filterStep (tau avg x : Nat) : Nat := max (min avg x) (min (max avg x) (Config.lowPass tau avg x))

/-- Rise in 1/16 °C of a power in µW through a resistance in 0.1 °C/W. -/
def riseOf (theta power : Nat) : Int := heldQuot (16 * theta * power) 10000000

/-- TAU_M in s, TAU_DD in 0.1 s, THETA_M and THETA_DD in 0.1 °C/W. -/
def tauM (t : Thm) : Nat := t.modelCfg.toNat / 16777216
/-- TAU_DD. -/
def tauDd (t : Thm) : Nat := (t.modelCfg.toNat / 65536) % 256
/-- THETA_M. -/
def thetaM (t : Thm) : Nat := (t.modelCfg.toNat / 256) % 256
/-- THETA_DD. -/
def thetaDd (t : Thm) : Nat := t.modelCfg.toNat % 256

/-- The plausibility test (R368): voltages in 0.1 mV, temperatures in 1/16 °C. -/
def plausible (rd : ThmIn) : Bool :=
  decide (2000 ≤ rd.vf) && decide (rd.vf ≤ 9000) && decide ((rd.tForward - rd.tLogic).natAbs ≤ 80) &&
  decide (-960 ≤ rd.tLogic) && decide (rd.tLogic ≤ 2800)

/-- A THERMAL log record (R453). -/
def logThermal (aux : Nat) (s : State) : State :=
  pushLog 0x0D (BitVec.ofNat 8 aux) (toLe 2 (BitVec.ofInt 16 s.thm.tCtl).toNat ++ toLe 1 s.pwr.shutdowns.toNat) s

/-- The measured powers and their filters (R369, R379). -/
def takePower (rd : ThmIn) (t : Thm) : Thm :=
  let drive := rd.pVdrv + rd.pBridge
  { t with package := rd.pPackage, drive := drive
           driveAvg := filterStep (tauDd t * 100) t.driveAvg (drive * 1000)
           packageAvg := filterStep (tauM t * 1000) t.packageAvg (rd.pPackage * 1000) }

/-- The sensor fails (R378). In a SAFE_HOLD of another reason it sets its flags and changes nothing else: level, admission and T_logic stay
(R381; DEDUCED, log entry 92). -/
def sensorFails (s : State) : State :=
  if s.top.state = .safeHold then
    raise Src.thmSensorFail (modThm (fun t => { t with sensorFail := true, resume := false, passRun := 0, err := setBit t.err 1 }) s)
  else
  let s := modThm (fun t => { t with
    sensorFail := true, modelActive := true, resume := false, passRun := 0, hold := true, level := 64
    err := setBit t.err 1, sensorFails := satInc t.sensorFails }) s
  logThermal 2 (raise Src.thmSensorFail s)

/-- A trim of an RC oscillator at a diode reading (R384). -/
def rcTrimOf (fast : Bool) (t : Int) (s : State) : Word := Config.rcTrim fast s.pwr.rcCoef.1 s.pwr.rcCoef.2 t

/-- Both RC oscillators are trimmed at a plausible diode reading, and keep their trims while the sensor counts as failed (R384). -/
def trimBoth (t : Int) (s : State) : State :=
  if s.thm.sensorFail then s
  else { s with thm := { s.thm with rcFast := rcTrimOf true t s }, pwr := { s.pwr with rcTrim := rcTrimOf false t s } }

/-- The reading and its plausibility test (R368). -/
def takeReading (rd : ThmIn) (s : State) : State :=
  if plausible rd then
    trimBoth rd.tLogic (modThm (fun t => { t with
      plausible := rd.tLogic, plausPower := rd.pPackage * 1000, failRun := 0, passRun := t.passRun + 1 }) s)
  else
    let s := modThm (fun t => { t with
      err := setBit t.err 0, plausFails := satInc t.plausFails, failRun := t.failRun + 1, passRun := 0 }) s
    let s := countClass Cls.thmSensor s
    if s.thm.failRun = 3 ∧ !s.thm.sensorFail then sensorFails s else s

/-- T_logic or its stand-in, T_drive, T_ctl and the peak (R369, R379). -/
def takeTemps (t : Thm) : Thm :=
  let model := t.plausible + riseOf (thetaM t) (t.packageAvg - t.plausPower)
  let logic := if t.modelActive then model else t.plausible
  let drive := logic + riseOf (thetaDd t) t.driveAvg
  let ctl := max logic drive
  { t with tLogic := logic, tDrive := drive, tCtl := ctl, tModel := if t.modelActive then model else 0
           peak := some (match t.peak with | some p => max p ctl | none => ctl) }

/-- 64 × L from T_ctl while the throttle flag is set (R371). -/
def levelOf (tCtl : Int) : Nat := (max 0 (min 64 ((tCtl - 2000) * 64 / 240))).toNat

/-- The thresholds of R370. -/
def applyThresholds (s : State) : State :=
  let t := s.thm
  let warn := decide (1840 ≤ t.tCtl) || (t.warn && decide (1760 < t.tCtl))
  let thr := decide (2000 ≤ t.tCtl) || (t.throttle && decide (1920 < t.tCtl))
  let level := if t.modelActive then 64 else if thr then levelOf t.tCtl else 0
  let hold := level == 64 || (t.hold && (t.modelActive || decide (2160 < t.tCtl)))
  let s := modThm (fun t => { t with warn := warn, throttle := thr, level := level, hold := hold }) s
  let s := if warn && !t.warn then raise Src.thmWarn s else s
  let s := if thr && !t.throttle then raise Src.thmThrottle s else s
  pauseScans s

/-- Documents in progress. -/
def progressDocs (s : State) : List Doc := s.docs.filter fun d => d.admitted

/-- Lowest line of a document that has not fired in full on some port: a lag column fires its lines n loads later (R210, R377). -/
def firstUnfired (d : Doc) (s : State) : Nat :=
  (portsOf d.mask).foldl (fun n p => min n (d.ports[p].passed - (docLag d p s).2.1)) d.lineCount

/-- The states from which R380 takes the device to SAFE_HOLD: those of a device that has started and is awake. -/
def awake : DevState → Bool
  | .ready | .gap | .print | .maint | .calib | .thermalHold => true
  | _ => false

/-- Change the device state: THM_HOLD is raised where THERMAL_HOLD is entered or left (R373). -/
def goQuiet (st : DevState) (s : State) : State :=
  let s := if (s.top.state == .thermalHold) != (st == .thermalHold) then raise Src.thmHold s else s
  setState st s

/-- SAFE_HOLD because the model reached 140 °C (R380). -/
def modelHold (s : State) : State :=
  if s.thm.modelActive && decide (2240 ≤ s.thm.tCtl) && awake s.top.state then
    let s := (progressDocs s).foldl (fun s d => markDoc d.id 0x09 0 (firstUnfired d s) s) s
    goQuiet .safeHold (thmErr 5 s)
  else s

/-- The sensor counts as good again (R381). -/
def sensorRecovers (s : State) : State :=
  let t := s.thm
  if t.sensorFail && decide (1000 ≤ t.passRun) && decide (t.tCtl ≤ 2160) && (!isLasting Cls.thmSensor s || t.resume) then
    let s := modThm (fun t => { t with sensorFail := false, modelActive := false, tModel := 0 }) s
    logThermal 3 (applyThresholds (modThm takeTemps s))
  else s

/-- A full trigger is due, and takes a due partial one with it (R391). -/
def dueFullAt (t : Nat) (k : Cal) : Cal := { k with dueFull := some (k.dueFull.getD t), duePart := none, exitFull := false }

/-- A calibration trigger arises (R391): absorbed by a running calibration of its kind or a full one, and a full one during a partial
calibration waits for the exit. -/
def calTrigger (full : Bool) (s : State) : State :=
  { s with cal := match s.cal.running with
    | some true => s.cal
    | some false => { s.cal with exitFull := s.cal.exitFull || full }
    | none =>
      if full then dueFullAt s.now s.cal
      else if s.cal.dueFull.isSome then s.cal
      else { s.cal with duePart := some (s.cal.duePart.getD s.now) } }

/-- The running calibration is over: a trigger that waited for the exit is due (R391). -/
def exitCal (t : Nat) (k : Cal) : Cal :=
  let k := { k with running := none }
  if k.exitFull then dueFullAt t k else k

/-- The temperature trigger of R390. -/
def tempTrigger (s : State) : State :=
  let c := s.cal
  let delta := (c.cfg.toNat / 256) % 32
  if c.cfg.getLsbD 25 && !s.thm.sensorFail && c.count != 0 && decide (16 * delta ≤ (s.thm.tCtl - c.tempFull).natAbs) then calTrigger true s
  else s

/-- The 1 ms update (R368 to R373, R378 to R381). -/
def thermalUpdate (rd : ThmIn) (s : State) : State :=
  let s := takeReading rd (modThm (takePower rd) s)
  let s := applyThresholds (modThm takeTemps s)
  tempTrigger (modelHold (sensorRecovers s))

/-- SENSOR_RESUME (R381): a sensor that meets the other conditions counts as good at once. -/
def resumeSensor (s : State) : State := sensorRecovers (modThm (fun t => { t with resume := true }) s)

/-- PEAK_CLR (R385). -/
def clearPeak (s : State) : State := modThm (fun t => { t with peak := none }) s

/-- Rewrite the thermal record (R377). -/
def rewriteThermal (s : State) : State :=
  let l := progressDocs s
  { s with pwr := { s.pwr with
    thermCount := l.length
    thermDocs := (l.take 4).map fun d => ⟨d.id, BitVec.ofNat 24 (firstUnfired d s)⟩ } }

/-- A class has taken ACTION 2 and has not been cleared (R472, R473). -/
def lastingHold (s : State) : Bool := s.evt.actDue != 0

/-- What keeps the device in SAFE_HOLD: a failed sensor (R378), a lasting class with ACTION 2 (R473), the engines (R314). -/
def mustHold (s : State) : Bool := s.thm.sensorFail || lastingHold s || s.sup.engSafeHold

/-- The state of a device that no document, maintenance or calibration occupies (R373, R378, R423, R473). -/
def quietState (s : State) : DevState :=
  if mustHold s then .safeHold else if s.thm.hold then .thermalHold else restState s

/-- Enter the state that a device goes to when it leaves PRINT, MAINT, CALIB or SAFE_HOLD. -/
def enterRest (s : State) : State := goQuiet (quietState s) s

end Sys2Proof.Machine
end

