-- ==== Sys2Proof/Machine/Calib.lean ====
section
/-! DEFINITION. Calibration (R386 to R395): triggers, runs, limits and the movement of trims. -/

namespace Sys2Proof.Machine

/-- Change the calibration block. -/
def modCal (f : Cal → Cal) (s : State) : State := { s with cal := f s.cal }

/-- Item of R395 that a trim entry belongs to; none for an unused entry. -/
def itemOf (i : Nat) : Option Nat :=
  if i = 0 then some 0 else if i = 1 then some 1 else if i = 2 then some 2
  else if i < 7 then some 3 else if i < 11 then some 4 else if i < 16 then none
  else if i < 32 then some 5 else if i < 48 then some 6 else some 7

/-- The output of a trim is in use (R394). -/
def trimInUse (i : Nat) (s : State) : Bool :=
  if i < 3 then true
  else if i < 7 then (s.hdv.rails.toList.getD (i - 3) {}).state != .off
  else if i < 11 then (s.mot.axes.toList.getD (i - 7) {}).bridge != .off
  else if i < 16 then false
  else (s.hdv.ports.toList.getD (i % 16) {}).gate

/-- The entry is measured in this calibration (R386, R389, R390). -/
def measured (full : Bool) (i : Nat) (s : State) : Bool :=
  match itemOf i with
  | some 0 | some 6 => true
  | some 1 => full && !s.thm.sensorFail
  | some 3 | some 4 => full && trimInUse i s
  | some _ => full
  | none => false

/-- A new code passes the limit of R392. -/
def codeOk (factory : BitVec 12) (c : Int) : Bool :=
  decide (0 ≤ c) && decide (c ≤ 4095) && decide ((c - factory.toNat).natAbs ≤ 256)

/-- The measurements of a run on entries that it measures. -/
def codesOf (full : Bool) (rd : CalIn) (s : State) : List (Fin 64 × Int) :=
  rd.codes.filterMap fun t =>
    if h : t.1 < 64 then if measured full t.1 s then some (⟨t.1, h⟩, t.2) else none else none

/-- IREF fails (R392). -/
def irefFails (l : List (Fin 64 × Int)) (s : State) : Bool :=
  l.any fun (t : Fin 64 × Int) => t.1 == 0 && !codeOk s.cal.factory[t.1] t.2

/-- Post one target (R394): at once at a start or where the output is not in use. -/
def postTrim (start : Bool) (i : Fin 64) (c : Int) (s : State) : State :=
  let v := BitVec.ofInt 12 c
  let old := s.cal.trim[i]
  modCal (fun k => { k with
    trim := k.trim.set i.val { target := v, now := if start || !trimInUse i.val s then v else old.now } i.isLt }) s

/-- An item fails (R392). -/
def failItem (item : Nat) (s : State) : State :=
  let s := modCal (fun k => { k with itemFail := setBit k.itemFail item, err := setBit k.err 1 }) s
  countClass Cls.calFail (raise Src.calFail s)

/-- Post or fail one measured entry. -/
def takeCode (start : Bool) (s : State) (t : Fin 64 × Int) : State :=
  if codeOk s.cal.factory[t.1] t.2 then postTrim start t.1 t.2 s
  else match itemOf t.1.val with
    | some n => failItem n s
    | none => s

/-- The step delays of INTERP are increasing, with a span within 10 % of 1.875 ns (R392). -/
def interpOk (l : List Nat) : Bool :=
  decide (l.length = 16) && ((l.zip (l.drop 1)).all fun t => decide (t.1 < t.2)) &&
  decide (6750 ≤ l.getD 15 0 - l.getD 0 0) && decide (l.getD 15 0 - l.getD 0 0 ≤ 8250)

/-- The new INTERP table, as delays after step 0. -/
def takeInterp (l : List Nat) (s : State) : State :=
  if interpOk l then
    modCal (fun k => { k with interp := Vector.ofFn fun i => BitVec.ofNat 13 (l.getD i.val 0 - l.getD 0 0) }) s
  else failItem 8 s

/-- A CAL log record (R453). -/
def logCal (full : Bool) (s : State) : State :=
  pushLog 0x0C (BitVec.ofNat 8 (b2n full)) (toLe 4 s.cal.count.toNat ++ toLe 2 s.cal.itemFail.toNat ++
    toLe 2 (BitVec.ofInt 16 s.thm.tCtl).toNat) s

/-- A full calibration takes the BOARDCAL section into use; without one, nothing is corrected (R449). -/
def takeBoard (k : Cal) : Cal :=
  { k with calres := (le32 k.board 0).toInt, railCorr := Vector.ofFn fun i => (le16 k.board (4 + 2 * i.val)).toInt }

/-- The results of a calibration (R389, R392, R144). -/
def takeResults (start full : Bool) (rd : CalIn) (s : State) : State :=
  let s := modCal (fun k => { k with itemFail := 0 }) s
  let l := codesOf full rd s
  let s := if irefFails l s then failItem 0 (modCal (fun k => { k with err := setBit k.err 0 }) s)
    else takeInterp rd.interp (l.foldl (takeCode start) s)
  if full then
    let s := fixedTest rd.ingFail rd.egrFail (modCal takeBoard s)
    if rd.ingFail = 0 ∧ rd.egrFail = 0 then s else failItem 9 s
  else s

/-- Times after the reference at which a calibration posts its results and at which it ends, in µs (R389). -/
def calTimes (full : Bool) : Nat × Nat := if full then (2300, 2400) else (280, 300)

/-- A trim is moving. -/
def trimsMove (s : State) : Bool := s.cal.trim.toList.any fun t => t.now != t.target

/-- Every port takes its echo baseline afresh at its first load after a calibration (R388). -/
def freshBases (s : State) : State :=
  { s with hdv := { s.hdv with ports := s.hdv.ports.map fun h => { h with afresh := true } } }

/-- A calibration posts its results and completes (R389, R391). The stamp of LAST_TIME is that of the end (R395, log entry 52); trims
that still move keep their step timing (R394). -/
def finishCal (start full : Bool) (rd : CalIn) (s : State) : State :=
  let t0 := s.cal.startAt
  let moving := trimsMove s
  let s := takeResults start full rd (advanceTo (t0 + usGrid (calTimes full).1) s)
  let s := modCal (fun k => { k with
    lastFull := full, count := k.count + 1
    tempAny := s.thm.tCtl, tempFull := if full then s.thm.tCtl else k.tempFull }) s
  let s := advanceTo (t0 + usGrid (calTimes full).2) s
  let s := modCal (fun k => { k with
    lastAt := s.now, lastTime := rtcNow s
    stepAt := if moving then k.stepAt else s.now + usGrid 64 }) s
  let s := modCal (exitCal s.now) s
  logCal full (freshBases (retargetAll (raise Src.calDone s)))

/-- A calibration starts in CALIB (R391): one run for every trigger that is due, a full one if any of them is. It is not that of an
activation. -/
def startCal (full : Bool) (s : State) : State :=
  let s := { s with mgt := { s.mgt with calRun := false } }
  setState .calib (modCal (fun k => { k with
    running := some (full || k.dueFull.isSome), startAt := s.now, duePart := none, dueFull := none, overdue := false }) s)

/-- PERIOD has passed since the last calibration (R390). -/
def calPeriod (s : State) : State :=
  if s.cal.cfg.getLsbD 24 then
    let s := advanceTo (s.cal.lastAt + msGrid (60000 * (s.cal.cfg.toNat % 256))) s
    calTrigger false (modCal (fun k => { k with lastAt := s.now }) s)
  else s

/-- The trigger that is due: a full one first. -/
def dueKind (s : State) : Option Bool :=
  if s.cal.dueFull.isSome then some true else if s.cal.duePart.isSome then some false else none

/-- A due calibration runs at the first quiet clock (R391). -/
def calDue (s : State) : State :=
  match dueKind s with
  | some full =>
    if (s.top.state = .ready ∨ s.top.state = .gap) ∧ !docInProgress s ∧ fwRuns s ∧ s.tpt.deferCal.isNone then startCal full s
    else s
  | none => s

/-- Every moving trim steps (R394). -/
def stepTrim (t : Trim) : Trim :=
  if t.now.toNat < t.target.toNat then { t with now := t.now + 1 }
  else if t.target.toNat < t.now.toNat then { t with now := t.now - 1 } else t

/-- The 64 µs step of the trims (R394). -/
def trimStep (s : State) : State :=
  if trimsMove s then
    let s := advanceTo s.cal.stepAt s
    modCal (fun k => { k with trim := k.trim.map stepTrim, stepAt := s.now + usGrid 64 }) s
  else s

/-- A reset or shut-down during a calibration discards what was not posted (R393). -/
def discardCal (running : Bool) (k : Cal) : Cal := if running then { k with err := setBit k.err 2 } else k

/-- A running calibration is given up: what it has not posted is discarded, and a trigger that waited for its exit is due (R391, R393). -/
def giveUpCal (s : State) : State := modCal (fun k => exitCal s.now (discardCal true k)) s

end Sys2Proof.Machine
end

