-- ==== Sys2Proof/Machine/Sha.lean ====
section
/-! DEFINITION. SHA-256 (FIPS 180-4), which R397, R408, R412 and R447 name. -/

namespace Sys2Proof.Machine

/-- The largest `r` below `2^bits` with `(acc + r)^k` at most `x`, added to `acc`: an integer root, one bit
of it at a time. -/
def rootFloor (k x : Nat) : Nat → Nat → Nat
  | 0, acc => acc
  | bits + 1, acc =>
    let next := acc + 2 ^ bits
    rootFloor k x bits (if next ^ k ≤ x then next else acc)

/-- The primes up to 311, of which FIPS 180-4 names the first 64. -/
def shaPrimes : List Nat :=
  (List.range 312).filter fun p =>
    decide (2 ≤ p) && (List.range 16).all fun d => decide (p < (d + 2) * (d + 2)) || p % (d + 2) != 0

/-- The first 32 bits of the fractional part of the `k`-th root of a prime. -/
def rootFraction (k p : Nat) : Word := BitVec.ofNat 32 (rootFloor k (p * 2 ^ (32 * k)) 38 0)

/-- The round constants: cube roots of the first 64 primes. -/
def shaK : List Word := shaPrimes.map (rootFraction 3)

/-- The initial hash value: square roots of the first eight primes. -/
def shaInit : List Word := (shaPrimes.take 8).map (rootFraction 2)

/-- Rotate right. -/
def rotr (w : Word) (k : Nat) : Word := w.rotateRight k

/-- A big-endian word. -/
def be32 (l : List Byte) (off : Nat) : Word :=
  BitVec.ofNat 32 (((byteAt l off).toNat * 16777216) + ((byteAt l (off + 1)).toNat * 65536) +
    ((byteAt l (off + 2)).toNat * 256) + (byteAt l (off + 3)).toNat)

/-- The bytes of a word, most significant first. -/
def toBe (w : Word) : List Byte := (toLe 4 w.toNat).reverse

/-- The message schedule, newest word first, extended by `n` words. -/
def shaExtend : Nat → List Word → List Word
  | 0, w => w
  | n + 1, w =>
    let a := w.getD 1 0
    let b := w.getD 14 0
    let s1 := rotr a 17 ^^^ rotr a 19 ^^^ (a >>> 10)
    let s0 := rotr b 7 ^^^ rotr b 18 ^^^ (b >>> 3)
    shaExtend n ((s1 + w.getD 6 0 + s0 + w.getD 15 0) :: w)

/-- One round on the eight working words. -/
def shaRound (v : List Word) (kw : Word × Word) : List Word :=
  let a := v.getD 0 0
  let e := v.getD 4 0
  let s1 := rotr e 6 ^^^ rotr e 11 ^^^ rotr e 25
  let ch := (e &&& v.getD 5 0) ^^^ (~~~e &&& v.getD 6 0)
  let t1 := v.getD 7 0 + s1 + ch + kw.1 + kw.2
  let s0 := rotr a 2 ^^^ rotr a 13 ^^^ rotr a 22
  let maj := (a &&& v.getD 1 0) ^^^ (a &&& v.getD 2 0) ^^^ (v.getD 1 0 &&& v.getD 2 0)
  [t1 + s0 + maj, a, v.getD 1 0, v.getD 2 0, v.getD 3 0 + t1, e, v.getD 5 0, v.getD 6 0]

/-- One block of 64 bytes. -/
def shaBlock (h : List Word) (b : List Byte) : List Word :=
  let w := (shaExtend 48 ((List.range 16).map fun i => be32 b (4 * i)).reverse).reverse
  let v := (shaK.zip w).foldl shaRound h
  (h.zip v).map fun t => t.1 + t.2

/-- `n` blocks of a padded message. -/
def shaBlocks : Nat → List Word → List Byte → List Word
  | 0, h, _ => h
  | n + 1, h, l => shaBlocks n (shaBlock h (l.take 64)) (l.drop 64)

/-- Padding to whole blocks: 0x80, zeros, and the length in bits as a big-endian 64-bit number. -/
def shaPad (l : List Byte) : List Byte :=
  l ++ [0x80#8] ++ List.replicate ((119 - l.length % 64) % 64) 0 ++ (toLe 8 (8 * l.length)).reverse

/-- SHA-256 of a byte stream. -/
def sha256 (l : List Byte) : List Byte :=
  let p := shaPad l
  (shaBlocks (p.length / 64) shaInit p).flatMap toBe

end Sys2Proof.Machine
end

