-- ==== Sys2Proof/Machine/Ecdsa.lean ====
section
/-! DEFINITION. ECDSA over the curve P-256 (FIPS 186), which R412 names. Points are in Jacobian coordinates: (x, y, z) stands for
(x / z², y / z³), and z = 0 for the point at infinity. -/

namespace Sys2Proof.Machine

/-- The prime of the field. -/
def ecP : Nat := 0xffffffff00000001000000000000000000000000ffffffffffffffffffffffff

/-- The order of the base point. -/
def ecN : Nat := 0xffffffff00000000ffffffffffffffffbce6faada7179e84f3b9cac2fc632551

/-- The constant term of the curve. -/
def ecB : Nat := 0x5ac635d8aa3a93e7b3ebbd55769886bc651d06b0cc53b0f63bce3c3e27d2604b

/-- A point. -/
abbrev EcPoint := Nat × Nat × Nat

/-- The base point. -/
def ecG : EcPoint :=
  (0x6b17d1f2e12c4247f8bce6e563a440f277037d812deb33a0f4a13945d898c296,
   0x4fe342e2fe1a7f9b8ee7eb4a7c0f9e162bce33576b315ececbb6406837bf51f5, 1)

/-- The bits of a 256-bit number, the highest first. -/
def bitsDown (k : Nat) : List Bool := (List.range 256).map fun i => k.testBit (255 - i)

/-- b ^ e modulo m. -/
def powMod (b e m : Nat) : Nat := (bitsDown e).foldl (fun a t => let q := a * a % m; if t then q * b % m else q) 1

/-- Twice a point, on a curve with a = −3. -/
def ecDouble (u : EcPoint) : EcPoint :=
  let x := u.1
  let y := u.2.1
  let z := u.2.2
  let d := z * z % ecP
  let g := y * y % ecP
  let b := x * g % ecP
  let a := 3 * (x + ecP - d) * (x + d) % ecP
  let x' := (a * a + 8 * (ecP - b)) % ecP
  (x', (a * (4 * b + ecP - x') + 8 * (ecP - g) * g) % ecP, 2 * y * z % ecP)

/-- The sum of two points. -/
def ecAdd (u v : EcPoint) : EcPoint :=
  if u.2.2 = 0 then v
  else if v.2.2 = 0 then u
  else
    let zu := u.2.2 * u.2.2 % ecP
    let zv := v.2.2 * v.2.2 % ecP
    let xu := u.1 * zv % ecP
    let xv := v.1 * zu % ecP
    let yu := u.2.1 * (v.2.2 * zv) % ecP
    let yv := v.2.1 * (u.2.2 * zu) % ecP
    let h := (xv + ecP - xu) % ecP
    let r := (yv + ecP - yu) % ecP
    if h = 0 then (if r = 0 then ecDouble u else (1, 1, 0))
    else
      let h2 := h * h % ecP
      let h3 := h * h2 % ecP
      let w := xu * h2 % ecP
      let x := (r * r + (ecP - h3) + 2 * (ecP - w)) % ecP
      (x, (r * (w + ecP - x) + (ecP - yu) * h3) % ecP, h * u.2.2 * v.2.2 % ecP)

/-- k times a point. -/
def ecMul (k : Nat) (u : EcPoint) : EcPoint :=
  (bitsDown k).foldl (fun a t => let d := ecDouble a; if t then ecAdd d u else d) (1, 1, 0)

/-- The number that bytes spell, the highest first. -/
def beNum (l : List Byte) : Nat := l.foldl (fun a b => 256 * a + b.toNat) 0

/-- The point lies on the curve. -/
def onCurve (x y : Nat) : Bool :=
  decide (x < ecP) && decide (y < ecP) && y * y % ecP == (x * x * x + 3 * (ecP - x) + ecB) % ecP

/-- The signature r then s verifies over the digest under the key X then Y, all big-endian (R412, R447). -/
def ecdsaVerify (key digest sig : List Byte) : Bool :=
  let x := beNum (slice key 0 32)
  let y := beNum (slice key 32 32)
  let r := beNum (slice sig 0 32)
  let s := beNum (slice sig 32 32)
  let w := powMod s (ecN - 2) ecN
  let q := ecAdd (ecMul (beNum digest * w % ecN) ecG) (ecMul (r * w % ecN) (x, y, 1))
  let zi := powMod q.2.2 (ecP - 2) ecP
  onCurve x y && decide (1 ≤ r) && decide (r < ecN) && decide (1 ≤ s) && decide (s < ecN) &&
  q.2.2 != 0 && q.1 * (zi * zi) % ecP % ecN == r

end Sys2Proof.Machine
end

