-- ==== Sys2Proof/Machine/Otp.lean ====
section
/-! DEFINITION. The fuse array: statuses (R399), spare entries (R401), refusals (R403), burns (R404, R405), locks (R407 to R410), keys,
floors and image policy (R411 to R414). -/

namespace Sys2Proof.Machine

/-- Change the fuse block. -/
def modOtp (f : Otp → Otp) (s : State) : State := { s with otp := f s.otp }

/-- An OTP error flag. -/
def otpErr (i : Nat) (s : State) : State := modOtp (fun o => { o with err := setBit o.err i }) s

/-! ## Cells and statuses -/

/-- The cells of a word. -/
def cellsOf (w : Nat) (l : List FuseRead) : FuseRead :=
  match l.find? fun c => c.word == w with
  | some c => c
  | none => ⟨w, 0, 0, 0⟩

/-- The cells of a word replaced. -/
def putCells (c : FuseRead) (l : List FuseRead) : List FuseRead :=
  insertBy (fun x => x.word) c (l.filter fun x => x.word != c.word)

/-- A blank word (R398). -/
def isBlank (c : FuseRead) : Bool := c.normal == 0 && c.low == 0 && c.high == 0

/-- A void word (R398). -/
def isVoid (c : FuseRead) : Bool := decide (76 ≤ popCount (c.normal &&& c.low &&& c.high))

/-- The three raw reads are equal. -/
def sameReads (c : FuseRead) : Bool := c.normal == c.low && c.normal == c.high

/-- The three reads' common corrected value. -/
def correctedOf (c : FuseRead) : Option DWord :=
  match eccDecode c.normal, eccDecode c.low, eccDecode c.high with
  | some a, some b, some d => if a.1 = b.1 ∧ a.1 = d.1 then some a.1 else none
  | _, _, _ => none

/-- The word is named by a burn journal that explains every cell set (R399). -/
def journalNames (c : FuseRead) (j : Option Journal) : Bool :=
  match j with
  | some j => j.word.toNat == c.word && (c.normal ||| c.low ||| c.high) &&& ~~~j.code == 0
  | none => false

/-- Words that a spare entry may replace (R401). -/
def sparable (w : Nat) : Bool :=
  (decide (128 ≤ w) && decide (w ≤ 159)) || w == 184 || w == 191 || (decide (192 ≤ w) && decide (w ≤ 447))

/-- Data of a word that is GOOD or WEAK; none otherwise. -/
def soundValue (c : FuseRead) : Option DWord := if isBlank c || isVoid c then none else correctedOf c

/-- Target of a well-formed tag (R401). -/
def tagTarget (v : DWord) : Option Nat :=
  let w := v.toNat % 512
  if v = 0xA5C3000000000000#64 + BitVec.ofNat 64 w ∧ sparable w then some w else none

/-- Target and data of spare entry `e`, if it is valid. -/
def spareEntry (l : List FuseRead) (e : Nat) : Option (Nat × DWord) :=
  match soundValue (cellsOf (448 + 2 * e) l), soundValue (cellsOf (449 + 2 * e) l) with
  | some t, some d => (tagTarget t).map fun w => (w, d)
  | _, _ => none

/-- Data of the valid spare entry with the highest number that names `w`. -/
def sparedData (w : Nat) (l : List FuseRead) : Option DWord :=
  ((List.range 32).reverse.filterMap (spareEntry l)).findSome? fun t => if t.1 = w then some t.2 else none

/-- A spare entry is free (R401). -/
def spareFree (l : List FuseRead) (e : Nat) : Bool :=
  isBlank (cellsOf (448 + 2 * e) l) && isBlank (cellsOf (449 + 2 * e) l)

/-- STAT.SPARES_FREE. -/
def sparesFree (l : List FuseRead) : Nat := ((List.range 32).filter (spareFree l)).length

/-- Lowest free spare entry from `from_` on. -/
def nextSpare (from_ : Nat) (l : List FuseRead) : Option Nat :=
  (List.range 32).find? fun e => decide (from_ ≤ e) && spareFree l e

/-- Status and logical value of a word (R399); none for BLANK. -/
def wordStatus (l : List FuseRead) (j : Option Journal) (c : FuseRead) : Option (WordStat × DWord) :=
  if isBlank c then none
  else if isVoid c then some (.void, 0)
  else if journalNames c j then some (.incomplete, 0)
  else match sparedData c.word l with
    | some d => some (.spared, d)
    | none => match correctedOf c with
      | some v => some (if sameReads c then .good else .weak, v)
      | none => some (.ambiguous, 0)

/-- The stored status of a word; none for BLANK. -/
def statOf (w : Nat) (o : Otp) : Option WordStat := (o.status.find? fun t => t.1 == w).map fun t => t.2

/-- Code of a status (R399). -/
def statCode : Option WordStat → Nat
  | none => 0 | some .good => 1 | some .weak => 2 | some .void => 3 | some .incomplete => 4 | some .spared => 5
  | some .ambiguous => 6

/-- Logical value in use of a word. -/
def fuseValue (w : Nat) (o : Otp) : DWord :=
  match o.values.find? fun t => t.1 == w with
  | some t => t.2
  | none => 0

/-- A value in use replaced. -/
def putValue (w : Nat) (v : DWord) (o : Otp) : Otp :=
  { o with values := (w, v) :: o.values.filter fun t => t.1 != w }

/-- Statuses of R399 of every word. A DEBUG_LOCK that is not BLANK closes debug access for good (R415). -/
def restat (j : Option Journal) (o : Otp) : Otp :=
  { o with
    status := o.cells.filterMap fun c => (wordStatus o.cells j c).map fun t => (c.word, t.1)
    debugClosed := o.debugClosed || !isBlank (cellsOf 185 o.cells) }

/-! ## Lock fuses (R396, R399, R407) -/

/-- Majority of three cells. -/
def majority (b : BitVec 3) : Bool := decide (2 ≤ popCount b)

/-- The fuse reads set. -/
def fuseSet (l : LockRead) : Bool := majority l.normal

/-- The fuse reads differently at different levels. -/
def fuseAmbiguous (l : LockRead) : Bool := majority l.normal != majority l.low || majority l.normal != majority l.high

/-- The lock fuses as they read take effect. -/
def useLocks (o : Otp) : Otp :=
  { o with lockUse := (List.finRange 6).foldl (fun v f => putBit v f.val (fuseSet o.locks[f])) 0 }

/-- Values in use of every word, and the lock fuses in use. -/
def revalue (j : Option Journal) (o : Otp) : Otp :=
  useLocks { o with values := o.cells.filterMap fun c => (wordStatus o.cells j c).map fun t => (c.word, t.2) }

/-- Its cells disagree, but their majority does not. -/
def fuseWeak (l : LockRead) : Bool :=
  !fuseAmbiguous l && !(l.normal == l.low && l.normal == l.high && (l.normal == 0 || l.normal == 7))

/-- Lock fuse A (`false`) or B of region 0 factory, 1 security, 2 customer. -/
def lockFuse (region : Nat) (b : Bool) (o : Otp) : LockRead :=
  o.locks.toList.getD (2 * region + b2n b) ⟨0, 0, 0, 0⟩

/-- The region is locked (R407), by the lock fuses in use. -/
def regionLocked (region : Nat) (o : Otp) : Bool := o.lockUse.getLsbD (2 * region) && o.lockUse.getLsbD (2 * region + 1)

/-- Region of a word; none for a spare word (R397). -/
def regionOf (w : Nat) : Option Nat :=
  if w < 128 then some 0 else if w < 192 then some 1 else if w < 448 then some 2 else none

/-- Append-only words (R397). -/
def appendOnly (w : Nat) : Bool := (decide (160 ≤ w) && decide (w ≤ 183)) || w == 185

/-- The word lies in a locked region. -/
def inLocked (w : Nat) (o : Otp) : Bool := match regionOf w with | some r => regionLocked r o | none => false

/-! ## Check words (R408) -/

/-- Covered words of a region. -/
def coveredWords (region : Nat) : List Nat :=
  if region = 0 then List.range 127
  else if region = 1 then (List.range 32).map (fun i => 128 + i) ++ [184]
  else (List.range 255).map fun i => 192 + i

/-- Check word of a region. -/
def checkWordOf (region : Nat) : Nat := if region = 0 then 127 else if region = 1 then 191 else 447

/-- The check value of a region from a function that gives each word's logical value. -/
def regionCheck (region : Nat) (value : Nat → DWord) : DWord :=
  let w := coveredWords region
  le64 (sha256 (toLe 4 region ++ toLe 4 w.length ++ w.flatMap fun i => toLe 8 (value i).toNat)) 0

/-- Logical value that the cells give a word now. -/
def cellValue (o : Otp) (j : Option Journal) (w : Nat) : DWord :=
  match wordStatus o.cells j (cellsOf w o.cells) with
  | some t => t.2
  | none => 0

/-- Steps 1 and 2 of R409. -/
def lockable (region : Nat) (j : Option Journal) (o : Otp) : Bool :=
  ((checkWordOf region :: coveredWords region).all fun w =>
    match wordStatus o.cells j (cellsOf w o.cells) with
    | some (.good, _) | some (.spared, _) => true
    | _ => false) &&
  regionCheck region (cellValue o j) == cellValue o j (checkWordOf region)

/-! ## Keys, policy and floors (R411 to R415) -/

/-- KEY_HASH of a slot, 32 bytes. -/
def keyHash (slot : Nat) (o : Otp) : List Byte :=
  (List.range 4).flatMap fun i => toLe 8 (fuseValue (128 + 4 * slot + i) o).toNat

/-- The slot holds a key. -/
def keyProgrammed (slot : Nat) (o : Otp) : Bool := (keyHash slot o).any fun b => b != 0

/-- The slot is revoked (R411). -/
def keyRevoked (slot : Nat) (o : Otp) : Bool := (statOf (160 + slot) o).isSome

/-- The slot is usable (R411). -/
def keyUsable (o : Otp) (slot : Nat) : Bool := keyProgrammed slot o && !keyRevoked slot o

/-- Floor of a series: 168 firmware, 176 configuration (R414). -/
def floorOf (base : Nat) (o : Otp) : Nat := (List.range 8).foldl (fun m i => max m (fuseValue (base + i) o).toNat) 0

/-- BOOT_POLICY: an image of this kind must be signed (R412). -/
def mustSign (kolto : Bool) (o : Otp) : Bool := (fuseValue 184 o).getLsbD (b2n kolto)

/-- A floor word. -/
def isFloor (w : Nat) : Bool := decide (168 ≤ w) && decide (w ≤ 183)

/-- A PROGRAM of a floor word meets a condition of R414. -/
def floorBad (w : Nat) (v : DWord) (o : Otp) : Bool :=
  let base := if w < 176 then 168 else 176
  ((List.range 8).map fun i => base + i).find? (fun x => (statOf x o).isNone) != some w ||
  v >>> 32 != 0 || decide (v.toNat ≤ floorOf base o)

/-- DEBUG_LOCK is not BLANK, or has been so (R415): JTAG debug access to the management processor and the memories of the logic die is closed;
boundary scan and the identification register stay available. -/
def debugLocked (o : Otp) : Bool := o.debugClosed

/-! ## Refusals (R403) -/

/-- Region, 0 to 2, with a WEAK lock fuse: the first such fuse. -/
def weakFuse (region : Nat) (o : Otp) : Option (Fin 6) :=
  (List.finRange 6).find? fun f => f.val / 2 == region && fuseWeak o.locks[f]

/-- A valid journal names the word (R404, R405). -/
def journalOf (w : Nat) (s : State) : Option Journal := s.pwr.journal.filter fun j => j.word.toNat == w

/-- OP is no burn operation, or the target is not one of the operation's; `named`: a valid journal names it. -/
def badTarget (op w : Nat) (named : Bool) (o : Otp) : Bool :=
  match op with
  | 2 => decide (w < 128) || (decide (186 ≤ w) && decide (w ≤ 190)) || decide (448 ≤ w)
  | 3 => !named && statOf w o != some .weak && (weakFuse w o).isNone
  | 5 => !sparable w
  | 4 => false
  | 6 => w != 1 && w != 2
  | _ => true

/-- The burn may start in this state. -/
def burnState (op w : Nat) (s : State) : Bool :=
  s.top.state == .ready || s.top.state == .gap || s.top.state == .maint ||
  (s.top.state == .resetHold && s.otp.failing && (op == 4 || op == 5) && !inLocked w s.otp)

/-- Every slot but one is unusable (R413). -/
def lastKey (w : Nat) (o : Otp) : Bool :=
  decide (160 ≤ w) && decide (w ≤ 167) && !((List.range 8).any fun s => 160 + s != w && keyUsable o s)

/-- VALUE_BAD (R398, R405, R413). -/
def valueBad (op w : Nat) (v : DWord) (s : State) : Bool :=
  match op with
  | 2 => decide (70 < popCount (eccEncode v)) || (decide (128 ≤ w) && decide (w ≤ 159) && v == 0)
  | 3 => match journalOf w s with
    | some j => eccEncode v != j.code
    | none => false
  | 5 => decide (70 < popCount (eccEncode v))
  | _ => false

/-- NO_SPARE. -/
def noSpare (op w : Nat) (o : Otp) : Bool :=
  match op with
  | 2 => sparable w && decide (sparesFree o.cells < 2)
  | 5 => decide (sparesFree o.cells < 1)
  | _ => false

/-- Refusal of a burn operation (R403): its RESULT, none when it is accepted. -/
def burnRefused (op w : Nat) (v : DWord) (s : State) : Option Nat :=
  let o := s.otp
  if badTarget op w (journalOf w s).isSome o then some 14
  else if o.burn.isSome then some 1
  else if !burnState op w s then some 2
  else if !writeWindow s then some 3
  else if op = 6 then (if regionLocked w o then some 4 else if lockable w s.pwr.journal o then none else some 8)
  else if op ≠ 3 ∧ inLocked w o ∧ !appendOnly w then some 4
  else if op = 2 ∧ isFloor w then
    (if floorBad w v o then some 12 else if valueBad op w v s then some 6 else none)
  else if op = 2 ∧ (statOf w o).isSome then some 5
  else if valueBad op w v s then some 6
  else if noSpare op w o then some 7
  else if op = 2 ∧ lastKey w o then some 11
  else none

/-! ## Burning (R404, R405, R409) -/

/-- The bits set in a codeword but not among `have_`. -/
def bitsToBurn (code have_ : BitVec 79) : List Nat := bitsOf (code &&& ~~~have_)

/-- Start burning `code` into word `w`. -/
def burnWord (step : BurnStep) (w : Nat) (code : BitVec 79) (bits : List Nat) (done : Nat) (b : Burn) (s : State) : State :=
  modOtp (fun o => { o with burn := some { b with
    word := w, step := step, code := code, bits := bits, tries := 0, done := done, due := s.now + usGrid 12 } }) s

/-- Burn word `w` void. -/
def burnVoid (step : BurnStep) (w : Nat) (b : Burn) (s : State) : State :=
  burnWord step w (BitVec.allOnes 79) (bitsToBurn (BitVec.allOnes 79) (cellsOf w s.otp.cells).high) 0 b s

/-- Tag of a spare entry. -/
def spareTag (w : Nat) : DWord := 0xA5C3000000000000#64 + BitVec.ofNat 64 w

/-- A burn ends with a RESULT (R402, R404): journal, flag, statuses, event and log record. -/
def endBurn (result : Nat) (b : Burn) (s : State) : State :=
  let s := if result = 13 then otpErr 2 s
    else { s with pwr := { s.pwr with journal :=
      match s.pwr.journal with
      | some j => if j.word.toNat = b.target ∧ b.op < 4 then none else some j
      | none => none } }
  let s := if result = 9 then otpErr 1 s else if result = 10 then otpErr 0 s else if result = 8 then otpErr 3 s else s
  let s := modOtp (fun o =>
    let o := restat s.pwr.journal { o with burn := none, cmdResult := BitVec.ofNat 4 result }
    match b.step with
    | .lockA _ | .lockB _ => useLocks o
    | .fuse _ => o
    | _ => putValue b.target (cellValue o s.pwr.journal b.target) o) s
  let op := match b.step with | .fuse _ => 3 | _ => b.op
  pushLog 0x0B (BitVec.ofNat 8 op) (toLe 2 b.target ++ toLe 1 result) (raise Src.otpDone s)

/-- Start a spare entry for the target in the lowest free entry from `from_` on; a burn without one fails. -/
def startSpare (from_ : Nat) (b : Burn) (s : State) : State :=
  match nextSpare from_ s.otp.cells with
  | none => endBurn 10 b s
  | some e =>
    let code := eccEncode (spareTag b.target)
    burnWord (.spareTag e) (448 + 2 * e) code (bitsOf code) 0 b s

/-- The word reads GOOD with the value (R399, R404). -/
def readsBack (w : Nat) (v : DWord) (s : State) : Bool :=
  let c := cellsOf w s.otp.cells
  !isBlank c && !isVoid c && sameReads c && correctedOf c == some v

/-- A pulse sets a cell at every level. -/
def setCell (w bit : Nat) (s : State) : State :=
  modOtp (fun o =>
    let c := cellsOf w o.cells
    { o with cells := putCells ⟨w, setBit c.normal bit, setBit c.low bit, setBit c.high bit⟩ o.cells }) s

/-- A cell that was pulsed and does not verify at the high-margin level: the spec does not say how it reads at the others. -/
def looseCell (w bit : Nat) (s : State) : State :=
  let (i, s) := nextFree s
  let v := Config.freeWord i
  modOtp (fun o =>
    let c := cellsOf w o.cells
    { o with cells := putCells ⟨w, c.normal ||| (putBit 0 bit (v.getLsbD 0)), c.low ||| (putBit 0 bit (v.getLsbD 1)),
      c.high⟩ o.cells }) s

/-- A pulse on a lock-fuse cell. -/
def setLock (f : Fin 6) (bit : Nat) (s : State) : State :=
  modOtp (fun o =>
    let l := o.locks[f]
    { o with locks := o.locks.set f.val { l with
      normal := setBit l.normal bit, low := setBit l.low bit, high := setBit l.high bit } f.isLt }) s

/-- Fuse number of LOCK_A or LOCK_B of a region. -/
def lockIx (region : Nat) (b : Bool) : Fin 6 := ⟨(2 * region + b2n b) % 6, Nat.mod_lt _ (by decide)⟩

/-- Start burning a lock fuse: each of its cells that reads 0. REBURN of a fuse that does not read set finds nothing to pulse: it never changes
a logical value (R405). -/
def burnLock (step : BurnStep) (f : Fin 6) (b : Burn) (s : State) : State :=
  let l := s.otp.locks[f]
  let none_ := match step with | .fuse _ => !fuseSet l | _ => false
  modOtp (fun o => { o with burn := some { b with
    word := f.val, step := step, bits := if none_ then [] else bitsOf (~~~(l.normal &&& l.low &&& l.high)), tries := 0, done := 0
    due := s.now + usGrid 12 } }) s

/-- A fuse reads set, at every level. -/
def fuseSound (f : Fin 6) (s : State) : Bool := fuseSet s.otp.locks[f] && !fuseAmbiguous s.otp.locks[f]

/-- A spare entry has failed: it is burned void, tag word first. -/
def voidSpare (e : Nat) (b : Burn) (s : State) : State := burnVoid (.spareVoid e) (448 + 2 * e) b s

/-- A burned word is read at three levels: three reads of 0.75 µs (R400, R404). -/
def readTime (b : Burn) (s : State) : State := match b.step with | .word _ => { s with now := s.now + 18000 } | _ => s

/-- Every bit of the running step has been pulsed: the next step, or the end (R404, R405, R409). -/
def stepDone (b : Burn) (s : State) : State :=
  let s := readTime b s
  match b.step with
  | .word true => if readsBack b.word b.value s then endBurn 0 b s else burnVoid (.void true) b.word b s
  | .word false => endBurn (if sameReads (cellsOf b.word s.otp.cells) then 0 else 10) b s
  | .void failed =>
    if failed then (if sparable b.target then startSpare 0 b s else endBurn 10 b s)
    else endBurn (if isVoid (cellsOf b.word s.otp.cells) then 0 else 10) b s
  | .spareTag e =>
    let code := eccEncode b.value
    burnWord (.spareData e) (449 + 2 * e) code (bitsOf code) 0 b s
  | .spareData e =>
    if readsBack (448 + 2 * e) (spareTag b.target) s && readsBack b.word b.value s
    then endBurn (if b.op = 5 then 0 else 9) b s
    else voidSpare e b s
  | .spareVoid e =>
    if b.word = 448 + 2 * e then burnVoid (.spareVoid e) (449 + 2 * e) b s else startSpare (e + 1) b s
  | .lockA r =>
    if !fuseSound (lockIx r false) s then endBurn 10 b s
    else if lockable r s.pwr.journal s.otp then burnLock (.lockB r) (lockIx r true) b s else endBurn 8 b s
  | .lockB r => endBurn (if fuseSound (lockIx r true) s then 0 else 10) b s
  | .fuse f => endBurn (if fuseWeak s.otp.locks[f] && fuseSet s.otp.locks[f] then 10 else 0) b s

/-- Steps without a bit to pulse follow at once; before each bit the temperature is checked (R404). -/
def runBurn : Nat → State → State
  | 0, s => s
  | n + 1, s =>
    match s.otp.burn with
    | none => s
    | some b =>
      if b.bits.isEmpty then runBurn n (stepDone b s)
      else if ctlInWindow s then s
      else endBurn 13 b s

/-- Steps of R404 without a pulse between two pulses: never more than four per spare entry. -/
def burnFuel : Nat := 200

/-- A bit has had its four attempts without verifying. -/
def bitFails (b : Burn) (bit : Nat) (rest : List Nat) (s : State) : State :=
  let skip (s : State) : State := modOtp (fun o => { o with burn := some { b with bits := rest, tries := 0, due := s.now + usGrid 12 } }) s
  match b.step with
  | .word true => burnVoid (.void true) b.word b (looseCell b.word bit s)
  | .word false | .void _ | .spareVoid _ => skip (looseCell b.word bit s)
  | .spareTag e | .spareData e => voidSpare e b (looseCell b.word bit s)
  | .lockA _ | .lockB _ | .fuse _ => skip s

/-- The pulsed bit verifies: DONE_BITS of the journal counts it (R404). -/
def bitVerified (b : Burn) (bit : Nat) (rest : List Nat) (s : State) : State :=
  let s := match b.step with
    | .lockA r => setLock (lockIx r false) bit s
    | .lockB r => setLock (lockIx r true) bit s
    | .fuse f => setLock f bit s
    | _ => setCell b.word bit s
  let s := match b.step, s.pwr.journal with
    | .word true, some j => { s with pwr := { s.pwr with journal := some { j with doneBits := j.doneBits + 1 } } }
    | _, _ => s
  modOtp (fun o => { o with burn := some { b with bits := rest, tries := 0, done := b.done + 1, due := s.now + usGrid 12 } }) s

/-- A 12 µs pulse and verify ends (R404). -/
def bitPulse (verified : Bool) (s : State) : State :=
  match s.otp.burn with
  | none => s
  | some b =>
    match b.bits with
    | [] => s
    | bit :: rest =>
      let s := advanceTo b.due s
      let s := { s with out := { s.out with fuse := (BitVec.ofNat 9 b.word, bit) :: s.out.fuse } }
      if verified then runBurn burnFuel (bitVerified b bit rest s)
      else if b.tries < 3 then
        modOtp (fun o => { o with burn := some { b with tries := b.tries + 1, due := s.now + usGrid 12 } }) s
      else runBurn burnFuel (bitFails b bit rest s)

/-! ## Commands (R402, R403) -/

/-- OP, WORD and RESULT of a command. -/
def noteOtp (op : Nat) (w : BitVec 9) (result : Nat) (s : State) : State :=
  modOtp (fun o => { o with cmdOp := BitVec.ofNat 4 op, cmdWord := w, cmdResult := BitVec.ofNat 4 result }) s

/-- A refused command. While a burn runs, OP, WORD and RESULT stay those of the burn, with RESULT 15 until it ends (R402). -/
def refuseOtp (op : Nat) (w : BitVec 9) (result : Nat) (s : State) : State :=
  otpErr (if result = 8 then 3 else 4) (if s.otp.burn.isSome then s else noteOtp op w result s)

/-- The journal of a PROGRAM is written in the first microsecond (log entry 35). -/
def afterJournal (s : State) : State :=
  modOtp (fun o => { o with burn := o.burn.map fun b => { b with due := b.due + usGrid 1 } }) s

/-- Start an accepted burn: the first pulse of a PROGRAM begins once its journal is written. LOCK_A is not burned again. -/
def startBurn (op : Nat) (w : Nat) (s : State) : State :=
  let v := s.otp.data
  let b : Burn := { op := op, target := w, value := v, word := w, step := .word false, code := 0, bits := [] }
  let c := cellsOf w s.otp.cells
  match op with
  | 2 =>
    let code := eccEncode v
    afterJournal (burnWord (.word true) w code (bitsOf code) 0 b
      { s with pwr := { s.pwr with journal := some ⟨BitVec.ofNat 9 w, 0, code⟩ } })
  | 3 =>
    match journalOf w s with
    | some j => burnWord (.word true) w j.code (bitsToBurn j.code c.high) j.doneBits b s
    | none =>
      if statOf w s.otp = some .weak then
        let code := eccEncode ((correctedOf c).getD 0)
        burnWord (.word false) w code (bitsToBurn code (c.normal &&& c.low &&& c.high)) 0 b s
      else match weakFuse w s.otp with
        | some f => burnLock (.fuse f) f { b with op := 6 } s
        | none => s
  | 4 => burnVoid (.void false) w b s
  | 5 => startSpare 0 b s
  | _ => if fuseSet (lockFuse w false s.otp) then modOtp (fun o => { o with burn := some { b with step := .lockA w } }) s
    else burnLock (.lockA w) (lockIx w false) b s

/-- A burn command (R402 to R405, R409). -/
def burnCommand (op : Nat) (w : BitVec 9) (s : State) : State :=
  match burnRefused op w.toNat s.otp.data s with
  | some r => refuseOtp op w r s
  | none => runBurn burnFuel (noteRegion 0x13 0 (2 ^ 65) (startBurn op w.toNat (noteOtp op w 15 s)))

/-- READ (R402): the corrected value, or the raw bits of an AMBIGUOUS word or an uncorrectable read. -/
def readFuse (w : BitVec 9) (level : BitVec 2) (s : State) : State :=
  if s.otp.burn.isSome then refuseOtp 1 w 1 s
  else
  let s := modOtp (fun o => { o with cmdLevel := level }) s
  if level = 3 then refuseOtp 1 w 14 s
  else
    let c := cellsOf w.toNat s.otp.cells
    let raw := if level = 0 then c.normal else if level = 1 then c.low else c.high
    let d := match statOf w.toNat s.otp, eccDecode raw with
      | some .ambiguous, _ | _, none => raw.setWidth 64
      | _, some t => t.1
    noteOtp 1 w 0 (modOtp (fun o => { o with data := d }) s)

/-! ## Reading the array (R399, R400, R410) -/

/-- A reading of a word: a cell that has read 1 at every level is burned and reads 1 for good (R396). -/
def mergeCells (old new : FuseRead) : FuseRead :=
  let b := old.normal &&& old.low &&& old.high
  ⟨new.word, new.normal ||| b, new.low ||| b, new.high ||| b⟩

/-- A reading of a lock fuse, likewise. -/
def mergeLock (old new : LockRead) : LockRead :=
  let b := old.normal &&& old.low &&& old.high
  ⟨new.fuse, new.normal ||| b, new.low ||| b, new.high ||| b⟩

/-- A reading takes the place of a word's cells; a blank word has no entry. -/
def takeWord (l : List FuseRead) (c : FuseRead) : List FuseRead :=
  let m := mergeCells (cellsOf c.word l) c
  if 512 ≤ c.word then l else if isBlank m then l.filter (fun x => x.word != c.word) else putCells m l

/-- The cells read become the model's; a word that the reading does not name reads as before. -/
def takeCells (words : List FuseRead) (locks : List LockRead) (o : Otp) : Otp :=
  { o with
    cells := words.foldl takeWord o.cells
    locks := locks.foldl (fun v l => v.set l.fuse.val (mergeLock v[l.fuse] l) l.fuse.isLt) o.locks }

/-- First AMBIGUOUS item: a word, or the region of a lock fuse (OTP.START). -/
def firstAmbiguous (o : Otp) : Option (Bool × Nat) :=
  match o.status.find? fun t => t.2 == .ambiguous with
  | some t => some (false, t.1)
  | none => ((List.finRange 6).find? fun f => fuseAmbiguous o.locks[f]).map fun f => (true, f.val / 2)

/-- The check word of a locked region does not match (R410). -/
def checkFails (region : Nat) (o : Otp) : Bool :=
  regionLocked region o && regionCheck region (fun w => fuseValue w o) != fuseValue (checkWordOf region) o

/-- WEAK items of the array. -/
def weakCount (o : Otp) : Nat :=
  (o.status.filter fun t => t.2 == .weak).length + ((List.finRange 6).filter fun f => fuseWeak o.locks[f]).length

/-- Report the WEAK items (R400). -/
def reportWeak (s : State) : State :=
  let n := weakCount s.otp
  if n = 0 then s else countClassN Cls.otpWeak n (raise Src.otpWeak (otpErr 6 s))

/-- REREAD (R402): new statuses, the values in use unchanged. -/
def rereadFuses (words : List FuseRead) (locks : List LockRead) (s : State) : State :=
  if s.otp.burn.isSome then refuseOtp 7 s.otp.cmdWord 1 s
  else
    let s := noteOtp 7 s.otp.cmdWord 0 (modOtp (fun o => restat s.pwr.journal (takeCells words locks o)) s)
    let a := firstAmbiguous s.otp
    reportWeak (modOtp (fun o => { o with reads := satInc o.reads, ambig := a }) s)

/-- The fuse stage reads the array (R399, R400, R410); `true` if the stage passes. -/
def readFuses (words : List FuseRead) (locks : List LockRead) (s : State) : Bool × State :=
  let j := s.pwr.journal
  let s := modOtp (fun o => revalue j (restat j (takeCells words locks o))) s
  let a := match firstAmbiguous s.otp with
    | some a => some a
    | none => if checkFails 0 s.otp then some (false, 127) else if checkFails 1 s.otp then some (false, 191) else none
  let s := reportWeak (modOtp (fun o => { o with reads := satInc o.reads, ambig := a, failing := a.isSome }) s)
  let s := if checkFails 2 s.otp then raise Src.otpCheck (otpErr 5 s) else s
  (a.isNone, s)

/-- Factory trim code of an entry (R397). -/
def factoryCode (i : Nat) (o : Otp) : BitVec 12 := ((fuseValue (4 + i / 5) o) >>> (12 * (i % 5))).setWidth 12

/-- Factory INTERP delay of a step (R397). -/
def factoryInterp (i : Nat) (o : Otp) : BitVec 13 := ((fuseValue (17 + i / 4) o) >>> (13 * (i % 4))).setWidth 13

/-- The codes that calibration starts from (R393, R397), and the coefficients of the RC oscillators (R384). -/
def loadFactory (s : State) : State :=
  modCal (fun k => { k with
    factory := Vector.ofFn fun i => factoryCode i.val s.otp
    trim := Vector.ofFn fun i => { target := factoryCode i.val s.otp, now := factoryCode i.val s.otp }
    interp := Vector.ofFn fun i => factoryInterp i.val s.otp })
    { s with pwr := { s.pwr with rcCoef := (fuseValue 23 s.otp, fuseValue 24 s.otp) } }

end Sys2Proof.Machine
end

