-- ==== Sys2Proof/Machine/Tport.lean ====
section
/-! DEFINITION. The transport port: command legality and deferral (R331 to R336), document triggers (R337, R338), mail (R329), fault records
and pulses (R340, R341). -/

namespace Sys2Proof.Machine

/-- Change the transport port. -/
def modTpt (f : Tpt → Tpt) (s : State) : State := { s with tpt := f s.tpt }

/-- The states in which the port accepts nothing (R327): BOOT, RESET_HOLD and SLEEP, and every state without a running die. -/
def notReady (st : DevState) : Bool :=
  st == .boot || st == .resetHold || st == .sleep || st == .off || st == .standby

/-- What R334 gives for a command in a state. -/
inductive Legal where
  | accepted | deferred | refused
deriving DecidableEq, Repr

/-- The table of R334. -/
def legality (op : Nat) (st : DevState) : Legal :=
  if notReady st then .refused
  else match op with
    | 3 => if st = .calib then .deferred else .accepted
    | 5 | 6 => match st with
      | .ready | .gap => .accepted
      | .print | .maint | .thermalHold => .deferred
      | _ => .refused
    | 7 => match st with
      | .ready | .gap => .accepted
      | .print | .calib | .thermalHold => .deferred
      | _ => .refused
    | 8 => if st = .maint then .accepted else .refused
    | _ => .accepted

/-- A command of the same class is already deferred (R334). -/
def classDeferred (op : Nat) (t : Tpt) : Bool :=
  match op with
  | 3 | 4 => t.deferStop
  | 5 | 6 => t.deferCal.isSome
  | 7 | 8 => t.deferMaint
  | _ => false

/-- A write to CMD: SEQ, OP and OUTCOME (R328). -/
def noteCmd (op outcome : Nat) (s : State) : State :=
  modTpt (fun t => { t with resSeq := t.resSeq + 1, resOp := BitVec.ofNat 8 op, resOutcome := BitVec.ofNat 3 outcome }) s

/-- Refuse with NOT_NOW. -/
def refuseNotNow (op : Nat) (s : State) : State :=
  noteCmd op 2 (modTpt (fun t => { t with refused := satInc t.refused }) s)

/-- Refuse as BAD. -/
def refuseBad (op : Nat) (s : State) : State :=
  noteCmd op 3 (modTpt (fun t => { t with ignored := satInc t.ignored }) s)

/-- Defer a command (R335). -/
def deferCmd (op : Nat) (s : State) : State :=
  modTpt (fun t => match op with
    | 3 => { t with deferStop := true }
    | 5 => { t with deferCal := some true }
    | 6 => { t with deferCal := some false }
    | 7 => { t with deferMaint := true }
    | _ => t) s

/-- A write of `op` to CMD (R331, R334): `bad` for an operand that R331 refuses, `idle` where nothing of its kind is there to
act on. -/
def tpCommand (op : Nat) (bad idle : Bool) (act : State → State) (s : State) : State :=
  if notReady s.top.state then refuseNotNow op s
  else if bad then refuseBad op s
  else if idle || classDeferred op s.tpt then refuseNotNow op s
  else match legality op s.top.state with
    | .accepted => act (noteCmd op 0 s)
    | .deferred => deferCmd op (noteCmd op 1 s)
    | .refused => refuseNotNow op s

/-- A deferred command was cancelled (R335). -/
def noteCancelled (s : State) : State := raise Src.tpCmd (tpFlag Tpf.cmdCancelled s)

/-- Cancel a deferred STOP. -/
def cancelStop (s : State) : State :=
  if s.tpt.deferStop then noteCancelled (modTpt (fun t => { t with deferStop := false }) s) else s

/-- The due triggers stay due and their grace starts again (R391). -/
def restartGrace (s : State) : State :=
  modCal (fun k => { k with dueFull := k.dueFull.map fun _ => s.now, duePart := k.duePart.map fun _ => s.now, overdue := false }) s

/-- GRACE has passed: the trigger becomes a deferred CAL-class command, or merges with one (R391). In a state that refuses such a command the
trigger stays due and its grace starts again, as where the deferral is cancelled. -/
def calGrace (s : State) : State :=
  match dueKind s with
  | none => s
  | some full =>
    let t0 := ((if full then s.cal.dueFull else s.cal.duePart).getD 0) + msGrid (1000 * ((s.cal.cfg.toNat / 65536) % 256))
    let s := advanceTo t0 s
    let merged := full || s.tpt.deferCal == some true
    if legality 5 s.top.state == .refused then restartGrace s
    else modCal (fun k => { k with overdue := true }) { s with tpt := { s.tpt with deferCal := some merged } }

/-- Cancel a deferred calibration. -/
def cancelCal (s : State) : State :=
  if s.tpt.deferCal.isSome then restartGrace (noteCancelled (modTpt (fun t => { t with deferCal := none }) s)) else s

/-- Cancel a deferred MAINT_ENTER. -/
def cancelMaint (s : State) : State :=
  if s.tpt.deferMaint then noteCancelled (modTpt (fun t => { t with deferMaint := false }) s) else s

/-- Cancel every deferred command. -/
def cancelAll (s : State) : State := cancelMaint (cancelCal (cancelStop s))

/-- Leave MAINT (R331, R423). -/
def leaveMaint (s : State) : State := enterRest (endMaint s)

/-- STOP (R332). -/
def stopDevice (s : State) : State :=
  let s := abortAll (cancelAll (setAdmitHold true s))
  if s.top.state = .maint then leaveMaint (stopAll (abortSheets s)) else s

/-- DOC_ID in CMD_ARG1:CMD_ARG0. -/
def argDoc (t : Tpt) : Word := t.arg1.setWidth 32 <<< 16 ||| t.arg0.setWidth 32

/-- The document is pending or in progress (R333). -/
def docLive (id : Word) (s : State) : Bool :=
  match findDoc id s with
  | some d => isPending d || (d.admitted && !d.barred)
  | none => false

/-- Nothing of the class in CMD_ARG0 is deferred. -/
def nothingDeferred (t : Tpt) : Bool :=
  match t.arg0.toNat with
  | 0 => !t.deferStop
  | 1 => t.deferCal.isNone
  | _ => !t.deferMaint

/-- CANCEL (R331). -/
def cancelClass (s : State) : State :=
  match s.tpt.arg0.toNat with
  | 0 => cancelStop s
  | 1 => cancelCal s
  | _ => cancelMaint s

/-- FAULT_ACK (R331). -/
def ackFault (s : State) : State := captureFault (modTpt (fun t => { t with fifo := t.fifo.drop 1 }) s)

/-- CAL.CTL requests follow R334 in the CAL class (R390); the outcome goes to REQ_RESULT. -/
def calRequest (full : Bool) (s : State) : State :=
  let op := if full then 5 else 6
  let note (r : Nat) (s : State) : State := modCal (fun k => { k with reqResult := BitVec.ofNat 2 r }) s
  if classDeferred op s.tpt then note 2 s
  else match legality op s.top.state with
    | .accepted => startCal full (note 0 s)
    | .deferred => deferCmd op (note 1 s)
    | .refused => note 2 s

/-- HOLD_ADMIT or RELEASE_ADMIT, with a host write to the bit in the same clock (R336): a 1 from either wins. -/
def admitCommand (op : Nat) (v : Bool) (host : Option Bool) (s : State) : State :=
  let s := match host with | some w => setAdmitHold w s | none => s
  tpCommand op false false (setAdmitHold (v || host == some true)) s

/-! ## Deferred commands (R335) -/

/-- Every load handed over has passed its port line boundary. -/
def loadsPassed (s : State) : Bool := s.loads.toList.all fun l => l.all fun ld => !ld.handed

/-- A deferred command has been carried out. -/
def noteDone (s : State) : State := raise Src.tpCmd (tpFlag Tpf.cmdDone s)

/-- The deferred STOP, if it is due. -/
def runStop (s : State) : State :=
  if s.tpt.deferStop then
    match legality 3 s.top.state with
    | .accepted => stopDevice (noteDone (modTpt (fun t => { t with deferStop := false }) s))
    | .deferred => s
    | .refused => cancelStop s
  else s

/-- The deferred calibration, if it is due; it waits for the firmware (R444). -/
def runCal (s : State) : State :=
  match s.tpt.deferCal with
  | none => s
  | some full =>
    match legality 5 s.top.state with
    | .accepted =>
      if loadsPassed s && fwRuns s then startCal full (noteDone (modTpt (fun t => { t with deferCal := none }) s)) else s
    | .deferred => s
    | .refused => cancelCal s

/-- The deferred MAINT_ENTER, if it is due. -/
def runMaint (s : State) : State :=
  if s.tpt.deferMaint then
    match legality 7 s.top.state with
    | .accepted => if loadsPassed s then beginMaint (noteDone (modTpt (fun t => { t with deferMaint := false }) s)) else s
    | .deferred => s
    | .refused => cancelMaint s
  else s

/-- Deferred commands that are due, in the order STOP, CAL, MAINT. -/
def runDeferred (s : State) : State := runMaint (runCal (runStop s))

/-! ## Document triggers (R185, R337, R338) -/

/-- Both loops latch their position at the edge instant (R185). -/
def latchTrig (i : Fin 2) (t : Nat) (s : State) : State :=
  { s with ftl := s.ftl.map fun l => { l with trig := l.trig.set i.val (some (BitVec.ofNat 48 (loopPos l t))) i.isLt } }

/-- The oldest pending document of the input (R337). -/
def trigTarget (i : Fin 2) (s : State) : Option Doc := s.docs.find? fun d => isPending d && d.trigger == i

/-- An orphaned edge. -/
def orphanEdge (i : Fin 2) (s : State) : State :=
  countClass Cls.trigOrphan (raise Src.trigOrphan (tpFlag Tpf.orphan
    (modTpt (fun t => { t with orphans := t.orphans.set i.val (satInc t.orphans[i]) i.isLt }) s)))

/-- The document that took the last edge, if that was an edge of input 1 at the instant `t`: an edge of input 0 at that instant goes before it
(R338). -/
def overtaken (i : Fin 2) (t : Nat) (s : State) : Option Word :=
  match s.tpt.lastEdge with
  | some (j, u, id) => if i = 0 ∧ j = 1 ∧ u = t then some id else none
  | none => none

/-- The document takes the edge at the instant `t` as its origin. -/
def takeEdge (i : Fin 2) (t : Nat) (d : Doc) (s : State) : State :=
  let o := ((loopOf d.loop s).trig[i]).getD 0
  let order := match overtaken i t s with | some _ => s.tpt.trigOrder - 1 | none => s.tpt.trigOrder
  let s := match overtaken i t s with
    | some id => modDoc id (fun d => { d with trigged := d.trigged.map fun _ => s.tpt.trigOrder }) s
    | none => s
  let s := modDoc d.id (fun d => { d with trigged := some order, origin := o }) s
  raise Src.docTriggered (modTpt (fun tp => { tp with
    trigOrder := tp.trigOrder + 1, lastEdge := some (i, t, d.id), trigDoc := tp.trigDoc.set i.val d.id i.isLt }) s)

/-- The edge qualifies: its level has stood for the filter's 8 samples (R185), and it has the polarity of TRIG_CFG.POL (R337). -/
def qualifies (i : Fin 2) (rise : Bool) (n : Nat) (s : State) : Bool := decide (8 ≤ n) && rise != s.tpt.pol.getLsbD i.val

/-- DOC_TRIG[i] has risen or fallen, `dt` fire clocks on and `n` samples ago (R337): an edge is ignored before the first READY (R441) and in
SLEEP. -/
def triggerEdge (i : Fin 2) (rise : Bool) (dt n : Nat) (s : State) : State :=
  let s := { s with now := s.now + 16 * dt }
  if !s.pwr.readySeen || notReady s.top.state || !qualifies i rise n s then s
  else
    let t := s.now - 16 * n
    let s := latchTrig i t s
    match trigTarget i s with
    | some d => if d.admitted then takeEdge i t d s else orphanEdge i s
    | none => orphanEdge i s

/-! ## Mail and pulses -/

/-- A host write to HOST_MAIL (R329). -/
def hostMail (i : Fin 8) (v : Half) (s : State) : State :=
  let s := modTpt (fun t => { t with hostMail := t.hostMail.set i.val v i.isLt }) s
  if i = 7 then tpFlag Tpf.mail s else s

/-- A transport-port write to a register it does not accept (R325). -/
def tpIgnored (s : State) : State := modTpt (fun t => { t with ignored := satInc t.ignored }) s

/-- A transport-port write to TP_MAIL (R329). -/
def tpMail (i : Fin 8) (v : Half) (s : State) : State :=
  if notReady s.top.state then tpIgnored s
  else
    let s := modTpt (fun t => { t with tpMail := t.tpMail.set i.val v i.isLt }) s
    if i = 7 then raise Src.tpMail s else s

/-- A queued pulse falls once the high time before it is over (R341). -/
def pulseFalls (s : State) : State :=
  if 0 < s.tpt.pulses ∧ !s.tpt.pulseLow then
    let s := advanceTo s.tpt.pulseAt s
    modTpt (fun t => { t with pulses := t.pulses - 1, pulseLow := true, pulseAt := s.now + usGrid 2 }) s
  else s

/-- The pulse rises after 2 µs; 1 µs high follows (R341). -/
def pulseRises (s : State) : State :=
  if s.tpt.pulseLow then
    let s := advanceTo s.tpt.pulseAt s
    modTpt (fun t => { t with pulseLow := false, pulseAt := s.now + usGrid 1 }) s
  else s

end Sys2Proof.Machine
end

