-- ==== Sys2Proof/Machine/Power.lean ====
section
/-! DEFINITION. Supplies, resets and reset release (R417 to R423), start stages as a sequence (R437, R438, R440), SLEEP (R425 to R427), the
RTC and the clocks of the always-on domain (R430 to R435), and hardware shut-down (R374 to R376). -/

namespace Sys2Proof.Machine

/-- Change the power block. -/
def modPwr (f : Pwr → Pwr) (s : State) : State := { s with pwr := f s.pwr }

/-- A PWR error flag. -/
def pwrErr (i : Nat) (s : State) : State := modPwr (fun p => { p with err := setBit p.err i }) s

/-- OP and RESULT of PWR.CMD. -/
def notePwr (op result : Nat) (s : State) : State :=
  modPwr (fun p => { p with cmdOp := BitVec.ofNat 4 op, cmdResult := BitVec.ofNat 2 result }) s

/-! ## What a reset of both dies keeps (R421, R442) -/

/-- The always-on part of the power block after a reset of both dies. -/
def pwrAfterReset (p : Pwr) : Pwr :=
  { perst := p.perst, supply := p.supply, mainEn := p.mainEn, resetCause := p.resetCause, wakeCause := p.wakeCause
    retCause := p.retCause, heldShut := p.heldShut, heldVm := p.heldVm, alarmHold := p.alarmHold
    rcTrim := p.rcTrim, rcCoef := p.rcCoef
    aonRc := p.aonRc, aonSearch := p.aonSearch, rtcBase := p.rtcBase, rtcLo := p.rtcLo, rtcArmed := p.rtcArmed
    alarmLo := p.alarmLo, alarmHi := p.alarmHi, attempts := p.attempts, shutdowns := p.shutdowns, orderly := p.orderly
    axisRecs := p.axisRecs, retUser := p.retUser, thermCount := p.thermCount
    thermDocs := p.thermDocs, aonCfg := p.aonCfg, journal := p.journal, rcTrimAt := p.rcTrimAt }

/-- Both dies are reset except the always-on domain: the levels of pins, the fuse cells and the boundary stay. -/
def resetDies (s : State) : State :=
  { pending := s.pending, now := s.now, free := s.free, out := s.out
    pwr := pwrAfterReset s.pwr
    enc := s.enc
    hp := s.hp.map fun h => { present := h.present }
    thm := { tripped := s.thm.tripped }
    cal := discardCal s.cal.running.isSome {}
    cap := { rtc := s.cap.rtc }
    otp := { cells := s.otp.cells, locks := s.otp.locks, debugClosed := s.otp.debugClosed } }

/-- PWR.RESET_CAUSE, and its copy in bank 0 (R429). -/
def putCause (v : Word) (p : Pwr) : Pwr := { p with resetCause := v, retCause := v.setWidth 8 }

/-- A reset of R421 with its cause bit. -/
def resetBy (cause : Nat) (s : State) : State := modPwr (putCause (1#32 <<< cause)) (resetDies s)

/-- The state a device in reset takes after a loss of a main supply. -/
def toStandby (s : State) : State := { s with top := { s.top with state := .standby } }

/-! ## Supplies and reset release -/

/-- VAON becomes good: the always-on domain starts from nothing, its RTC at 0 (R423, R432, R433). -/
def vaonRises (s : State) : State :=
  if s.pwr.supply.getLsbD 0 then s
  else
    let s := resetDies s
    toStandby { s with
      thm := {}
      pwr := { perst := s.pwr.perst, supply := 1, resetCause := 1, retCause := 1, aonSearch := true
               rtcBase := 0 - BitVec.ofNat 48 (s.now * 4096 / 1000000000) } }

/-- VAON is lost: everything but the boundary is lost (R423). -/
def vaonFalls (s : State) : State :=
  let s := resetDies s
  { s with top := { s.top with state := .off }, thm := {}, pwr := { perst := s.pwr.perst } }

/-- A main supply is good (R417). -/
def mainRises (i : Fin 6) (s : State) : State :=
  modPwr (fun p => { p with supply := setBit p.supply (i.val + 1) }) s

/-- A main supply is lost (R421, R423): the entry to STANDBY is then not an orderly one. A shut-down that is being held stays the cause
(R377, R422). -/
def mainFalls (i : Fin 6) (s : State) : State :=
  let s := modPwr (fun p => { p with supply := clearBit p.supply (i.val + 1) }) s
  if s.top.state = .off then s
  else if s.pwr.released then toStandby (resetBy 1 (modPwr (fun p => { p with orderly := false }) s))
  else if s.top.state = .standby then s
  else toStandby (modPwr (fun p => if s.thm.tripped.isSome then { p with orderly := false } else putCause 2 { p with orderly := false }) s)

/-- PERST_N goes low (R421). -/
def perstFalls (s : State) : State :=
  let s := modPwr (fun p => { p with perst := false }) s
  if s.pwr.released then resetBy 2 s else s

/-- XIN is lost (R434). -/
def xinFails (s : State) : State := if s.pwr.released then pwrErr 1 (resetBy 3 s) else s

/-- An axis as its retained record leaves it (R361). -/
def restoreAxis (r : AxisRec) (a : Axis) : Axis :=
  { a with pos := wholePos r.pos, phase := r.phase
           posState := if r.posState = 3 then 2 else r.posState, reenergise := r.energised }

/-- Axes restored from bank 0 at a wake from STANDBY (R361, R430). -/
def restoreAxes (s : State) : State :=
  { s with mot := { s.mot with axes := Vector.ofFn fun i => restoreAxis s.pwr.axisRecs[i] s.mot.axes[i] } }

/-- The 6 bytes of an axis record (R360, R429). -/
def axisRecBytes (r : AxisRec) : List Byte :=
  toLe 4 r.pos.toNat ++ toLe 1 r.phase.toNat ++ toLe 1 (r.posState.toNat + 4 * b2n r.energised)

/-- An axis record from its bytes. -/
def axisRecFrom (b : List Byte) : AxisRec :=
  { pos := le32 b 0, phase := (byteAt b 4).setWidth 6, posState := (byteAt b 5).setWidth 2, energised := (byteAt b 5).getLsbD 2 }

/-- Bytes 0 to 59 of a bank with the check that ends it (R429). -/
def sealBank (b : List Byte) : List Byte := b ++ toLe 4 (crc32c b).toNat

/-- A bank passes its check (R429). -/
def bankGood (b : List Byte) : Bool := decide (b.length = 64) && le32 b 60 == crc32c (b.take 60)

/-- Bank 0 (R429). -/
def bank0Bytes (p : Pwr) : List Byte :=
  sealBank (toLe 2 0x5A3C ++ [1, p.retCause] ++ toLe 2 p.attempts.toNat ++ toLe 1 p.shutdowns.toNat ++ toLe 1 (b2n p.orderly) ++
    p.axisRecs.toList.flatMap axisRecBytes ++ p.retUser.toList.flatMap fun w => toLe 4 w.toNat)

/-- Bank 1 (R377, R429): unused entries of the thermal record, and a burn journal that is not held, are zeros (DESIGN CHOICE, log entry 93). -/
def bank1Bytes (p : Pwr) : List Byte :=
  let docs := (p.thermDocs.take 4).flatMap fun d => toLe 4 d.docId.toNat ++ toLe 3 d.line.toNat
  let journal := match p.journal with
    | some j => toLe 2 j.word.toNat ++ toLe 1 j.doneBits ++ toLe 10 j.code.toNat
    | none => []
  let body := toLe 1 p.thermCount ++ docs ++ List.replicate (28 - docs.length) 0
  sealBank (body ++ journal ++ List.replicate (31 - journal.length) 0)

/-- What bank 0 holds becomes the state's. -/
def loadBank0 (b : List Byte) (p : Pwr) : Pwr :=
  { p with
    retCause := byteAt b 3, attempts := le16 b 4, shutdowns := byteAt b 6, orderly := (byteAt b 7).getLsbD 0
    axisRecs := Vector.ofFn fun i => axisRecFrom (slice b (8 + 6 * i.val) 6), retUser := Vector.ofFn fun i => le32 b (32 + 4 * i.val) }

/-- What bank 1 holds becomes the state's. -/
def loadBank1 (b : List Byte) (p : Pwr) : Pwr :=
  let n := leNat b 0 1
  { p with
    thermCount := n
    thermDocs := (List.range (min n 4)).map fun i => ⟨le32 b (1 + 7 * i), BitVec.ofNat 24 (leNat b (5 + 7 * i) 3)⟩
    journal := if slice b 29 13 = List.replicate 13 0 then none
      else some ⟨BitVec.ofNat 9 (leNat b 29 2), leNat b 31 1, BitVec.ofNat 79 (leNat b 32 10)⟩ }

/-- Bank 0 fails its check: it reads as cleared (R429), and at a wake from STANDBY the axes show it (R361). -/
def bank0Fails (s : State) : State :=
  let s := if s.top.state = .standby then forAxes (fun i s => axisErr i 9 s) s else s
  raise Src.retBad (pwrErr 3 (modPwr (fun p => { p with
    retCause := 0, attempts := 0, shutdowns := 0, orderly := false, axisRecs := Vector.replicate 4 {}, retUser := Vector.replicate 7 0 }) s))

/-- Bank 1 fails its check: it reads as cleared (R429). -/
def bank1Fails (s : State) : State :=
  raise Src.retBad (pwrErr 4 (modPwr (fun p => { p with thermCount := 0, thermDocs := [], journal := none }) s))

/-- Bank 0 as it is found, with the bits that have changed in its cells (R429). -/
def readBank0 (flips : List (Nat × Byte)) (s : State) : State :=
  let b := flipBytes (bank0Bytes s.pwr) flips
  if flips.isEmpty then s else if bankGood b then modPwr (loadBank0 b) s else bank0Fails s

/-- Bank 1 as it is found. -/
def readBank1 (flips : List (Nat × Byte)) (s : State) : State :=
  let b := flipBytes (bank1Bytes s.pwr) flips
  if flips.isEmpty then s else if bankGood b then modPwr (loadBank1 b) s else bank1Fails s

/-- The flags that a restart after a shut-down shows (R376), and the bridge fault that it was (R359). -/
def shutFlags (cause : TripCause) (s : State) : State :=
  let s := countClass Cls.motBridge (raise Src.motFault (motErr 2 (thmErr 2 s)))
  match cause with
  | .comparator => s
  | .openShort => thmErr 3 s
  | .driveHot => thmErr 4 s

/-- Faults that befell the device while its dies were held in reset show at the start (R361, R376). -/
def showHeld (p : Pwr) (s : State) : State :=
  let s := match p.heldShut with
    | some c => shutFlags c s
    | none => s
  let s := if p.heldVm.getLsbD 0 then faultBridge .vmLow s else s
  if p.heldVm.getLsbD 1 then faultBridge .vmHigh s else s

/-- RESET_CAUSE of a start: a wake from an orderly STANDBY, and a shut-down since then (R376, R442). -/
def startCause (woken : Bool) (p : Pwr) : Word :=
  if woken then (if p.heldShut.isSome then 48 else 32) else p.resetCause

/-- The start begins with the CLOCKS stage (R420, R423); a wake from an orderly STANDBY whose bank 0 is valid restores the axes (R361,
R430). MAIN_EN is high: the device wants its supplies (R419). -/
def beginStart (woken : Bool) (s : State) : State :=
  let restore := woken && s.pwr.orderly
  let p := s.pwr
  let s := modPwr (fun p => putCause (startCause woken p) { p with
    released := true, releasedAt := s.now, perst := true, attempts := satInc p.attempts, stage := 1
    mainEn := true, heldShut := none, heldVm := 0 }) s
  let s := { s with top := { s.top with state := .boot } }
  showHeld p (if restore then restoreAxes s else s)

/-- Reset release (R420, R423, R429, R430): the bits that have changed in the retention cells since they were written are a reading (log
entry 26). -/
def releaseReset (ret0 ret1 : List (Nat × Byte)) (s : State) : State :=
  if s.pwr.supply = 0x7F ∧ s.thm.tripped.isNone ∧ !s.pwr.released then
    beginStart (s.top.state == .standby && s.pwr.orderly) (readBank0 ret0 (readBank1 ret1 s))
  else s

/-! ## Hardware shut-down (R374 to R376) -/

/-- A shut-down trips. The comparator and the diode are in the always-on domain, so one also trips while the dies are held in reset: the
retained axes are then LOST (R359, R361, R374). -/
def shutDown (cause : TripCause) (s : State) : State :=
  if s.pwr.supply.getLsbD 0 ∧ s.thm.tripped.isNone then
    let s := modThm (fun t => { t with tripped := some cause }) s
    let s := modPwr (fun p => { p with shutdowns := satInc p.shutdowns, heldShut := some cause }) s
    if s.pwr.released then resetBy 4 s
    else modPwr (fun p => putCause 16 { p with axisRecs := p.axisRecs.map fun r => { r with posState := 0, energised := false } }) s
  else s

/-- T_drive has reached 150 °C (R374). -/
def driveTrip (s : State) : State := if 2400 ≤ s.thm.tDrive then shutDown .driveHot s else s

/-- The diode is re-tested each second; the device restarts once it is plausible and at or below 130 °C (R376), and its retention, which no
supply has left, passes its checks. -/
def retestDiode (openShort : Bool) (t : Int) (s : State) : State :=
  match s.thm.tripped with
  | none => s
  | some _ =>
    let s := tickTo (msGrid 1000) s
    if !openShort ∧ t ≤ 2080 then
      let s := modThm (fun t => { t with tripped := none }) s
      if s.pwr.perst then releaseReset [] [] s else s
    else s

/-! ## Start stages (R437, R438, R440) -/

/-- The stage that runs is `n`. -/
def inStage (n : Nat) (s : State) : Bool := s.pwr.released && s.top.state == .boot && s.pwr.stage.toNat == n

/-- Stage `n` completes after `tenth` × 0.1 ms. -/
def stageOk (n tenth : Nat) (s : State) : State :=
  modPwr (fun p => { p with stage := BitVec.ofNat 4 (n + 1), stageTime := p.stageTime.set (n % 8) (satNat 16 tenth) (Nat.mod_lt _ (by decide)) }) s

/-- The firmware claims CHK[7] (R167). A unit that the host has running at that moment stays the host's, and MGT_OWN 0 (DESIGN CHOICE, log
entry 84). -/
def claimUnit (s : State) : State := modUnit 7 (fun u => if u.state = .running then u else { u with mgtOwn := true }) s

/-- The firmware holds CHK[7] while stages 3 and 4 check the slots of the flash (R167, R451). -/
def claimForSlots (s : State) : State := if s.pwr.stage.toNat == 3 || s.pwr.stage.toNat == 4 then claimUnit s else s

/-- A START record (R453); AUX names stages that have failed. -/
def logStart (stages : BitVec 8) (s : State) : State :=
  let m := s.mgt
  pushLog 0x01 stages
    (toLe 2 s.pwr.attempts.toNat ++ toLe 1 s.pwr.resetCause.toNat ++ toLe 1 (b2n m.fwSlot + 2 * b2n m.cfgSlot) ++
      toLe 4 m.fwVer.toNat ++ toLe 4 m.cfgVer.toNat ++ toLe 4 m.cfgSeq.toNat) s

/-- Stage `n` fails (R438): the failed attempt is logged as a START record of that stage (DEDUCED, log entry 90), the retry timer is set, and
the device waits in RESET_HOLD. -/
def stageFail (n : Nat) (s : State) : State :=
  let again := s.pwr.failedSet.getLsbD n
  let wait := if n = 2 ∨ !again then msGrid 100 else msGrid 1000
  let s := modPwr (fun p => { p with
    failed := BitVec.ofNat 4 n, failedSet := setBit p.failedSet n, retryAt := if n = 3 then none else some (s.now + wait) }) s
  setState .resetHold (logStart (BitVec.ofNat 8 (2 ^ n)) s)

/-- The retry timer expires (R423, R438). -/
def retryStage (s : State) : State :=
  match s.pwr.retryAt with
  | some t =>
    if s.top.state = .resetHold then
      claimForSlots (setState .boot (modPwr (fun p => { p with retryAt := none, attempts := satInc p.attempts }) (advanceTo t s)))
    else s
  | none => s

/-- Configuration readiness (R77, R440). -/
def configReady (s : State) : State := { s with link := { s.link with cfgReady := true } }

/-- The CLOCKS stage ends (R434, R436, R440). -/
def clocksDone (ok : Bool) (tenth : Nat) (s : State) : State :=
  if inStage 1 s then
    let s := { s with now := s.now + tenth * 800000 }
    if ok then stageOk 1 tenth (modPwr (fun p => { p with xinOk := true, fireLock := true, coreLock := true }) s)
    else stageFail 1 (configReady s)
  else s

/-- The FUSES stage ends (R399, R400, R440). It reads the array once no burn of R403 runs in RESET_HOLD (DESIGN CHOICE, log entry 95). -/
def fusesDone (words : List FuseRead) (locks : List LockRead) (tenth : Nat) (s : State) : State :=
  if inStage 2 s && s.otp.burn.isNone then
    let r := readFuses words locks { s with now := s.now + tenth * 800000 }
    if r.1 then claimForSlots <| stageOk 2 tenth (loadFactory (configReady r.2)) else stageFail 2 (configReady r.2)
  else s

/-! ## SLEEP (R425 to R427) -/

/-- D3_SLEEP of PWR.CFG. -/
def d3Sleep (s : State) : Bool := s.pwr.cfg.getLsbD 0

/-- Enter SLEEP: loops stop, both PLLs stop, doorbells are latched (R425, R426). -/
def enterSleep (s : State) : State :=
  let s := stopLoops (softStopAll s)
  let s := modPwr (fun p => { p with fireLock := false, coreLock := false, coreOnDemand := false }) s
  setState .sleep { s with
    link := { s.link with readyGate := true }
    pwr := { s.pwr with sleptAt := some s.now } }

/-- SLEEP is accepted. -/
def sleepOk (s : State) : Bool := s.top.state == .ready || s.top.state == .gap

/-- PWR.CMD SLEEP (R425). A wake source in the same clock prevails (R424). -/
def requestSleep (s : State) : State :=
  if sleepOk s && !(d3Sleep s && !s.link.d3hot) && s.pwr.wakeSeen != some s.now then enterSleep (notePwr 1 0 s) else notePwr 1 2 s

/-- Leave SLEEP (R426): `cause` as PWR.WAKE_CAUSE. A request of the same clock is refused after all (R424). -/
def leaveSleep (cause : Word) (s : State) : State :=
  if s.top.state = .sleep then
    let s := if s.pwr.sleptAt = some s.now then notePwr 1 2 s else s
    let s := modPwr (fun p => { p with fireLock := true, coreLock := true, coreOnDemand := false, wakeCause := cause }) s
    openGate (resumeLoops (raise Src.wake (setState .ready s)))
  else s

/-- A wake source of WAKE_SRC, by its bit of PWR.CFG. -/
def wakeBy (bit : Nat) (s : State) : State :=
  if s.pwr.cfg.getLsbD bit then leaveSleep (1#32 <<< (bit - 8)) (modPwr (fun p => { p with wakeSeen := some s.now }) s) else s

/-- PWR.CMD WAKE (R426). -/
def requestWake (s : State) : State :=
  if s.top.state = .sleep then leaveSleep 0 (notePwr 2 0 s) else notePwr 2 2 s

/-- PLL_CORE runs on demand in SLEEP (R427). -/
def startOnDemand (s : State) : State :=
  if s.top.state = .sleep then
    modPwr (fun p => { p with coreOnDemand := true, coreLock := true }) { s with now := s.now + usGrid 25 }
  else s

/-- PLL_CORE stops again (R427). -/
def stopOnDemand (s : State) : State :=
  if s.top.state = .sleep ∧ s.pwr.coreOnDemand then
    modPwr (fun p => { p with coreOnDemand := false, coreLock := false }) { s with now := s.now + msGrid 1 }
  else s

/-! ## STANDBY requests (R428) -/

/-- PWR.CMD STANDBY. -/
def requestStandby (s : State) : State :=
  if s.top.state = .off then notePwr 3 2 s else notePwr 3 1 (modPwr (fun p => { p with standbyPend := true }) s)

/-- PWR.CMD CANCEL_STANDBY, before the bank write. -/
def cancelStandby (s : State) : State :=
  notePwr 4 0 (modPwr (fun p => { p with standbyPend := false, standbyAxes := false }) s)

/-- Raise MAIN_EN in STANDBY for a wake source (R430). -/
def raiseMain (bit : Nat) (s : State) : State :=
  if s.top.state = .standby ∧ !s.pwr.mainEn ∧ s.pwr.aonCfg.getLsbD bit then
    modPwr (fun p => { p with mainEn := true, wakeCause := 1#32 <<< (bit - 8) }) s
  else s

/-- WAKE_N has been low for 100 µs. -/
def wakePinLow (s : State) : State := raiseMain 8 { s with now := s.now + usGrid 100 }

/-- PWR.ALARM as a 48-bit count. -/
def alarmOf (p : Pwr) : BitVec 48 := (p.alarmHi.setWidth 16 ++ p.alarmLo)

/-- Grid time at which the RTC shows a count. -/
def rtcTime (v : BitVec 48) (s : State) : Nat := ceilDiv ((v - s.pwr.rtcBase).toNat * 1000000000) 4096

/-- The RTC reaches PWR.ALARM. -/
def alarmRings (s : State) : State :=
  if s.pwr.alarmHi.getLsbD 31 then raiseMain 9 (advanceTo (rtcTime (alarmOf s.pwr) s) s) else s

/-! ## RTC and clocks (R432 to R435) -/

/-- The search for XAON ends without oscillation (R433). -/
def searchEnds (s : State) : State :=
  if s.pwr.aonSearch then modPwr (fun p => { p with aonSearch := false, aonRc := true }) { s with now := s.now + msGrid 1000 }
  else s

/-- The crystal stops (R433). -/
def crystalStops (s : State) : State :=
  if s.pwr.aonRc then s
  else raise Src.aonXtalLost (pwrErr 2 (modPwr (fun p => { p with aonRc := true, aonSearch := false }) { s with now := s.now + msGrid 4 }))

/-- A write to RTC_HI arms the commit (R432). -/
def armRtc (v : Word) (s : State) : State := modPwr (fun p => { p with rtcArmed := some (v.setWidth 16 ++ p.rtcLo) }) s

/-- The next RTC tick commits the written value (R432). -/
def commitRtc (s : State) : State :=
  match s.pwr.rtcArmed with
  | none => s
  | some v =>
    let k := s.now * 4096 / 1000000000 + 1
    modPwr (fun p => { p with rtcArmed := none, rtcBase := v - BitVec.ofNat 48 k }) (advanceTo (ceilDiv (k * 1000000000) 4096) s)

/-- The spread depth has reached its new value (R435). -/
def rampEnds (s : State) : State :=
  match s.pwr.spreadRamp with
  | none => s
  | some v => modPwr (fun p => { p with spreadNow := v, spreadRamp := none }) { s with now := s.now + msGrid 1 }

/-- A write to PWR.CFG outside a document (R435): a SPREAD above 10 refuses it. -/
def writePwrCfg (w : Word) (s : State) : State :=
  let v := w &&& 0x000F1F07
  let d : BitVec 4 := (w >>> 16).setWidth 4
  if 10 < d.toNat then pwrErr 0 s
  else modPwr (fun p => { p with cfg := v, mainEn := p.mainEn || !v.getLsbD 1, spreadRamp := if d = p.spreadNow then none else some d }) s

/-- A write to PWR.RET_USER (R429). -/
def writeRetUser (i : Fin 7) (w : Word) (s : State) : State := modPwr (fun p => { p with retUser := p.retUser.set i.val w i.isLt }) s

/-- A write of the high half of PWR.ALARM commits both halves (R432, R442). -/
def commitAlarm (w : Word) (p : Pwr) : Pwr := { p with alarmHi := w &&& 0x8000FFFF, alarmLo := p.alarmHold }

/-- A reading of `t` in 1/16 °C trims the 32 kHz RC in STANDBY (R384). -/
def trimRc (t : Int) (s : State) : State :=
  if s.top.state = .standby then
    let s := tickTo (msGrid 8000) s
    modPwr (fun p => { p with rcTrimAt := s.now, rcTrim := rcTrimOf false t s }) s
  else s

end Sys2Proof.Machine
end

