-- ==== Sys2Proof/Machine/Image.lean ====
section
/-! DEFINITION. Images: header and directory (R447, R448), validity (R450), the order of the slots (R451), acceptance (R412). -/

namespace Sys2Proof.Machine

/-- Size of a slot (R445). -/
def slotSize (kolto : Bool) : Nat := if kolto then 2097152 else 1048576

/-- Flash offset of a slot (R445). -/
def slotBase (kolto slotB : Bool) : Nat :=
  match kolto, slotB with
  | false, false => 0x001000
  | false, true => 0x101000
  | true, false => 0x201000
  | true, true => 0x401000

/-- MAGIC of a kind. -/
def magicOf (kolto : Bool) : Nat := if kolto then 0x4B4F4C54 else 0x46574A56

/-- MAGIC and HDR_CRC hold (R451). -/
def headerGood (kolto : Bool) (b : List Byte) : Bool :=
  leNat b 0 4 == magicOf kolto && le32 b 252 == crc32c (slice b 0 252)

/-- DIR_COUNT. -/
def dirCount (b : List Byte) : Nat := leNat b 6 2

/-- IMAGE_LEN. -/
def imageLen (b : List Byte) : Nat := leNat b 8 4

/-- SEQ. -/
def imageSeq (b : List Byte) : Word := le32 b 12

/-- One directory entry: offset, length and the section (R448). -/
def dirEntry (b : List Byte) (i : Nat) : Nat × Nat × Section :=
  let o := 256 + 16 * i
  let off := leNat b (o + 4) 4
  let len := leNat b (o + 8) 4
  (off, len, { type := le16 b o, index := byteAt b (o + 2), flags := byteAt b (o + 3), crc := le32 b (o + 12)
               bytes := slice b off len })

/-- The directory. -/
def directory (b : List Byte) : List (Nat × Nat × Section) := (List.range (dirCount b)).map (dirEntry b)

/-- No section of the list overlaps a later one. -/
def disjointSections : List (Nat × Nat × Section) → Bool
  | [] => true
  | x :: l => (l.all fun y => decide (x.1 + x.2.1 ≤ y.1) || decide (y.1 + y.2.1 ≤ x.1)) && disjointSections l

/-- Section types that R449 defines. -/
def knownType (t : Nat) : Bool := (decide (1 ≤ t) && decide (t ≤ 7)) || t == 0x80

/-- A section by itself is well formed and its CRC matches (R448, R449, R450). -/
def sectionOk (kolto : Bool) (n len : Nat) (x : Nat × Nat × Section) : Bool :=
  let t := x.2.2.type.toNat
  x.2.2.flags &&& 0xFE == 0 && x.1 % 4 == 0 && decide (256 + 16 * n ≤ x.1) && decide (x.1 + x.2.1 ≤ len) &&
  x.2.2.crc == crc32c x.2.2.bytes && !(x.2.2.flags.getLsbD 0 && !knownType t) && !(kolto && t == 0x80) &&
  (t != 1 || x.2.1 % 8 == 0) && (t != 3 || x.2.1 == 2048) &&
  (t != 2 || decide (x.2.2.index.toNat < 8))

/-- Pairs of offset and value of a REGLOAD section. -/
def regPairs (l : List Byte) : List (Nat × Word) :=
  (List.range (l.length / 8)).map fun i => (leNat l (8 * i) 4, le32 l (8 * i + 4))

/-- Sections of a type, in ascending INDEX and then in directory order. -/
def sectionsOf (t : Nat) (l : List Section) : List Section :=
  sortBy (fun x => x.index.toNat) (l.filter fun x => x.type.toNat == t)

/-- The REGLOAD writes of an image, in their order (R449). -/
def regLoads (l : List Section) : List (Nat × Word) := (sectionsOf 1 l).flatMap fun x => regPairs x.bytes

/-- Field `i` of a PROFILE section. -/
def profField (l : List Nat) (i : Nat) : Nat := l.getD i 0

/-- What a PROFILE section expects on a port (Config.profileSection). -/
def profPortOf (l : List Nat) (p : Nat) : Option ProfPort :=
  let f (i : Nat) : Nat := l.getD (10 + 10 * p + i) 0
  if f 0 = 0 then none
  else some { classL := f 1 == 1, cols := f 2, addrs := f 3, prims := f 4, nozzles := f 5
              dlyPort := BitVec.ofNat 24 (f 6), dlyA := BitVec.ofNat 24 (f 7), dlyB := BitVec.ofNat 24 (f 8), derived := f 9 == 1 }

/-- The profile of a PROFILE section. -/
def profileOfSection (b : List Byte) : Profile :=
  let l := Config.profileSection b
  { loop := if profField l 0 = 0 then .a else .b
    set := ⟨BitVec.ofNat 24 (profField l 1), BitVec.ofNat 24 (profField l 2), BitVec.ofNat 13 (profField l 3), BitVec.ofNat 4 (profField l 4)⟩
    readAhead := profField l 5, admitRate := profField l 6, margin := profField l 7, dotPitch := profField l 8
    subst := profField l 9 == 1, ports := Vector.ofFn fun p => profPortOf l p.val }

/-- What a profile expects of a port lies in range: the fields of a head as R242 gives them for its class, and delays of 24 bits
(R178). -/
def profPortRange (f : Nat → Nat) : Bool :=
  decide (f 0 ≤ 1) && (f 0 == 0 ||
    (decide (f 1 ≤ 1) && decide (1 ≤ f 2) && decide (f 2 ≤ 2) && decide (f 9 ≤ 1) &&
      (if f 1 = 1 then f 3 == 0 && f 4 == 0 && decide (4 ≤ f 5) && decide (f 5 ≤ 2048) && f 5 % 4 == 0
       else decide (1 ≤ f 3) && decide (f 3 ≤ 32) && decide (1 ≤ f 4) && decide (f 4 ≤ 64) && f 4 % f 2 == 0 && f 5 == f 3 * f 4))) &&
  (List.range 3).all fun i => decide (f (6 + i) < 16777216)

/-- Every value of a PROFILE section lies within its chapter's range (R129, R137, R178, R180, R186, R450). -/
def profileRange (b : List Byte) : Bool :=
  let l := Config.profileSection b
  let f := profField l
  decide (f 0 ≤ 1) && decide (f 1 < 16777216) && decide (f 2 < 16777216) && ratioOk (f 1) (f 2) &&
  decide (20 ≤ f 3) && decide (f 3 ≤ 5000) && decide (f 4 ≤ 12) && decide (2 ≤ f 5) && decide (f 5 ≤ 64) &&
  decide (10 ≤ f 7) && decide (f 7 ≤ 50) &&
  decide (0 < f 8) && decide (f 9 ≤ 1) && (List.range 16).all fun p => profPortRange fun i => l.getD (10 + 10 * p + i) 0

/-- R412: the image is accepted with this security version, key slot, key and signature. -/
def imageAccepted (kolto : Bool) (b : List Byte) (o : Otp) : Bool :=
  let slot := (byteAt b 20).toNat
  decide (floorOf (if kolto then 176 else 168) o ≤ leNat b 16 4) &&
  (if slot = 255 then !mustSign kolto o
   else
    decide (slot < 8) && keyUsable o slot && sha256 (slice b 64 64) == keyHash slot o &&
    ecdsaVerify (slice b 64 64) (sha256 (slice b 0 64 ++ slice b 256 (imageLen b - 256))) (slice b 128 64))

/-- The image in a slot, if the slot is valid (R450); `regOk` judges the REGLOAD writes. -/
def parseImage (kolto : Bool) (b : List Byte) (regOk : List (Nat × Word) → Bool) (o : Otp) : Option Image :=
  let n := dirCount b
  let len := imageLen b
  let d := directory b
  let secs := d.map fun x => x.2.2
  if headerGood kolto b && leNat b 4 2 == 1 && decide (1 ≤ n) && decide (n ≤ 64) &&
      decide (256 + 16 * n ≤ len) && decide (len ≤ slotSize kolto) && decide (len ≤ b.length) &&
      le32 b 32 == crc32c (slice b 256 (len - 256)) && (d.all (sectionOk kolto n len)) && disjointSections d &&
      imageAccepted kolto b o &&
      (!kolto || (regOk (regLoads secs) && (sectionsOf 2 secs).all fun x => profileRange x.bytes))
  then some { seq := imageSeq b, secVer := le32 b 16, build := le32 b 24, flashLo := byteAt b 22, flashHi := byteAt b 23
              sections := secs }
  else none

/-- SEQ `x` is newer than SEQ `y` (R451). -/
def seqNewer (x y : Word) : Bool :=
  let d := (x - y).toNat
  decide (1 ≤ d) && decide (d ≤ 2147483647)

/-- Whether slot B is tried before slot A. -/
def slotBFirst (a b : List Byte) (kolto : Bool) : Bool :=
  headerGood kolto b && (!headerGood kolto a || seqNewer (imageSeq b) (imageSeq a))

/-- Index in `Mgt.slots`. -/
def slotIx (kolto slotB : Bool) : Fin 4 := ⟨2 * b2n kolto + b2n slotB, by cases kolto <;> cases slotB <;> decide⟩

/-! ## The scan of CHK[7] (R167, R451) -/

/-- CHK[7], if the firmware holds it, starts the IMAGE_CRC scan of a slot: flash bytes 256 to IMAGE_LEN − 1, by R41. -/
def startImageScan (kolto slotB : Bool) (b : List Byte) (s : State) : State :=
  if (s.chk.units[7]).mgtOwn then
    modUnit 7 (fun u => startUnit false false 0 s.thm.level { u with
      cfg := 0x001401A0, poly := 0x1EDC6F41, init := 0xFFFFFFFF, xorout := 0xFFFFFFFF
      start := BitVec.ofNat 64 (slotBase kolto slotB + 256), length := BitVec.ofNat 32 (imageLen b - 256) }) s
  else s

/-- The scan that the firmware runs ends, over the bytes of the slot. -/
def endImageScan (b : List Byte) (s : State) : State :=
  let u := s.chk.units[7]
  if u.mgtOwn && u.state == .running then
    let l := slice b 256 (imageLen b - 256)
    finishUnit 7 (modUnit 7 (fun u => feedUnit l { u with progress := BitVec.ofNat 32 l.length }) s)
  else s

/-- The scan of one slot at a start, a restart or a reload. -/
def scanSlot (kolto slotB : Bool) (b : List Byte) (s : State) : State := endImageScan b (startImageScan kolto slotB b s)

end Sys2Proof.Machine
end

