-- ==== Sys2Proof/Machine/Mgmt.lean ====
section
/-! DEFINITION. The management subsystem: restarts (R444), the log (R452 to R456), the auxiliary channels (R99, R100, R125), update sessions
(R457 to R459), the mailbox (R460, R461), SMBus and console (R462). -/

namespace Sys2Proof.Machine

/-- Change the management block. -/
def modMgt (f : Mgt → Mgt) (s : State) : State := { s with mgt := f s.mgt }

/-- An MGT error flag. -/
def mgtErr (i : Nat) (s : State) : State := modMgt (fun m => { m with err := setBit m.err i }) s

/-- T_ctl, or T_model while it stands in, lies in FLASH_WIN (R383). -/
def flashWindow (s : State) : Bool :=
  decide (16 * s.thm.flashLow ≤ s.thm.tCtl) && decide (s.thm.tCtl ≤ 16 * s.thm.flashHigh)

/-- A flash operation that needs no completion of its own: it goes out while FLASH_WIN allows it, else it waits (R383, R446). -/
def startFlash (op : FlashOp) (s : State) : State :=
  if flashWindow s && s.mgt.flashWait.isEmpty then flashOp op s
  else modMgt (fun m => { m with flashWait := m.flashWait ++ [op] }) s

/-- Flash operations in their order. -/
def startFlashes (l : List FlashOp) (s : State) : State := l.foldl (fun s op => startFlash op s) s

/-- The operations that have waited go out. -/
def letFlash (s : State) : State :=
  if flashWindow s && !s.mgt.flashWait.isEmpty then
    s.mgt.flashWait.foldl (fun s op => flashOp op s) (modMgt (fun m => { m with flashWait := [] }) s)
  else s

/-- A program or erase operation that failed counts in the class FLASH (R474). What it was for goes on, and a check shows what the flash
holds (DESIGN CHOICE, log entry 96). -/
def flashResult (ok : Bool) (s : State) : State := if ok then s else countClass Cls.flash s

/-! ## The log ring (R445, R452, R454) -/

/-- Places of the ring: 511 sectors of 128 records. -/
def ringPlaces : Nat := 65408

/-- The 32 bytes of a record. -/
def recordBytes (r : LogRec) : List Byte :=
  let pl := r.payload.take 16
  let body := toLe 4 r.seq.toNat ++ toLe 6 r.time.toNat ++ [r.type, r.aux] ++ pl ++ List.replicate (16 - pl.length) 0
  body ++ toLe 4 (crc32c body).toNat

/-- A record read back; none for a blank or torn one. -/
def parseRecord (b : List Byte) : Option LogRec :=
  if le32 b 28 = crc32c (slice b 0 28) ∧ b.length = 32 then
    some { seq := le32 b 0, time := BitVec.ofNat 48 (leNat b 4 6), type := byteAt b 10, aux := byteAt b 11, payload := slice b 12 16 }
  else none

/-- SEQ after `n`: 0xFFFF_FFFF is never used. -/
def nextSeq (n : Word) : Word := if n + 1 = 0xFFFFFFFF#32 then 0 else n + 1

/-- The record stands for nozzle, port and SERIAL of another (R454). -/
def sameSubst (a b : LogRec) : Bool := a.aux == b.aux && slice a.payload 2 10 == slice b.payload 2 10

/-- A standing record (R454): `later` are the records after it. -/
def standing (r : LogRec) (later : List LogRec) : Bool :=
  r.type == 5 || (r.type == 6 && !later.any fun x => x.type == 7 && sameSubst r x)

/-- The records of a ring that stand, in order. -/
def standingOf : List LogRec → List LogRec
  | [] => []
  | r :: l => if standing r l then r :: standingOf l else standingOf l

/-- The first place from `i` on that is not torn, within a sector: the first place of a sector is erased before it is used (R452, R454). -/
def skipTorn (torn : List Nat) : Nat → Nat → Nat
  | 0, i => i
  | n + 1, i => if i % 128 = 0 ∨ !torn.contains i then i else skipTorn torn n ((i + 1) % ringPlaces)

/-- The place after `i` at which a record may be written. -/
def placeAfter (torn : List Nat) (i : Nat) : Nat := skipTorn torn 128 ((i + 1) % ringPlaces)

/-- Write a record to the next place. -/
def placeRecord (r : LogRec) (s : State) : State :=
  let m := s.mgt
  let r := { r with seq := m.logSeq }
  flashOp (.program (0x601000 + 32 * m.place) (recordBytes r))
    (modMgt (fun m => { m with
      ring := m.ring ++ [(m.place, r)], place := placeAfter m.torn m.place, logNewest := m.logSeq, logSeq := nextSeq m.logSeq }) s)

/-- A record fails to be written: its place is torn and not used again (R452), and the record stays in the FIFO (DESIGN CHOICE, log
entry 96). -/
def tearPlace (r : LogRec) (s : State) : State :=
  flashOp (.program (0x601000 + 32 * s.mgt.place) (recordBytes { r with seq := s.mgt.logSeq }))
    (modMgt (fun m => { m with torn := m.place :: m.torn, place := placeAfter m.torn m.place }) s)

/-- A sector of the ring holds something. -/
def sectorUsed (m : Mgt) (sec : Nat) : Bool := (m.ring.any fun t => t.1 / 128 == sec) || m.torn.any fun i => i / 128 == sec

/-- The next place starts a sector that has not been erased yet. -/
def atUsedSector (m : Mgt) : Bool := m.place % 128 == 0 && sectorUsed m (m.place / 128)

/-- The sector that is needed next. -/
def nextSector (m : Mgt) : Nat := if atUsedSector m then m.place / 128 else (m.place / 128 + 1) % 511

/-- Blank places that are left before that sector. -/
def placesLeft (m : Mgt) : Nat :=
  if atUsedSector m then 0 else ((List.range (128 - m.place % 128)).filter fun i => !m.torn.contains (m.place + i)).length

/-- The standing records of a sector. -/
def standingIn (m : Mgt) (sec : Nat) : List LogRec :=
  let old := (m.ring.filter fun t => t.1 / 128 == sec).map fun t => t.2
  (standingOf (m.ring.map fun t => t.2)).filter fun r => old.any fun o => o == r

/-- The next record needs the erase of a sector: what is left before it is just what its standing records take (R454). -/
def compacts (m : Mgt) : Bool := sectorUsed m (nextSector m) && decide (placesLeft m ≤ (standingIn m (nextSector m)).length)

/-- Compaction (R454): the sector's standing records are copied forward with a new SEQ, and then the sector is erased. Records for which no
blank place was left follow the erase. -/
def compact (s : State) : State :=
  let sec := nextSector s.mgt
  let keep := standingIn s.mgt sec
  let n := placesLeft s.mgt
  let s := (keep.take n).foldl (fun s r => placeRecord r s) s
  let s := flashOp (.erase (0x601000 + 4096 * sec) 4096) (modMgt (fun m => { m with
    ring := m.ring.filter fun t => t.1 / 128 != sec, torn := m.torn.filter fun i => i / 128 != sec }) s)
  (keep.drop n).foldl (fun s r => placeRecord r s) s

/-- The firmware can write a record: it runs, the scan of the ring has given it the next place (R455), FLASH_WIN allows it (R383), and the
throttle at L = 1 does not pause a compaction that it needs (R372). -/
def logWrites (s : State) : Bool :=
  fwRuns s && flashWindow s && s.mgt.logReady && !(compacts s.mgt && s.thm.level == 64)

/-- The firmware writes the oldest queued record (R446, R454). -/
def writeRecord (ok : Bool) (s : State) : State :=
  if !logWrites s then s
  else match s.mgt.fifo with
    | [] => s
    | r :: rest =>
      let s := if compacts s.mgt then compact s else s
      flashResult ok (if ok then placeRecord r (modMgt (fun m => { m with fifo := rest }) s) else tearPlace r s)

/-- Write every queued record. -/
def drainLog (s : State) : State := s.mgt.fifo.foldl (fun s _ => writeRecord true s) s

/-! ## Restarts (R444) -/

/-- An UPDATE record (R453): of the image in the session's slot, else of the header that the session holds. -/
def logUpdate (outcome : Nat) (s : State) : State :=
  let m := s.mgt
  let i := m.slots[slotIx m.sesKind m.sesSlot]
  let f (g : Image → Word) (off : Nat) : Nat := match i with | some i => (g i).toNat | none => leNat m.received off 4
  pushLog 0x0A (BitVec.ofNat 8 (b2n m.sesKind))
    ([Config.updOutcome outcome] ++ toLe 1 (b2n m.sesSlot) ++ [0, 0] ++ toLe 4 (f Image.seq 12) ++ toLe 4 (f Image.secVer 16) ++
      toLe 4 (f Image.build 24)) s

/-- CHK[7] is released by the firmware; `abort` ends a run it claimed in ABORTED (R167, R444). -/
def releaseUnit (abort : Bool) (s : State) : State :=
  if (s.chk.units[7]).mgtOwn then
    let s := if abort then abortUnit 7 s else s
    modUnit 7 (fun u => { u with mgtOwn := false }) s
  else s

/-- Data of DMA[18] that has arrived is released at once (R125); a descriptor still being delivered keeps its space. -/
def dropAux (s : State) : State := modAux 0 (fun l => segDrop 0 (segBytes l - auxReserved 18 s.dma[18]) l) s

/-- The session ends without a header (R457). -/
def failSession (s : State) : State :=
  let s := mgtErr 4 (logUpdate 2 (releaseUnit true s))
  dropAux (modMgt (fun m => { m with updState := .idle, waitTemp := false, received := [], activation := .none }) s)

/-- A session that programs the flash. -/
def sessionRuns (m : Mgt) : Bool := m.updState == .erasing || m.updState == .receiving || m.updState == .verifying

/-- A management restart begins (R444). -/
def beginRestart (watchdog : Bool) (s : State) : State :=
  if s.mgt.running then
    let s := if sessionRuns s.mgt then failSession s else releaseUnit true s
    modMgt (fun m => { m with restarting := true, restartBy := s.now + msGrid 60, byWatchdog := watchdog }) s
  else s

/-- The watchdog trips (R444). -/
def tripWatchdog (s : State) : State :=
  if fwRuns s then countClass Cls.mgtWatchdog (mgtErr 3 (beginRestart true { s with now := s.now + msGrid 100 })) else s

/-- A completed activation (R457). -/
def activated (s : State) : State :=
  raise Src.mgtUpdate (modMgt (fun m => { m with updState := .idle, activation := .none, trying := none }) (logUpdate 1 s))

/-- An activation that fails (R458). -/
def activationFails (s : State) : State :=
  raise Src.mgtUpdate (modMgt (fun m => { m with updState := .idle, activation := .none, trying := none }) (logUpdate 2 s))

/-- MAGIC of a slot is programmed to 0 (R446, R459). -/
def clearMagic (kolto slotB : Bool) (s : State) : State :=
  let i := slotIx kolto slotB
  startFlash (.program (slotBase kolto slotB) [0, 0, 0, 0])
    (modMgt (fun m => { m with slots := m.slots.set i.val none i.isLt }) s)

/-- New firmware does not report running in time (R458): its slot is invalidated and the other slot started. -/
def fwTimeout (s : State) : State :=
  if s.mgt.trying.isSome ∧ s.mgt.restarting then
    let new_ := s.mgt.fwSlot
    let s := clearMagic false new_ (activationFails (advanceTo s.mgt.restartBy s))
    modMgt (fun m => { m with fwSlot := !new_, restarting := true, restartBy := s.now + msGrid 60 }) s
  else s

/-! ## Auxiliary channels (R99, R100, R125, R456, R457) -/

/-- Data is written into the space its descriptor has taken: the channel's last (R125). -/
def storeAux (ch : Chan) (b : List Byte) (s : State) : State :=
  let base := segBytes s.pond.aux[auxIx ch] - b.length
  pondWrite (fun i => auxAddr (auxIx ch) s (base + i)) b s

/-- The firmware takes data of DMA[18] (R457): no more than UPD_LEN bytes. -/
def receiveUpdate (b : List Byte) (s : State) : State :=
  let s := modMgt (fun m => { m with received := m.received ++ b }) s
  if s.mgt.updLen.toNat < s.mgt.received.length then failSession s else s

/-- The firmware accepts data on the channel now: on DMA[18] while the session receives, and while it verifies, where any byte is one too many
(R457). -/
def auxAccepts (ch : Chan) (s : State) : Bool :=
  ch.val == 19 || ((s.mgt.updState == .receiving || s.mgt.updState == .verifying) && fwRuns s)

/-- The current descriptor of an auxiliary channel can have been delivered: none of its requests waits for its re-issue, and every one has
been issued or goes out as those outstanding end (R98). -/
def takesAux (d : Dma) (c : CurDesc) : Bool :=
  works d && !c.waitSpace && (d.reqs.all fun r => r.kind != .buffer || r.backoff.isNone) && allAsked d c

/-- A host-to-device descriptor of an auxiliary channel has been delivered (R98, R99). -/
def auxDelivered (ch : Chan) (b : List Byte) (s : State) : State :=
  let d := s.dma[ch]
  match d.cur with
  | some c =>
    if ch.val < 16 ∨ !isH2d ch c.desc ∨ !takesAux d c ∨ b.length ≠ c.desc.len ∨ !auxAccepts ch s then s
    else
      let s := retire ch 0 0 b (crc32c b) (storeAux ch b s)
      proceed ch (if ch.val = 18 then receiveUpdate b s else s)
  | none => s

/-- The firmware has used data of DMA[19] that has arrived, read through the decoder (R118, R125). -/
def auxConsumed (n : Nat) (errs : Upsets) (s : State) : State :=
  let n := min n (segBytes s.pond.aux[1] - auxReserved 19 s.dma[19])
  freeAux 1 0 n (readAux 1 0 n errs s)

/-- The ring's records from SEQ `from_` on, in order. -/
def logAfter (from_ : Word) (m : Mgt) : List LogRec :=
  (m.ring.map fun t => t.2).filter fun r => r.seq == from_ || seqNewer r.seq from_

/-- Writes of `data` at `addr`, split at Maximum Payload Size and at 4 KiB (R75). -/
def postWrites : Nat → DWord → Nat → List Byte → State → State
  | 0, _, _, _, s => s
  | n + 1, addr, mps, data, s =>
    if data.isEmpty then s
    else
      let k := min (max 1 mps) (4096 - addr.toNat % 4096)
      postWrites n (addr + BitVec.ofNat 64 k) mps (data.drop k) (hostWrite addr (data.take k) s)

/-- A device-to-host descriptor ends with the data written (R100): OK, or OK_SHORT where the source has nothing more. -/
def d2hRetire (ch : Chan) (c : CurDesc) (data : List Byte) (s : State) : State :=
  if data.isEmpty then s
  else
    let s := postWrites (data.length + 1) c.desc.addr s.link.mps data s
    proceed ch (retire ch (if data.length = c.desc.len then 0 else 2) 0 data (crc32c data) s)

/-- A log upload (R456): whole records in SEQ order, from LOG_FROM or after the last one delivered. A LOG_FROM written meanwhile counts from
the next descriptor on. -/
def uploadLog (c : CurDesc) (s : State) : State :=
  let l := (logAfter s.mgt.logNext s.mgt).take (c.desc.len / 32)
  match l.getLast? with
  | none => s
  | some r => d2hRetire 16 c (l.flatMap recordBytes)
      (modMgt (fun m => { m with logNext := if m.logFresh then m.logFrom else nextSeq r.seq, logFresh := false }) s)

/-- A write of MGT.LOG_FROM takes effect at the next descriptor (R456). -/
def writeLogFrom (w : Word) (s : State) : State :=
  let waits := hasCurrent s.dma[(16 : Chan)]
  modMgt (fun m => { m with logFrom := w, logNext := if waits then m.logNext else w, logFresh := waits }) s

/-- A kill or reset of an auxiliary channel (R113, R456, R457). Of DMA[17] the spec says nothing: a dump that was partly delivered stays
queued, and begins again (DESIGN CHOICE, log entry 63). -/
def auxLost (ch : Chan) (s : State) : State :=
  if ch.val = 16 then modMgt (fun m => { m with logNext := m.logFrom, logFresh := false }) s
  else if ch.val = 17 then modMgt (fun m => { m with dumpPos := 0 }) s
  else if ch.val = 18 ∧ sessionRuns s.mgt then failSession s
  else s

/-! ## Update sessions (R457 to R459) -/

/-- OP, KIND, SLOT and RESULT of UPD_CMD. -/
def noteUpd (op : Nat) (kind slot : Bool) (result : Nat) (s : State) : State :=
  modMgt (fun m => { m with updOp := BitVec.ofNat 4 op, updKind := kind, updSlot := slot, updResult := BitVec.ofNat 2 result }) s

/-- Slot in force of a kind. -/
def inForce (kolto : Bool) (m : Mgt) : Bool := if kolto then m.cfgSlot else m.fwSlot

/-- The erases of the first `len` bytes of a slot (R457): whole 64 KiB blocks inside the slot, else 4 KiB sectors. -/
def eraseOps (base size len : Nat) : List FlashOp :=
  let sectors := ceilDiv len 4096
  (List.range sectors).filterMap fun i =>
    let a := base + 4096 * i
    let blk := a / 65536 * 65536
    let whole := decide (base ≤ blk) && decide (blk + 65536 ≤ base + size)
    if !whole then some (.erase a 4096)
    else if a = blk then some (.erase blk 65536) else none

/-- OPEN. -/
def openSession (kolto : Bool) (s : State) : State :=
  let m := s.mgt
  let slot := !inForce kolto m
  if !fwRuns s || m.updState != .idle then noteUpd 1 kolto m.updSlot 1 s
  else if m.updLen.toNat < 512 ∨ slotSize kolto < m.updLen.toNat then noteUpd 1 kolto m.updSlot 2 s
  else
    let i := slotIx kolto slot
    let s := startFlashes (eraseOps (slotBase kolto slot) (slotSize kolto) m.updLen.toNat) s
    modMgt (fun m => { m with
      updState := .erasing, sesKind := kolto, sesSlot := slot, programmed := 0, received := []
      slots := m.slots.set i.val none i.isLt }) (noteUpd 1 kolto m.updSlot 0 s)

/-- The erase is complete: every operation of it has been issued. -/
def eraseDone (ok : Bool) (s : State) : State :=
  if s.mgt.updState = .erasing ∧ s.mgt.flashWait.isEmpty then flashResult ok (modMgt (fun m => { m with updState := .receiving }) s) else s

/-- The session starts to verify: CHK[7] is claimed where the host does not run it, and scans the image (R167, R451, R457). -/
def beginVerify (s : State) : State :=
  startImageScan s.mgt.sesKind s.mgt.sesSlot s.mgt.received (claimUnit (modMgt (fun m => { m with updState := .verifying }) s))

/-- The slot offsets of the page that is programmed next: the first page is held back (R457). -/
def nextPage (m : Mgt) : Nat × Nat := (256 + m.programmed, min (512 + m.programmed) m.updLen.toNat)

/-- The session can program a page: its bytes have arrived, the firmware runs, and FLASH_WIN allows it (R383, R457). -/
def pageReady (s : State) : Bool :=
  let t := nextPage s.mgt
  s.mgt.updState == .receiving && flashWindow s && fwRuns s && decide (t.1 < t.2) && decide (t.2 ≤ s.mgt.received.length)

/-- One page is programmed (R457), its data read through the decoder (R118) and then released (R125). -/
def pageProgrammed (ok : Bool) (errs : Upsets) (s : State) : State :=
  let m := s.mgt
  let t := nextPage m
  if pageReady s then
    let n := t.2 - t.1
    let s := readAux 0 256 n errs s
    let s := flashResult ok (flashOp (.program (slotBase m.sesKind m.sesSlot + t.1) (slice m.received t.1 n)) s)
    let s := freeAux 0 256 n (modMgt (fun m => { m with programmed := m.programmed + n }) s)
    if t.2 = m.updLen.toNat then beginVerify s else s
  else s

/-- Ranges of the REGLOAD writes are judged where the section is loaded (R457). -/
def rangeOnly : List (Nat × Word) → Bool := fun _ => true

/-- The verification can end: the scan of CHK[7] is not paused (R372), and the header may be programmed (R383). -/
def verifyEnds (s : State) : Bool :=
  s.mgt.updState == .verifying && flashWindow s && !((s.chk.units[7]).mgtOwn && (s.chk.units[7]).paused)

/-- Verification ends (R457): the image as read back, judged with the held header, which is read through the decoder (R118). -/
def verifyDone (regOk : List (Nat × Word) → Bool) (image : List Byte) (errs : Upsets) (s : State) : State :=
  let m := s.mgt
  if verifyEnds s then
    let b := m.received.take 256 ++ image.drop 256
    let s := endImageScan b (readAux 0 0 256 errs s)
    match parseImage m.sesKind b regOk s.otp with
    | some i =>
      let ix := slotIx m.sesKind m.sesSlot
      let s := freeAux 0 0 256 (flashOp (.program (slotBase m.sesKind m.sesSlot) (m.received.take 256)) (releaseUnit false s))
      logUpdate 0 (modMgt (fun m => { m with
        updState := .committed, received := [], programmed := m.programmed + 256, slots := m.slots.set ix.val (some i) ix.isLt }) s)
    | none => failSession s
  else s

/-- ABORT. -/
def abortSession (s : State) : State :=
  let m := s.mgt
  let note (r : Nat) (s : State) : State := noteUpd 2 m.updKind m.updSlot r s
  if !fwRuns s then note 1 s
  else if sessionRuns m then failSession (note 0 s)
  else if m.updState = .committed then
    modMgt (fun m => { m with updState := .idle }) (clearMagic m.sesKind m.sesSlot (note 0 s))
  else note 1 s

/-- Sections of an image by type and index, with their CRC, without a type. -/
def sectionKeys (l : List Section) : List (Nat × Nat × Nat × Nat) :=
  l.map fun x => (x.type.toNat, x.index.toNat, x.bytes.length, x.crc.toNat)

/-- Types of the sections in which two images differ (R458). -/
def differingTypes (a b : Image) : List Nat :=
  let ka := sectionKeys a.sections
  let kb := sectionKeys b.sections
  ((ka.filter fun x => !kb.contains x) ++ (kb.filter fun x => !ka.contains x)).map fun x => x.1

/-- REGLOAD writes of the new image that the old one does not make alike. -/
def newLoads (old new_ : Image) : List (Nat × Word) := (regLoads new_.sections).filter fun x => !(regLoads old.sections).contains x

/-- Offset of CAL.CFG in BAR0. -/
def calCfgOff : Nat := 0x400C

/-- How a Kolto image is activated (R458). -/
def koltoActivation (old : Option Image) (new_ : Image) (s : State) : Activation :=
  match old with
  | none => .reload
  | some o =>
    let d := differingTypes o new_
    if !d.isEmpty && d.all (· == 3) then
      if isPair s && s.sup.swap == .closed then .swap else .energyReload
    else if d.all (fun t => t == 5 || t == 1) && d.contains 5 && (newLoads o new_).all (fun x => x.1 == calCfgOff) &&
        (newLoads new_ o).all (fun x => x.1 == calCfgOff) then .calibration
    else .reload

/-- Eight energy blocks in an ENERGY section (R225, R449). -/
def blocksOf (b : List Byte) : Vector EnergyBlock 8 :=
  Vector.ofFn fun q => Vector.ofFn fun w => le32 b (256 * q.val + 4 * w.val)

/-- ENERGY section of an image. -/
def energySection (i : Image) : Option (List Byte) := (sectionsOf 3 i.sections).head?.map fun x => x.bytes

/-- The firmware starts the swap of an activation (R317, R458). -/
def startSwap (i : Image) (s : State) : State :=
  match energySection i with
  | none => s
  | some b =>
    let s := openSwap s
    let rest := (List.range 512).filterMap fun w => if w % 64 < 24 then none else some (w, le32 b (4 * w))
    let s := { s with sup := { s.sup with stage := blocksOf b, stageRest := rest.filter fun t => t.2 != 0 } }
    armSwap { s with sup := { s.sup with stageCrc := crc32c (stageBytes s) } }

/-- Activate the image in a slot of a kind. -/
def activate (kolto slotB : Bool) (s : State) : State :=
  let m := s.mgt
  if kolto then
    match m.slots[slotIx true slotB] with
    | none => s
    | some i =>
      let a := koltoActivation m.kolto i s
      let s := modMgt (fun m => { m with updState := .pending, sesKind := true, sesSlot := slotB, activation := a }) s
      if a = .swap then startSwap i s else s
  else
    let s := modMgt (fun m => { m with
      updState := .pending, sesKind := false, sesSlot := slotB, activation := .firmware, trying := some m.fwSlot, fwSlot := slotB }) s
    beginRestart false s

/-- ACTIVATE. -/
def activateSession (s : State) : State :=
  let m := s.mgt
  if fwRuns s ∧ m.updState = .committed then activate m.sesKind m.sesSlot (noteUpd 3 m.updKind m.updSlot 0 s)
  else noteUpd 3 m.updKind m.updSlot 1 s

/-- INVALIDATE (R459). -/
def invalidateSlot (kolto slotB : Bool) (s : State) : State :=
  let m := s.mgt
  let note (r : Nat) (s : State) : State :=
    modMgt (fun m => { m with updOp := 4, updKind := kolto, updSlot := slotB, updResult := BitVec.ofNat 2 r }) s
  if !fwRuns s || m.updState != .idle then note 1 s
  else if (m.slots[slotIx kolto (!slotB)]).isNone then note 2 s
  else clearMagic kolto slotB (note 0 s)

/-- The valid slot of a kind that R451 tries first. -/
def firstValid (kolto : Bool) (m : Mgt) : Option Bool :=
  match m.slots[slotIx kolto false], m.slots[slotIx kolto true] with
  | some a, some b => some (seqNewer b.seq a.seq)
  | some _, none => some false
  | none, some _ => some true
  | none, none => none

/-- RELOAD (R459). -/
def reloadSlot (kolto : Bool) (s : State) : State :=
  let m := s.mgt
  let note (r : Nat) (s : State) : State := noteUpd 5 kolto m.updSlot r s
  if !fwRuns s || m.updState != .idle then note 1 s
  else match firstValid kolto m with
    | none => note 2 s
    | some b => activate kolto b (note 0 s)

/-- A Kolto activation that runs as a calibration starts at a quiet point (R458). -/
def calActivation (s : State) : State :=
  let m := s.mgt
  if m.updState = .pending ∧ m.activation = .calibration ∧ (s.top.state = .ready ∨ s.top.state = .gap) ∧ !docInProgress s then
    match m.slots[slotIx true m.sesSlot] with
    | some i =>
      let board := ((sectionsOf 5 i.sections).head?.map fun x => x.bytes).getD []
      let cfg := ((regLoads i.sections).filter fun x => x.1 == calCfgOff).getLast?.map fun x => x.2
      modMgt (fun m => { m with calRun := true }) (startCal true (modCal (fun k => { k with board := board, cfg := (cfg.getD k.cfg) &&& 0x03FF1FFF }) s))
    | none => s
  else s

/-! ## Mailbox (R460, R461) -/

/-- OP and RESULT of MBX_CMD. -/
def noteMbx (op result : Nat) (s : State) : State :=
  modMgt (fun m => { m with mbxOp := BitVec.ofNat 4 op, mbxResult := BitVec.ofNat 2 result }) s

/-- A mailbox operation ends (R464). -/
def mbxDone (op result : Nat) (s : State) : State := raise Src.mbxDone (noteMbx op result s)

/-- `n` bytes of the window. -/
def mbxBytes (n : Nat) (m : Mgt) : List Byte :=
  (List.range n).map fun i => ((m.mbx.find? fun t => t.1 == i).map fun t => t.2).getD 0

/-- The window with bytes from its start replaced. -/
def putMbx (b : List Byte) (m : Mgt) : Mgt :=
  { m with mbx := (b.zipIdx.map fun t => (t.2, t.1)) ++ m.mbx.filter fun t => b.length ≤ t.1 }

/-- LENGTH is legal. -/
def mbxLenOk (m : Mgt) : Bool := m.mbxLen != 0 && decide (m.mbxLen.toNat ≤ 2048)

/-- A mailbox operation cannot be taken now. -/
def mbxBusy (s : State) : Bool :=
  !fwRuns s || s.hp.toList.any fun h => h.mailWrite.isSome

/-- HEAD_WRITE (R460): the record is written once no other write of the port runs. -/
def mailHeadWrite (s : State) : State :=
  let m := s.mgt
  if m.recovery then noteMbx 1 2 s
  else if mbxBusy s then noteMbx 1 1 s
  else if h : m.mbxArg.toNat < 16 then
    let p : Port := ⟨m.mbxArg.toNat, h⟩
    let hp := s.hp[p]
    let r := mbxBytes 128 m
    if mbxLenOk m && recordValid r && !hp.record.isEmpty && recSerial r == recSerial hp.record && canWrite hp then
      recordWrite p (modHp p (fun h => { h with mailWrite := some r }) (noteMbx 1 3 s))
    else mbxDone 1 2 s
  else mbxDone 1 2 s

/-- USER_READ (R460). -/
def mailUserRead (s : State) : State :=
  let m := s.mgt
  let off := 2048 * m.mbxArg.toNat
  if m.recovery then noteMbx 2 2 s
  else if mbxBusy s then noteMbx 2 1 s
  else if mbxLenOk m && decide (off + m.mbxLen.toNat ≤ m.user.length) then
    mbxDone 2 0 (modMgt (putMbx (slice m.user off m.mbxLen.toNat)) s)
  else mbxDone 2 2 s

/-- The recovery waits for a new first chunk: firmware slot A is erased again (R461). -/
def recoveryRestart (s : State) : State :=
  modMgt (fun m => { m with recImage := [] }) (startFlashes (eraseOps (slotBase false false) (slotSize false) (slotSize false)) s)

/-- The bytes received hold the whole image, by its IMAGE_LEN, or a header that no slot can hold (R447, R461). -/
def recWhole (b : List Byte) : Bool :=
  decide (256 ≤ b.length) && (decide (imageLen b ≤ b.length) || decide (slotSize false < imageLen b))

/-- The ROM judges the image that it reads back with the held header, and programs the header last (R450, R461). -/
def recoverEnds (readBack : List Byte) (s : State) : State :=
  let header := s.mgt.recImage.take 256
  match parseImage false (header ++ readBack.drop 256) rangeOnly s.otp with
  | some _ =>
    let s := startFlash (.program (slotBase false false) header) s
    claimForSlots <| setState .boot (modMgt (fun m => { m with recovery := false, recImage := [] }) (mbxDone 3 0 s))
  | none => recoveryRestart (mbxDone 3 2 s)

/-- RECOVERY_CHUNK (R461): `verified` is the image that the ROM reads back, if that is not what it programmed. -/
def recoverChunk (verified : Option (List Byte)) (s : State) : State :=
  let m := s.mgt
  let off := 2048 * m.mbxArg.toNat
  if !m.recovery then noteMbx 3 (if mbxBusy s then 1 else 2) s
  else if !mbxLenOk m then mbxDone 3 2 s
  else
    let s := if off = 0 then recoveryRestart s else s
    if off ≠ s.mgt.recImage.length then recoveryRestart (mbxDone 3 2 s)
    else
      let b := mbxBytes m.mbxLen.toNat m
      let s := modMgt (fun m => { m with recImage := m.recImage ++ b }) s
      let s := if 256 < off + b.length then startFlash (.program (slotBase false false + max 256 off) (b.drop (256 - off))) s else s
      if recWhole s.mgt.recImage then recoverEnds (verified.getD s.mgt.recImage) s else mbxDone 3 0 s

/-! ## Monitoring, SMBus and console (R443, R462) -/

/-- The readings of R443. -/
def takeReadings (vm package : Nat) (r0 r1 r2 r3 : RailRead) (supplies : List Nat) (s : State) : State :=
  if fwRuns s then
    let s := modMgt (fun m => { m with tCtl := s.thm.tCtl, supplies := supplies, vm10mV := vm, package := package, rails := #v[r0.v10mV, r1.v10mV, r2.v10mV, r3.v10mV] })
      (tickTo (msGrid 100) s)
    measureRail 3 r3 (measureRail 2 r2 (measureRail 1 r1 (measureRail 0 r0 s)))
  else s

/-- Answers on SMBus: status 0 with data, 1 BUSY, 2 NACK. -/
def smbReply (status : Byte) (b : List Byte) (s : State) : State := reply (status :: b) s

/-- One byte of the packet error code: CRC-8 with the polynomial 0x07 (PRESUMED, log entry 98). -/
def pecByte (c b : Byte) : Byte := (List.range 8).foldl (fun c _ => if c.getLsbD 7 then (c <<< 1) ^^^ 0x07#8 else c <<< 1) (c ^^^ b)

/-- The packet error code of a read: over the address with its direction bit and the command code, the address again, and the bytes
read. -/
def pecOf (addr : BitVec 7) (code : Byte) (b : List Byte) : Byte :=
  ([addr ++ 0#1, code, addr ++ 1#1] ++ b).foldl pecByte 0

/-- A read on SMBus (R441, R462): nobody answers at another address; BUSY before the firmware runs; NACK of a command without data, and of
any byte written beyond the command code. -/
def smbAnswer (addr : BitVec 7) (code : Byte) (extra : List Byte) (pec : Bool) (data : Option (List Byte)) (s : State) : State :=
  if addr ≠ s.mgt.smbAddr then s
  else if !fwRuns s then smbReply 1 [] s
  else match data with
    | some b => if extra.isEmpty then smbReply 0 (b ++ if pec then [pecOf addr code b] else []) s else smbReply 2 [] s
    | none => smbReply 2 [] s

/-- Word of a command code (R462); `status` is the transport port's STATUS. -/
def smbWord (code : Nat) (status : Half) (s : State) : Option Nat :=
  let m := s.mgt
  match code with
  | 0 => some status.toNat
  | 1 => some (BitVec.ofInt 16 m.tCtl).toNat
  | 2 => some s.thm.level
  | 3 => some (m.package / 10)
  | 4 => some m.vm10mV
  | 5 => some m.rails[0]
  | 6 => some m.rails[1]
  | 7 => some m.rails[2]
  | 8 => some m.rails[3]
  | 9 => some s.pwr.attempts.toNat
  | 10 => some s.tpt.faultyCount.toNat
  | _ => none

/-- SMBus Read Word. -/
def smbRead (addr : BitVec 7) (code : Byte) (extra : List Byte) (pec : Bool) (status : Half) (s : State) : State :=
  smbAnswer addr code extra pec ((smbWord code.toNat status s).map (toLe 2)) s

/-- Bits of TOP.REV (R28). -/
def topRev : Word := (Config.logicRev.setWidth 32 <<< 8) ||| Config.driveRev.setWidth 32

/-- SMBus Block Read on 0x20: the byte count, identity, revision, versions and DEVICE_UID. -/
def smbBlock (addr : BitVec 7) (code : Byte) (extra : List Byte) (pec : Bool) (s : State) : State :=
  let block := [20] ++ toLe 2 0x2416 ++ toLe 2 topRev.toNat ++ toLe 4 s.mgt.fwVer.toNat ++ toLe 4 s.mgt.cfgVer.toNat ++
    toLe 8 (fuseValue 1 s.otp).toNat
  smbAnswer addr code extra pec (if code = 0x20 then some block else none) s

/-- A console request: a listing whose text the spec does not give, or silence (R441, R462). -/
def consoleReply (s : State) : State :=
  if fwRuns s then
    let (i, s) := nextFree s
    reply (toLe 8 (Config.freeWord i).toNat) s
  else s

end Sys2Proof.Machine
end

