-- ==== Sys2Proof/Machine/Link.lean ====
section
/-! DEFINITION. The PCI Express function: configuration requests (R73, R74, R77), link power (R80, R81), link state (R116), AER (R105,
R474), and MSI-X masks and holdoffs (R467). -/

namespace Sys2Proof.Machine

/-- Change the link. -/
def modLink (f : Link → Link) (s : State) : State := { s with link := f s.link }

/-! ## MSI-X (R467) -/

/-- The messages of a vector are enabled and unmasked. -/
def vecOpen (v : Fin 128) (s : State) : Bool := s.link.msixEn && s.link.busMaster && !vecMasked v s

/-- A pending message of a vector goes out once neither a mask nor a holdoff is in the way. -/
def sendPending (v : Fin 128) (s : State) : State :=
  if s.evt.pba.getLsbD v.val && vecOpen v s && !holdingOff v s then sendMsi v s else s

/-- Every vector's pending message. -/
def sendAllPending (s : State) : State := (List.finRange 128).foldl (fun s v => sendPending v s) s

/-- A vector's holdoff ends: the raises that came during it make one message. -/
def holdoffEnds (v : Fin 128) (s : State) : State :=
  match s.evt.holdEnd[v] with
  | none => s
  | some t =>
    let s := advanceTo t s
    let was := s.evt.held.getLsbD v.val
    let s := { s with evt := { s.evt with holdEnd := s.evt.holdEnd.set v.val none v.isLt, held := clearBit s.evt.held v.val } }
    let s := if was then { s with evt := { s.evt with pba := setBit s.evt.pba v.val } } else s
    sendPending v s

/-- The mask bit of a vector. -/
def setVecMask (v : Fin 128) (m : Bool) (s : State) : State :=
  sendPending v { s with evt := { s.evt with table := s.evt.table.set v.val { s.evt.table[v] with masked := m } v.isLt } }

/-- The function mask. -/
def setFuncMask (m : Bool) (s : State) : State := sendAllPending (modLink (fun l => { l with funcMask := m }) s)

/-- A vector mask, or the function mask, is lifted. -/
def liftMask (v : Option (Fin 128)) (s : State) : State :=
  match v with
  | some v => setVecMask v false s
  | none => setFuncMask false s

/-! ## Configuration space (R73, R74, R77) -/

/-- Address bits of BAR0, BAR2 and BAR4 below their sizes of 256 KiB, 4 KiB and 8 KiB (R16). -/
def barBits : Vector Nat 3 := #v[18, 12, 13]

/-- A word of a base address register: the low word reads type 64-bit, non-prefetchable, and 0 in the address bits below the size (R16). -/
def barWord (i : Fin 3) (hi : Bool) (l : Link) : Word :=
  if hi then (l.bars[i] >>> 32).setWidth 32 else (l.bars[i].setWidth 32 >>> barBits[i]) <<< barBits[i] ||| 4#32

/-- A write of one word of a base address register. -/
def writeBar (i : Fin 3) (hi : Bool) (v : Word) (l : Link) : Link :=
  let old := l.bars[i]
  let new : DWord := if hi then (old.setWidth 32).setWidth 64 ||| (v.setWidth 64 <<< 32)
    else ((old >>> 32) <<< 32) ||| ((v >>> barBits[i]) <<< barBits[i]).setWidth 64
  { l with bars := l.bars.set i.val new i.isLt }

/-- The base address register at an offset of the header, and whether it is the high word. -/
def barAt (off : Nat) : Option (Fin 3 × Bool) :=
  match off with
  | 0x10 => some (0, false) | 0x14 => some (0, true)
  | 0x18 => some (1, false) | 0x1C => some (1, true)
  | 0x20 => some (2, false) | 0x24 => some (2, true)
  | _ => none

/-- The words of the AER capability after its header (R73, log entry 5). -/
def aerWord (off : Nat) (a : Aer) : Option Word :=
  match off with
  | 0x04 => some a.uncStatus
  | 0x08 => some a.uncMask
  | 0x0C => some a.uncSeverity
  | 0x10 => some a.corStatus
  | 0x14 => some a.corMask
  | 0x18 => some (fieldAt a.firstError 0)
  | 0x1C => some ((a.header >>> 96).setWidth 32)
  | 0x20 => some ((a.header >>> 64).setWidth 32)
  | 0x24 => some ((a.header >>> 32).setWidth 32)
  | 0x28 => some (a.header.setWidth 32)
  | _ => none

/-- A write into the AER capability: the status words are cleared by ones, masks and severities are set. -/
def writeAer (off : Nat) (v : Word) (a : Aer) : Aer :=
  match off with
  | 0x04 => { a with uncStatus := a.uncStatus &&& ~~~v }
  | 0x08 => { a with uncMask := v }
  | 0x0C => { a with uncSeverity := v }
  | 0x10 => { a with corStatus := a.corStatus &&& ~~~v }
  | 0x14 => { a with corMask := v }
  | _ => a

/-- The Link Capabilities word (R73, R80): 8.0 GT/s, ×2, ASPM L1 alone, and an L1 exit latency under 8 µs. -/
def linkCapWord : Word :=
  (Config.cfgSpace Config.linkCap &&& 0xFFFC0000#32) ||| 0x00000823#32 ||| fieldAt (BitVec.ofNat 3 Config.l1Exit.val) 15

/-- A configuration-space word; what the spec does not give is an unnamed word of the implementation (log entry 5). -/
def cfgWord (off : Nat) (s : State) : Word :=
  let l := s.link
  let base := Config.cfgSpace off
  if off = 0 then 0x24160000#32 ||| Config.vendorId.setWidth 32
  else if off = 4 then putBit base 2 l.busMaster
  else if off = 8 then 0x11800000#32 ||| Config.logicRev.setWidth 32
  else if off = 0x30 then 0
  else if off = 0x3C then base &&& 0xFFFF00FF#32
  else if off = Config.msixCap then
    putBit (putBit ((base &&& 0x0000FFFF#32) ||| 0x007F0000#32) 31 l.msixEn) 30 l.funcMask
  else if off = Config.devCtl then
    (base &&& 0xFFFF8F1F#32) ||| fieldAt (BitVec.ofNat 3 (Nat.log2 (l.mps / 128))) 5 |||
      fieldAt (BitVec.ofNat 3 (Nat.log2 (l.mrrs / 128))) 12
  else if off = Config.devCtl2 then (base &&& 0xFFFFFFF0#32) ||| fieldAt l.ctoValue 0
  else if off = Config.pmCsr then (base &&& 0xFFFFFEF4#32) ||| 8#32 ||| (if l.d3hot then 3#32 else 0)
  else if off = Config.linkCap then linkCapWord
  else match barAt off with
    | some (i, hi) => barWord i hi l
    | none => if Config.aerCap ≤ off then (aerWord (off - Config.aerCap) l.aer).getD base else base

/-- A configuration write: the base addresses, the AER registers, Bus Master Enable, MSI-X Enable and Function Mask, and the programmed sizes and time-out. A size above
the supported one is taken as the supported one (log entry 5). -/
def cfgWrite (off : Nat) (v : Word) (s : State) : State :=
  if off = 4 then sendAllPending (modLink (fun l => { l with busMaster := v.getLsbD 2 }) s)
  else if off = Config.msixCap then
    sendAllPending (modLink (fun l => { l with msixEn := v.getLsbD 31, funcMask := v.getLsbD 30 }) s)
  else if off = Config.devCtl then
    modLink (fun l => { l with mps := 128 * 2 ^ min ((v >>> 5).toNat % 8) 1, mrrs := 128 * 2 ^ min ((v >>> 12).toNat % 8) 2 }) s
  else if off = Config.devCtl2 then modLink (fun l => { l with ctoValue := v.setWidth 4 }) s
  else match barAt off with
    | some (i, hi) => modLink (writeBar i hi v) s
    | none => if Config.aerCap ≤ off then modLink (fun l => { l with aer := writeAer (off - Config.aerCap) v l.aer }) s else s

/-- A configuration request: Configuration Request Retry Status (byte 1) until configuration readiness, and a successful
completion (byte 0, with the data of a read) after it (R77). -/
def answerConfig (write : Bool) (off : Nat) (v : Word) (s : State) : State :=
  let s := touchLink s
  if !s.link.cfgReady then reply [1] s
  else if write then reply [0] (cfgWrite off v s)
  else reply (0 :: toLe 4 (cfgWord off s).toNat) s

/-! ## Link power and state (R80, R81, R116) -/

/-- An enabled channel has HEAD ≠ TAIL, as they read. -/
def workPending (s : State) : Bool := s.dma.toList.any fun d => d.enable && d.head != tailShown d

/-- The link enters L1 once 64 µs have passed since the last traffic (R80). -/
def enterL1 (s : State) : State :=
  if docInProgress s || workPending s then s
  else modLink (fun l => { l with l1 := true }) (advanceTo (s.link.traffic + usGrid 64) s)

/-- Latency tolerance that LTR reports, in µs; none for "no requirement" (R80). -/
def ltrTolerance (s : State) : Option Nat := if s.top.state = .gap then some 20 else none

/-- LTR follows the device state. -/
def reportLtr (s : State) : State := { s with out := { s.out with ltr := ltrTolerance s } }

/-- A channel that was not stopped before D3hot is killed (R81). -/
def killUnstopped (s : State) (ch : Chan) : State :=
  if works s.dma[ch] then auxLost ch (killChan ch s) else s

/-- The function enters D3hot (R81, R425). -/
def enterD3hot (s : State) : State :=
  let s := modLink (fun l => { l with d3hot := true }) s
  let s := (List.finRange 20).foldl killUnstopped s
  if d3Sleep s && sleepOk s then enterSleep s else s

/-- The function returns to D0 (R81, R426). -/
def returnD0 (s : State) : State :=
  let s := modLink (fun l => { l with d3hot := false }) s
  if d3Sleep s then leaveSleep 0 s else s

/-- The negotiated link changes (R116). -/
def linkChanges (speed width : BitVec 4) (dl rev : Bool) (s : State) : State :=
  let l := s.link
  let chg := speed != l.speed || width != l.width || dl != l.dlActive
  let s := modLink (fun l => { l with speed := speed, width := width, dlActive := dl, reversed := rev }) s
  if chg then raise Src.linkChange s else s

/-- A correctable error reported through AER (R474). -/
def aerCorrectable (bit : Fin 16) (s : State) : State := touchLink (reportCorrectable bit.val s)

end Sys2Proof.Machine
end

