-- ==== Sys2Proof/Machine/RegWrite.lean ====
section
/-! DEFINITION. Register writes (R2 to R10, R13, R15, R16): every register a write reaches, by block, with its access type, its range and
its commands. Counter clears and commands that share a word with other fields are here, so that one word may carry several. -/

namespace Sys2Proof.Machine

/-! ## Access types (R2, R5) -/

/-- A write that reaches RWG fields alone: ignored and counted while a document is in progress. -/
def guarded (f : State → State) (s : State) : State := if docInProgress s then countIgnored s else f s

/-- A write that reaches RWL fields alone: ignored and counted while their lock bit is set. -/
def unlessLocked (lock : Bool) (f : State → State) (s : State) : State := if lock then countIgnored s else f s

/-- Count an access that reaches a field R2 ignores, beside fields that take effect. -/
def countWhen (c : Bool) (s : State) : State := if c then countIgnored s else s

/-- Bits a write of 1 clears. -/
def w1c {n : Nat} (old w : BitVec n) : BitVec n := old &&& ~~~w

/-- Carry out an action if a bit of the written word is 1. -/
def onBit (w : Word) (i : Nat) (f : State → State) (s : State) : State := if w.getLsbD i then f s else s

/-- The index of an array entry at `off` from `base`, with entries `step` bytes apart. -/
def entryAt (off base step n : Nat) : Option (Fin n) :=
  if h : base ≤ off ∧ (off - base) % step = 0 ∧ (off - base) / step < n then some ⟨(off - base) / step, h.2.2⟩ else none

/-- The instance and offset within it of an access to a block of `n` instances `step` bytes apart. -/
def instanceAt (off base step n : Nat) : Option (Fin n × Nat) :=
  if h : base ≤ off ∧ (off - base) / step < n then some (⟨(off - base) / step, h.2⟩, (off - base) % step) else none

/-- Replace 32 bits of a 64-bit value. -/
def putHalf (hi : Bool) (v : DWord) (w : Word) : DWord :=
  if hi then (w ++ v.setWidth 32) else ((v >>> 32).setWidth 32 ++ w)

/-! ## TOP and EVT (R28, R29, R478) -/

/-- Bits of the source registers that stand for a source (R464). -/
def sourceMask : BitVec 128 := 0x0000FFFF_0FFFFFFF_FFFFFFFF_FFFFFFFF

/-- Replace word `g` of a source register. -/
def putSources (g : Nat) (old : BitVec 128) (w : Word) : BitVec 128 :=
  ((old &&& ~~~((0xFFFFFFFF#128) <<< (32 * g))) ||| (w.setWidth 128 <<< (32 * g))) &&& sourceMask

/-- Clear TOP.IGNORED_WRITES (R29). -/
def clearIgnored (s : State) : State := { s with top := { s.top with ignored := 0 } }

/-- A write to the TOP block. -/
def writeTop (off : Nat) (w : Word) (s : State) : State :=
  if off = 0x14 then onBit w 0 clearIgnored s
  else if off = 0x18 then { s with top := { s.top with scratch := w } }
  else s

/-- A write of EVT.LASTING: a cleared class's window is emptied (R471). -/
def clearLasting (w : Word) (s : State) : State :=
  (List.finRange 32).foldl (fun s c => if w.getLsbD c.val then clearClass c s else s) s

/-- CNT_CLR of EVT.CTL. -/
def clearTotals (s : State) : State :=
  { s with evt := { s.evt with classes := s.evt.classes.map fun k => { k with total := 0 } } }

/-- A write of EVT.CLASS_CFG: a value out of range is ignored as a whole (R478). -/
def writeClassCfg (c : Fin 32) (w : Word) (s : State) : State :=
  let act := w.toNat / 1073741824
  let thr := (w.toNat / 4194304) % 256
  let win := w.toNat % 4194304
  if act = 3 ∨ thr = 0 ∨ win = 0 ∨ 3600000 < win then s
  else { s with evt := { s.evt with
    cfg := s.evt.cfg.set c.val ⟨BitVec.ofNat 2 act, BitVec.ofNat 8 thr, BitVec.ofNat 22 win⟩ c.isLt } }

/-- Four vectors of one EVT.VEC entry. -/
def writeVecs (i : Fin 32) (w : Word) (s : State) : State :=
  { s with evt := { s.evt with
      vec := s.evt.vec.mapIdx fun j v => if j / 4 = i.val then (w >>> (8 * (j % 4))).setWidth 7 else v } }

/-- A write to the EVT block. -/
def writeEvt (off : Nat) (w : Word) (s : State) : State :=
  if off = 0 then onBit w 1 clearTotals (onBit w 0 (raise Src.evtTest) s)
  else if off = 4 then { s with evt := { s.evt with holdoff := w.setWidth 8 } }
  else if off = 0x100 then clearLasting w s
  else match entryAt off 0x10 4 4, entryAt off 0x20 4 4, entryAt off 0x30 4 4, entryAt off 0x40 4 4 with
    | some g, _, _, _ => { s with evt := { s.evt with pend := s.evt.pend &&& ~~~(w.setWidth 128 <<< (32 * g.val)) } }
    | _, some g, _, _ => { s with evt := { s.evt with msiEn := putSources g.val s.evt.msiEn w } }
    | _, _, some g, _ => { s with evt := { s.evt with tpEn := putSources g.val s.evt.tpEn w } }
    | _, _, _, some g => { s with evt := { s.evt with logEn := putSources g.val s.evt.logEn w } }
    | _, _, _, _ => match entryAt off 0x80 4 32, entryAt off 0x200 4 32 with
      | some i, _ => writeVecs i w s
      | _, some c => writeClassCfg c w s
      | _, _ => s

/-! ## PWR, THM, CAL, OTP, MGT (R442, R385, R395, R416, R463) -/

/-- OP of a command word: bits 31:28. -/
def wordOp (w : Word) : Nat := w.toNat / 268435456

/-- A write of PWR.CMD. -/
def writePwrCmd (w : Word) (s : State) : State :=
  match wordOp w with
  | 1 => requestSleep s
  | 2 => requestWake s
  | 3 => requestStandby s
  | 4 => cancelStandby s
  | op => notePwr op 2 s

/-- A write to the PWR block. -/
def writePwr (off : Nat) (w : Word) (s : State) : State :=
  match off with
  | 0x00 => writePwrCmd w s
  | 0x08 => modPwr (fun p => { p with err := w1c p.err w }) s
  | 0x0C => guarded (writePwrCfg w) s
  | 0x20 => modPwr (fun p => { p with rtcLo := w }) s
  | 0x24 => armRtc w s
  | 0x28 => modPwr (fun p => { p with alarmHold := w }) s
  | 0x2C => modPwr (commitAlarm w) s
  | _ => match entryAt off 0x40 4 7 with
    | some i => writeRetUser i w s
    | none => s

/-- One field of a register that ignores a value out of range: the new value where `lo ≤ value ≤ hi`, else the old one. -/
def keepField (pos width lo hi : Nat) (old w v : Word) : Word :=
  let mask : Word := BitVec.ofNat 32 ((2 ^ width - 1) * 2 ^ pos)
  let x := (w.toNat / 2 ^ pos) % 2 ^ width
  if lo ≤ x ∧ x ≤ hi then (v &&& ~~~mask) ||| (w &&& mask) else (v &&& ~~~mask) ||| (old &&& mask)

/-- A value lies in the range of a field. -/
def fieldIn (pos width lo hi : Nat) (w : Word) : Bool :=
  let x := (w.toNat / 2 ^ pos) % 2 ^ width
  decide (lo ≤ x) && decide (x ≤ hi)

/-- THM.MODEL_CFG after a write: a field written 0 keeps its value (R385). -/
def newModelCfg (old w : Word) : Word :=
  keepField 0 8 1 255 old w (keepField 8 8 1 255 old w (keepField 16 8 1 255 old w (keepField 24 8 1 255 old w 0)))

/-- A write of THM.MODEL_CFG. -/
def writeModelCfg (w : Word) (s : State) : State := modThm (fun t => { t with modelCfg := newModelCfg t.modelCfg w }) s

/-- A write to the THM block. -/
def writeThm (off : Nat) (w : Word) (s : State) : State :=
  match off with
  | 0x00 => onBit w 1 clearPeak (onBit w 0 resumeSensor s)
  | 0x08 => modThm (fun t => { t with err := w1c t.err w }) s
  | 0x18 => guarded (writeModelCfg w) s
  | _ => s

/-- CAL.CFG after a write: a field out of range keeps its value (R395). -/
def newCalCfg (old w : Word) : Word :=
  keepField 0 8 1 255 old w (keepField 8 5 2 30 old w (keepField 16 8 1 255 old w (w &&& 0x03000000)))

/-- A write to the CAL block. -/
def writeCal (off : Nat) (w : Word) (s : State) : State :=
  match off with
  | 0x00 => if w.getLsbD 0 then calRequest true s else onBit w 1 (calRequest false) s
  | 0x08 => modCal (fun k => { k with err := w1c k.err w }) s
  | 0x0C => guarded (modCal fun k => { k with cfg := newCalCfg k.cfg w }) s
  | _ => s

/-- The three level reads and lock cells that a REREAD written to the register finds: those of the array as the model holds it. -/
def presentReads (s : State) : List FuseRead × List LockRead := (s.otp.cells, s.otp.locks.toList)

/-- A write of OTP.CMD. -/
def writeOtpCmd (w : Word) (s : State) : State :=
  let word : BitVec 9 := w.setWidth 9
  let s := if s.otp.burn.isSome then s else modOtp (fun o => { o with cmdLevel := (w >>> 22).setWidth 2 }) s
  match wordOp w with
  | 1 => readFuse word ((w >>> 22).setWidth 2) s
  | 7 => rereadFuses (presentReads s).1 (presentReads s).2 (if s.otp.burn.isSome then s else modOtp (fun o => { o with cmdWord := word }) s)
  | op => burnCommand op word s

/-- A write to the OTP block. -/
def writeOtp (off : Nat) (w : Word) (s : State) : State :=
  match off with
  | 0x00 => writeOtpCmd w s
  | 0x04 => modOtp (fun o => { o with data := putHalf false o.data w }) s
  | 0x08 => modOtp (fun o => { o with data := putHalf true o.data w }) s
  | 0x10 => modOtp (fun o => { o with err := w1c o.err w }) s
  | _ => s

/-- DUMP of MGT.CTL (R456). -/
def queueDump (s : State) : State := modMgt (fun m => { m with dumps := m.dumps + 1 }) s

/-- A write of MGT.UPD_CMD; an operation that R457 and R459 do not name is refused, and like every other BUSY during a restart (R444). -/
def writeUpdCmd (w : Word) (s : State) : State :=
  let kind := w.getLsbD 27
  let s := modMgt (fun m => { m with updKind := kind, updSlot := w.getLsbD 26 }) s
  match wordOp w with
  | 1 => openSession kind s
  | 2 => abortSession s
  | 3 => activateSession s
  | 4 => invalidateSlot kind (w.getLsbD 26) s
  | 5 => reloadSlot kind s
  | op => noteUpd op kind s.mgt.updSlot (if s.mgt.restarting then 1 else 2) s

/-- A write of MGT.MBX_CMD; an unknown operation is refused, and BUSY during a restart (R444). -/
def writeMbxCmd (w : Word) (s : State) : State :=
  let s := modMgt (fun m => { m with mbxLen := (w >>> 12).setWidth 12, mbxArg := w.setWidth 12 }) s
  match wordOp w with
  | 1 => mailHeadWrite s
  | 2 => mailUserRead s
  | 3 => recoverChunk none s
  | op => noteMbx op (if s.mgt.restarting then 1 else 2) s

/-- A word of the mailbox window. -/
def writeMbxData (i : Nat) (w : Word) (m : Mgt) : Mgt :=
  { m with mbx := ((toLe 4 w.toNat).zipIdx.map fun t => (4 * i + t.2, t.1)) ++ m.mbx.filter fun t => t.1 / 4 != i }

/-- A write to the MGT block. -/
def writeMgt (off : Nat) (w : Word) (s : State) : State :=
  match off with
  | 0x00 => onBit w 0 (beginRestart false) (onBit w 1 queueDump s)
  | 0x08 => modMgt (fun m => { m with err := w1c m.err w }) s
  | 0x18 => writeUpdCmd w s
  | 0x1C => modMgt (fun m => { m with updLen := w.setWidth 22 }) s
  | 0x24 => writeLogFrom w s
  | 0x34 => writeMbxCmd w s
  | _ => match entryAt off 0x800 4 512 with
    | some i => modMgt (writeMbxData i.val w) s
    | none => s

/-! ## DMA, PND, CHK (R115, R116, R141, R168, R169) -/

/-- Change a channel. -/
def modDma (ch : Chan) (f : Dma → Dma) (s : State) : State := setDma ch (f s.dma[ch]) s

/-- KILL, with what an auxiliary channel's transfer loses (R113). -/
def killChannel (ch : Chan) (s : State) : State := if canKill s.dma[ch] then auxLost ch (killChan ch s) else s

/-- RESET, with what an auxiliary channel's transfer loses; in RESETTING it has no effect (R108). -/
def resetChannel (ch : Chan) (s : State) : State := if s.dma[ch].state = .resetting then s else auxLost ch (resetChan ch s)

/-- A write of DMA[n].CTL (R108, R109): RESUME before STOP_REQ, and KILL prevails over RESUME. The order of the other bits of one word,
STOP_REQ, ENABLE, KILL, RESET, is a DESIGN CHOICE (log entry 64). -/
def writeDmaCtl (ch : Chan) (w : Word) (s : State) : State :=
  let locked := s.dma[ch].enable
  let s := countWhen locked s
  let s := if locked then s else modDma ch (fun d => { d with ns := w.getLsbD 12, retryLimit := (w >>> 8).setWidth 3 }) s
  let s := if w.getLsbD 2 && !w.getLsbD 3 then resumeChan ch s else s
  let s := onBit w 0 (enableChan ch) (onBit w 1 (stopChan ch) s)
  onBit w 4 (resetChannel ch) (onBit w 3 (killChannel ch) s)

/-- A write of DMA[n].RING_SIZE (R87). -/
def writeRingSize (ch : Chan) (w : Word) (s : State) : State :=
  unlessLocked s.dma[ch].enable (fun s =>
    let n := w.toNat % 131072
    if (List.range 13).any fun k => n == 16 * 2 ^ k then modDma ch (fun d => { d with entries := BitVec.ofNat 17 n }) s
    else chanErr ch 1 s) s

/-- A write to a channel's registers. -/
def writeDma (ch : Chan) (off : Nat) (w : Word) (s : State) : State :=
  let rwl (f : Dma → Dma) : State → State := unlessLocked s.dma[ch].enable (modDma ch f)
  match off with
  | 0x00 => writeDmaCtl ch w s
  | 0x08 => rwl (fun d => { d with ringLo := w &&& 0xFFFFFFE0 }) s
  | 0x0C => rwl (fun d => { d with ringHi := w }) s
  | 0x10 => writeRingSize ch w s
  | 0x20 => rwl (fun d => { d with headWbLo := w &&& 0xFFFFFFF9 }) s
  | 0x24 => rwl (fun d => { d with headWbHi := w }) s
  | 0x34 => modDma ch (fun d => { d with err := w1c d.err w }) s
  | _ => s

/-- No partition holds data, and every channel is DISABLED or STOPPED (R124). -/
def partsFree (s : State) : Bool :=
  (s.pond.ports.toList.all fun t => t.lines.isEmpty) && (auxSegs s).isEmpty &&
  s.dma.toList.all fun d => d.state == .disabled || d.state == .stopped

/-- New sizes of the partitions (R124): PART_BAD and the old sizes where they are refused. -/
def resize (f : State → State) (s : State) : State :=
  if partsFree s && decide (unitsTotal (f s) ≤ 10240) then f s
  else { s with pond := { s.pond with err := setBit s.pond.err 0 } }

/-- A port partition's size (R123, R124). Allocation starts again at its first granule, and the repeat buffer is empty (DESIGN CHOICE, log
entry 81). -/
def writePartUnits (p : Port) (w : Word) (s : State) : State :=
  resize (fun s => setStore p { s.pond.ports[p] with units := w.setWidth 14, next := 0, repBuf := none } s) s

/-- The auxiliary partition's size. -/
def writeAuxUnits (w : Word) (s : State) : State :=
  resize (fun s => { s with pond := { s.pond with auxUnits := w.setWidth 14 } }) s

/-- CNT_CLR of PND.CTL (R141). -/
def clearPond (s : State) : State :=
  { s with pond := { s.pond with ceSingle := 0, ceDouble := 0, ueCount := 0, underruns := 0 } }

/-- ADMIT_HOLD, with what its release lets the sluice admit (R131; spec/95_what_each_step_holds.md). -/
def writeAdmitHold (v : Bool) (s : State) : State :=
  let s := setAdmitHold v s
  if v then s else evaluateAll s

/-- A write to the PND block. -/
def writePnd (off : Nat) (w : Word) (s : State) : State :=
  match off with
  | 0x00 => onBit w 1 clearPond (writeAdmitHold (w.getLsbD 0) s)
  | 0x08 => { s with pond := { s.pond with err := w1c s.pond.err w } }
  | 0x20 => guarded (writeAuxUnits w) s
  | _ => match entryAt off 0x100 4 16 with
    | some p => guarded (writePartUnits p w) s
    | none => s

/-- A write to a check unit. -/
def writeChk (i : Fin 8) (off : Nat) (w : Word) (s : State) : State :=
  let rwl (f : ChkUnit → ChkUnit) : State → State := unlessLocked (unitLocked i s.chk.units[i]) (modUnit i f)
  match off with
  | 0x00 => if w.getLsbD 1 then abortUnit i s else onBit w 0 (armUnit i false) s
  | 0x04 => onBit w 8 (modUnit i fun u => { u with armBad := false }) s
  | 0x08 => writeUnitCfg i w s
  | 0x10 => rwl (fun u => { u with poly := putHalf false u.poly w }) s
  | 0x14 => rwl (fun u => { u with poly := putHalf true u.poly w }) s
  | 0x18 => rwl (fun u => { u with init := putHalf false u.init w }) s
  | 0x1C => rwl (fun u => { u with init := putHalf true u.init w }) s
  | 0x20 => rwl (fun u => { u with xorout := putHalf false u.xorout w }) s
  | 0x24 => rwl (fun u => { u with xorout := putHalf true u.xorout w }) s
  | 0x28 => rwl (fun u => { u with start := putHalf false u.start w }) s
  | 0x2C => rwl (fun u => { u with start := putHalf true u.start w }) s
  | 0x30 => rwl (fun u => { u with length := w }) s
  | 0x34 => rwl (fun u => { u with records := w.setWidth 16 }) s
  | 0x38 => rwl (fun u => { u with seqStart := w }) s
  | 0x3C => rwl (fun u => { u with expect := putHalf false u.expect w }) s
  | 0x40 => rwl (fun u => { u with expect := putHalf true u.expect w }) s
  | _ => s

/-- CHK.PERSIST_CLR (R169). -/
def clearPersist (s : State) : State := { s with chk := { s.chk with persist := 0 } }

/-! ## FTL, SUP, ENG (R194, R320, R224) -/

/-- CTL.PEAK_CLR (R194). -/
def clearErrPeak (x : LoopId) (s : State) : State := modLoop x (fun l => { l with errPeak := 0 }) s

/-- A write of FTL[x].CTL: RESET last (R183, R193, R194). -/
def writeFtlCtl (x : LoopId) (w : Word) (s : State) : State :=
  let busy := docInProgress s
  let s := countWhen busy s
  let s := if busy then s else writeEnable x (w.getLsbD 0) s
  let s := onBit w 3 (clearErrPeak x) (onBit w 2 (clearOvs x) s)
  if w.getLsbD 1 && !loopInUse x s then resetLoop x s else s

/-- A write to a loop. -/
def writeFtl (x : LoopId) (off : Nat) (w : Word) (s : State) : State :=
  match off with
  | 0x00 => writeFtlCtl x w s
  | 0x08 => modLoop x (fun l => { l with err := w1c l.err w }) s
  | 0x0C => guarded (writeEncCfg x w) s
  | 0x10 => guarded (holdRatio x w) s
  | 0x14 => guarded (commitRatio x w) s
  | 0x18 => guarded (writeLoopCfg x w) s
  | 0x1C => guarded (writeIndex x w) s
  | _ => s

/-- A write of SUP.CMD (R315). -/
def writeSupCmd (w : Word) (s : State) : State :=
  let x : EngId := if w.getLsbD 27 then .b else .a
  let note (s : State) : State := { s with sup := { s.sup with cmdEng := w.getLsbD 27 } }
  match wordOp w with
  | 1 => retireEngine x s
  | 2 => reviveEngine x s
  | 3 => testFailover (note s)
  | 4 => openSwap (note s)
  | 5 => armSwap (note s)
  | 6 => cancelSwap (note s)
  | 7 => restartEngines (note s)
  | op => supRefuse op x s

/-- SUP.CNT_CLR (R320). -/
def clearSup (s : State) : State :=
  { s with sup := { s.sup with
      mismatches := 0, failovers := 0, copies := 0, copyDiff := 0, copyStale := 0, copyDiscard := 0, verdictMax := 0 } }

/-- A word of SUP.STAGE: all 2,048 bytes read back as written. -/
def writeStage (i : Nat) (w : Word) (s : State) : State :=
  if h : i / 64 < 8 ∧ i % 64 < 24 then
    { s with sup := { s.sup with
        stage := s.sup.stage.set (i / 64) ((s.sup.stage[i / 64]'h.1).set (i % 64) w h.2) h.1 } }
  else
    let rest := s.sup.stageRest.filter fun t => t.1 != i
    { s with sup := { s.sup with stageRest := if w = 0 then rest else rest ++ [(i, w)] } }

/-- STAGE_LOCK (R320). -/
def stageLocked (s : State) : Bool := s.sup.swap != .staging

/-- A write to the SUP block. -/
def writeSup (off : Nat) (w : Word) (s : State) : State :=
  match off with
  | 0x00 => writeSupCmd w s
  | 0x04 => guarded (fun s => { s with sup := { s.sup with autoRejoin := w.getLsbD 0, markMis := w.getLsbD 1 } }) s
  | 0x0C => { s with sup := { s.sup with err := w1c s.sup.err w } }
  | 0x28 => onBit w 0 clearSup s
  | 0x40 => unlessLocked (stageLocked s) (fun s => { s with sup := { s.sup with stageCrc := w } }) s
  | _ => match entryAt off 0x800 4 512 with
    | some i => unlessLocked (stageLocked s) (writeStage i.val w) s
    | none => s

/-- Fields of word `i` of an energy block: position, width, and the ranges of legal values (R224). -/
def energyFields (i : Nat) : List (Nat × Nat × List (Nat × Nat)) :=
  if i = 0 then [(0, 2, [(1, 2)]), (4, 1, [(0, 1)]), (5, 3, [(0, 0), (2, 4)]), (8, 3, [(0, 4)])]
  else if i = 1 then [(0, 12, [(100, 4095)]), (16, 16, [(250, 65535)])]
  else if i = 2 then [(0, 32, [(0, 4294967295)])]
  else if i = 3 then [(0, 24, [(0, 16777215)])]
  else if i = 4 then [(0, 12, [(100, 2500)]), (16, 16, [(0, 65535)])]
  else if i = 5 ∨ i = 6 then [(0, 12, [(100, 2500)]), (16, 12, [(100, 2500)])]
  else if 8 ≤ i ∧ i < 24 then [(0, 16, [(2048, 8192)]), (16, 16, [(2048, 8192)])]
  else []

/-- A field value lies in one of its ranges. -/
def inRanges (x : Nat) (l : List (Nat × Nat)) : Bool := l.any fun r => decide (r.1 ≤ x) && decide (x ≤ r.2)

/-- Word `i` of an energy block after a write: a field out of range keeps its value (R224). -/
def mergeEnergy (i : Nat) (old w : Word) : Word :=
  BitVec.ofNat 32 ((energyFields i).foldl (fun v f =>
    let x := (w.toNat / 2 ^ f.1) % 2 ^ f.2.1
    let o := (old.toNat / 2 ^ f.1) % 2 ^ f.2.1
    v + (if inRanges x f.2.2 then x else o) * 2 ^ f.1) 0)

/-- Every field of the written word lies in its range. -/
def energyFits (i : Nat) (w : Word) : Bool :=
  (energyFields i).all fun f => inRanges ((w.toNat / 2 ^ f.1) % 2 ^ f.2.1) f.2.2

/-- Word `i` of profile `q` in one engine. -/
def putEnergy (q : Fin 8) (i : Fin 24) (w : Word) (e : Engine) : Engine :=
  { e with
    blocks := e.blocks.set q.val (e.blocks[q].set i.val (mergeEnergy i.val e.blocks[q][i] w) i.isLt) q.isLt
    err := if energyFits i.val w then e.err else setBit e.err 5 }

/-- A write to the PROFILE window at offset `off` from +0x1000, applied to both engines (R225); a swap then fails (R318). -/
def writeProfileWord (off : Nat) (w : Word) (s : State) : State :=
  match entryAt (off % 256) 0 4 24, entryAt (off - off % 256) 0 256 8 with
  | some i, some q =>
    if i.val = 7 then s
    else
      let s := { s with engA := putEnergy q i w s.engA, engB := putEnergy q i w s.engB }
      if swapOpenNow s then endSwap true s else s
  | _, _ => s

/-- A host write to the PROFILE window. Its reserved words have no effect and are not counted (R225). -/
def writeProfile (off : Nat) (w : Word) (s : State) : State :=
  if off % 4 = 0 ∧ off < 0x800 ∧ off % 256 < 96 ∧ off % 256 ≠ 0x1C then guarded (writeProfileWord off w) s else s

/-- ENG[x].CTL.CNT_CLR (R224). -/
def clearEngine (x : EngId) (s : State) : State :=
  setEng x { eng x s with passes := 0, predrops := 0, readFails := 0, clamps := 0, slackMin := 0xFFFF } s

/-- A write to an engine. -/
def writeEng (x : EngId) (off : Nat) (w : Word) (s : State) : State :=
  match off with
  | 0x00 => onBit w 0 (clearEngine x) s
  | 0x08 => setEng x { eng x s with err := w1c (eng x s).err w } s
  | _ => if 0x1000 ≤ off ∧ off < 0x1800 then writeProfile (off - 0x1000) w s else s

/-! ## HP, HDV, NZH, MOT (R259, R274, R293, R366, R367) -/

/-- A write of HP[n].CTL. REREAD is ignored while a document names the port (R248); such an access counts once. -/
def writeHpCtl (p : Port) (w : Word) (s : State) : State :=
  let busy := docInProgress s
  let s := countWhen busy s
  let s := if busy then s else
    setPower p (w.getLsbD 0) (w.getLsbD 2) (modHp p (fun h => { h with slew := (w >>> 8).setWidth 2 }) s)
  let s := if w.getLsbD 3 && !portInDoc p s then rereadHead p s else s
  onBit w 4 (flushUsage p) s

/-- A write of SPIT_CFG.RATE waits for the port's line boundary (R26, R188), or for that of the loop that timed the port last
(DEDUCED, log entry 74). -/
def writeRate (p : Port) (r : Half) (s : State) : State :=
  let waits := runningLoads p s != [] || boundaryWaits (loopOf s.track[p].loop s)
  modHp p (fun h => if waits then { h with pendRate := some r } else { h with spitRate := r, pendRate := none }) s

/-- A write to a head port. -/
def writeHp (p : Port) (off : Nat) (w : Word) (s : State) : State :=
  match off with
  | 0x00 => writeHpCtl p w s
  | 0x08 => modHp p (fun h => { h with err := w1c h.err w }) s
  | 0x18 => guarded (modHp p fun h => { h with memA16 := w.getLsbD 9, memFast := w.getLsbD 8, memAddr := w.setWidth 7 }) s
  | 0x1C => if fieldIn 0 16 100 20000 w then writeRate p (w.setWidth 16) s else s
  | _ => s

/-- A write of VHS[r].CTL. -/
def writeVhsCtl (r : Fin 4) (w : Word) (s : State) : State :=
  let busy := docInProgress s
  let s := countWhen busy s
  let s := if busy then s else modRail r (fun l => { l with
    use := w.getLsbD 0, ilim := if 4 ≤ (w.toNat / 256) % 256 then (w >>> 8).setWidth 8 else l.ilim }) s
  onBit w 1 (clearFault r) s

/-- A write to a rail. -/
def writeVhs (r : Fin 4) (off : Nat) (w : Word) (s : State) : State :=
  match off with
  | 0x00 => writeVhsCtl r w s
  | 0x08 => modRail r (fun l => { l with err := w1c l.err w }) s
  | _ => s

/-- HDV.VTAB: a code above 4,095 is ignored; the rails take up their new targets (R264, R274). -/
def writeVtab (i : Fin 8) (w : Word) (s : State) : State :=
  if fieldIn 0 16 0 4095 w then
    retargetAll { s with hdv := { s.hdv with vtab := s.hdv.vtab.set i.val (w.setWidth 16) i.isLt } }
  else s

/-- HDV[n].SENSE_CFG: RSHUNT and SETTLE out of range keep their values (R274). -/
def writeSense (p : Port) (w : Word) (s : State) : State :=
  modHdv p (fun h => { h with
    rshunt := if fieldIn 16 16 1 65535 w then (w >>> 16).setWidth 16 else h.rshunt
    settle := if fieldIn 8 4 2 15 w then (w >>> 8).setWidth 4 else h.settle
    gain := (w >>> 1).setWidth 2, echoEn := w.getLsbD 0 }) s

/-- A write to the HDV block, by its offset from 0x2_4000. -/
def writeHdv (off : Nat) (w : Word) (s : State) : State :=
  if off = 0x180 then
    guarded (fun s => if fieldIn 0 16 1 65535 w then { s with hdv := { s.hdv with rdrv := w.setWidth 16 } } else s) s
  else match instanceAt off 0 0x40 4, entryAt off 0x100 4 8, entryAt off 0x140 4 16, instanceAt off 0x400 0x40 16 with
    | some (r, o), _, _, _ => writeVhs r o w s
    | _, some i, _, _ => guarded (writeVtab i w) s
    | _, _, some i, _ =>
      guarded (fun s => if fieldIn 0 16 1 65535 w then
        { s with hdv := { s.hdv with rohm := s.hdv.rohm.set i.val (w.setWidth 16) i.isLt } } else s) s
    | _, _, _, some (p, o) =>
      if o = 0 then guarded (writeSense p w) s
      else if o = 8 then modHdv p (fun h => { h with err := w1c h.err w }) s else s
    | _, _, _, _ => s

/-- A write of NZH[n].MAP_CMD (R289). -/
def writeMapCmd (p : Port) (w : Word) (s : State) : State :=
  let op := wordOp w
  let x := w.toNat % 2048
  let s := noteMapCmd p (BitVec.ofNat 4 op) (BitVec.ofNat 11 x) s
  match op with
  | 1 => addHost p x s
  | 2 => freeNozzle p x s
  | 3 => freeKinds p (fun k => k != .echo && k != .contact) s
  | 4 => freeKinds p (fun k => k == .factory || k == .incoming) s
  | _ => refuseMap p s

/-- SUSP_CLR (R280). -/
def clearSusp (p : Port) (s : State) : State := setNzh p { s.nzh[p] with susp := Vector.replicate 32 none } s

/-- CNT_CLR (R293): WINDOWS, DEFICITS and LOC. -/
def clearNzh (p : Port) (s : State) : State :=
  setNzh p { s.nzh[p] with
    windows := 0, deficits := 0, excess := 0, expired := 0, resets := 0, localised := 0 } s

/-- A write of NZH[n].CS_CFG: refused as a whole where it breaks a range (R293). -/
def writeCsCfg (p : Port) (w : Word) (s : State) : State :=
  if csCfgOk w then setNzh p { s.nzh[p] with csCfg := w &&& 0xFFFFF0FF } s else nzhErr p 4 s

/-- A write to a port's nozzle health. -/
def writeNzh (p : Port) (off : Nat) (w : Word) (s : State) : State :=
  match off with
  | 0x000 => onBit w 1 (clearNzh p) (onBit w 0 (clearSusp p) s)
  | 0x008 => setNzh p { s.nzh[p] with err := w1c s.nzh[p].err w } s
  | 0x00C => guarded (writeMapCmd p w) s
  | 0x024 => guarded (fun s => postMaps s (setNzh p { s.nzh[p] with overlap := w } s)) s
  | 0x028 => onBit w 1 (abortSheet p) (onBit w 0 (startSheet p) (setNzh p { s.nzh[p] with apply := w.getLsbD 4 } s))
  | 0x02C => guarded (writeCsCfg p w) s
  | _ => match entryAt off 0x40 4 8 with
    | some q => guarded (setNzh p { s.nzh[p] with policy := s.nzh[p].policy.set q.val (w.setWidth 4) q.isLt }) s
    | none => s

/-- An axis command by its OP (R362). -/
def axisOp (op : Nat) (i : Fin 4) (s : State) : State :=
  match op with
  | 1 => axisCommand 1 i moveAbs s
  | 2 => axisCommand 2 i moveRel s
  | 3 => axisCommand 3 i startHome s
  | 4 => axisCommand 4 i softStop s
  | 5 => axisCommand 5 i stopAxis s
  | 6 => axisCommand 6 i energise s
  | 7 => axisCommand 7 i disableAxis s
  | 8 => axisCommand 8 i setPosition s
  | 9 => axisCommand 9 i jogAxis s
  | op => axisCommand op i (fun _ s => s) s

/-- A value that an axis register takes only in its range (R366). -/
def axisValue (i : Fin 4) (ok : Bool) (f : Axis → Axis) (s : State) : State := if ok then modAxis i f s else axisErr i 0 s

/-- A write to an axis. Clearing ERR.LIM_CHATTER also clears STAT.CHATTER (R353). -/
def writeAxis (i : Fin 4) (off : Nat) (w : Word) (s : State) : State :=
  let inn := fun p n lo hi => fieldIn p n lo hi w
  match off with
  | 0x00 => axisOp (wordOp w) i s
  | 0x08 => modAxis i (fun a => { a with err := w1c a.err w, chatter := a.chatter && !w.getLsbD 3 }) s
  | 0x0C => guarded (modAxis i fun a => { a with cfg := w &&& 0x1F }) s
  | 0x10 => modAxis i (fun a => { a with target := w }) s
  | 0x1C => axisValue i (inn 16 16 0 (min 4000 (w.toNat % 65536)) && inn 0 16 1 64000) (fun a => { a with speeds := w }) s
  | 0x20 => axisValue i (inn 0 24 100 16000000) (fun a => { a with acc := w &&& 0xFFFFFF }) s
  | 0x24 => axisValue i (inn 0 24 100 16000000) (fun a => takeBraking { a with dec := w &&& 0xFFFFFF }) s
  | 0x28 => modAxis i (fun a => takeBraking { a with jerk := w &&& 0xFFFFFF }) s
  | 0x2C => axisValue i (inn 12 12 0 120 && inn 0 12 1 120) (fun a => { a with current := w }) s
  | 0x30 => guarded (axisValue i (inn 16 16 0 2000 && inn 0 16 10 20000) fun a => { a with coil := w }) s
  | 0x34 => axisValue i (inn 16 8 10 150 && inn 0 16 100 64000) (fun a => { a with stall := w &&& 0xFFFFFF }) s
  | 0x38 => axisValue i (inn 16 12 1 120 && inn 0 16 1 64000) (fun a => { a with homeCfg := w &&& 0xFFFFFFF }) s
  | 0x3C => modAxis i (fun a => { a with homeOffset := w }) s
  | 0x40 => axisValue i (inn 0 24 1 16777215) (fun a => { a with homeMax := w &&& 0xFFFFFF }) s
  | 0x44 => modAxis i (fun a => { a with backoff := w &&& 0xFFFFFF }) s
  | 0x48 => guarded (axisValue i (inn 0 8 1 255 && inn 8 8 1 255) (newLimits w)) s
  | _ => s

/-- A write to the MOT block, by its offset from 0x0_F000. -/
def writeMot (off : Nat) (w : Word) (s : State) : State :=
  if off = 0x804 then { s with mot := { s.mot with err := w1c s.mot.err w } }
  else if off = 0x808 then onBit w 0 stopAll s
  else match instanceAt off 0 0x100 4 with
    | some (i, o) => writeAxis i o w s
    | none => s

/-! ## The windows (R8, R9, R13, R16) -/

/-- One 32-bit write into BAR0, as R13 lays the blocks out; an offset that no block decodes is discarded (R9). -/
def writeWord (off : Nat) (w : Word) (s : State) : State :=
  if off < 0x1000 then writeTop off w s
  else if off < 0x2000 then writeEvt (off - 0x1000) w s
  else if off < 0x3000 then writePwr (off - 0x2000) w s
  else if off < 0x4000 then writeThm (off - 0x3000) w s
  else if off < 0x5000 then writeCal (off - 0x4000) w s
  else if off < 0x6000 then writeOtp (off - 0x5000) w s
  else if off < 0x7000 then writeMgt (off - 0x6000) w s
  else if off < 0x8000 then
    (match entryAt off 0x73C0 4 8 with | some i => hostMail i (w.setWidth 16) s | none => s)
  else if off < 0xA000 then
    (match instanceAt off 0x8000 0x100 20 with | some (ch, o) => writeDma ch o w s | none => s)
  else if off < 0xB000 then writePnd (off - 0xA000) w s
  else if off < 0xC000 then
    (if off = 0xB80C then onBit w 0 clearPersist s
     else match instanceAt off 0xB000 0x100 8 with | some (i, o) => writeChk i o w s | none => s)
  else if off < 0xC800 then writeFtl .a (off - 0xC000) w s
  else if off < 0xD000 then writeFtl .b (off - 0xC800) w s
  else if off < 0xE000 then s
  else if off < 0xF000 then writeSup (off - 0xE000) w s
  else if off < 0x10000 then writeMot (off - 0xF000) w s
  else if off < 0x18000 then writeEng .a (off - 0x10000) w s
  else if off < 0x20000 then writeEng .b (off - 0x18000) w s
  else if off < 0x24000 then
    (match instanceAt off 0x20000 0x400 16 with | some (p, o) => writeHp p o w s | none => s)
  else if off < 0x28000 then writeHdv (off - 0x24000) w s
  else match instanceAt off 0x28000 0x800 16 with
    | some (p, o) => writeNzh p o w s
    | none => s

/-- One 32-bit write into the MSI-X table; the pending-bit array is read-only (R16). -/
def writeTable (off : Nat) (w : Word) (s : State) : State :=
  match instanceAt off 0 16 128 with
  | none => s
  | some (v, o) =>
    let e := s.evt.table[v]
    let put (e : MsixEntry) : State := { s with evt := { s.evt with table := s.evt.table.set v.val e v.isLt } }
    if o = 0 then put { e with addrLo := w }
    else if o = 4 then put { e with addrHi := w }
    else if o = 8 then put { e with data := w }
    else setVecMask v (w.getLsbD 0) s

/-- The command of a transport-port OP (R331). -/
def tpOp (op : Nat) (s : State) : State :=
  match op with
  | 0x0 => tpCommand 0 false false id s
  | 0x1 => admitCommand 1 true none s
  | 0x2 => admitCommand 2 false none s
  | 0x3 => tpCommand 3 false false stopDevice s
  | 0x4 => tpCommand 4 (argDoc s.tpt == 0 || argDoc s.tpt == BitVec.allOnes 32) (!docLive (argDoc s.tpt) s)
      (abortDocument (argDoc s.tpt)) s
  | 0x5 => tpCommand 5 false false (startCal true) s
  | 0x6 => tpCommand 6 false false (startCal false) s
  | 0x7 => tpCommand 7 false false beginMaint s
  | 0x8 => tpCommand 8 false false leaveMaint s
  | 0x9 => tpCommand 9 false s.tpt.fifo.isEmpty ackFault s
  | 0xA => tpCommand 0xA false false (clearOvs (if s.tpt.arg0.getLsbD 0 then .b else .a)) s
  | 0xB => tpCommand 0xB (decide (2 < s.tpt.arg0.toNat)) (nothingDeferred s.tpt) cancelClass s
  | op => tpCommand op true false id s

/-- A write on the transport port (R10, R325, R327, R328). -/
def writePort (a : Nat) (w : Half) (s : State) : State :=
  if a = 8 then tpOp (w.toNat % 256) s
  else if notReady s.top.state then tpIgnored s
  else match entryAt a 0xF8 1 8 with
    | some i => tpMail i w s
    | none =>
      match a with
      | 0x04 => modTpt (fun t => { t with events := w1c t.events w }) s
      | 0x05 => modTpt (fun t => { t with mask := w &&& 0x07FF }) s
      | 0x07 => modTpt (fun t => { t with scratch := w }) s
      | 0x09 => modTpt (fun t => { t with arg0 := w }) s
      | 0x0A => modTpt (fun t => { t with arg1 := w }) s
      | 0x0E => guarded (modTpt fun t => { t with pol := w.setWidth 2 }) s
      | _ => tpIgnored s

/-- One 32-bit part of a write: discarded unless all four byte enables are set (R8). -/
def writePart (f : Nat → Word → State → State) (off : Nat) (w : Word) (be : BitVec 4) (s : State) : State :=
  if be = 15 then f off w s else s

/-- A write access: up to 64 bits as 32-bit writes, the lower address first (R8). An access that does not begin at a 32-bit word
reaches each word with the byte enables of the bytes that fall into it (DEDUCED from R8, log 27). -/
def writeAccess (f : Nat → Word → State → State) (off : Nat) (val : DWord) (be : BitVec 8) (s : State) : State :=
  let skew := off % 4
  let base := off / 4 * 4
  let bytes : BitVec 96 := val.setWidth 96 <<< (8 * skew)
  let ens : BitVec 12 := be.setWidth 12 <<< skew
  writePart f (base + 8) ((bytes >>> 64).setWidth 32) ((ens >>> 8).setWidth 4)
    (writePart f (base + 4) ((bytes >>> 32).setWidth 32) ((ens >>> 4).setWidth 4)
      (writePart f base (bytes.setWidth 32) (ens.setWidth 4) s))

/-- The value a doorbell write brings: a 32-bit write leaves bits 63:32 at 0 (R88). -/
def bellValue (val : DWord) (hi : Bool) : DWord := if hi then val else (val.setWidth 32).setWidth 64

/-- A write to BAR2 (R16, R88): it acts where it writes the low 32 bits of a channel's doorbell, be it the second word of an access that begins
in the high half of the one before; the high half alone, and offsets from 0x0A0 up, are discarded. A part without all four byte enables counts
as not written, as R8 has it for BAR0 (DEDUCED, log 27). In SLEEP a doorbell may wake the device (R426). -/
def writeBell (off : Nat) (val : DWord) (be : BitVec 8) (s : State) : State :=
  let whole (hi : Bool) : Bool := (if hi then be >>> 4 else be).setWidth 4 == 15#4
  match entryAt off 0 8 20, entryAt (off + 4) 0 8 20 with
  | some ch, _ => if whole false then wakeBy 12 (doorbell ch (bellValue val (whole true)) s) else s
  | none, some ch => if whole true then wakeBy 12 (doorbell ch (bellValue (val >>> 32) false) s) else s
  | none, none => s

/-- A register write on one of the windows. -/
def writeRegister (bus : Bus) (off : Nat) (val : DWord) (be : BitVec 8) (s : State) : State :=
  match bus with
  | .bar0 => writeAccess writeWord off val be s
  | .bar2 => writeBell off val be s
  | .bar4 => writeAccess writeTable off val be s
  | .tp => writePort off (val.setWidth 16) s

end Sys2Proof.Machine
end

