-- ==== Sys2Proof/Machine/RegRead.lean ====
section
/-! DEFINITION. What a read of each register returns (R3, R8, R9, R13, R323, R327): by block, with `none` where no block decodes the
offset. A read changes nothing but the captures of `captureRead` (R194, R225). -/

namespace Sys2Proof.Machine

/-- A word from fields: each a position and a value. -/
def packWord (l : List (Nat × Nat)) : Word := BitVec.ofNat 32 (l.foldl (fun v f => v + f.2 * 2 ^ f.1) 0)

/-- A 16-bit word from fields. -/
def packHalf (l : List (Nat × Nat)) : Half := BitVec.ofNat 16 (l.foldl (fun v f => v + f.2 * 2 ^ f.1) 0)

/-- A number as a 16-bit two's complement field. -/
def signed16 (x : Int) : Nat := (BitVec.ofInt 16 x).toNat

/-- A mask with bit `i` set where a test holds. -/
def maskWhere (n : Nat) (f : Fin n → Bool) : Nat := ((List.finRange n).map fun i => b2n (f i) * 2 ^ i.val).foldl (· + ·) 0

/-- The low half of a pair. -/
def loOf {n : Nat} (v : BitVec n) : Word := v.setWidth 32

/-- The high half of a pair. -/
def hiOf {n : Nat} (v : BitVec n) : Word := (v >>> 32).setWidth 32

/-! ## Codes of the read-only fields -/

/-- DMA[n].STAT.STATE (R107). -/
def chCode : ChState → Nat
  | .disabled => 0 | .running => 1 | .stopping => 2 | .stopped => 3 | .halted => 4 | .killed => 5 | .resetting => 6

/-- DMA[n].FRAME.STATE (R115). -/
def frameCode : Frame → Nat
  | .idle => 0 | .opened => 1 | .ended => 2 | .discard => 3

/-- CHK[i].STAT.STATE (R168). -/
def chkCode : ChkState → Nat
  | .idle => 0 | .running => 1 | .done => 2 | .aborted => 3

/-- FTL[x].STAT.LOOP (R194). -/
def loopCode : LoopState → Nat
  | .off => 0 | .acquire => 1 | .locked => 2

/-- HP[n].STAT.PSTATE (R259). -/
def portCode : PState → Nat
  | .absent => 0 | .reading => 1 | .invalid => 2 | .unpowered => 3 | .powering => 4 | .active => 5 | .shorted => 6

/-- VHS[r].STAT.STATE (R274). -/
def railCode : RailState → Nat
  | .off => 0 | .softstart => 1 | .good => 2 | .slewing => 3 | .fault => 4 | .latched => 5

/-- NZH[n].CS_STAT.STATE (R293). -/
def sheetCode : SheetState → Nat
  | .idle => 0 | .running => 1 | .done => 2 | .aborted => 3

/-- SUP.STAT.SWAP (R320). -/
def swapCode : SwapState → Nat
  | .closed => 0 | .staging => 1 | .armed => 2 | .ready => 3 | .failed => 4

/-- AX[n].STAT.MOTION (R366). -/
def motionCode : Motion → Nat
  | .idle => 0 | .moving => 1 | .homing => 2 | .jogging => 3 | .stopping => 4

/-- AX[n].STAT.BRIDGE (R366). -/
def bridgeCode : Bridge → Nat
  | .off => 0 | .hold => 1 | .run => 2

/-- MGT.UPD_STAT.STATE (R463). -/
def updCode : UpdState → Nat
  | .idle => 0 | .erasing => 1 | .receiving => 2 | .verifying => 3 | .committed => 4 | .pending => 5

/-- SUP.STAT.BRAKE (R320). -/
def brakeCode (s : State) : Nat :=
  match brakeHolder s with
  | none => 0 | some .a => 1 | some .b => 2

/-! ## TOP, EVT, PWR -/

/-- The TOP block (R28). -/
def readTop (off : Nat) (s : State) : Option Word :=
  match off with
  | 0x00 => some 0x24160200
  | 0x04 => some topRev
  | 0x08 => some (packWord [(0, devCode s.top.state), (4, b2n (docInProgress s)), (8, devCode s.top.prev)])
  | 0x0C => some s.top.changes
  | 0x10 => some (loOf s.top.ignored)
  | 0x14 => some 0
  | 0x18 => some s.top.scratch
  | _ => none

/-- Word `g` of a source register. -/
def sourceWord (v : BitVec 128) (g : Nat) : Word := (v >>> (32 * g)).setWidth 32

/-- EVT.VEC entry. -/
def vecWord (i : Nat) (s : State) : Word :=
  packWord ((List.range 4).map fun j => (8 * j, (s.evt.vec.toList.getD (4 * i + j) 0).toNat))

/-- EVT.CLASS_CFG entry. -/
def classCfgWord (k : ClassCfg) : Word := packWord [(0, k.window.toNat), (22, k.threshold.toNat), (30, k.action.toNat)]

/-- The EVT block (R478). -/
def readEvt (off : Nat) (s : State) : Option Word :=
  let src (v : BitVec 128) (base : Nat) : Option Word := (entryAt off base 4 4).map fun g => sourceWord v g.val
  match off with
  | 0x00 => some 0
  | 0x04 => some (loOf s.evt.holdoff)
  | 0x08 => some (packWord [(0, popCount s.evt.pend), (8, b2n (s.evt.lasting != 0))])
  | 0x100 => some s.evt.lasting
  | _ => (src s.evt.pend 0x10) <|> (src s.evt.msiEn 0x20) <|> (src s.evt.tpEn 0x30) <|> (src s.evt.logEn 0x40) <|>
      ((entryAt off 0x80 4 32).map fun i => vecWord i.val s) <|>
      ((entryAt off 0x200 4 32).map fun c => classCfgWord s.evt.cfg[c]) <|>
      ((entryAt off 0x280 4 32).map fun c => packWord [(0, s.evt.classes[c].total.toNat), (24, classInWindow c s)])

/-- PWR.START.NEXT_RETRY in 10 ms. -/
def nextRetry (s : State) : Nat :=
  match s.pwr.retryAt with
  | some t => min 255 (ceilDiv (t - s.now) (msGrid 10))
  | none => 0

/-- The PWR block (R442); RTC_HI is the value that the last read of RTC_LO captured. -/
def readPwr (off : Nat) (s : State) : Option Word :=
  let p := s.pwr
  match off with
  | 0x00 => some (packWord [(28, p.cmdOp.toNat), (26, p.cmdResult.toNat)])
  | 0x04 => some (packWord [(17, b2n p.coreOnDemand), (18, b2n p.coreLock), (19, b2n p.fireLock), (20, b2n p.xinOk),
      (21, b2n p.aonRc), (22, b2n p.standbyPend), (23, b2n p.mainEn), (24, p.spreadNow.toNat)])
  | 0x08 => some p.err
  | 0x0C => some p.cfg
  | 0x10 => some (packWord [(0, nextRetry s), (8, p.failed.toNat), (12, p.stage.toNat), (16, p.attempts.toNat)])
  | 0x14 => some p.resetCause
  | 0x18 => some (loOf p.supply)
  | 0x1C => some p.wakeCause
  | 0x20 => some (loOf (rtcNow s))
  | 0x24 => some s.cap.rtc
  | 0x28 => some p.alarmLo
  | 0x2C => some p.alarmHi
  | _ => ((entryAt off 0x40 4 7).map fun i => p.retUser[i]) <|> ((entryAt off 0x60 4 8).map fun i => loOf p.stageTime[i])

/-! ## THM, CAL, OTP, MGT -/

/-- The THM block (R385). -/
def readThm (off : Nat) (s : State) : Option Word :=
  let t := s.thm
  match off with
  | 0x00 => some 0
  | 0x04 => some (packWord [(0, b2n (s.pwr.released && ctlInWindow s)), (1, b2n t.warn), (2, b2n t.throttle), (3, b2n (t.level == 64)),
      (4, b2n t.hold), (5, b2n t.sensorFail), (6, b2n t.modelActive), (7, b2n (decide (32 ≤ t.level))), (16, t.level)])
  | 0x08 => some t.err
  | 0x0C => some (packWord [(16, signed16 t.tLogic), (0, signed16 t.tDrive)])
  | 0x10 => some (packWord [(16, signed16 t.tCtl), (0, if t.modelActive then signed16 t.tModel else 0)])
  | 0x14 => some (packWord [(16, signed16 (t.peak.getD 0))])
  | 0x18 => some t.modelCfg
  | 0x1C => some (packWord [(16, signed16 t.flashLow), (0, signed16 t.flashHigh)])
  | 0x20 => some (packWord [(16, min 65535 t.package), (0, min 65535 t.drive)])
  | 0x24 => some (packWord [(24, s.pwr.shutdowns.toNat), (16, t.sensorFails.toNat), (0, t.plausFails.toNat)])
  | _ => none

/-- CAL.STAT (R395). -/
def calStat (s : State) : Word :=
  let c := s.cal
  packWord [(0, b2n (c.running == some false)), (1, b2n (c.running == some true)), (2, b2n s.thm.sensorFail),
    (3, b2n c.duePart.isSome), (4, b2n c.dueFull.isSome), (5, b2n c.overdue), (6, b2n c.lastFull), (7, b2n (trimsMove s)),
    (8, c.reqResult.toNat)]

/-- CAL.TRIM entry; an unused entry reads 0. -/
def trimWord (i : Fin 64) (s : State) : Word :=
  if (itemOf i.val).isNone then 0 else packWord [(16, s.cal.trim[i].target.toNat), (0, s.cal.trim[i].now.toNat)]

/-- The CAL block (R395). -/
def readCal (off : Nat) (s : State) : Option Word :=
  let c := s.cal
  match off with
  | 0x00 => some 0
  | 0x04 => some (calStat s)
  | 0x08 => some c.err
  | 0x0C => some c.cfg
  | 0x10 => some c.count
  | 0x14 => some (loOf c.lastTime)
  | 0x18 => some s.cap.lastTime
  | 0x1C => some (packWord [(16, signed16 c.tempFull), (0, signed16 c.tempAny)])
  | 0x20 => some (loOf c.itemFail)
  | _ => ((entryAt off 0x100 4 64).map fun i => trimWord i s) <|> ((entryAt off 0x200 4 16).map fun i => loOf c.interp[i])

/-- OTP.STAT (R416). -/
def otpStat (s : State) : Word :=
  let o := s.otp
  let lock (i : Fin 6) : Nat := b2n (o.lockUse.getLsbD i.val)
  packWord [(0, b2n o.burn.isSome), (1, b2n o.failing), (12, lock 0), (13, lock 1), (14, lock 2), (15, lock 3), (16, lock 4),
    (17, lock 5), (18, b2n (o.locks.toList.any fuseWeak || o.status.any fun t => t.2 == .weak)),
    (19, b2n (o.status.any fun t => t.2 == .incomplete)), (20, b2n (debugLocked o)), (21, if o.reads = 0 then 0 else sparesFree o.cells)]

/-- OTP.KEYS (R416). -/
def otpKeys (o : Otp) : Word :=
  packWord [(0, maskWhere 8 fun i => keyProgrammed i.val o), (8, maskWhere 8 fun i => keyRevoked i.val o),
    (16, b2n (mustSign false o)), (17, b2n (mustSign true o))]

/-- OTP.JOURNAL (R416). -/
def otpJournal : Option Journal → Word
  | none => 0
  | some j => packWord [(31, 1), (24, j.doneBits), (0, j.word.toNat)]

/-- OTP.START (R416). -/
def otpStart (o : Otp) : Word :=
  match o.ambig with
  | none => packWord [(16, o.reads.toNat)]
  | some (lock, n) => packWord [(16, o.reads.toNat), (15, 1), (9, b2n lock), (0, n)]

/-- The OTP block (R416). -/
def readOtp (off : Nat) (s : State) : Option Word :=
  let o := s.otp
  match off with
  | 0x00 => some (packWord [(28, o.cmdOp.toNat), (24, o.cmdResult.toNat), (22, o.cmdLevel.toNat), (0, o.cmdWord.toNat)])
  | 0x04 => some (loOf o.data)
  | 0x08 => some (hiOf o.data)
  | 0x0C => some (otpStat s)
  | 0x10 => some o.err
  | 0x14 => some (otpJournal s.pwr.journal)
  | 0x18 => some (otpKeys o)
  | 0x1C => some (BitVec.ofNat 32 (floorOf 168 o))
  | 0x20 => some (BitVec.ofNat 32 (floorOf 176 o))
  | 0x24 => some (otpStart o)
  | _ => (entryAt off 0x100 4 64).map fun i =>
      packWord ((List.range 8).map fun k => (4 * k, statCode (statOf (8 * i.val + k) o)))

/-- A byte of the mailbox window. -/
def mbxByte (m : Mgt) (i : Nat) : Nat := match m.mbx.find? fun t => t.1 == i with | some t => t.2.toNat | none => 0

/-- MGT.STAT (R463). -/
def mgtStat (m : Mgt) : Word :=
  packWord [(0, b2n m.fwSlot), (1, b2n m.cfgSlot), (2, b2n m.slots[0].isSome), (3, b2n m.slots[1].isSome),
    (4, b2n m.slots[2].isSome), (5, b2n m.slots[3].isSome), (6, b2n m.restarting), (7, b2n m.recovery)]

/-- The MGT block (R463). -/
def readMgt (off : Nat) (s : State) : Option Word :=
  let m := s.mgt
  match off with
  | 0x00 => some 0
  | 0x04 => some (mgtStat m)
  | 0x08 => some m.err
  | 0x0C => some m.fwVer
  | 0x10 => some m.cfgVer
  | 0x14 => some m.cfgSeq
  | 0x18 => some (packWord [(28, m.updOp.toNat), (27, b2n m.updKind), (26, b2n m.updSlot), (24, m.updResult.toNat)])
  | 0x1C => some (loOf m.updLen)
  | 0x20 => some (packWord [(29, updCode m.updState), (28, b2n m.waitTemp), (0, m.programmed)])
  | 0x24 => some m.logFrom
  | 0x28 => some m.logNewest
  | 0x2C => some (packWord [(16, m.lost.toNat), (0, m.fifo.length)])
  | 0x30 => some m.restarts
  | 0x34 => some (packWord [(28, m.mbxOp.toNat), (26, m.mbxResult.toNat), (12, m.mbxLen.toNat), (0, m.mbxArg.toNat)])
  | _ => (entryAt off 0x800 4 512).map fun i =>
      packWord ((List.range 4).map fun k => (8 * k, mbxByte m (4 * i.val + k)))

/-! ## DMA, PND, CHK -/

/-- A channel's registers (R115). FRAME.K shows the low 24 bits of `k`, which passes them only in DISCARD (DESIGN CHOICE, log entry 82). -/
def readDma (ch : Chan) (off : Nat) (s : State) : Option Word :=
  let d := s.dma[ch]
  match off with
  | 0x00 => some (packWord [(0, b2n d.enable), (1, b2n d.stopReq), (8, d.retryLimit.toNat), (12, b2n d.ns)])
  | 0x04 => some (packWord [(0, inFlight d), (16, chCode d.state), (24, d.code.toNat)])
  | 0x08 => some d.ringLo
  | 0x0C => some d.ringHi
  | 0x10 => some (loOf d.entries)
  | 0x14 => some (loOf d.head)
  | 0x18 => some (loOf (tailShown d))
  | 0x1C => some d.retired
  | 0x20 => some d.headWbLo
  | 0x24 => some d.headWbHi
  | 0x28 => some (packWord [(0, if d.frame = .idle then 0 else d.k % 16777216), (24, frameCode d.frame)])
  | 0x2C => some d.lastDoc
  | 0x30 => some (if d.frame = .idle then 0 else d.openDoc)
  | 0x34 => some d.err
  | 0x38 => some (packWord [(0, d.errRetries.toNat), (16, d.errCheck.toNat)])
  | _ => none

/-- DMA.LINK_STAT (R116). -/
def linkStat (k : Link) : Word :=
  packWord [(0, k.speed.toNat), (4, k.width.toNat), (8, b2n k.dlActive), (9, b2n k.reversed), (10, b2n k.readyGate)]

/-- DMA.HALTED (R116). -/
def haltedMask (s : State) : Nat := maskWhere 20 fun n => s.dma[n].state == .halted || s.dma[n].state == .killed

/-- The PND block (R141). -/
def readPnd (off : Nat) (s : State) : Option Word :=
  let p := s.pond
  match off with
  | 0x00 => some (packWord [(0, b2n p.admitHold)])
  | 0x04 => some (packWord [(0, b2n (cond1 s == 0)), (1, b2n p.dochold), (2, b2n (p.spares.length == 512)), (3, b2n p.scrubRuns),
      (4, s.docs.length)])
  | 0x08 => some p.err
  | 0x0C => some (packWord [(0, p.ceSingle.toNat), (16, p.ceDouble.toNat)])
  | 0x10 => some (loOf p.ueCount)
  | 0x14 => some (match p.ueAddr with | some w => packWord [(31, 1), (0, w)] | none => 0)
  | 0x18 => some (packWord [(0, p.spares.length)])
  | 0x1C => some (packWord [(0, p.lastPassMs.toNat), (16, p.passes.toNat)])
  | 0x20 => some (loOf p.auxUnits)
  | 0x24 => some (match holdDoc s with | some d => d.id | none => 0)
  | 0x28 => some (packWord [(0, p.holdCause.toNat), (16, p.holdPort.toNat)])
  | 0x2C => some p.underruns
  | _ => ((entryAt off 0x100 4 16).map fun i => loOf p.ports[i].units) <|>
      ((entryAt off 0x140 4 16).map fun i => packWord [(0, fillGranules i s)]) <|>
      ((entryAt off 0x180 4 16).map fun i => packWord [(0, min 4194303 (p.ports[i].meter.rate / 1000))])

/-- A check unit's registers (R168). -/
def readChk (i : Fin 8) (off : Nat) (s : State) : Option Word :=
  let u := s.chk.units[i]
  match off with
  | 0x00 => some (packWord [(0, b2n u.arm), (31, b2n u.mgtOwn)])
  | 0x04 => some (packWord [(0, chkCode u.state), (2, b2n u.paused), (3, b2n u.matched), (4, b2n u.mismatch), (5, b2n u.clipped),
      (6, b2n u.raced), (7, b2n u.ue), (8, b2n u.armBad)])
  | 0x08 => some u.cfg
  | 0x10 => some (loOf u.poly)
  | 0x14 => some (hiOf u.poly)
  | 0x18 => some (loOf u.init)
  | 0x1C => some (hiOf u.init)
  | 0x20 => some (loOf u.xorout)
  | 0x24 => some (hiOf u.xorout)
  | 0x28 => some (loOf u.start)
  | 0x2C => some (hiOf u.start)
  | 0x30 => some u.length
  | 0x34 => some (loOf u.records)
  | 0x38 => some u.seqStart
  | 0x3C => some (loOf u.expect)
  | 0x40 => some (hiOf u.expect)
  | 0x44 => some (loOf u.result)
  | 0x48 => some (hiOf u.result)
  | 0x4C => some u.progress
  | 0x50 => some u.seq
  | _ => none

/-- The block-wide check registers (R169), by their offset from 0x0_B000. -/
def readChkBlk (off : Nat) (s : State) : Option Word :=
  let c := s.chk
  match off with
  | 0x800 => some (loOf c.fixedIng)
  | 0x804 => some (loOf c.fixedEgr)
  | 0x808 => some (loOf c.persist)
  | 0x80C => some 0
  | _ => ((entryAt off 0x900 4 16).map fun i => c.ingCalc[i]) <|> ((entryAt off 0x980 4 16).map fun i => c.ingRecv[i]) <|>
      ((entryAt off 0xA00 4 16).map fun i => c.egrCalc[i]) <|> ((entryAt off 0xA40 4 16).map fun i => c.egrRecv[i])

/-! ## FTL, SUP, ENG -/

/-- A pair of the followed input is faulty now. -/
def lineFaultNow (x : LoopId) (s : State) : Bool :=
  let e := s.enc[inputOf x s]
  e.faultA || e.faultB || e.faultI

/-- Ports that the loop's late loads made drop (FTL[x].OVS_PORTS, R192). -/
def ovsPorts (x : LoopId) (s : State) : Nat := maskWhere 16 fun p => decide (s.track[p].loop = x) && s.track[p].dropping

/-- FTL[x].STAT (R194). -/
def loopStat (x : LoopId) (s : State) : Word :=
  let l := loopOf x s
  packWord [(0, loopCode l.state), (2, b2n l.crawl), (3, b2n l.reverse), (4, b2n (ovsPorts x s != 0)), (5, b2n (settingsPending l)),
    (6, b2n l.indexSeen), (7, b2n (lineFaultNow x s))]

/-- The position that POS shows: the edge position carried on by the estimate (R180). -/
def posShown (x : LoopId) (s : State) : BitVec 48 := BitVec.ofNat 48 (loopPos (loopOf x s) s.now)

/-- The high-water mark that HWM shows (R191). -/
def markShown (x : LoopId) (s : State) : BitVec 48 := BitVec.ofNat 48 (loopMark (loopOf x s) s.now)

/-- A latched trigger position, with VALID. -/
def trigShown (i : Fin 2) (l : Loop) : BitVec 64 :=
  match l.trig[i] with
  | some v => v.setWidth 64 ||| 0x8000000000000000#64
  | none => 0

/-- A loop's registers (R194); each HI is the value that the last read of its LO captured. -/
def readFtl (x : LoopId) (off : Nat) (s : State) : Option Word :=
  let l := loopOf x s
  let f := writtenSet l
  let i := loopIx x
  match off with
  | 0x00 => some (packWord [(0, b2n l.enable)])
  | 0x04 => some (loopStat x s)
  | 0x08 => some l.err
  | 0x0C => some (match l.pendEnc with | some w => w | none => l.encCfg)
  | 0x10 => some (loOf l.heldNum)
  | 0x14 => some (loOf f.den)
  | 0x18 => some (packWord [(0, f.bw.toNat), (16, f.tol.toNat)])
  | 0x1C => some (loOf (match l.pendIndex with | some w => w | none => l.indexEdges))
  | 0x20 => some (loOf (posShown x s))
  | 0x24 => some s.cap.pos[i]
  | 0x28 => some (loOf (markShown x s))
  | 0x2C => some s.cap.hwm[i]
  | 0x30 => some (BitVec.ofInt 32 (rateOf (speedAt l s.now)))
  | 0x34 => some (packWord [(0, min 33554431 (edgeRateAt l s.now))])
  | 0x38 => some (packWord [(0, min 65535 l.fOvs)])
  | 0x3C => some (loOf l.errPeak)
  | 0x40 => some (loOf (trigShown 0 l))
  | 0x44 => some s.cap.trig0[i]
  | 0x48 => some (loOf (trigShown 1 l))
  | 0x4C => some s.cap.trig1[i]
  | 0x50 => some (packWord [(0, l.illegal.toNat), (16, l.indexMiss.toNat)])
  | 0x54 => some l.dropped
  | 0x58 => some (loOf (loopPorts x s))
  | 0x5C => some (packWord [(0, ovsPorts x s)])
  | _ => ((entryAt off 0x100 4 16).map fun p => loOf l.dlyPort[p]) <|> ((entryAt off 0x140 4 16).map fun p => loOf l.dlyA[p]) <|>
      ((entryAt off 0x180 4 16).map fun p => loOf l.dlyB[p]) <|> ((entryAt off 0x1C0 4 16).map fun p => loOf l.lateness[p])

/-- Word `i` of SUP.STAGE, as written. -/
def stageWord (i : Nat) (s : State) : Word :=
  match entryAt (i / 64) 0 1 8, entryAt (i % 64) 0 1 24 with
  | some q, some k => s.sup.stage[q][k]
  | _, _ => match s.sup.stageRest.find? fun t => t.1 == i with | some t => t.2 | none => 0

/-- SUP.STAT (R320). -/
def supStat (s : State) : Word :=
  packWord [(0, roleCode s.engA.role), (4, roleCode s.engB.role), (16, b2n s.engA.selftest), (17, b2n s.engB.selftest),
    (18, b2n s.sup.rejoinWait), (19, b2n s.sup.engSafeHold), (20, b2n (stageLocked s)), (21, swapCode s.sup.swap), (30, brakeCode s)]

/-- The SUP block (R320). -/
def readSup (off : Nat) (s : State) : Option Word :=
  let u := s.sup
  match off with
  | 0x00 => some (packWord [(28, u.cmdOp.toNat), (27, b2n u.cmdEng), (26, b2n u.cmdResult)])
  | 0x04 => some (packWord [(0, b2n u.autoRejoin), (1, b2n u.markMis)])
  | 0x08 => some (supStat s)
  | 0x0C => some u.err
  | 0x10 => some u.mismatches
  | 0x14 => some u.failovers
  | 0x18 => some u.copies
  | 0x1C => some (copyStat u)
  | 0x20 => some u.lastEvent
  | 0x24 => some (loOf u.verdictMax)
  | 0x28 => some 0
  | 0x2C => some (healthWord s.engA.health)
  | 0x30 => some (healthWord s.engB.health)
  | 0x34 => some (BitVec.ofNat 32 (min 4294967295 ((noteSolo s).sup.soloTime / 8000000)))
  | 0x40 => some u.stageCrc
  | _ => (entryAt off 0x800 4 512).map fun i => stageWord i.val s

/-- ENG[x].STAT.LOAD: CORE clocks of 4 ns spent in passes over the last 1 ms, in 1/256. -/
def engLoad (x : EngId) (s : State) : Nat :=
  min 255 ((((eng x s).busy.filter fun t => decide (s.now < t.1 + msGrid 1)).foldl (fun n t => n + t.2) 0) * 256 / 250000)

/-- Word `i` of a port's HIST window: eight nozzles of four bits (R225). -/
def histWord (e : Engine) (p : Port) (i : Nat) : Word :=
  packWord ((List.range 8).map fun k => (4 * k, (e.seg[p].hist.getD (8 * i + k) 0).toNat))

/-- A word of the PROFILE window. -/
def profileWord (e : Engine) (off : Nat) : Word :=
  match entryAt (off % 256) 0 4 24, entryAt (off - off % 256) 0 256 8 with
  | some i, some q => e.blocks[q][i]
  | _, _ => 0

/-- ENG[x].LIMIT entry. -/
def limitWord (x : EngId) (p : Port) (s : State) : Word := (eng x s).limit[p]

/-- An engine's registers (R224). -/
def readEng (x : EngId) (off : Nat) (s : State) : Option Word :=
  let e := eng x s
  match off with
  | 0x00 => some 0
  | 0x04 => some (packWord [(0, roleCode e.role), (16, maskWhere 8 fun q => profileOk x q s), (24, engLoad x s)])
  | 0x08 => some e.err
  | 0x0C => some e.passes
  | 0x10 => some e.predrops
  | 0x14 => some e.readFails
  | 0x18 => some e.clamps
  | 0x1C => some (loOf e.slackMin)
  | _ => ((entryAt off 0x100 4 16).map fun p => e.line[p]) <|> ((entryAt off 0x140 4 16).map fun p => e.lastEmit[p]) <|>
      ((entryAt off 0x180 4 16).map fun p => e.mapVer[p]) <|> ((entryAt off 0x1C0 4 16).map fun p => limitWord x p s) <|>
      ((entryAt off 0x1000 4 512).map fun _ => profileWord e (off - 0x1000)) <|>
      ((entryAt off 0x4000 4 4096).bind fun k => (entryAt (k.val / 256) 0 1 16).map fun p => histWord e p (k.val % 256))

/-! ## HP, HDV, NZH, MOT -/

/-- HP[n].STAT (R259). -/
def headStat (h : HeadPort) : Word :=
  packWord [(0, portCode h.pstate), (6, b2n h.present), (7, b2n h.hot), (8, b2n h.hardHot), (9, b2n h.sensorFail),
    (10, b2n (recClassL h.record)), (11, b2n h.copy), (12, b2n (h.write != .idle)), (24, h.usagePend.toNat)]

/-- A head port's registers (R259). -/
def readHp (p : Port) (off : Nat) (s : State) : Option Word :=
  let h := s.hp[p]
  match off with
  | 0x00 => some (packWord [(0, b2n h.enable), (2, b2n h.pwrOff), (8, h.slew.toNat)])
  | 0x04 => some (headStat h)
  | 0x08 => some h.err
  | 0x0C => some (loOf (headMatch p s))
  | 0x10 => some (packWord [(0, h.raw.toNat), (16, signed16 h.temp)])
  | 0x14 => some (packWord [(16, signed16 h.tempPeak)])
  | 0x18 => some (packWord [(0, h.memAddr.toNat), (8, b2n h.memFast), (9, b2n h.memA16)])
  | 0x1C => some (loOf (h.pendRate.getD h.spitRate))
  | 0x20 => some (loOf h.fires)
  | 0x24 => some s.cap.fires[p]
  | 0x28 => some (recUsage h.record)
  | 0x2C => some (packWord [(0, h.egrFailed.toNat), (16, h.egrBlanked.toNat)])
  | 0x30 => some h.loads
  | _ => (entryAt off 0x100 4 32).map fun i => le32 h.record (4 * i.val)

/-- VHS[r].STAT (R274). -/
def railStat (r : Fin 4) (s : State) : Word :=
  let l := s.hdv.rails[r]
  let ports := maskWhere 4 fun i => (railPorts r).any fun p => p.val % 4 == i.val && s.hdv.ports[p].gate
  match l.rank with
  | some v => packWord [(0, railCode l.state), (4, v.val), (7, 1), (8, ports)]
  | none => packWord [(0, railCode l.state), (8, ports)]

/-- A rail's registers (R274). -/
def readVhs (r : Fin 4) (off : Nat) (s : State) : Option Word :=
  let l := s.hdv.rails[r]
  match off with
  | 0x00 => some (packWord [(0, b2n l.use), (8, l.ilim.toNat)])
  | 0x04 => some (railStat r s)
  | 0x08 => some l.err
  | 0x0C => some (packWord [(0, l.code.toNat), (16, l.target.toNat)])
  | 0x10 => some (packWord [(0, l.vout.toNat), (16, l.iout.toNat)])
  | _ => none

/-- A port sub-block's registers (R274). -/
def readHdvPort (p : Port) (off : Nat) (s : State) : Option Word :=
  let h := s.hdv.ports[p]
  match off with
  | 0x00 => some (packWord [(0, b2n h.echoEn), (1, h.gain.toNat), (8, h.settle.toNat), (16, h.rshunt.toNat)])
  | 0x04 => some (packWord [(0, b2n h.gate), (1, b2n h.pwrGood), (16, h.vport.toNat)])
  | 0x08 => some h.err
  | 0x0C => some (packWord [(0, min 65535 h.scale), (16, min 65535 (h.gainK / 4096))])
  | 0x10 => some (packWord [(0, min 1023 (h.base / 16)), (16, match h.first with | some b => min 1023 (b / 16) | none => 0)])
  | 0x14 => some (packWord [(0, h.noEcho.toNat), (24, h.shorts.toNat)])
  | _ => none

/-- The HDV block (R274), by its offset from 0x2_4000. -/
def readHdv (off : Nat) (s : State) : Option Word :=
  if off = 0x180 then some (loOf s.hdv.rdrv)
  else match instanceAt off 0 0x40 4, entryAt off 0x100 4 8, entryAt off 0x140 4 16, instanceAt off 0x400 0x40 16 with
    | some (r, o), _, _, _ => readVhs r o s
    | _, some i, _, _ => some (loOf s.hdv.vtab[i])
    | _, _, some i, _ => some (loOf s.hdv.rohm[i])
    | _, _, _, some (p, o) => readHdvPort p o s
    | _, _, _, _ => none

/-- KIND of a map entry (R282). -/
def mapWord (e : MapEntry) : Word :=
  packWord [(31, 1), (28, kindCode e.kind), (27, b2n e.twinOk), (26, b2n e.ovOk), (25, b2n e.dnOk), (24, b2n e.upOk), (0, e.nozzle)]

/-- The second word of a map entry: a partner only where there is one. -/
def mapPartner (e : MapEntry) : Word :=
  packWord [(28, e.ovPort), (16, e.ovNozzle), (0, if e.twinOk then (e.nozzle ^^^ 1) else 0)]

/-- NZH[n].STAT (R293). -/
def nzhStat (z : Nzh) (s : State) : Word :=
  packWord [(0, b2n z.exhausted), (1, b2n (z.csState == .running)), (2, b2n (s.thm.level == 64)),
    (3, min 31 (z.susp.toList.filterMap id).length), (8, activeCount z), (16, (mapEntries z).length)]

/-- A port's nozzle-health registers (R293). -/
def readNzh (p : Port) (off : Nat) (s : State) : Option Word :=
  let z := s.nzh[p]
  match off with
  | 0x000 => some 0
  | 0x004 => some (nzhStat z s)
  | 0x008 => some z.err
  | 0x00C => some (packWord [(28, z.mapOp.toNat), (27, b2n z.mapResult), (0, z.mapNozzle.toNat)])
  | 0x010 => some z.windows
  | 0x014 => some (packWord [(0, z.deficits.toNat), (16, z.excess.toNat)])
  | 0x018 => some (packWord [(0, z.localised.toNat), (16, z.resets.toNat), (24, z.expired.toNat)])
  | 0x01C => some (match z.lastLoc with | some (c, x) => packWord [(31, 1), (11, c), (0, x)] | none => 0)
  | 0x020 => some z.mapVer
  | 0x024 => some (z.overlap &&& 0xFFFF8FFF)
  | 0x028 => some (packWord [(4, b2n z.apply)])
  | 0x02C => some z.csCfg
  | 0x030 => some (packWord [(30, sheetCode z.csState), (16, z.csFailed), (0, z.csNozzle)])
  | _ => ((entryAt off 0x40 4 8).map fun q => loOf z.policy[q]) <|>
      ((entryAt off 0x100 4 32).map fun i => match z.susp[i] with
        | some e => packWord [(31, 1), (28, e.count), (16, e.age), (0, e.nozzle)]
        | none => 0) <|>
      ((entryAt off 0x200 4 64).map fun i => packWord [(0, maskWhere 32 fun b => z.csResult.contains (32 * i.val + b.val))]) <|>
      ((entryAt off 0x400 8 128).map fun i => match z.map[i] with | some e => mapWord e | none => 0) <|>
      ((entryAt off 0x404 8 128).map fun i => match z.map[i] with | some e => mapPartner e | none => 0)

/-- AX[n].STAT (R366). -/
def axisStat (a : Axis) : Word :=
  packWord [(0, motionCode a.motion), (4, bridgeCode a.bridge), (6, a.posState.toNat), (8, b2n a.vsat), (9, b2n a.iLimited),
    (10, b2n a.pending), (11, b2n a.loNow), (12, b2n a.hiNow), (13, b2n a.chatter), (16, a.phase.toNat)]

/-- An axis's registers (R366). -/
def readAxis (i : Fin 4) (off : Nat) (s : State) : Option Word :=
  let a := s.mot.axes[i]
  match off with
  | 0x00 => some (packWord [(28, a.cmdOp.toNat), (25, a.cmdResult.toNat)])
  | 0x04 => some (axisStat a)
  | 0x08 => some a.err
  | 0x0C => some a.cfg
  | 0x10 => some a.target
  | 0x14 => some (posWord a)
  | 0x18 => some (BitVec.ofInt 32 a.speed)
  | 0x1C => some a.speeds
  | 0x20 => some a.acc
  | 0x24 => some a.dec
  | 0x28 => some a.jerk
  | 0x2C => some a.current
  | 0x30 => some a.coil
  | 0x34 => some a.stall
  | 0x38 => some a.homeCfg
  | 0x3C => some a.homeOffset
  | 0x40 => some a.homeMax
  | 0x44 => some a.backoff
  | 0x48 => some a.limCfg
  | 0x4C => some (packWord [(0, a.loadNow.toNat), (16, a.loadPeak.toNat)])
  | 0x50 => some (packWord [(0, a.refused.toNat), (16, a.limTrips.toNat), (24, a.stalls.toNat)])
  | _ => none

/-- The MOT block (R366, R367), by its offset from 0x0_F000. -/
def readMot (off : Nat) (s : State) : Option Word :=
  if off = 0x800 then some (packWord [(0, s.mot.vm.toNat), (16, b2n s.mot.vmGood),
    (20, maskWhere 4 fun i => s.mot.axes[i].motion != .idle), (24, maskWhere 4 fun i => s.mot.axes[i].bridge != .off)])
  else if off = 0x804 then some s.mot.err
  else if off = 0x808 then some 0
  else match instanceAt off 0 0x100 4 with
    | some (i, o) => readAxis i o s
    | none => none

/-! ## The transport port (R327, R328) -/

/-- STATUS (R328). -/
def tpStatus (s : State) : Half :=
  packHalf [(0, devCode s.top.state), (4, s.pond.holdCause.toNat % 16), (9, b2n (s.thm.level != 0)), (10, b2n (someSolo s)),
    (11, b2n (s.tpt.deferStop || s.tpt.deferCal.isSome || s.tpt.deferMaint)), (12, b2n (!s.tpt.fifo.isEmpty)),
    (13, b2n (docInProgress s)), (14, b2n s.pond.dochold), (15, b2n (notReady s.top.state))]

/-- ENGINES (R328). -/
def tpEngines (s : State) : Half :=
  packHalf [(0, brakeCode s), (4, roleCode s.engA.role), (8, roleCode s.engB.role), (12, b2n s.sup.engSafeHold),
    (13, b2n s.sup.rejoinWait)]

/-- PORT_STAT (R328). -/
def tpPortStat (p : Port) (s : State) : Half :=
  let h := s.hp[p]
  packHalf [(0, portCode h.pstate), (3, b2n h.hot), (4, b2n h.hardHot), (5, b2n h.sensorFail), (6, b2n s.nzh[p].exhausted),
    (7, b2n s.track[p].dropping), (8, activeCount s.nzh[p])]

/-- FTLx_STAT (R328). -/
def tpLoopStat (x : LoopId) (s : State) : Half :=
  packHalf [(0, (loopStat x s).toNat % 32), (5, b2n (lineFaultNow x s))]

/-- Documents that are pending, and documents in progress (DOC_COUNTS). -/
def docCounts (s : State) : Half := packHalf [(8, (s.docs.filter isPending).length), (0, (progressDocs s).length)]

/-- A 32-bit value's low half. -/
def lowHalf (w : Word) : Half := w.setWidth 16

/-- The words of the oldest fault record, by offset from 0x11; 0 with the FIFO empty (R340). HI words are captured. -/
def tpFault (a : Nat) (s : State) : Option Half :=
  let f := shownFault s.tpt
  match a with
  | 0x11 => some (lowHalf f.docId)
  | 0x12 => some s.cap.faultDoc
  | 0x13 => some (lowHalf f.tag)
  | 0x14 => some s.cap.faultTag
  | 0x15 => some (packHalf [(0, f.reason.toNat), (8, f.port.toNat), (15, b2n (!s.tpt.fifo.isEmpty))])
  | 0x16 => some (f.line.setWidth 16)
  | 0x17 => some s.cap.faultLine
  | 0x18 => some (f.time.setWidth 16)
  | 0x19 => some ((f.time >>> 16).setWidth 16)
  | 0x1A => some ((f.time >>> 32).setWidth 16)
  | 0x1B => some f.seq
  | _ => none

/-- The registers that read their value in every state (R327). -/
def tpAlways (a : Nat) (s : State) : Option Half :=
  match a with
  | 0x00 => some (tpStatus s)
  | 0x01 => some 0x2416
  | 0x02 => some (topRev.setWidth 16)
  | 0x0F => some s.pwr.attempts
  | 0x5A => some (tpEngines s)
  | _ => none

/-- The other registers of the port (R328). -/
def tpOther (a : Nat) (s : State) : Option Half :=
  let t := s.tpt
  match a with
  | 0x03 => some (packHalf [(0, s.pond.speedLimit)])
  | 0x04 => some t.events
  | 0x05 => some t.mask
  | 0x06 => some t.ignored
  | 0x07 => some t.scratch
  | 0x08 => some 0
  | 0x09 => some t.arg0
  | 0x0A => some t.arg1
  | 0x0B => some (packHalf [(0, t.resOutcome.toNat), (4, t.resOp.toNat), (12, t.resSeq.toNat)])
  | 0x0C => some (packHalf [(0, b2n t.deferStop), (1, b2n t.deferCal.isSome), (2, b2n t.deferMaint)])
  | 0x0D => some t.refused
  | 0x0E => some (t.pol.setWidth 16)
  | 0x10 => some (packHalf [(0, t.fifo.length), (8, t.lost.toNat)])
  | 0x20 => some (lowHalf t.trigDoc[0])
  | 0x21 => some s.cap.trig0Doc
  | 0x22 => some (lowHalf t.trigDoc[1])
  | 0x23 => some s.cap.trig1Doc
  | 0x24 => some (match holdDoc s with | some d => lowHalf d.id | none => 0)
  | 0x25 => some s.cap.holdDoc
  | 0x26 => some (docCounts s)
  | 0x27 => some (packHalf [(0, t.orphans[0].toNat), (8, t.orphans[1].toNat)])
  | 0x28 => some (lowHalf t.lastDone)
  | 0x29 => some s.cap.lastDone
  | 0x2A => some t.doneCount
  | 0x2B => some t.faultyCount
  | 0x50 => some (tpLoopStat .a s)
  | 0x51 => some (packHalf [(0, min 65535 (lineRate (loopOf .a s) s.now / 100))])
  | 0x52 => some (packHalf [(0, min 65535 (loopOf .a s).fOvs)])
  | 0x54 => some (tpLoopStat .b s)
  | 0x55 => some (packHalf [(0, min 65535 (lineRate (loopOf .b s) s.now / 100))])
  | 0x56 => some (packHalf [(0, min 65535 (loopOf .b s).fOvs)])
  | 0x58 => some (BitVec.ofInt 16 s.thm.tLogic)
  | 0x59 => some (packHalf [(0, s.thm.level)])
  | _ => (tpFault a s) <|> ((entryAt a 0x30 1 16).map fun p => tpPortStat p s) <|>
      ((entryAt a 0x40 1 16).map fun p => ((limitWord .a p s) >>> 16).setWidth 16) <|>
      ((entryAt a 0xF0 1 8).map fun i => t.hostMail[i]) <|> ((entryAt a 0xF8 1 8).map fun i => t.tpMail[i])

/-- The registers in which the port shows, in SLEEP too, what it does with accesses: the events, the ignored writes, the result of
the last command, the refused commands, and the `_HI` words that a read of a `_LO` word captures (R323; DEDUCED, log entry 73). -/
def tpOwn (a : Nat) : Bool :=
  a == 0x04 || a == 0x06 || a == 0x0B || a == 0x0D || a == 0x12 || a == 0x14 || a == 0x17 || a == 0x21 || a == 0x23 || a == 0x25 || a == 0x29

/-- A read on the transport port (R321, R327): 0 at an address without a register, and before the first READY of all but `tpAlways`;
in SLEEP the value that the register had when SLEEP was entered. -/
def readPort (a : Nat) (s : State) : Half :=
  match tpAlways a s with
  | some v => v
  | none =>
    if !s.pwr.readySeen then 0
    else if s.top.state = .sleep && !tpOwn a then s.tpt.sleepRegs.getD a 0
    else (tpOther a s).getD 0

/-- The registers of the port as they stand when SLEEP is entered (R327). -/
def holdPort (s : State) : State :=
  { s with tpt := { s.tpt with sleepRegs := (List.range 256).map fun a => (tpOther a s).getD 0 } }

/-- What a read cycle finds on TP_D: high impedance until the port is open (R326). -/
def readPins (a : Nat) (s : State) : Option Half := if portOpen s then some (readPort a s) else none

/-! ## The windows (R9, R13) -/

/-- The register at a BAR0 offset; none where no block decodes it. -/
def readReg (off : Nat) (s : State) : Option Word :=
  if off % 4 ≠ 0 then none
  else if off < 0x1000 then readTop off s
  else if off < 0x2000 then readEvt (off - 0x1000) s
  else if off < 0x3000 then readPwr (off - 0x2000) s
  else if off < 0x4000 then readThm (off - 0x3000) s
  else if off < 0x5000 then readCal (off - 0x4000) s
  else if off < 0x6000 then readOtp (off - 0x5000) s
  else if off < 0x7000 then readMgt (off - 0x6000) s
  else if off < 0x8000 then (if off < 0x7400 then some ((readPort ((off - 0x7000) / 4) s).setWidth 32) else none)
  else if off < 0xA000 then
    (if off = 0x9400 then some (linkStat s.link)
     else if off = 0x9404 then some (packWord [(0, haltedMask s)])
     else match instanceAt off 0x8000 0x100 20 with | some (ch, o) => readDma ch o s | none => none)
  else if off < 0xB000 then readPnd (off - 0xA000) s
  else if off < 0xC000 then
    (match instanceAt off 0xB000 0x100 8 with | some (i, o) => readChk i o s | none => readChkBlk (off - 0xB000) s)
  else if off < 0xC800 then readFtl .a (off - 0xC000) s
  else if off < 0xD000 then readFtl .b (off - 0xC800) s
  else if off < 0xE000 then none
  else if off < 0xF000 then readSup (off - 0xE000) s
  else if off < 0x10000 then readMot (off - 0xF000) s
  else if off < 0x18000 then readEng .a (off - 0x10000) s
  else if off < 0x20000 then readEng .b (off - 0x18000) s
  else if off < 0x24000 then
    (match instanceAt off 0x20000 0x400 16 with | some (p, o) => readHp p o s | none => none)
  else if off < 0x28000 then readHdv (off - 0x24000) s
  else match instanceAt off 0x28000 0x800 16 with
    | some (p, o) => readNzh p o s
    | none => none

/-- A read of a BAR0 word: 0 where no block decodes it (R9). -/
def readWord (off : Nat) (s : State) : Word := (readReg off s).getD 0

/-- Change the captures. -/
def modCap (f : Captures → Captures) (s : State) : State := { s with cap := f s.cap }

/-- A read of a `_LO` register captures its `_HI` register (R194, R259, R323, R395, R432). -/
def captureRead (reg : LoReg) (s : State) : State :=
  let f := shownFault s.tpt
  let up (w : Word) : Half := (w >>> 16).setWidth 16
  match reg with
  | .pos x => modCap (fun c => { c with pos := c.pos.set (loopIx x).val (hiOf (posShown x s)) (loopIx x).isLt }) s
  | .hwm x => modCap (fun c => { c with hwm := c.hwm.set (loopIx x).val (hiOf (markShown x s)) (loopIx x).isLt }) s
  | .trig0 x => modCap (fun c => { c with trig0 := c.trig0.set (loopIx x).val (hiOf (trigShown 0 (loopOf x s))) (loopIx x).isLt }) s
  | .trig1 x => modCap (fun c => { c with trig1 := c.trig1.set (loopIx x).val (hiOf (trigShown 1 (loopOf x s))) (loopIx x).isLt }) s
  | .fires n => modCap (fun c => { c with fires := c.fires.set n.val (hiOf s.hp[n].fires) n.isLt }) s
  | .lastTime => modCap (fun c => { c with lastTime := hiOf s.cal.lastTime }) s
  | .rtc => modCap (fun c => { c with rtc := hiOf (rtcNow s) }) s
  | .faultDoc => modCap (fun c => { c with faultDoc := up f.docId }) s
  | .faultTag => modCap (fun c => { c with faultTag := up f.tag }) s
  | .faultLine => modCap (fun c => { c with faultLine := (f.line >>> 16).setWidth 16 }) s
  | .trig0Doc => modCap (fun c => { c with trig0Doc := up s.tpt.trigDoc[0] }) s
  | .trig1Doc => modCap (fun c => { c with trig1Doc := up s.tpt.trigDoc[1] }) s
  | .holdDoc => modCap (fun c => { c with holdDoc := match holdDoc s with | some d => up d.id | none => 0 }) s
  | .lastDone => modCap (fun c => { c with lastDone := up s.tpt.lastDone }) s

/-! ## Read accesses (R8, R9, R16, R88) -/

/-- The `_LO` register at a BAR0 offset. -/
def loRegAt (off : Nat) : Option LoReg :=
  if off = 0x2020 then some .rtc
  else if off = 0x4014 then some .lastTime
  else if off < 0x7400 then
    match off with
    | 0x7044 => some .faultDoc | 0x704C => some .faultTag | 0x7058 => some .faultLine
    | 0x7080 => some .trig0Doc | 0x7088 => some .trig1Doc | 0x7090 => some .holdDoc | 0x70A0 => some .lastDone
    | _ => none
  else match off with
    | 0xC020 => some (.pos .a) | 0xC028 => some (.hwm .a) | 0xC040 => some (.trig0 .a) | 0xC048 => some (.trig1 .a)
    | 0xC820 => some (.pos .b) | 0xC828 => some (.hwm .b) | 0xC840 => some (.trig0 .b) | 0xC848 => some (.trig1 .b)
    | _ => (entryAt off 0x20020 0x400 16).map .fires

/-- What the read of one BAR0 word leaves: a `_LO` register captures its `_HI` register. -/
def afterRead (off : Nat) (s : State) : State :=
  match loRegAt off with
  | some r => captureRead r s
  | none => s

/-- A word of BAR4: the MSI-X table and the pending-bit array; 0 elsewhere (R16). -/
def readTable (off : Nat) (s : State) : Word :=
  match instanceAt off 0 16 128, entryAt off 0x1000 4 4 with
  | some (v, o), _ =>
    let e := s.evt.table[v]
    if o = 0 then e.addrLo else if o = 4 then e.addrHi else if o = 8 then e.data else packWord [(0, b2n e.masked)]
  | none, some g => sourceWord s.evt.pba g.val
  | none, none => 0

/-- One 32-bit word of a window: BAR2 reads 0 (R88); a transport-port register is a 16-bit word, and a free value while TP_D is high
impedance (R326, log entry 3). -/
def busWord (bus : Bus) (off : Nat) (s : State) : Word :=
  match bus with
  | .bar0 => readWord off s
  | .bar2 => 0
  | .bar4 => readTable off s
  | .tp => match readPins off s with
    | some h => h.setWidth 32
    | none => (Config.freeWord s.free).setWidth 32

/-- The words from `base` on, read in turn, the lower address first. -/
def readWords (bus : Bus) (base : Nat) : Nat → State → List Byte × State
  | 0, s => ([], s)
  | n + 1, s =>
    let r := readWords bus (base + 4) n (if bus = .bar0 then afterRead base s else s)
    (toLe 4 (busWord bus base s).toNat ++ r.1, r.2)

/-- A read access of `n` bytes at `off` (R8): the bytes of the full words it reaches, a 64-bit access as two 32-bit reads. The transport port has
no byte lanes: word `off` is read whole (R10). -/
def readAccess (bus : Bus) (off n : Nat) (s : State) : List Byte × State :=
  match bus with
  | .tp => (toLe 2 (busWord .tp off s).toNat, if off < 256 then afterRead (0x7000 + 4 * off) s else s)
  | _ =>
    let r := readWords bus (off / 4 * 4) ((off % 4 + n + 3) / 4) s
    ((r.1.drop (off % 4)).take n, r.2)

end Sys2Proof.Machine
end

