-- ==== Sys2Proof/Machine/Kolto.lean ====
section
/-! DEFINITION. Loading a Kolto image: the checks of its register writes (R449, R450), the load of the CONFIG stage, and the reload of an
activation (R458). -/

namespace Sys2Proof.Machine

/-! ## Register writes of an image (R449, R450) -/

/-- A register write as the image loader makes it: as a host write, and also to the two transport-port registers that the image loads
(R327). -/
def loadWord (off : Nat) (w : Word) (s : State) : State :=
  if off = 0x7014 then modTpt (fun t => { t with mask := w.setWidth 16 &&& 0x07FF }) s
  else if off = 0x7038 then modTpt (fun t => { t with pol := w.setWidth 2 }) s
  else writeWord off w s

/-- `off` lies in one of the spans of offsets, ends included. -/
def inSpans (off : Nat) (l : List (Nat × Nat)) : Bool := l.any fun t => decide (t.1 ≤ off) && decide (off ≤ t.2)

/-- The offsets of a block at which a register has a field that a write reaches: every other register is RO and ignores the write (R2). -/
def writableSpans (off : Nat) : Nat × List (Nat × Nat) :=
  if off < 0x1000 then (off, [(0x14, 0x18)])
  else if off < 0x2000 then (off - 0x1000, [(0, 4), (0x10, 0x4C), (0x80, 0xFC), (0x100, 0x100), (0x200, 0x27C)])
  else if off < 0x3000 then (off - 0x2000, [(0, 0), (8, 0xC), (0x20, 0x2C), (0x40, 0x58)])
  else if off < 0x4000 then (off - 0x3000, [(0, 0), (8, 8), (0x18, 0x18)])
  else if off < 0x5000 then (off - 0x4000, [(0, 0), (8, 0xC)])
  else if off < 0x6000 then (off - 0x5000, [(0, 8), (0x10, 0x10)])
  else if off < 0x7000 then (off - 0x6000, [(0, 0), (8, 8), (0x18, 0x1C), (0x24, 0x24), (0x34, 0x34), (0x800, 0xFFC)])
  else if off < 0x8000 then (off - 0x7000, [(0x14, 0x14), (0x38, 0x38), (0x3C0, 0x3DC)])
  else if off < 0xA000 then (off % 0x100, if off < 0x9400 then [(0, 0), (8, 0x10), (0x20, 0x24), (0x34, 0x34)] else [])
  else if off < 0xB000 then (off - 0xA000, [(0, 0), (8, 8), (0x20, 0x20), (0x100, 0x13C)])
  else if off < 0xB800 then (off % 0x100, [(0, 8), (0x10, 0x40)])
  else if off < 0xC000 then (off - 0xB800, [(0xC, 0xC)])
  else if off < 0xD000 then (off % 0x800, [(0, 0), (8, 0x1C)])
  else if off < 0xF000 then (off - 0xE000, [(0, 4), (0xC, 0xC), (0x28, 0x28), (0x40, 0x40), (0x800, 0xFFC)])
  else if off < 0xF400 then (off % 0x100, [(0, 0), (8, 0x10), (0x1C, 0x48)])
  else if off < 0x10000 then (off - 0xF800, [(4, 8)])
  else if off < 0x20000 then (off % 0x8000, [(0, 0), (8, 8), (0x1000, 0x17FC)])
  else if off < 0x24000 then (off % 0x400, [(0, 0), (8, 8), (0x18, 0x1C)])
  else if off < 0x24100 then (off % 0x40, [(0, 0), (8, 8)])
  else if off < 0x24400 then (off - 0x24000, [(0x100, 0x11C), (0x140, 0x180)])
  else if off < 0x28000 then (off % 0x40, [(0, 0), (8, 8)])
  else (off % 0x800, [(0, 0), (8, 8), (0xC, 0xC), (0x24, 0x2C), (0x40, 0x5C)])

/-- A BAR0 offset that decodes to a register which a host write or the loader reaches. -/
def loadable (off : Nat) (s : State) : Bool :=
  (readReg off s).isSome && inSpans (writableSpans off).1 (writableSpans off).2

/-- A value that its register would ignore without a mark: a field out of the range that the register table gives. -/
def ignoredValue (off : Nat) (w : Word) : Bool :=
  let fits (pos width lo hi : Nat) : Bool := fieldIn pos width lo hi w
  if 0x1200 ≤ off ∧ off < 0x1280 then !(fits 30 2 0 2 && fits 22 8 1 255 && fits 0 22 1 3600000)
  else if off = 0x3018 then !(fits 0 8 1 255 && fits 8 8 1 255 && fits 16 8 1 255 && fits 24 8 1 255)
  else if off = 0x400C then !(fits 0 8 1 255 && fits 8 5 2 30 && fits 16 8 1 255)
  else if 0x20000 ≤ off ∧ off < 0x24000 ∧ off % 0x400 = 0x1C then !fits 0 16 100 20000
  else if 0x24000 ≤ off ∧ off < 0x24100 ∧ off % 0x40 = 0 then !fits 8 8 4 255
  else if 0x24100 ≤ off ∧ off < 0x24120 then !fits 0 16 0 4095
  else if 0x24140 ≤ off ∧ off < 0x24184 then !fits 0 16 1 65535
  else if 0x24400 ≤ off ∧ off < 0x24800 ∧ off % 0x40 = 0 then !(fits 16 16 1 65535 && fits 8 4 2 15)
  else false

/-- Axes without the marks of refused writes. -/
def clearAxisMarks (a : Axis) : Axis := { a with err := clearBit a.err 0, cmdResult := 0 }

/-- Channels, check units, loops and ports without the marks of refused writes. -/
def clearArrayMarks (s : State) : State :=
  { s with
    dma := s.dma.map fun d => { d with err := clearBit d.err 1 }
    chk := { s.chk with units := s.chk.units.map fun u => { u with armBad := false } }
    ftl := s.ftl.map fun l => { l with err := clearBit l.err 0 }
    nzh := s.nzh.map fun z => { z with err := clearBit (clearBit z.err 4) 5 }
    mot := { s.mot with axes := s.mot.axes.map clearAxisMarks } }

/-- Every mark by which a register shows that it ignored or refused a write, cleared. -/
def clearMarks (s : State) : State :=
  { clearArrayMarks s with
    top := { s.top with ignored := 0 }
    pond := { s.pond with err := clearBit s.pond.err 0 }
    engA := { s.engA with err := clearBit s.engA.err 5 }
    engB := { s.engB with err := clearBit s.engB.err 5 }
    pwr := { s.pwr with err := clearBit s.pwr.err 0, cmdResult := 0 }
    sup := { s.sup with err := clearBit s.sup.err 10 }
    otp := { s.otp with cmdResult := 0 }
    mgt := { s.mgt with updResult := 0, mbxResult := 0 }
    cal := { s.cal with reqResult := 0 } }

/-- A register kept an old value because the new one is out of its range. -/
def rangeMarked (s : State) : Bool :=
  s.pond.err.getLsbD 0 || s.engA.err.getLsbD 5 || s.pwr.err.getLsbD 0 ||
  s.dma.toList.any (fun d => d.err.getLsbD 1) || s.chk.units.toList.any (fun u => u.armBad) ||
  s.ftl.toList.any (fun l => l.err.getLsbD 0) || s.nzh.toList.any (fun z => z.err.getLsbD 4) ||
  s.mot.axes.toList.any (fun a => a.err.getLsbD 0)

/-- A register ignored a write or refused a command. -/
def refusalMarked (s : State) : Bool :=
  s.top.ignored != 0 || s.nzh.toList.any (fun z => z.err.getLsbD 5) || s.mot.axes.toList.any (fun a => a.cmdResult != 0) ||
  s.pwr.cmdResult == 2 || s.sup.err.getLsbD 10 || (s.otp.cmdResult != 0 && s.otp.cmdResult != 15) ||
  s.mgt.updResult != 0 || s.mgt.mbxResult == 1 || s.mgt.mbxResult == 2 || s.cal.reqResult == 2

/-- The writes are carried out in turn on a scratch copy of the state; `strict` also asks that no command is refused. -/
def loadsPass (strict : Bool) : List (Nat × Word) → State → Bool
  | [], _ => true
  | x :: l, s =>
    let t := loadWord x.1 x.2 (clearMarks s)
    loadable x.1 s && !ignoredValue x.1 x.2 && !rangeMarked t && !(strict && refusalMarked t) && loadsPass strict l t

/-- Every REGLOAD write is accepted (R450). -/
def loadsAccepted (s : State) (l : List (Nat × Word)) : Bool := loadsPass true l s

/-- Every REGLOAD value lies in its register's range (R457). -/
def loadsInRange (l : List (Nat × Word)) : Bool := loadsPass false l State.reset

/-! ## The load (R449) -/

/-- First section of a type. -/
def sectionBytes (t : Nat) (i : Image) : List Byte := ((sectionsOf t i.sections).head?.map fun x => x.bytes).getD []

/-- PROFILE sections become the profile table; a profile without a section is undefined. -/
def loadProfiles (i : Image) (s : State) : State :=
  { s with prof := Vector.ofFn fun q =>
      ((sectionsOf 2 i.sections).find? fun x => x.index.toNat == q.val).map fun x => profileOfSection x.bytes }

/-- Both engines load a word of the PROFILE window. -/
def loadEnergyWord (b : List Byte) (s : State) (t : Fin 8 × Fin 24) : State :=
  if t.2.val = 7 then s
  else
    let w := le32 b (256 * t.1.val + 4 * t.2.val)
    { s with engA := putEnergy t.1 t.2 w s.engA, engB := putEnergy t.1 t.2 w s.engB }

/-- Every word of every energy block. -/
def energyWords : List (Fin 8 × Fin 24) := (List.finRange 8).flatMap fun q => (List.finRange 24).map fun i => (q, i)

/-- The ENERGY section goes into both engines in one clock (R225). -/
def loadEnergy (i : Image) (s : State) : State :=
  match energySection i with
  | none => s
  | some b => energyWords.foldl (loadEnergyWord b) s

/-- Register writes in their order. -/
def loadAll (l : List (Nat × Word)) (s : State) : State := l.foldl (fun s x => loadWord x.1 x.2 s) s

/-- FLASH_WIN: the larger lower limit and the smaller upper limit of R383's range and the declared range (R447). -/
def loadFlashWin (i : Image) (s : State) : State :=
  modThm (fun t => { t with flashLow := max (-40) i.flashLo.toInt, flashHigh := min 105 i.flashHi.toInt }) s

/-- SMBus address and health interval; the defaults without an MGT section. -/
def loadMgt (i : Image) (s : State) : State :=
  let v := match (sectionsOf 6 i.sections).head? with | some x => Config.mgtSection x.bytes | none => (0x5C, 24)
  modMgt (fun m => { m with smbAddr := BitVec.ofNat 7 v.1, healthH := v.2, user := sectionBytes 7 i }) s

/-- The image of a slot is loaded (R437, R449); the register writes come last (log entry 14). -/
def applyImage (slotB : Bool) (i : Image) (s : State) : State :=
  let s := loadEnergy i (loadProfiles i s)
  let s := match (sectionsOf 4 i.sections).head? with | some x => loadAll (Config.eventsSection x.bytes) s | none => s
  let s := modCal (fun k => { k with board := sectionBytes 5 i }) (loadFlashWin i (loadMgt i s))
  let s := loadAll (regLoads i.sections) s
  modMgt (fun m => { m with cfgSlot := slotB, cfgVer := i.secVer, cfgSeq := i.seq, kolto := some i }) s

/-! ## Reload at an activation (R458) -/

/-- A Kolto reload may run: its activation is pending, the device is at a quiet point, no swap is open and the firmware runs. -/
def reloadDue (s : State) : Bool :=
  s.mgt.updState == .pending && (s.mgt.activation == .reload || s.mgt.activation == .energyReload) &&
  (s.top.state == .ready || s.top.state == .gap) && !docInProgress s && s.sup.swap == .closed && fwRuns s

/-- The activation fails: MAGIC of the new slot becomes 0, and CFG_APPLY_FAIL is set (R458). -/
def rollBack (s : State) : State := clearMagic true s.mgt.sesSlot (activationFails (mgtErr 5 s))

/-- A Kolto image comes into force without a load of its registers: its versions and its flash window (R447, R458). -/
def forceKolto (slotB : Bool) (i : Image) (s : State) : State :=
  modMgt (fun m => { m with cfgSlot := slotB, cfgVer := i.secVer, cfgSeq := i.seq, kolto := some i }) (loadFlashWin i s)

/-- The reload ends: the image as read back is applied, or the old one stays in force (R458). -/
def reloadDone (image : List Byte) (s : State) : State :=
  if reloadDue s then
    let s := releaseUnit false (scanSlot true s.mgt.sesSlot image (claimUnit s))
    match parseImage true image (loadsAccepted s) s.otp with
    | some i =>
      let ix := slotIx true s.mgt.sesSlot
      activated (applyImage s.mgt.sesSlot i (modMgt (fun m => { m with slots := m.slots.set ix.val (some i) ix.isLt }) s))
    | none => rollBack s
  else s

/-- An activation by a swap ends with it (R458): complete where both engines hold the staged blocks, failed otherwise. -/
def swapActivation (s : State) : State :=
  let m := s.mgt
  if m.updState = .pending ∧ m.activation = .swap ∧ (s.sup.swap = .closed ∨ s.sup.swap = .failed) then
    match m.slots[slotIx true m.sesSlot] with
    | some i =>
      if s.sup.swap = .closed ∧ s.engA.blocks = s.sup.stage then
        activated (forceKolto m.sesSlot i s)
      else rollBack s
    | none => rollBack s
  else s

end Sys2Proof.Machine
end

