-- ==== Sys2Proof/Machine/Start.lean ====
section
/-! DEFINITION. The start stages from FIRMWARE to RESTORE (R437, R438, R451, R455), READY (R423), and the orderly entry to STANDBY
(R428). -/

namespace Sys2Proof.Machine

/-! ## Slots at a stage (R451) -/

/-- The slots of a kind in the order in which they are tried. -/
def slotOrder (kolto : Bool) (a b : List Byte) : List Bool := if slotBFirst a b kolto then [true, false] else [false, true]

/-- Bytes of a slot. -/
def slotBytes (a b : List Byte) (slotB : Bool) : List Byte := if slotB then b else a

/-- A tried slot fails: logged, flagged, counted (R451). -/
def slotFails (kolto : Bool) (b : List Byte) (slotB : Bool) (s : State) : State :=
  let s := pushLog 0x0A (BitVec.ofNat 8 (b2n kolto))
    ([Config.updOutcome 2] ++ toLe 1 (b2n slotB) ++ [0, 0] ++ toLe 4 (imageSeq b).toNat ++ toLe 4 (leNat b 16 4) ++ toLe 4 (leNat b 24 4)) s
  countClass Cls.flash (mgtErr (if kolto then 2 else 1) s)

/-- The image a slot holds, if it is valid under the fuses as they stand (R448 to R453). -/
def slotImage (kolto : Bool) (a b : List Byte) (ok : List (Nat × Word) → Bool) (o : Otp) (slotB : Bool) : Option Image :=
  parseImage kolto (slotBytes a b slotB) ok o

/-- A slot that was tried in vain is reported if it holds an image (R451). -/
def slotTried (kolto : Bool) (a b : List Byte) (s : State) (slotB : Bool) : State :=
  let bytes := slotBytes a b slotB
  if headerGood kolto bytes then slotFails kolto bytes slotB (scanSlot kolto slotB bytes s) else s

/-- The slots are tried in turn: the first valid one, and the failures before it. -/
def trySlots (kolto : Bool) (a b : List Byte) (ok : List (Nat × Word) → Bool) (l : List Bool) (s : State) :
    Option (Bool × Image) × State :=
  let bad := l.takeWhile fun x => (slotImage kolto a b ok s.otp x).isNone
  let found := (l.drop bad.length).head?.bind fun x => (slotImage kolto a b ok s.otp x).map fun i => (x, i)
  let s := bad.foldl (slotTried kolto a b) s
  (found, match found with | some t => scanSlot kolto t.1 (slotBytes a b t.1) s | none => s)

/-- What each slot of a kind holds is recorded. -/
def noteSlots (kolto : Bool) (a b : List Byte) (ok : List (Nat × Word) → Bool) (s : State) : State :=
  let ia := slotIx kolto false
  let ib := slotIx kolto true
  modMgt (fun m => { m with
    slots := (m.slots.set ia.val (parseImage kolto a ok s.otp) ia.isLt).set ib.val (parseImage kolto b ok s.otp) ib.isLt }) s

/-- Elapsed stage time in 0.1 ms. -/
def passTenths (tenth : Nat) (s : State) : State := { s with now := s.now + tenth * 800000 }

/-! ## FIRMWARE and CONFIG -/

/-- The boot header passes its check (R445). -/
def bootHeaderOk (b : List Byte) : Bool := leNat b 0 4 == 0x4A424854 && le32 b 4092 == crc32c (slice b 0 4092)

/-- The FIRMWARE stage ends (R437, R451, R461): without a valid slot the recovery path is offered. -/
def firmwareDone (header a b : List Byte) (tenth : Nat) (s : State) : State :=
  if inStage 3 s then
    let ok : List (Nat × Word) → Bool := rangeOnly
    let s := noteSlots false a b ok (passTenths tenth (if bootHeaderOk header then s else mgtErr 0 s))
    let r := trySlots false a b ok (slotOrder false a b) s
    match r.1 with
    | some (x, i) =>
      stageOk 3 tenth (modMgt (fun m => { m with
        running := true, recovery := false, fwSlot := x, fwVer := i.secVer, healthAt := s.now }) r.2)
    | none => stageFail 3 <| releaseUnit true (modMgt (fun m => { m with recovery := true, recImage := [] }) r.2)
  else s

/-- The processor runs again (R444): the firmware of the slot in force has been verified again, and failing that the other slot's (R451, R459).
A new image that fails does not run, and its activation times out (R458). Where no slot is valid the restart goes on (DESIGN CHOICE, log
entry 97). -/
def restartEnds (a b : List Byte) (s : State) : State :=
  if s.mgt.restarting then
    let m := s.mgt
    let s := noteSlots false a b rangeOnly s
    let r := trySlots false a b rangeOnly (if m.trying.isSome then [m.fwSlot] else [m.fwSlot, !m.fwSlot]) s
    match r.1 with
    | some (x, i) =>
      let s := raise Src.mgtRestart (modMgt (fun m => { m with
        restarting := false, restarts := satInc m.restarts, fwSlot := x, fwVer := i.secVer }) r.2)
      if s.mgt.activation = .firmware then activated s else s
    | none => r.2
  else s

/-- Head discovery starts on every port that has a head (R250). -/
def startDiscovery (s : State) : State :=
  (List.finRange 16).foldl (fun s p => if s.hp[p].present && s.hp[p].pstate == .absent then startReading p s else s) s

/-- The CONFIG stage ends, and CHK[7] is free again (R167): the first valid Kolto image is loaded (R437, R451); stage 5 begins with head discovery. -/
def configDone (a b : List Byte) (tenth : Nat) (s : State) : State :=
  if inStage 4 s then
    let ok := loadsAccepted s
    let s := noteSlots true a b ok (passTenths tenth s)
    let r := trySlots true a b ok (slotOrder true a b) (releaseUnit false s)
    match r.1 with
    | some (x, i) => startDiscovery (stageOk 4 tenth (applyImage x i r.2))
    | none => stageFail 4 r.2
  else s

/-! ## SELFTEST and CALIBRATION -/

/-- An engine's self-test of the start stage: counted; a failure is a fault of kind SELFTEST. -/
def startTest (x : EngId) (pass : Bool) (s : State) : State :=
  let s := stopSelftest x (startSelftest x s)
  if pass then s else noteFault x 7 0 0 (supErr 7 s)

/-- The roles of R34 after the self-tests; `false` if neither engine passes. -/
def giveRoles (passA passB : Bool) (s : State) : Bool × State :=
  match passA, passB with
  | true, true => (true, giveBrake .a (setRoles .lead .shadow s))
  | true, false => (true, giveBrake .a (setRoles .solo .retired s))
  | false, true => (true, giveBrake .b (setRoles .retired .solo s))
  | false, false => (false, s)

/-- The SELFTEST stage ends (R34, R144, R437); the full calibration of stage 6 begins. -/
def selftestDone (passA passB : Bool) (ing : BitVec 20) (egr : BitVec 16) (tenth : Nat) (s : State) : State :=
  if inStage 5 s then
    let s := fixedTest ing egr (passTenths tenth s)
    let r := giveRoles passA passB (startTest .b passB (startTest .a passA { s with sup := { s.sup with started := passA || passB } }))
    if r.1 then stageOk 5 tenth (modCal (fun k => { k with running := some true, startAt := s.now }) r.2) else stageFail 5 r.2
  else s

/-- An activation by calibration ends with it (R458). -/
def calActivated (s : State) : State :=
  let m := s.mgt
  if m.updState = .pending ∧ m.activation = .calibration ∧ m.calRun then
    match m.slots[slotIx true m.sesSlot] with
    | some i => activated (forceKolto m.sesSlot i s)
    | none => activationFails s
  else s

/-- A calibration completes: the start stage of 2.4 ms, or one that ran in CALIB (R389, R437). -/
def calibrated (rd : CalIn) (s : State) : State :=
  match s.cal.running with
  | none => s
  | some full =>
    if inStage 6 s then stageOk 6 24 (finishCal true true rd s)
    else if s.top.state = .calib then
      let s := finishCal false full rd s
      enterRest (if full then calActivated s else s)
    else s

/-! ## RESTORE (R121, R288, R455) -/

/-- Records that the scan of the ring finds, with their places. -/
def scanRing (l : List (List Byte)) : List (Nat × LogRec) :=
  (l.take ringPlaces).zipIdx.filterMap fun t => (parseRecord t.1).map fun r => (t.2, r)

/-- The newest record. -/
def newestRec (l : List (Nat × LogRec)) : Option (Nat × LogRec) :=
  l.foldl (fun m t => match m with | none => some t | some u => if seqNewer t.2.seq u.2.seq then some t else some u) none

/-- The records in the order of their places, after the newest one's place first. -/
def ringOrder (place : Nat) (l : List (Nat × LogRec)) : List (Nat × LogRec) :=
  (l.filter fun t => place < t.1) ++ l.filter fun t => t.1 ≤ place

/-- The places that hold neither a record nor nothing: torn ones (R452). -/
def tornPlaces (l : List (List Byte)) : List Nat :=
  (l.take ringPlaces).zipIdx.filterMap fun t => if (parseRecord t.1).isNone && !t.1.all (· == 0xFF#8) then some t.2 else none

/-- The log goes on after its newest record, or at the first place (R455). -/
def resumeLog (l : List (List Byte)) (s : State) : State :=
  let found := scanRing l
  let torn := tornPlaces l
  match newestRec found with
  | none => modMgt (fun m => { m with torn := torn, logReady := true }) s
  | some (i, r) =>
    modMgt (fun m => { m with
      ring := ringOrder i found, torn := torn, logReady := true, place := placeAfter torn i, logNewest := r.seq, logSeq := nextSeq r.seq }) s

/-- A SPARE_ROW record is applied again: of several for a row the newest prevails, and the spare rows of the others stay used up. -/
def reapplySpare (s : State) (r : LogRec) : State :=
  let t := (leNat r.payload 0 2, leNat r.payload 2 2)
  if s.pond.spares.contains t then s else { s with pond := { s.pond with spares := s.pond.spares ++ [t] } }

/-- A standing SUBST record of a head that is on its port is posted again (R288). -/
def repostSubst (s : State) (r : LogRec) : State :=
  let p : Port := ⟨r.aux.toNat % 16, Nat.mod_lt _ (by decide)⟩
  let again := !s.hp[p].record.isEmpty && recSerial s.hp[p].record == le64 r.payload 4
  match kindOf (byteAt r.payload 0).toNat with
  | some .echo => if again then enterMissing p (leNat r.payload 2 2) .echo s else s
  | some .contact => if again then enterMissing p (leNat r.payload 2 2) .contact s else s
  | some .host => if again then enterMissing p (leNat r.payload 2 2) .host s else s
  | _ => s

/-- Every standing record of the ring takes effect again. -/
def reapplyLog (s0 : State) : State :=
  let l := standingOf (s0.mgt.ring.map fun t => t.2)
  let s := (l.filter fun r => r.type == 5).foldl reapplySpare s0
  postMaps s ((l.filter fun r => r.type == 6).foldl repostSubst s)

/-- The documents of the thermal record are marked (R377, R422): reason 0x09 after a shut-down, else 0x05; the tag is not kept. -/
def markThermal (s : State) : State :=
  let shut := s.pwr.resetCause.getLsbD 4
  let s := s.pwr.thermDocs.foldl
    (fun s d => pushFault d.docId 0 (if shut then 0x09 else 0x05) 0 d.line.toNat s) s
  let s := if shut && decide (4 < s.pwr.thermCount) then raise Src.thmShutUnlisted s else s
  modPwr (fun p => { p with thermCount := 0, thermDocs := [] }) s

/-- The events of the first READY after a reset release (R464). -/
def readyEvents (s : State) : State :=
  let s := raise Src.readyReached s
  let s := if s.pwr.failed != 0 then raise Src.startRetry s else s
  let s := if s.pwr.resetCause.getLsbD 3 then raise Src.xinLost s else s
  if s.pwr.resetCause.getLsbD 4 then logThermal 1 (raise Src.thmShutdown s) else s

/-- READY is reached (R79, R423). -/
def reachReady (s : State) : State :=
  let s := setState .ready (modPwr (fun p => { p with stage := 15, readySeen := true }) s)
  openGate (logStart (s.pwr.failedSet.setWidth 8) (markThermal (readyEvents s)))

/-- The RESTORE stage ends (R437, R455). -/
def restoreDone (l : List (List Byte)) (tenth : Nat) (s : State) : State :=
  if inStage 7 s then reachReady (stageOk 7 tenth (reapplyLog (resumeLog l (passTenths tenth s)))) else s

/-! ## Orderly STANDBY (R428) -/

/-- An OTP burn, a head-record write or a flash write runs. -/
def writesRun (s : State) : Bool :=
  s.otp.burn.isSome || (s.mgt.updState == .erasing && s.mgt.flashWait.isEmpty) || pageReady s ||
  s.hp.toList.any fun h => match h.write with | .idle => false | .retryWait => false | _ => true

/-- MAINT or CALIB ends before its time: the axes of MAINT stop, and a calibration discards what it has not posted. -/
def endWork (s : State) : State :=
  if s.top.state = .maint then leaveMaint (stopAll (abortSheets s))
  else if s.top.state = .calib then enterRest (giveUpCal s)
  else s

/-- Step 2: MAINT or CALIB ends as under STOP, and the axes stop softly. -/
def quiesceStandby (s : State) : State :=
  if s.pwr.standbyPend && !s.pwr.standbyAxes && !docInProgress s && !writesRun s then
    let s := endWork s
    modPwr (fun p => { p with standbyAxes := true }) (softStopAll s)
  else s

/-- The record of an axis in bank 0 (R360). -/
def axisRecord (a : Axis) : AxisRec :=
  { pos := posWord a, phase := a.phase, posState := a.posState, energised := a.bridge != .off }

/-- Steps 3 and 4: bank 0 is written, power is removed, and STANDBY is entered. -/
def enterStandby (s : State) : State :=
  if s.pwr.standbyAxes && axesStill s then
    let s := drainLog (goQuiet .standby s)
    let recs : Vector AxisRec 4 := Vector.ofFn fun i => axisRecord s.mot.axes[i]
    let s := modPwr (fun p => { p with axisRecs := recs, orderly := true, aonCfg := p.cfg }) s
    let useEn := s.pwr.cfg.getLsbD 1
    let drop1 := !s.pwr.cfg.getLsbD 2 && s.pwr.journal.isNone
    let s := toStandby (resetDies s)
    modPwr (fun p => { p with
      mainEn := p.mainEn && !useEn
      thermCount := if drop1 then 0 else p.thermCount, thermDocs := if drop1 then [] else p.thermDocs }) s
  else s

end Sys2Proof.Machine
end

