-- ==== Sys2Proof/Machine/Ticks.lean ====
section
/-! DEFINITION. Periodic work of the pond, the sluice and the firmware: scrubbing and spare rows (R120, R122), the evaluation tick (R131), the
throughput meters (R136), the daily health record (R316), and the actions that wait for a quiet point (R313, R458). -/

namespace Sys2Proof.Machine

/-! ## Scrubbing (R118 to R122) -/

/-- Data rows, and all rows with the 512 spare ones. -/
def dataRows : Nat := 40960

/-- Rows of a pass. -/
def passRows : Nat := 41472

/-- Row whose words a physical row holds: a data row that is not replaced, or the row mapped to a spare one (R120). -/
def logicalRow (phys : Nat) (s : State) : Option Nat :=
  if phys < dataRows then (if (spareOf phys s).isNone then some phys else none)
  else (s.pond.spares.find? fun t => t.2 == phys - dataRows && spareOf t.1 s == some t.2).map fun t => t.1

/-- An error in a row that holds no word of the pond, a replaced row or a spare one not mapped: counted, with nothing to flag or replace
(log entry 11). -/
def deadRowError (s : State) (e : Nat × BitVec 79) : State :=
  match (decodeWord (128 * passRows) e.2 s).1 with
  | none => s
  | some .one => wordCorrected (128 * passRows) false s
  | some .two =>
    let s := { s with pond := { s.pond with err := setBit s.pond.err 1, ceDouble := satInc s.pond.ceDouble } }
    countClass Cls.pndEcc (raise Src.pndCe s)
  | some .uncorrectable =>
    let s := { s with pond := { s.pond with err := setBit s.pond.err 2, ueCount := satInc s.pond.ueCount } }
    countClass Cls.pndUe (raise Src.pndUe s)

/-- A one-bit error of a physical row on this pass: on two passes in a row, the row it stands for is replaced (R120). -/
def noteOneBit (phys row : Nat) (s : State) : State :=
  let s := if s.pond.onePrev.contains phys then replaceRow row s else s
  { s with pond := { s.pond with oneNow := if s.pond.oneNow.contains phys then s.pond.oneNow else phys :: s.pond.oneNow } }

/-- The words of a physical row that stands for `row` are read. -/
def rowErrors (phys row : Nat) (errs : Upsets) (s : State) : State :=
  let one := errs.any fun e => (decodeWord (128 * row + e.1 % 128) e.2 s).1 == some .one
  let s := wordErrors (errs.map fun e => (128 * row + e.1 % 128, e.2)) s
  if one then noteOneBit phys row s else s

/-- The scrub pass goes on with the next row, or ends. -/
def nextScrub (s : State) : State :=
  let p := s.pond
  if p.scrubRow + 1 < passRows then { s with pond := { p with scrubRow := p.scrubRow + 1, scrubMark := s.now } }
  else { s with pond := { p with
    scrubRow := 0, scrubMark := s.now, passes := p.passes + 1, lastPassMs := satNat 16 ((s.now - p.passStart) / msGrid 1), passStart := s.now
    onePrev := p.oneNow, oneNow := [] } }

/-- Time at which the running row is due (R122): 48 µs after the row before it at L = 0, as the rule's second figure gives; 41,472
such rows last 1.9907 s and not quite 2 s. The present L governs the whole interval (DESIGN CHOICE, log entry 57). -/
def scrubDue (s : State) : Nat := s.pond.scrubMark + ceilDiv (usGrid 48 * 64) (64 - s.thm.level)

/-- The scrubber reads the next row (R122). -/
def scrubNext (errs : Upsets) (s : State) : State :=
  if s.pond.scrubRuns then
    let phys := s.pond.scrubRow
    let s := advanceTo (scrubDue s) s
    let mine := errs.filter fun e => e.1 / 128 == phys
    nextScrub (match logicalRow phys s with
      | some row => rowErrors phys row mine s
      | none => mine.foldl deadRowError s)
  else s

/-- The scrubber can run: CORE is clocked (R22), outside SLEEP, and L is below 1 (R122). -/
def scrubberOn (s : State) : Bool := s.pwr.released && s.pwr.coreLock && s.top.state != .sleep && s.thm.level != 64

/-- The scrubber starts, stops at the current row, or resumes there (R122). -/
def followScrub (s : State) : State :=
  if scrubberOn s = s.pond.scrubRuns then s
  else { s with pond := { s.pond with
    scrubRuns := scrubberOn s, scrubMark := s.now, passStart := if s.pond.scrubRow = 0 then s.now else s.pond.passStart } }

/-- The spare row that the next copy goes into: the lowest one that no assignment has used. One whose row has been replaced again stays in
use (DESIGN CHOICE, log entry 83). -/
def freeSpareRow (s : State) : Option Nat := (List.range 512).find? fun k => !s.pond.spares.any fun t => t.2 == k

/-- The copy into a spare row is complete: its words were read through the decoder (R118), the row's address is mapped to it, and the
assignment is logged (R120, R121). -/
def spareCopied (errs : Upsets) (s : State) : State :=
  match s.pond.copying, freeSpareRow s with
  | row :: _, some k =>
    let s := wordErrors (errs.filter fun e => rowOf e.1 == row) s
    pushLog 0x05 0 (toLe 2 row ++ toLe 2 k)
      { s with pond := { s.pond with copying := s.pond.copying.drop 1, spares := s.pond.spares ++ [(row, k)] } }
  | _, _ => s

/-! ## The sluice (R131, R136) -/

/-- The evaluation every 100 µs (R131). -/
def sluiceTick (s : State) : State := evaluateAll (tickTo (usGrid 100) s)

/-- The channel owes lines (R136): an open document not yet fully stored, RUNNING or STOPPING, not waiting for pond space. -/
def owesLines (p : Port) (s : State) : Bool :=
  let d := s.dma[chanOf p]
  d.frame == .opened && (d.state == .running || d.state == .stopping) &&
  !(match d.cur with | some c => c.waitSpace | none => false)

/-- Owed time of a port from state `s0` to the present. -/
def owedSince (s0 : State) (now : Nat) (p : Port) : Nat := if owesLines p s0 then now - s0.now else 0

/-- The meters take the owed time that has passed since `s0`. -/
def accrueOwed (s0 s : State) : State :=
  if s.now ≤ s0.now then s
  else { s with pond := { s.pond with
    ports := s.pond.ports.mapFinIdx fun i t h =>
      { t with meter := { t.meter with owed := t.meter.owed + owedSince s0 s.now ⟨i, h⟩ } } } }

/-- A millisecond of a meter ends: B_p over the last 50 ms, kept while they hold less than 5 ms of owed time (R136). -/
def closeMeter (m : Meter) : Meter :=
  let w := ((m.bytes, m.owed) :: m.window).take 50
  let owed := (w.map fun t => t.2).foldl (· + ·) 0
  let bytes := (w.map fun t => t.1).foldl (· + ·) 0
  { window := w, bytes := 0, owed := 0, rate := if owed < msGrid 5 then m.rate else heldQuot (bytes * 8000000000) owed }

/-- Every meter closes its millisecond. -/
def closeMeters (s : State) : State :=
  { s with pond := { s.pond with ports := s.pond.ports.map fun t => { t with meter := closeMeter t.meter } } }

/-- The 1 ms update of every B_p. -/
def rateTick (s0 : State) : State := closeMeters (accrueOwed s0 (tickTo (msGrid 1) s0))

/-! ## Firmware and supervisor -/

/-- The periodic ENGINES record (R316), at the interval that the MGT section gives (R449). -/
def healthRecord (s : State) : State :=
  let s := advanceTo (s.mgt.healthAt + msGrid (3600000 * s.mgt.healthH)) s
  let s := modMgt (fun m => { m with healthAt := s.now }) s
  if fwRuns s then logEngines true s else s

/-- The device stands at a quiet point (R313). -/
def atQuietPoint (s : State) : Bool := (s.top.state == .ready || s.top.state == .gap) && !docInProgress s

/-- Actions that wait for a quiet point: of the supervisor first, then a calibration of an activation (R313, R314, R317, R458). -/
def quietActions (s : State) : State :=
  if atQuietPoint s then
    let s := pairQuiet s
    if fwRuns s then calActivation s else s
  else s

end Sys2Proof.Machine
end

