-- ==== Sys2Proof/Machine/Settle.lean ====
section
/-! DEFINITION. What follows from a command in the clock in which it acts: verdicts and handovers, the device state that the blocks' conditions
call for, what a change of state brings, DOCHOLD and SPEEDLIMIT, and the routing of every source raised (R465). -/

namespace Sys2Proof.Machine

/-- The device state follows the conditions of the blocks (R32, R373, R378, R381, R423, R473): with no document in progress, PRINT ends,
and READY, GAP, THERMAL_HOLD and SAFE_HOLD give way to one another. ACTION 2 of a class ends MAINT and CALIB too, as an orderly STANDBY
does (DEDUCED, log entry 31). -/
def followState (s : State) : State :=
  if docInProgress s then s
  else match s.top.state with
    | .ready | .gap | .print | .thermalHold | .safeHold => enterRest s
    | .maint | .calib => if lastingHold s then enterRest s else s
    | _ => s

/-- A deferred command that the new state refuses is cancelled (R335). -/
def dropDeferred (s : State) : State :=
  let s := if legality 3 s.top.state == .refused then cancelStop s else s
  let s := if legality 5 s.top.state == .refused then cancelCal s else s
  if legality 7 s.top.state == .refused then cancelMaint s else s

/-- The axes follow a change of state (R365). -/
def axesFollow (old : DevState) (s : State) : State :=
  let s := match s.top.state with
    | .calib | .safeHold | .sleep => softStopAll s
    | _ => s
  if old = .maint then softStopMaint s else s

/-- A device that has left MAINT or CALIB before its time has ended the work there (R291, R332, R393). -/
def leftWork (old : DevState) (s : State) : State :=
  match old with
  | .maint => endMaint s
  | .calib => if s.cal.running.isSome then giveUpCal s else s
  | _ => s

/-- What a change of device state brings: to the work of the state left, the axes, the head ports and the deferred commands. -/
def stateEffects (old : DevState) (s : State) : State :=
  if s.top.state = old ∨ !s.pwr.released then s else dropDeferred (reviewPorts (axesFollow old (leftWork old s)))

/-- The thermal record is rewritten at each admission and at each document done (R377). -/
def recordDocs (s0 s : State) : State :=
  if s0.pwr.released && s.pwr.released && 
      (s.tpt.doneCount != s0.tpt.doneCount || ((progressDocs s).map fun d => d.id) != (progressDocs s0).map fun d => d.id) then
    rewriteThermal s
  else s

/-- An update session waits for the flash window (R457). -/
def noteWait (s : State) : State :=
  let w := sessionRuns s.mgt && !flashWindow s
  if w = s.mgt.waitTemp then s else modMgt (fun m => { m with waitTemp := w }) s

/-- Lost log records are reported once the firmware runs (R444). -/
def reportLost (s : State) : State :=
  if fwRuns s && s.mgt.lostEvent then raise Src.logLost (modMgt (fun m => { m with lostEvent := false }) s) else s

/-- The link leaves L1 for traffic and for a document in progress (R80). -/
def wakeLink (s0 s : State) : State :=
  if docInProgress s || s.out.host.length != s0.out.host.length || s.out.msi.length != s0.out.msi.length then touchLink s else s

/-- The transport port keeps its values as SLEEP is entered (R327). -/
def sleepHolds (s0 s : State) : State := if s.top.state = .sleep ∧ s0.top.state ≠ .sleep then holdPort s else s

/-- Everything that follows from a command carried out from state `s0`. -/
def settle (s0 s : State) : State :=
  let s := swapActivation (stateEffects s0.top.state (followState (pairSettle s)))
  let s := refreshHold (refreshSpeed s0 (noteWait (letFlash (recordDocs s0 (accrueOwed s0 s)))))
  let s := reportLtr (followScrub (issueAll (reportLost s)))
  sleepHolds s0 (wakeLink s0 (routeAll s))

/-- The answer of a command that leads from `s` to `t`. -/
def after (s t : State) : Host.Outcome State Fault Refusal := .next (settle s t)

/-- A host access: answered from configuration readiness on (R77, R78, R441). -/
def onHost (f : State → State) (s : State) : State := if s.link.cfgReady then f (touchLink s) else s

/-- Something that happens in the dies: not while they are held in reset (R421). -/
def live (f : State → State) (s : State) : State := if s.pwr.released then f s else s

end Sys2Proof.Machine
end

