-- ==== Sys2Proof/Machine/CheckCmds.lean ====
section
/-! DEFINITION. Commands of the check units (R155 to R168). -/

namespace Sys2Proof.Machine

/-- CHK_ARM (R164, R150, R155, R162, R163): by the host, or by the management block for its own unit. -/
def execChkArm (i : Fin 8) (fromMgt : Bool) (s : State) : Host.Outcome State Fault Refusal :=
  after s (if fromMgt then live (armUnit i true) s else onHost (armUnit i false) s)

/-- CHK_ABORT (R165, R164). -/
def execChkAbort (i : Fin 8) (s : State) : Host.Outcome State Fault Refusal := after s (onHost (abortUnit i) s)

/-- CHK_SCAN_DONE (R164 to R166). -/
def execChkScanDone (i : Fin 8) (ext : List Byte) (errs : Upsets) (s : State) : Host.Outcome State Fault Refusal :=
  after s (live (scanEnds i ext errs) s)

/-- CHK_SNOOP_RECORD (R153, R148, R154, R155, R156, R160, R164, R166): a read burst of the flash, whose bytes come from outside. The records of
every other tap pass with the descriptor, fire packet, line or copy that makes them (DESIGN CHOICE, log entry 69). -/
def execChkSnoopRecord (tap : BitVec 8) (bytes : List Byte) (s : State) : Host.Outcome State Fault Refusal :=
  after s (if tap.toNat = tapFlash then live (snoopRecord tapFlash bytes) s else s)

/-- CHK_WIDTH_WRITE (R161). -/
def execChkWidthWrite (i : Fin 8) (val : Word) (s : State) : Host.Outcome State Fault Refusal :=
  after s (onHost (writeUnitCfg i val) s)

/-- The persistent-failure count after a clear; a failure counted in the same clock leaves it at 1 (R169). -/
def clearPersistBeside (same : Bool) (s : State) : State :=
  let s := clearPersist s
  if same then { s with chk := { s.chk with persist := 1 } } else s

/-- CHK_PERSIST_CLR (R169). -/
def execChkPersistClr (sameClock : Bool) (s : State) : Host.Outcome State Fault Refusal :=
  after s (onHost (clearPersistBeside sameClock) s)

end Sys2Proof.Machine
end

