-- ==== Sys2Proof/Machine/DmaCmds.lean ====
section
/-! DEFINITION. Commands of the DMA channels: their control bits, the arrival of descriptors, packets and errors, and retirement. A row for one
bit of DMA[n].CTL leaves the register's other fields alone; the access reaches RWL fields, so it counts once while they are locked (R5). -/

namespace Sys2Proof.Machine

/-- A write of one bit of DMA[n].CTL. -/
def dmaCtlBit (ch : Chan) (f : State → State) : State → State := onHost (fun s => f (countWhen s.dma[ch].enable s))

/-- DMA_ENABLE (R108). -/
def execDmaEnable (ch : Chan) (s : State) : Host.Outcome State Fault Refusal := after s (dmaCtlBit ch (enableChan ch) s)

/-- DMA_STOP_REQ (R109). -/
def execDmaStopReq (ch : Chan) (s : State) : Host.Outcome State Fault Refusal := after s (dmaCtlBit ch (stopChan ch) s)

/-- DMA_RESUME (R108). -/
def execDmaResume (ch : Chan) (s : State) : Host.Outcome State Fault Refusal := after s (dmaCtlBit ch (resumeChan ch) s)

/-- DMA_KILL (R108, R112, R113). -/
def execDmaKill (ch : Chan) (s : State) : Host.Outcome State Fault Refusal := after s (dmaCtlBit ch (killChannel ch) s)

/-- DMA_RESET (R108). -/
def execDmaReset (ch : Chan) (s : State) : Host.Outcome State Fault Refusal := after s (dmaCtlBit ch (resetChannel ch) s)

/-- DMA_RESET_DONE (R108, R112). -/
def execDmaResetDone (ch : Chan) (s : State) : Host.Outcome State Fault Refusal := after s (live (finishReset ch) s)

/-- RING_SIZE_WRITE (R87). -/
def execRingSizeWrite (ch : Chan) (val : Word) (s : State) : Host.Outcome State Fault Refusal := after s (onHost (writeRingSize ch val) s)

/-- DESCRIPTOR_ARRIVAL (R95, R106). -/
def execDescriptorArrival (ch : Chan) (req : Nat) (bytes : List Byte) (s : State) : Host.Outcome State Fault Refusal :=
  after s (live (descArrives ch req bytes) s)

/-- PACKET_HEADER_ARRIVAL (R96). -/
def execPacketHeaderArrival (ch : Port) (bytes : List Byte) (s : State) : Host.Outcome State Fault Refusal :=
  after s (live (headerArrives ch bytes) s)

/-- READ_COMPLETION_ERROR (R102 to R105). -/
def execReadCompletionError (ch : Chan) (req : Nat) (err : CplError) (header : BitVec 128) (s : State) :
    Host.Outcome State Fault Refusal :=
  after s (live (requestFailed ch req (some (err, header))) s)

/-- COMPLETION_TIMEOUT (R102): treated as an errored completion. -/
def execCompletionTimeout (ch : Chan) (req : Nat) (s : State) : Host.Outcome State Fault Refusal :=
  after s (live (requestFailed ch req none) s)

/-- READ_REISSUE (R103). -/
def execReadReissue (ch : Chan) (req : Nat) (s : State) : Host.Outcome State Fault Refusal := after s (live (reissue ch req) s)

/-- PACKET_REFETCH (R97). -/
def execPacketRefetch (ch : Port) (s : State) : Host.Outcome State Fault Refusal := after s (live (refetchPacket ch) s)

/-- The packet is of a type that a row stands for; one of another type leaves the row nothing to act on. -/
def onType (types : List Nat) (bytes : List Byte) (f : State → State) (s : State) : State :=
  if types.contains (pktType bytes) then live f s else s

/-- DOC_OPEN (R45 to R53, R68, R127). -/
def execDocOpen (ch : Port) (bytes : List Byte) (s : State) : Host.Outcome State Fault Refusal :=
  after s (onType [2] bytes (deliverPacket ch bytes) s)

/-- LINE_PACKET (R45, R54 to R61): a line, or a packet of no defined type, which is handled as a failing packet (R69). -/
def execLinePacket (ch : Port) (bytes : List Byte) (s : State) : Host.Outcome State Fault Refusal :=
  after s (if [2, 3, 4, 5].contains (pktType bytes) then s else live (deliverPacket ch bytes) s)

/-- TEST_LINE (R64 to R66). -/
def execTestLine (ch : Port) (bytes : List Byte) (s : State) : Host.Outcome State Fault Refusal :=
  after s (onType [5] bytes (deliverPacket ch bytes) s)

/-- DOC_CLOSE (R62). -/
def execDocClose (ch : Port) (bytes : List Byte) (s : State) : Host.Outcome State Fault Refusal :=
  after s (onType [3] bytes (deliverPacket ch bytes) s)

/-- FILLER (R63). -/
def execFiller (ch : Port) (bytes : List Byte) (s : State) : Host.Outcome State Fault Refusal :=
  after s (onType [4] bytes (deliverPacket ch bytes) s)

/-- AUX_DESCRIPTOR_DELIVERED (R99, R98, R142, R457). -/
def execAuxDescriptorDelivered (ch : Chan) (bytes : List Byte) (s : State) : Host.Outcome State Fault Refusal :=
  after s (live (auxDelivered ch bytes) s)

/-- The BAR0 blocks in offset order: first byte and size (R13). -/
def barBlocks : List (Nat × Nat) :=
  [(0x0, 0x7000), (0x7000, 0x400), (0x8000, 0x5000), (0xE000, 0x2000), (0x10000, 0x20000)]

/-- A diagnostics dump (R456): every BAR0 block, and then the trace buffer of the management SRAM. -/
def dumpBytes (trace : List Byte) (s : State) : List Byte :=
  (barBlocks.flatMap fun t => (List.range (t.2 / 4)).flatMap fun i => toLe 4 (readWord (t.1 + 4 * i) s).toNat) ++ trace

/-- Bytes of the running dump are delivered, up to its end (R100, R456). -/
def sendDump (c : CurDesc) (trace : List Byte) (s : State) : State :=
  if s.mgt.dumps = 0 then s
  else
    let all := dumpBytes trace s
    let pos := s.mgt.dumpPos + c.desc.len
    let part := slice all s.mgt.dumpPos (min c.desc.len (all.length - s.mgt.dumpPos))
    let ends := decide (all.length ≤ pos)
    d2hRetire 17 c part (modMgt (fun m => { m with
      dumps := if ends then m.dumps - 1 else m.dumps, dumpPos := if ends then 0 else pos }) s)

/-- A device-to-host descriptor is written (R100, R456): the log from the ring, a dump from the registers and the trace buffer that the command
brings, and the general channel's data as the command brings them. -/
def d2hWritten (ch : Chan) (b : List Byte) (s : State) : State :=
  match s.dma[ch].cur with
  | some c =>
    if isH2d ch c.desc ∨ (ch.val < 18 ∧ !fwRuns s) then s
    else if ch.val = 16 then uploadLog c s
    else if ch.val = 17 then sendDump c b s
    else d2hRetire ch c (b.take c.desc.len) s
  | none => s

/-- D2H_DESCRIPTOR_WRITTEN (R100, R456). -/
def execD2hDescriptorWritten (ch : Chan) (bytes : List Byte) (s : State) : Host.Outcome State Fault Refusal :=
  after s (live (d2hWritten ch bytes) s)

/-- DESC_SPACE_WAIT_END (R106). -/
def execDescSpaceWaitEnd (ch : Chan) (s : State) : Host.Outcome State Fault Refusal := after s (live (spaceFreed ch) s)

/-- DOC_TABLE_WAIT_END (R127). -/
def execDocTableWaitEnd (ch : Port) (s : State) : Host.Outcome State Fault Refusal := after s (live (tableFreed ch) s)

end Sys2Proof.Machine
end

