-- ==== Sys2Proof/Machine/EngineCmds.lean ====
section
/-! DEFINITION. Commands of the firing engines and the egress (R195 to R224). -/

namespace Sys2Proof.Machine

/-- ENGINE_PASS_START (R197, R285). -/
def execEnginePassStart (x : EngId) (s : State) : Host.Outcome State Fault Refusal := after s (live (startPass x) s)

/-- ENGINE_PASS_DONE (R200, R17, R18, R21, R33, R56, R57, R59, R61, R65, R128, R142, R147, R201, R202, R203, R204, R205, R206, R207, R208, R209, R210, R211, R212, R213, R215, R216, R217, R218, R219, R238, R239, R284, R285, R294, R295, R296, R297, R298, R302, R303, R304, R310, R311, R312, R314, R316, R319, R472). -/
def execEnginePassDone (x : EngId) (note : PassNote) (s : State) : Host.Outcome State Fault Refusal := after s (live (donePass x note) s)

/-- DEADLINE_MISS (R199, R302). -/
def execDeadlineMiss (x : EngId) (p : Port) (s : State) : Host.Outcome State Fault Refusal := after s (live (missDeadline x p) s)

/-- PROFILE_WRITE (R225, R222, R318): `off` is the offset in the profile window of both engines. -/
def execProfileWrite (off : Nat) (val : Word) (s : State) : Host.Outcome State Fault Refusal := after s (onHost (writeProfile off val) s)

/-- ENG_CNT_CLR (R224). -/
def execEngCntClr (x : EngId) (s : State) : Host.Outcome State Fault Refusal := after s (onHost (clearEngine x) s)

/-- PLANE_SHIFT_DONE (R233, R25, R208, R227). -/
def execPlaneShiftDone (p : Port) (s : State) : Host.Outcome State Fault Refusal := after s (live (shiftDone p) s)

/-- PLANE_LATCH (R234, R17, R25, R230, R233, R236, R237, R256, R270). -/
def execPlaneLatch (p : Port) (s : State) : Host.Outcome State Fault Refusal := after s (live (latchPlane p) s)

/-- EGRESS_CUTOFF (R239, R4, R17, R32, R71). -/
def execEgressCutoff (p : Port) (s : State) : Host.Outcome State Fault Refusal := after s (live (cutoff p) s)

/-- PORT_LINE_BOUNDARY (R188, R4, R26, R32, R127, R211, R256, R280, R307, R309, R342, R373, R377, R473). -/
def execPortLineBoundary (p : Port) (s : State) : Host.Outcome State Fault Refusal := after s (live (portBoundary p) s)

/-- PASS_WATCHDOG (R302). -/
def execPassWatchdog (x : EngId) (s : State) : Host.Outcome State Fault Refusal := after s (live (watchdogPass x) s)

end Sys2Proof.Machine
end

