-- ==== Sys2Proof/Machine/EventCmds.lean ====
section
/-! DEFINITION. Commands of event routing and error classes (R464 to R478). -/

namespace Sys2Proof.Machine

/-- MSI_HOLDOFF_END (R467). -/
def execMsiHoldoffEnd (v : Fin 128) (s : State) : Host.Outcome State Fault Refusal := after s (live (holdoffEnds v) s)

/-- MSIX_UNMASK (R467). -/
def execMsixUnmask (v : Option (Fin 128)) (s : State) : Host.Outcome State Fault Refusal := after s (onHost (liftMask v) s)

/-- LASTING_CLEAR (R471). -/
def execLastingClear (bits : Word) (s : State) : Host.Outcome State Fault Refusal := after s (onHost (clearLasting bits) s)

/-- EVT_TEST (R478). -/
def execEvtTest (s : State) : Host.Outcome State Fault Refusal := after s (onHost (raise Src.evtTest) s)

/-- EVT_CNT_CLR (R478). -/
def execEvtCntClr (s : State) : Host.Outcome State Fault Refusal := after s (onHost clearTotals s)

end Sys2Proof.Machine
end

