-- ==== Sys2Proof/Machine/FantailCmds.lean ====
section
/-! DEFINITION. Commands of the fantail loops and what they time: encoder edges, triggers, line-ahead events, fire ticks (R170 to R194). -/

namespace Sys2Proof.Machine

/-- ENC_EDGE (R174, R172, R175, R176, R178, R180, R183, R191, R423, R426, R506); in SLEEP an accepted edge may wake
the device (R426). -/
def execEncEdge (inp : Fin 2) (a b : Bool) (dt na nb : Nat) (s : State) : Host.Outcome State Fault Refusal :=
  after s (live (fun s =>
    let t := encoderEdge inp a b dt na nb s
    if t.enc[inp].a != s.enc[inp].a || t.enc[inp].b != s.enc[inp].b then wakeBy 10 t else t) s)

/-- INDEX_EDGE (R177). -/
def execIndexEdge (inp : Fin 2) (dt n : Nat) (s : State) : Host.Outcome State Fault Refusal := after s (live (indexRise inp dt n) s)

/-- ENC_LINE_FAULT (R171). -/
def execEncLineFault (inp : Fin 2) (sig : EncSig) (s : State) : Host.Outcome State Fault Refusal := after s (live (lineFault inp sig) s)

/-- ENC_LINE_FAULT_CLEAR (R171). -/
def execEncLineFaultClear (inp : Fin 2) (sig : EncSig) (a b : Bool) (s : State) : Host.Outcome State Fault Refusal :=
  after s (live (lineFaultEnd inp sig a b) s)

/-- CRAWL_ENTER (R190, R423). -/
def execCrawlEnter (x : LoopId) (s : State) : Host.Outcome State Fault Refusal := after s (live (startCrawl x) s)

/-- CRAWL_EXIT (R190, R423). -/
def execCrawlExit (x : LoopId) (s : State) : Host.Outcome State Fault Refusal := after s (live (endCrawl x) s)

/-- DOC_TRIG_EDGE (R185, R337, R338); in SLEEP a qualified edge may wake the device (R426). -/
def execDocTrigEdge (i : Fin 2) (rise : Bool) (dt n : Nat) (s : State) : Host.Outcome State Fault Refusal :=
  after s (live (fun s => (if qualifies i rise n s then wakeBy 11 else id) (triggerEdge i rise dt n s)) s)

/-- LINE_AHEAD_EVENT (R186, R187, R137 to R139). -/
def execLineAheadEvent (p : Port) (errs : Upsets) (s : State) : Host.Outcome State Fault Refusal :=
  after s (live (lineAhead p errs) s)

/-- FIRE_TICK (R186, R49, R71, R140, R182, R184, R190, R192, R193, R219, R223, R232, R235, R236, R505). -/
def execFireTick (p : Port) (lag : Bool) (s : State) : Host.Outcome State Fault Refusal :=
  after s (live (fireTickOn p lag) s)

/-- LOOP_LINE_BOUNDARY (R188, R26, R183, R189). -/
def execLoopLineBoundary (x : LoopId) (s : State) : Host.Outcome State Fault Refusal := after s (live (loopBoundary x) s)

/-- FTL_ENABLE_WRITE (R183): RWG. -/
def execFtlEnableWrite (x : LoopId) (v : Bool) (s : State) : Host.Outcome State Fault Refusal :=
  after s (onHost (guarded (writeEnable x v)) s)

/-- FTL_RESET (R183): ignored and counted once while a document in progress uses the loop. -/
def execFtlReset (x : LoopId) (s : State) : Host.Outcome State Fault Refusal :=
  after s (onHost (fun s =>
    let used := loopInUse x s
    let s := countWhen (docInProgress s) s
    if used then s else resetLoop x s) s)

/-- FTL_OVS_CLR (R193). -/
def execFtlOvsClr (x : LoopId) (s : State) : Host.Outcome State Fault Refusal :=
  after s (onHost (fun s => clearOvs x (countWhen (docInProgress s) s)) s)

/-- FTL_PEAK_CLR (R194). -/
def execFtlPeakClr (x : LoopId) (s : State) : Host.Outcome State Fault Refusal :=
  after s (onHost (fun s => clearErrPeak x (countWhen (docInProgress s) s)) s)

/-- RATIO_DEN_WRITE (R179): RWG. -/
def execRatioDenWrite (x : LoopId) (val : Word) (s : State) : Host.Outcome State Fault Refusal :=
  after s (onHost (guarded (commitRatio x val)) s)

/-- ENC_CFG_WRITE (R172, R170): RWG. -/
def execEncCfgWrite (x : LoopId) (val : Word) (s : State) : Host.Outcome State Fault Refusal :=
  after s (onHost (guarded (writeEncCfg x val)) s)

/-- LOOP_CFG_WRITE (R180): RWG. -/
def execLoopCfgWrite (x : LoopId) (val : Word) (s : State) : Host.Outcome State Fault Refusal :=
  after s (onHost (guarded (writeLoopCfg x val)) s)

end Sys2Proof.Machine
end

