-- ==== Sys2Proof/Machine/HeadCmds.lean ====
section
/-! DEFINITION. Commands of the head ports: discovery, hot plug, power, usage, temperature, record writes, spits (R239 to R260). -/

namespace Sys2Proof.Machine

/-- Presence after its debounce: before stage 5 of a start it is only held (R247, R250). -/
def plugged (p : Port) (s : State) : State :=
  if s.pwr.released && decide (5 ≤ s.pwr.stage.toNat) then headPlugged p s else modHp p (fun h => { h with present := true }) s

/-- HEAD_PRESENT (R247, R250). -/
def execHeadPresent (n : Port) (s : State) : Host.Outcome State Fault Refusal := after s (plugged n s)

/-- HEAD_REMOVED (R247, R249). -/
def execHeadRemoved (n : Port) (s : State) : Host.Outcome State Fault Refusal := after s (headUnplugged n s)

/-- RECORD_READ_DONE (R241, R247); a copy that is not given was given up. -/
def execRecordReadDone (n : Port) (copy0 copy1 : Option (List Byte)) (s : State) : Host.Outcome State Fault Refusal :=
  after s (live (finishReading n copy0 copy1) s)

/-- RECORD_READ_RETRY (R247). -/
def execRecordReadRetry (n : Port) (s : State) : Host.Outcome State Fault Refusal := after s (live (retryRead n) s)

/-- HP_ENABLE_WRITE (R247, R248): RWG. -/
def execHpEnableWrite (n : Port) (v : Bool) (s : State) : Host.Outcome State Fault Refusal :=
  after s (onHost (guarded (setEnable n v)) s)

/-- HP_PWR_OFF_WRITE (R247, R248): RWG. -/
def execHpPwrOffWrite (n : Port) (v : Bool) (s : State) : Host.Outcome State Fault Refusal :=
  after s (onHost (guarded (setPwrOff n v)) s)

/-- HEAD_REREAD (R247, R248): ignored while a document in progress names the port. -/
def execHeadReread (n : Port) (s : State) : Host.Outcome State Fault Refusal :=
  after s (onHost (fun s =>
    let used := portInDoc n s
    let s := countWhen (docInProgress s) s
    if used then s else rereadHead n s) s)

/-- USAGE_FLUSH (R257). -/
def execUsageFlush (n : Port) (s : State) : Host.Outcome State Fault Refusal :=
  after s (onHost (fun s => flushUsage n (countWhen (docInProgress s) s)) s)

/-- HEAD_TEMP_CONVERSION (R251 to R253). -/
def execHeadTempConversion (n : Port) (raw : BitVec 12) (s : State) : Host.Outcome State Fault Refusal := after s (live (convertTemp n raw) s)

/-- RECORD_WRITE_START (R257, R258). -/
def execRecordWriteStart (n : Port) (s : State) : Host.Outcome State Fault Refusal := after s (live (recordWrite n) s)

/-- RECORD_PAGE_DONE (R257). -/
def execRecordPageDone (n : Port) (s : State) : Host.Outcome State Fault Refusal := after s (live (pageDone n) s)

/-- RECORD_READBACK_DONE (R257). -/
def execRecordReadbackDone (n : Port) (bytes : List Byte) (s : State) : Host.Outcome State Fault Refusal :=
  after s (live (readbackDone n bytes) s)

/-- RECORD_WRITE_RETRY (R258). -/
def execRecordWriteRetry (n : Port) (s : State) : Host.Outcome State Fault Refusal := after s (live (retryWrite n) s)

/-- SPIT_FIRE (R255, R17, R66, R215). -/
def execSpitFire (n : Port) (noteA noteB : PassNote) (s : State) : Host.Outcome State Fault Refusal :=
  after s (live (spitTimer n noteA noteB) s)

/-- I2C_TIMEOUT (R240, R258). -/
def execI2cTimeout (n : Port) (phase : I2cPhase) (s : State) : Host.Outcome State Fault Refusal := after s (live (i2cTimedOut n phase) s)

end Sys2Proof.Machine
end

