-- ==== Sys2Proof/Machine/HostCmds.lean ====
section
/-! DEFINITION. Commands of the host windows and the link: register writes without a row of their own, captures, configuration requests,
doorbells, link power and link state. -/

namespace Sys2Proof.Machine

/-- REGISTER_WRITE (R2 to R10): BAR0, BAR2 and BAR4 answer from configuration readiness on, the transport port from reset release on. -/
def execRegisterWrite (bus : Bus) (off : Nat) (val : DWord) (be : BitVec 8) (s : State) : Host.Outcome State Fault Refusal :=
  after s (match bus with
    | .tp => live (writeRegister .tp off val be) s
    | .bar0 => onHost (writeRegister .bar0 off val be) s
    | .bar2 => onHost (writeRegister .bar2 off val be) s
    | .bar4 => onHost (writeRegister .bar4 off val be) s)

/-- IGNORED_WRITES_CLR (R29): a count in the same clock leaves the count at 1. -/
def execIgnoredWritesClr (sameClock : Bool) (s : State) : Host.Outcome State Fault Refusal :=
  after s (onHost (fun s => countWhen sameClock (clearIgnored s)) s)

/-- The capture belongs to a transport-port register. -/
def portCapture : LoReg → Bool
  | .faultDoc | .faultTag | .faultLine | .trig0Doc | .trig1Doc | .holdDoc | .lastDone => true
  | _ => false

/-- CAPTURE_READ_LO (R194, R259, R323, R395, R432). -/
def execCaptureReadLo (reg : LoReg) (s : State) : Host.Outcome State Fault Refusal :=
  after s (if portCapture reg then live (captureRead reg) s else onHost (captureRead reg) s)

/-- CONFIG_REQUEST (R77). -/
def execConfigRequest (write : Bool) (off : Nat) (val : Word) (s : State) : Host.Outcome State Fault Refusal :=
  after s (live (answerConfig write off val) s)

/-- DOORBELL (R79, R88, R89, R90): a write of the high half alone is discarded; in SLEEP it may wake the device (R426). -/
def execDoorbell (ch : Chan) (val : DWord) (lo hi : Bool) (s : State) : Host.Outcome State Fault Refusal :=
  after s (if lo then onHost (fun s => wakeBy 12 (doorbell ch (bellValue val hi) s)) s else s)

/-- L1_ENTRY (R80). -/
def execL1Entry (s : State) : Host.Outcome State Fault Refusal := after s (live enterL1 s)

/-- D3HOT_ENTRY (R81, R425). -/
def execD3hotEntry (s : State) : Host.Outcome State Fault Refusal := after s (onHost enterD3hot s)

/-- D0_RETURN (R81, R426). -/
def execD0Return (s : State) : Host.Outcome State Fault Refusal := after s (onHost returnD0 s)

/-- LINK_STATE_CHANGE (R116). -/
def execLinkStateChange (speed width : BitVec 4) (dlActive reversed : Bool) (s : State) : Host.Outcome State Fault Refusal :=
  after s (live (linkChanges speed width dlActive reversed) s)

/-- AER_CORRECTABLE_ERROR (R474). -/
def execAerCorrectableError (bit : Fin 16) (s : State) : Host.Outcome State Fault Refusal := after s (live (aerCorrectable bit) s)

end Sys2Proof.Machine
end

