-- ==== Sys2Proof/Machine/MgmtCmds.lean ====
section
/-! DEFINITION. Commands of the management block: restarts, log, updates, mailbox, recovery, SMBus and UART (R443 to R463). -/

namespace Sys2Proof.Machine

/-- MGT_RESTART (R444). -/
def execMgtRestart (s : State) : Host.Outcome State Fault Refusal := after s (onHost (beginRestart false) s)

/-- MGT_WATCHDOG (R444). -/
def execMgtWatchdog (s : State) : Host.Outcome State Fault Refusal := after s (live tripWatchdog s)

/-- MGT_RESTART_DONE (R444). -/
def execMgtRestartDone (a b : List Byte) (s : State) : Host.Outcome State Fault Refusal := after s (live (restartEnds a b) s)

/-- DIAG_DUMP (R456). -/
def execDiagDump (s : State) : Host.Outcome State Fault Refusal := after s (onHost queueDump s)

/-- MGT_MONITOR_TICK (R443). -/
def execMgtMonitorTick (vm10mV package10mW : Nat) (rail0 rail1 rail2 rail3 : RailRead) (supplies : List Nat) (s : State) :
    Host.Outcome State Fault Refusal :=
  after s (live (takeReadings vm10mV package10mW rail0 rail1 rail2 rail3 supplies) s)

/-- LOG_RECORD_WRITE (R454). -/
def execLogRecordWrite (ok : Bool) (s : State) : Host.Outcome State Fault Refusal := after s (live (writeRecord ok) s)

/-- UPD_OPEN (R457). -/
def execUpdOpen (kolto : Bool) (s : State) : Host.Outcome State Fault Refusal := after s (onHost (openSession kolto) s)

/-- UPD_ERASE_DONE (R457). -/
def execUpdEraseDone (ok : Bool) (s : State) : Host.Outcome State Fault Refusal := after s (live (eraseDone ok) s)

/-- UPD_PAGE_PROGRAMMED (R457). -/
def execUpdPageProgrammed (ok : Bool) (errs : Upsets) (s : State) : Host.Outcome State Fault Refusal :=
  after s (live (pageProgrammed ok errs) s)

/-- UPD_VERIFY_DONE (R457, R412, R447, R448, R450): register values are checked for their ranges. -/
def execUpdVerifyDone (image : List Byte) (errs : Upsets) (s : State) : Host.Outcome State Fault Refusal :=
  after s (live (verifyDone loadsInRange image errs) s)

/-- UPD_ABORT (R457). -/
def execUpdAbort (s : State) : Host.Outcome State Fault Refusal := after s (onHost abortSession s)

/-- UPD_ACTIVATE (R458). -/
def execUpdActivate (s : State) : Host.Outcome State Fault Refusal := after s (onHost activateSession s)

/-- UPD_INVALIDATE (R459). -/
def execUpdInvalidate (kolto slotB : Bool) (s : State) : Host.Outcome State Fault Refusal := after s (onHost (invalidateSlot kolto slotB) s)

/-- UPD_RELOAD (R459). -/
def execUpdReload (kolto : Bool) (s : State) : Host.Outcome State Fault Refusal := after s (onHost (reloadSlot kolto) s)

/-- FW_ACTIVATION_TIMEOUT (R458). -/
def execFwActivationTimeout (s : State) : Host.Outcome State Fault Refusal := after s (live fwTimeout s)

/-- HEAD_WRITE (R460). -/
def execHeadWrite (s : State) : Host.Outcome State Fault Refusal := after s (onHost mailHeadWrite s)

/-- USER_READ (R460). -/
def execUserRead (s : State) : Host.Outcome State Fault Refusal := after s (onHost mailUserRead s)

/-- RECOVERY_CHUNK (R461). -/
def execRecoveryChunk (verified : Option (List Byte)) (s : State) : Host.Outcome State Fault Refusal :=
  after s (onHost (recoverChunk verified) s)

/-- SMBUS_READ_WORD (R462). -/
def execSmbusReadWord (addr : BitVec 7) (code : Byte) (extra : List Byte) (pec : Bool) (s : State) : Host.Outcome State Fault Refusal :=
  after s (live (fun s => smbRead addr code extra pec (tpStatus s) s) s)

/-- SMBUS_BLOCK_READ (R462). -/
def execSmbusBlockRead (addr : BitVec 7) (code : Byte) (extra : List Byte) (pec : Bool) (s : State) : Host.Outcome State Fault Refusal :=
  after s (live (smbBlock addr code extra pec) s)

/-- UART_REQUEST (R462). -/
def execUartRequest (s : State) : Host.Outcome State Fault Refusal := after s (live consoleReply s)

/-- KOLTO_RELOAD_DONE (R458). -/
def execKoltoReloadDone (image : List Byte) (s : State) : Host.Outcome State Fault Refusal := after s (live (reloadDone image) s)

end Sys2Proof.Machine
end

