-- ==== Sys2Proof/Machine/MotionCmds.lean ====
section
/-! DEFINITION. Commands of the motion axes (R344 to R367). -/

namespace Sys2Proof.Machine

/-- MOVE_ABS (R362). -/
def execMoveAbs (a : Fin 4) (s : State) : Host.Outcome State Fault Refusal := after s (onHost (axisCommand 1 a moveAbs) s)

/-- MOVE_REL (R362). -/
def execMoveRel (a : Fin 4) (s : State) : Host.Outcome State Fault Refusal := after s (onHost (axisCommand 2 a moveRel) s)

/-- HOME (R355, R362). -/
def execHome (a : Fin 4) (s : State) : Host.Outcome State Fault Refusal := after s (onHost (axisCommand 3 a startHome) s)

/-- SOFT_STOP (R358, R362). -/
def execSoftStop (a : Fin 4) (s : State) : Host.Outcome State Fault Refusal := after s (onHost (axisCommand 4 a softStop) s)

/-- AXIS_STOP (R358, R362). -/
def execAxisStop (a : Fin 4) (s : State) : Host.Outcome State Fault Refusal := after s (onHost (axisCommand 5 a stopAxis) s)

/-- ENERGISE (R362). -/
def execEnergise (a : Fin 4) (s : State) : Host.Outcome State Fault Refusal := after s (onHost (axisCommand 6 a energise) s)

/-- DISABLE (R362). -/
def execDisable (a : Fin 4) (s : State) : Host.Outcome State Fault Refusal := after s (onHost (axisCommand 7 a disableAxis) s)

/-- SET_POS (R362). -/
def execSetPos (a : Fin 4) (s : State) : Host.Outcome State Fault Refusal := after s (onHost (axisCommand 8 a setPosition) s)

/-- JOG (R362). -/
def execJog (a : Fin 4) (s : State) : Host.Outcome State Fault Refusal := after s (onHost (axisCommand 9 a jogAxis) s)

/-- MOT_STOP_ALL (R358). -/
def execMotStopAll (s : State) : Host.Outcome State Fault Refusal := after s (onHost stopAll s)

/-- SERVO_PERIOD (R345, R347, R350, R351). -/
def execServoPeriod (rd : ServoIn) (s : State) : Host.Outcome State Fault Refusal := after s (live (servoTick rd) s)

/-- HOME_SETTLE_END (R355). -/
def execHomeSettleEnd (a : Fin 4) (s : State) : Host.Outcome State Fault Refusal := after s (live (settleEnd a) s)

/-- HOLD_DELAY_END (R346). -/
def execHoldDelayEnd (a : Fin 4) (s : State) : Host.Outcome State Fault Refusal := after s (live (holdEnd a) s)

/-- LIMIT_QUALIFIED (R352 to R354, R356). -/
def execLimitQualified (a : Fin 4) (hi level : Bool) (n : Nat) (s : State) : Host.Outcome State Fault Refusal :=
  after s (live (limitChange a hi level n) s)

/-- BRIDGE_FAULT (R359, R361). -/
def execBridgeFault (cause : BridgeCause) (s : State) : Host.Outcome State Fault Refusal := after s (bridgeFault cause s)

/-- VM_GOOD (R359). -/
def execVmGood (s : State) : Host.Outcome State Fault Refusal := after s (live vmIsGood s)

end Sys2Proof.Machine
end

