-- ==== Sys2Proof/Machine/NozzleCmds.lean ====
section
/-! DEFINITION. Commands of nozzle health: the substitution map and the contact sheet (R276 to R293). -/

namespace Sys2Proof.Machine

/-- A map command of a port: its fields are recorded, then it is carried out. RWG. -/
def mapCommand (n : Port) (op : BitVec 4) (x : BitVec 11) (f : State → State) : State → State :=
  onHost (guarded fun s => f (noteMapCmd n op x s))

/-- MAP_ADD_HOST (R289, R5, R283, R286, R287). -/
def execMapAddHost (n : Port) (nozzle : BitVec 11) (s : State) : Host.Outcome State Fault Refusal :=
  after s (mapCommand n 1 nozzle (addHost n nozzle.toNat) s)

/-- MAP_FREE_NOZZLE (R289, R287). -/
def execMapFreeNozzle (n : Port) (nozzle : BitVec 11) (s : State) : Host.Outcome State Fault Refusal :=
  after s (mapCommand n 2 nozzle (freeNozzle n nozzle.toNat) s)

/-- MAP_FREE_ECHO_CONTACT (R289, R287). -/
def execMapFreeEchoContact (n : Port) (s : State) : Host.Outcome State Fault Refusal :=
  after s (mapCommand n 3 s.nzh[n].mapNozzle (freeKinds n fun k => k != .echo && k != .contact) s)

/-- MAP_FREE_NON_FACTORY (R289, R287). -/
def execMapFreeNonFactory (n : Port) (s : State) : Host.Outcome State Fault Refusal :=
  after s (mapCommand n 4 s.nzh[n].mapNozzle (freeKinds n fun k => k == .factory || k == .incoming) s)

/-- SUSP_CLR (R280). -/
def execSuspClr (n : Port) (s : State) : Host.Outcome State Fault Refusal := after s (onHost (clearSusp n) s)

/-- NZH_CNT_CLR (R293). -/
def execNzhCntClr (n : Port) (s : State) : Host.Outcome State Fault Refusal := after s (onHost (clearNzh n) s)

/-- CS_START (R291, R503). -/
def execCsStart (n : Port) (s : State) : Host.Outcome State Fault Refusal := after s (onHost (startSheet n) s)

/-- CS_ABORT (R291). -/
def execCsAbort (n : Port) (s : State) : Host.Outcome State Fault Refusal := after s (onHost (abortSheet n) s)

/-- CS_FIRE (R290, R291, R493): DD_IN in mV in the 100 µs before the first fire, and after the fire edge with the time in ns. -/
def execCsFire (n : Port) (before : List Nat) (dd : List (Nat × Nat)) (noteA noteB : PassNote) (s : State) :
    Host.Outcome State Fault Refusal :=
  after s (live (sheetSlot n before dd noteA noteB) s)

/-- CS_CFG_WRITE (R293): RWG. -/
def execCsCfgWrite (n : Port) (val : Word) (s : State) : Host.Outcome State Fault Refusal := after s (onHost (guarded (writeCsCfg n val)) s)

end Sys2Proof.Machine
end

