-- ==== Sys2Proof/Machine/OtpCmds.lean ====
section
/-! DEFINITION. Commands of the one-time fuses (R396 to R416). -/

namespace Sys2Proof.Machine

/-- OTP_READ (R402). -/
def execOtpRead (word : BitVec 9) (level : BitVec 2) (s : State) : Host.Outcome State Fault Refusal := after s (onHost (readFuse word level) s)

/-- OTP_PROGRAM (R403, R404). -/
def execOtpProgram (word : BitVec 9) (s : State) : Host.Outcome State Fault Refusal := after s (onHost (burnCommand 2 word) s)

/-- OTP_REBURN (R405). -/
def execOtpReburn (word : BitVec 9) (s : State) : Host.Outcome State Fault Refusal := after s (onHost (burnCommand 3 word) s)

/-- OTP_VOID (R402). -/
def execOtpVoid (word : BitVec 9) (s : State) : Host.Outcome State Fault Refusal := after s (onHost (burnCommand 4 word) s)

/-- OTP_SPARE (R401). -/
def execOtpSpare (word : BitVec 9) (s : State) : Host.Outcome State Fault Refusal := after s (onHost (burnCommand 5 word) s)

/-- OTP_LOCK (R408, R409). -/
def execOtpLock (region : BitVec 9) (s : State) : Host.Outcome State Fault Refusal := after s (onHost (burnCommand 6 region) s)

/-- OTP_REREAD (R399). -/
def execOtpReread (words : List FuseRead) (locks : List LockRead) (s : State) : Host.Outcome State Fault Refusal :=
  after s (onHost (rereadFuses words locks) s)

/-- OTP_BIT_PULSE (R404). -/
def execOtpBitPulse (verified : Bool) (s : State) : Host.Outcome State Fault Refusal := after s (live (bitPulse verified) s)

end Sys2Proof.Machine
end

