-- ==== Sys2Proof/Machine/PondCmds.lean ====
section
/-! DEFINITION. Commands of the mill-pond: scrubbing and spares, partition sizes, admission, meters, and the auxiliary data. -/

namespace Sys2Proof.Machine

/-- SCRUB_ROW (R122, R118, R119, R120). -/
def execScrubRow (errs : Upsets) (s : State) : Host.Outcome State Fault Refusal := after s (live (scrubNext errs) s)

/-- SPARE_ROW_COPY_DONE (R120). -/
def execSpareRowCopyDone (errs : Upsets) (s : State) : Host.Outcome State Fault Refusal := after s (live (spareCopied errs) s)

/-- PART_UNITS_WRITE (R123, R124): RWG. -/
def execPartUnitsWrite (p : Port) (val : Word) (s : State) : Host.Outcome State Fault Refusal :=
  after s (onHost (guarded (writePartUnits p val)) s)

/-- AUX_UNITS_WRITE (R124): RWG. -/
def execAuxUnitsWrite (val : Word) (s : State) : Host.Outcome State Fault Refusal := after s (onHost (guarded (writeAuxUnits val)) s)

/-- ADMIT_HOLD_WRITE (R131, R141). -/
def execAdmitHoldWrite (v : Bool) (s : State) : Host.Outcome State Fault Refusal := after s (onHost (writeAdmitHold v) s)

/-- PND_CNT_CLR (R141). -/
def execPndCntClr (s : State) : Host.Outcome State Fault Refusal := after s (onHost clearPond s)

/-- SLUICE_EVAL_TICK (R131). -/
def execSluiceEvalTick (s : State) : Host.Outcome State Fault Refusal := after s (live sluiceTick s)

/-- RATE_UPDATE_TICK (R136): the tick itself accounts for the time up to it. -/
def execRateUpdateTick (s : State) : Host.Outcome State Fault Refusal :=
  let t := live rateTick s
  after { s with now := t.now } t

/-- AUX_DATA_CONSUMED (R125). -/
def execAuxDataConsumed (n : Nat) (errs : Upsets) (s : State) : Host.Outcome State Fault Refusal :=
  after s (if fwRuns s then live (auxConsumed n errs) s else s)

end Sys2Proof.Machine
end

