-- ==== Sys2Proof/Machine/PowerCmds.lean ====
section
/-! DEFINITION. Commands of supplies, reset, the start stages, SLEEP, STANDBY and the always-on domain (R417 to R442). -/

namespace Sys2Proof.Machine

/-- VAON_GOOD (R423). -/
def execVaonGood (s : State) : Host.Outcome State Fault Refusal := after s (vaonRises s)

/-- VAON_LOST (R423). -/
def execVaonLost (s : State) : Host.Outcome State Fault Refusal := after s (vaonFalls s)

/-- MAIN_SUPPLY_GOOD (R417). -/
def execMainSupplyGood (i : Fin 6) (s : State) : Host.Outcome State Fault Refusal := after s (mainRises i s)

/-- MAIN_SUPPLY_LOST (R421, R423). -/
def execMainSupplyLost (i : Fin 6) (s : State) : Host.Outcome State Fault Refusal := after s (mainFalls i s)

/-- PERST_ASSERT (R421). -/
def execPerstAssert (s : State) : Host.Outcome State Fault Refusal := after s (perstFalls s)

/-- XIN_LOST (R434). -/
def execXinLost (s : State) : Host.Outcome State Fault Refusal := after s (xinFails s)

/-- RESET_RELEASE (R420, R423). -/
def execResetRelease (ret0 ret1 : List (Nat × Byte)) (s : State) : Host.Outcome State Fault Refusal := after s (releaseReset ret0 ret1 s)

/-- CLOCKS_STAGE_DONE (R437). -/
def execClocksStageDone (ok : Bool) (tenthMs : Nat) (s : State) : Host.Outcome State Fault Refusal := after s (clocksDone ok tenthMs s)

/-- FUSES_STAGE_DONE (R400, R437). -/
def execFusesStageDone (words : List FuseRead) (locks : List LockRead) (tenthMs : Nat) (s : State) : Host.Outcome State Fault Refusal :=
  after s (fusesDone words locks tenthMs s)

/-- FIRMWARE_STAGE_DONE (R437, R451). -/
def execFirmwareStageDone (header slotA slotB : List Byte) (tenthMs : Nat) (s : State) : Host.Outcome State Fault Refusal :=
  after s (firmwareDone header slotA slotB tenthMs s)

/-- CONFIG_STAGE_DONE (R437, R450, R451). -/
def execConfigStageDone (slotA slotB : List Byte) (tenthMs : Nat) (s : State) : Host.Outcome State Fault Refusal :=
  after s (configDone slotA slotB tenthMs s)

/-- SELFTEST_STAGE_DONE (R34, R144, R437). -/
def execSelftestStageDone (passA passB : Bool) (ingFail : BitVec 20) (egrFail : BitVec 16) (tenthMs : Nat) (s : State) :
    Host.Outcome State Fault Refusal :=
  after s (selftestDone passA passB ingFail egrFail tenthMs s)

/-- RESTORE_STAGE_DONE (R437, R455). -/
def execRestoreStageDone (records : List (List Byte)) (tenthMs : Nat) (s : State) : Host.Outcome State Fault Refusal :=
  after s (restoreDone records tenthMs s)

/-- START_RETRY_TIMER (R438). -/
def execStartRetryTimer (s : State) : Host.Outcome State Fault Refusal := after s (live retryStage s)

/-- SLEEP_REQUEST (R425). -/
def execSleepRequest (s : State) : Host.Outcome State Fault Refusal := after s (onHost requestSleep s)

/-- WAKE_REQUEST (R426). -/
def execWakeRequest (s : State) : Host.Outcome State Fault Refusal := after s (onHost requestWake s)

/-- STANDBY_REQUEST (R428). -/
def execStandbyRequest (s : State) : Host.Outcome State Fault Refusal := after s (onHost requestStandby s)

/-- CANCEL_STANDBY (R428). -/
def execCancelStandby (s : State) : Host.Outcome State Fault Refusal := after s (onHost cancelStandby s)

/-- STANDBY_QUIESCED (R428). -/
def execStandbyQuiesced (s : State) : Host.Outcome State Fault Refusal := after s (live quiesceStandby s)

/-- STANDBY_AXES_STILL (R428). -/
def execStandbyAxesStill (s : State) : Host.Outcome State Fault Refusal := after s (live enterStandby s)

/-- WAKE_PIN (R430). -/
def execWakePin (s : State) : Host.Outcome State Fault Refusal := after s (wakePinLow s)

/-- RTC_ALARM (R430). -/
def execRtcAlarm (s : State) : Host.Outcome State Fault Refusal := after s (alarmRings s)

/-- AON_XTAL_SEARCH_END (R433). -/
def execAonXtalSearchEnd (s : State) : Host.Outcome State Fault Refusal := after s (searchEnds s)

/-- AON_XTAL_LOST (R433). -/
def execAonXtalLost (s : State) : Host.Outcome State Fault Refusal := after s (crystalStops s)

/-- RTC_HI_WRITE (R432). -/
def execRtcHiWrite (val : Word) (s : State) : Host.Outcome State Fault Refusal := after s (onHost (armRtc val) s)

/-- RTC_COMMIT (R432). -/
def execRtcCommit (s : State) : Host.Outcome State Fault Refusal := after s (commitRtc s)

/-- SPREAD_RAMP_DONE (R435). -/
def execSpreadRampDone (s : State) : Host.Outcome State Fault Refusal := after s (live rampEnds s)

/-- RET_USER_WRITE (R429). -/
def execRetUserWrite (i : Fin 7) (val : Word) (s : State) : Host.Outcome State Fault Refusal := after s (onHost (writeRetUser i val) s)

/-- CORE_ON_DEMAND_START (R427). -/
def execCoreOnDemandStart (s : State) : Host.Outcome State Fault Refusal := after s (live startOnDemand s)

/-- CORE_ON_DEMAND_STOP (R427). -/
def execCoreOnDemandStop (s : State) : Host.Outcome State Fault Refusal := after s (live stopOnDemand s)

end Sys2Proof.Machine
end

