-- ==== Sys2Proof/Machine/SupervisorCmds.lean ====
section
/-! DEFINITION. Commands of the supervisor of the twin engines (R294 to R320). -/

namespace Sys2Proof.Machine

/-- DIAGNOSIS_WINDOW_END (R299). -/
def execDiagnosisWindowEnd (p : Port) (a b : DiagNote) (s : State) : Host.Outcome State Fault Refusal :=
  after s (live (endDiagnosis p a b) s)

/-- COPY_SNAPSHOT (R307). -/
def execCopySnapshot (s : State) : Host.Outcome State Fault Refusal := after s (live snapshot s)

/-- COPY_FIX (R308). -/
def execCopyFix (p : Port) (corrupt : Bool) (s : State) : Host.Outcome State Fault Refusal := after s (live (fixCopy p corrupt) s)

/-- ENGINE_SELFTEST_DONE (R312, R34, R302, R317, R318). -/
def execEngineSelftestDone (x : EngId) (pass : Bool) (s : State) : Host.Outcome State Fault Refusal := after s (live (endSelftest x pass) s)

/-- QUIET_POINT (R313). -/
def execQuietPoint (s : State) : Host.Outcome State Fault Refusal := after s (live quietActions s)

/-- ENGINE_RETIRE (R315). -/
def execEngineRetire (x : EngId) (s : State) : Host.Outcome State Fault Refusal := after s (onHost (retireEngine x) s)

/-- ENGINE_REVIVE (R315). -/
def execEngineRevive (x : EngId) (s : State) : Host.Outcome State Fault Refusal := after s (onHost (reviveEngine x) s)

/-- FAILOVER_TEST (R315). -/
def execFailoverTest (s : State) : Host.Outcome State Fault Refusal := after s (onHost testFailover s)

/-- SWAP_OPEN (R317). -/
def execSwapOpen (s : State) : Host.Outcome State Fault Refusal := after s (onHost openSwap s)

/-- SWAP_ARM (R317). -/
def execSwapArm (s : State) : Host.Outcome State Fault Refusal := after s (onHost armSwap s)

/-- SWAP_CANCEL (R318). -/
def execSwapCancel (s : State) : Host.Outcome State Fault Refusal := after s (onHost cancelSwap s)

/-- ENGINE_RESTART (R315). -/
def execEngineRestart (s : State) : Host.Outcome State Fault Refusal := after s (onHost restartEngines s)

/-- SUP_CNT_CLR (R320). -/
def execSupCntClr (s : State) : Host.Outcome State Fault Refusal := after s (onHost clearSup s)

/-- HEALTH_LOG_TIMER (R316). -/
def execHealthLogTimer (s : State) : Host.Outcome State Fault Refusal := after s (live healthRecord s)

end Sys2Proof.Machine
end

