-- ==== Sys2Proof/Machine/SupplyCmds.lean ====
section
/-! DEFINITION. Commands of the head supplies and the echo sensing (R261 to R275). -/

namespace Sys2Proof.Machine

/-- RAIL_SOFTSTART_GOOD (R261). -/
def execRailSoftstartGood (r : Fin 4) (s : State) : Host.Outcome State Fault Refusal := after s (live (softstartGood r) s)

/-- RAIL_SLEW_STEP (R264). -/
def execRailSlewStep (r : Fin 4) (s : State) : Host.Outcome State Fault Refusal := after s (live (slewStep r) s)

/-- RAIL_IDLE_OFF (R261). -/
def execRailIdleOff (r : Fin 4) (s : State) : Host.Outcome State Fault Refusal := after s (live (idleOff r) s)

/-- RAIL_FAULT (R266, R267). -/
def execRailFault (r : Fin 4) (cause : RailCause) (s : State) : Host.Outcome State Fault Refusal := after s (live (railFaulted r cause) s)

/-- RAIL_FAULT_RECOVER (R261). -/
def execRailFaultRecover (r : Fin 4) (s : State) : Host.Outcome State Fault Refusal := after s (live (faultRecover r) s)

/-- VHS_FAULT_CLR (R261, R274). -/
def execVhsFaultClr (r : Fin 4) (s : State) : Host.Outcome State Fault Refusal :=
  after s (onHost (fun s => clearFault r (countWhen (docInProgress s) s)) s)

/-- VTAB_WRITE (R264, R274): RWG. -/
def execVtabWrite (i : Fin 8) (val : Word) (s : State) : Host.Outcome State Fault Refusal := after s (onHost (guarded (writeVtab i val)) s)

/-- SENSE_CFG_WRITE (R274): RWG. -/
def execSenseCfgWrite (n : Port) (val : Word) (s : State) : Host.Outcome State Fault Refusal := after s (onHost (guarded (writeSense n val)) s)

/-- PORT_POWER_GOOD (R265). -/
def execPortPowerGood (n : Port) (s : State) : Host.Outcome State Fault Refusal := after s (live (powerGood n) s)

/-- PORT_POWER_TIMEOUT (R265). -/
def execPortPowerTimeout (n : Port) (s : State) : Host.Outcome State Fault Refusal := after s (live (powerTimeout n) s)

/-- PORT_VOLTAGE_MEASURE (R271). -/
def execPortVoltageMeasure (n : Port) (v10mV : Half) (rail : RailRead) (s : State) : Host.Outcome State Fault Refusal :=
  after s (live (measurePort n v10mV rail) s)

/-- ECHO_RECORD (R278, R71, R203, R270, R272, R275, R276, R277, R279, R280, R281, R283, R286, R287). -/
def execEchoRecord (n : Port) (win : EchoIn) (s : State) : Host.Outcome State Fault Refusal := after s (live (echoWindow n win) s)

/-- PORT_SHORT (R273). -/
def execPortShort (n : Port) (s : State) : Host.Outcome State Fault Refusal := after s (live (sampledShort n) s)

/-- SHORT_COMPARATOR_TRIP (R269). -/
def execShortComparatorTrip (n : Port) (s : State) : Host.Outcome State Fault Refusal := after s (live (declareShort n true) s)

end Sys2Proof.Machine
end

