-- ==== Sys2Proof/Machine/ThermalCmds.lean ====
section
/-! DEFINITION. Commands of the thermal governor (R368 to R385) and of calibration (R386 to R395). -/

namespace Sys2Proof.Machine

/-- THM_UPDATE (R368 to R373, R378 to R380); T_drive at its limit trips the shut-down (R374). -/
def execThmUpdate (rd : ThmIn) (s : State) : Host.Outcome State Fault Refusal :=
  after s (live (fun s => driveTrip (thermalUpdate rd (tickTo (msGrid 1) s))) s)

/-- THERMAL_SHUTDOWN (R374, R375). -/
def execThermalShutdown (cause : TripCause) (s : State) : Host.Outcome State Fault Refusal := after s (shutDown cause s)

/-- SHUTDOWN_RETEST (R376). -/
def execShutdownRetest (openShort : Bool) (t : Int) (s : State) : Host.Outcome State Fault Refusal := after s (retestDiode openShort t s)

/-- DIODE_FAULT_TIMEOUT (R374): the fault has lasted 2 s. -/
def execDiodeFaultTimeout (s : State) : Host.Outcome State Fault Refusal :=
  after s (shutDown .openShort { s with now := s.now + msGrid 2000 })

/-- THERMAL_RECORD_REWRITE (R377): each 1 ms while a document is in progress. -/
def execThermalRecordRewrite (s : State) : Host.Outcome State Fault Refusal :=
  after s (live (fun s => if docInProgress s then rewriteThermal (tickTo (msGrid 1) s) else s) s)

/-- STANDBY_RC_TRIM (R384). -/
def execStandbyRcTrim (t : Int) (s : State) : Host.Outcome State Fault Refusal := after s (trimRc t s)

/-- SENSOR_RESUME (R381). -/
def execSensorResume (s : State) : Host.Outcome State Fault Refusal := after s (onHost resumeSensor s)

/-- THM_PEAK_CLR (R385). -/
def execThmPeakClr (s : State) : Host.Outcome State Fault Refusal := after s (onHost clearPeak s)

/-- CALIBRATION_DONE (R386 to R389, R437). -/
def execCalibrationDone (rd : CalIn) (s : State) : Host.Outcome State Fault Refusal := after s (live (calibrated rd) s)

/-- CAL_PERIOD_EXPIRY (R390). -/
def execCalPeriodExpiry (s : State) : Host.Outcome State Fault Refusal := after s (live calPeriod s)

/-- CAL_DUE_START (R391). -/
def execCalDueStart (s : State) : Host.Outcome State Fault Refusal := after s (live calDue s)

/-- CAL_GRACE_EXPIRY (R391). -/
def execCalGraceExpiry (s : State) : Host.Outcome State Fault Refusal := after s (live calGrace s)

/-- TRIM_SLEW_STEP (R394). -/
def execTrimSlewStep (s : State) : Host.Outcome State Fault Refusal := after s (live trimStep s)

/-- CAL_REQ_FULL (R390). -/
def execCalReqFull (s : State) : Host.Outcome State Fault Refusal := after s (onHost (calRequest true) s)

/-- CAL_REQ_PART (R390). -/
def execCalReqPart (s : State) : Host.Outcome State Fault Refusal := after s (onHost (calRequest false) s)

end Sys2Proof.Machine
end

