-- ==== Sys2Proof/Machine/TransportCmds.lean ====
section
/-! DEFINITION. Commands of the transport port (R325 to R343). -/

namespace Sys2Proof.Machine

/-- TP_NOP (R331). -/
def execTpNop (s : State) : Host.Outcome State Fault Refusal := after s (live (tpCommand 0 false false id) s)

/-- A host write of ADMIT_HOLD in the same clock counts only where the host windows answer. -/
def hostAdmit (w : Option Bool) (s : State) : Option Bool := if s.link.cfgReady then w else none

/-- HOLD_ADMIT (R331). -/
def execHoldAdmit (hostWrite : Option Bool) (s : State) : Host.Outcome State Fault Refusal :=
  after s (live (admitCommand 1 true (hostAdmit hostWrite s)) s)

/-- RELEASE_ADMIT (R331). -/
def execReleaseAdmit (hostWrite : Option Bool) (s : State) : Host.Outcome State Fault Refusal :=
  after s (live (admitCommand 2 false (hostAdmit hostWrite s)) s)

/-- STOP (R332). -/
def execStop (s : State) : Host.Outcome State Fault Refusal := after s (live (tpCommand 3 false false stopDevice) s)

/-- ABORT_DOC (R333): ARG names the document. -/
def execAbortDoc (s : State) : Host.Outcome State Fault Refusal :=
  after s (live (tpCommand 4 (argDoc s.tpt == 0 || argDoc s.tpt == BitVec.allOnes 32) (!docLive (argDoc s.tpt) s)
    (abortDocument (argDoc s.tpt))) s)

/-- CALIBRATE (R334, R31, R145, R331, R365, R389, R390). -/
def execCalibrate (s : State) : Host.Outcome State Fault Refusal := after s (live (tpCommand 5 false false (startCal true)) s)

/-- TEST_STRIP (R334, R31, R331, R390). -/
def execTestStrip (s : State) : Host.Outcome State Fault Refusal := after s (live (tpCommand 6 false false (startCal false)) s)

/-- MAINT_ENTER (R334, R31, R331). -/
def execMaintEnter (s : State) : Host.Outcome State Fault Refusal := after s (live (tpCommand 7 false false beginMaint) s)

/-- MAINT_EXIT (R331). -/
def execMaintExit (s : State) : Host.Outcome State Fault Refusal := after s (live (tpCommand 8 false false leaveMaint) s)

/-- FAULT_ACK (R331, R334, R340). -/
def execFaultAck (s : State) : Host.Outcome State Fault Refusal := after s (live (tpCommand 9 false s.tpt.fifo.isEmpty ackFault) s)

/-- OVS_CLEAR (R331): ARG0 bit 0 chooses the loop. -/
def execOvsClear (s : State) : Host.Outcome State Fault Refusal :=
  after s (live (tpCommand 0xA false false (clearOvs (if s.tpt.arg0.getLsbD 0 then .b else .a))) s)

/-- CANCEL (R335): ARG0 names the class. -/
def execCancel (s : State) : Host.Outcome State Fault Refusal :=
  after s (live (tpCommand 0xB (decide (2 < s.tpt.arg0.toNat)) (nothingDeferred s.tpt) cancelClass) s)

/-- DEFERRED_CMD_EXECUTE (R335). -/
def execDeferredCmdExecute (s : State) : Host.Outcome State Fault Refusal := after s (live runDeferred s)

/-- HOST_MAIL_WRITE (R329). -/
def execHostMailWrite (i : Fin 8) (val : Half) (s : State) : Host.Outcome State Fault Refusal := after s (onHost (hostMail i val) s)

/-- TP_MAIL_WRITE (R329). -/
def execTpMailWrite (i : Fin 8) (val : Half) (s : State) : Host.Outcome State Fault Refusal := after s (live (tpMail i val) s)

/-- DOCFAULT_PULSE (R341). -/
def execDocfaultPulse (s : State) : Host.Outcome State Fault Refusal := after s (live pulseFalls s)

/-- DOCFAULT_PULSE_END (R341). -/
def execDocfaultPulseEnd (s : State) : Host.Outcome State Fault Refusal := after s (live pulseRises s)

end Sys2Proof.Machine
end

