-- ==== Sys2Proof/Machine/Dispatch.lean ====
section
/-! DEFINITION. One arm per command: each calls its own meaning. -/

namespace Sys2Proof.Machine

/-- The effect of a command on everything but the queue. -/
def exec (i : Instr) (s : State) : Host.Outcome State Fault Refusal :=
  match i with
  | .registerWrite bus off val be => Sys2Proof.Machine.execRegisterWrite bus off val be s
  | .ignoredWritesClr sameClock => Sys2Proof.Machine.execIgnoredWritesClr sameClock s
  | .captureReadLo reg => Sys2Proof.Machine.execCaptureReadLo reg s
  | .configRequest write off val => Sys2Proof.Machine.execConfigRequest write off val s
  | .doorbell ch val lo hi => Sys2Proof.Machine.execDoorbell ch val lo hi s
  | .dmaEnable ch => Sys2Proof.Machine.execDmaEnable ch s
  | .dmaStopReq ch => Sys2Proof.Machine.execDmaStopReq ch s
  | .dmaResume ch => Sys2Proof.Machine.execDmaResume ch s
  | .dmaKill ch => Sys2Proof.Machine.execDmaKill ch s
  | .dmaReset ch => Sys2Proof.Machine.execDmaReset ch s
  | .dmaResetDone ch => Sys2Proof.Machine.execDmaResetDone ch s
  | .ringSizeWrite ch val => Sys2Proof.Machine.execRingSizeWrite ch val s
  | .descriptorArrival ch req bytes => Sys2Proof.Machine.execDescriptorArrival ch req bytes s
  | .packetHeaderArrival ch bytes => Sys2Proof.Machine.execPacketHeaderArrival ch bytes s
  | .readCompletionError ch req err header => Sys2Proof.Machine.execReadCompletionError ch req err header s
  | .completionTimeout ch req => Sys2Proof.Machine.execCompletionTimeout ch req s
  | .readReissue ch req => Sys2Proof.Machine.execReadReissue ch req s
  | .packetRefetch ch => Sys2Proof.Machine.execPacketRefetch ch s
  | .docOpen ch bytes => Sys2Proof.Machine.execDocOpen ch bytes s
  | .linePacket ch bytes => Sys2Proof.Machine.execLinePacket ch bytes s
  | .testLine ch bytes => Sys2Proof.Machine.execTestLine ch bytes s
  | .docClose ch bytes => Sys2Proof.Machine.execDocClose ch bytes s
  | .filler ch bytes => Sys2Proof.Machine.execFiller ch bytes s
  | .auxDescriptorDelivered ch bytes => Sys2Proof.Machine.execAuxDescriptorDelivered ch bytes s
  | .d2hDescriptorWritten ch bytes => Sys2Proof.Machine.execD2hDescriptorWritten ch bytes s
  | .descSpaceWaitEnd ch => Sys2Proof.Machine.execDescSpaceWaitEnd ch s
  | .docTableWaitEnd ch => Sys2Proof.Machine.execDocTableWaitEnd ch s
  | .l1Entry => Sys2Proof.Machine.execL1Entry s
  | .d3hotEntry => Sys2Proof.Machine.execD3hotEntry s
  | .d0Return => Sys2Proof.Machine.execD0Return s
  | .linkStateChange speed width dlActive reversed => Sys2Proof.Machine.execLinkStateChange speed width dlActive reversed s
  | .scrubRow errs => Sys2Proof.Machine.execScrubRow errs s
  | .spareRowCopyDone errs => Sys2Proof.Machine.execSpareRowCopyDone errs s
  | .partUnitsWrite p val => Sys2Proof.Machine.execPartUnitsWrite p val s
  | .auxUnitsWrite val => Sys2Proof.Machine.execAuxUnitsWrite val s
  | .admitHoldWrite v => Sys2Proof.Machine.execAdmitHoldWrite v s
  | .pndCntClr => Sys2Proof.Machine.execPndCntClr s
  | .sluiceEvalTick => Sys2Proof.Machine.execSluiceEvalTick s
  | .rateUpdateTick => Sys2Proof.Machine.execRateUpdateTick s
  | .chkArm ix fromMgt => Sys2Proof.Machine.execChkArm ix fromMgt s
  | .chkAbort ix => Sys2Proof.Machine.execChkAbort ix s
  | .chkScanDone ix ext errs => Sys2Proof.Machine.execChkScanDone ix ext errs s
  | .chkSnoopRecord tap bytes => Sys2Proof.Machine.execChkSnoopRecord tap bytes s
  | .chkWidthWrite ix val => Sys2Proof.Machine.execChkWidthWrite ix val s
  | .chkPersistClr sameClock => Sys2Proof.Machine.execChkPersistClr sameClock s
  | .encEdge inp a b dt na nb => Sys2Proof.Machine.execEncEdge inp a b dt na nb s
  | .indexEdge inp dt n => Sys2Proof.Machine.execIndexEdge inp dt n s
  | .encLineFault inp sig => Sys2Proof.Machine.execEncLineFault inp sig s
  | .encLineFaultClear inp sig a b => Sys2Proof.Machine.execEncLineFaultClear inp sig a b s
  | .crawlEnter x => Sys2Proof.Machine.execCrawlEnter x s
  | .crawlExit x => Sys2Proof.Machine.execCrawlExit x s
  | .docTrigEdge ix rise dt n => Sys2Proof.Machine.execDocTrigEdge ix rise dt n s
  | .lineAheadEvent p errs => Sys2Proof.Machine.execLineAheadEvent p errs s
  | .fireTick p lag => Sys2Proof.Machine.execFireTick p lag s
  | .loopLineBoundary x => Sys2Proof.Machine.execLoopLineBoundary x s
  | .ftlEnableWrite x v => Sys2Proof.Machine.execFtlEnableWrite x v s
  | .ftlReset x => Sys2Proof.Machine.execFtlReset x s
  | .ftlOvsClr x => Sys2Proof.Machine.execFtlOvsClr x s
  | .ftlPeakClr x => Sys2Proof.Machine.execFtlPeakClr x s
  | .ratioDenWrite x val => Sys2Proof.Machine.execRatioDenWrite x val s
  | .encCfgWrite x val => Sys2Proof.Machine.execEncCfgWrite x val s
  | .loopCfgWrite x val => Sys2Proof.Machine.execLoopCfgWrite x val s
  | .enginePassStart x => Sys2Proof.Machine.execEnginePassStart x s
  | .enginePassDone x note => Sys2Proof.Machine.execEnginePassDone x note s
  | .deadlineMiss x p => Sys2Proof.Machine.execDeadlineMiss x p s
  | .profileWrite off val => Sys2Proof.Machine.execProfileWrite off val s
  | .engCntClr x => Sys2Proof.Machine.execEngCntClr x s
  | .planeShiftDone p => Sys2Proof.Machine.execPlaneShiftDone p s
  | .planeLatch p => Sys2Proof.Machine.execPlaneLatch p s
  | .egressCutoff p => Sys2Proof.Machine.execEgressCutoff p s
  | .portLineBoundary p => Sys2Proof.Machine.execPortLineBoundary p s
  | .headPresent n => Sys2Proof.Machine.execHeadPresent n s
  | .headRemoved n => Sys2Proof.Machine.execHeadRemoved n s
  | .recordReadDone n copy0 copy1 => Sys2Proof.Machine.execRecordReadDone n copy0 copy1 s
  | .recordReadRetry n => Sys2Proof.Machine.execRecordReadRetry n s
  | .hpEnableWrite n v => Sys2Proof.Machine.execHpEnableWrite n v s
  | .hpPwrOffWrite n v => Sys2Proof.Machine.execHpPwrOffWrite n v s
  | .headReread n => Sys2Proof.Machine.execHeadReread n s
  | .usageFlush n => Sys2Proof.Machine.execUsageFlush n s
  | .headTempConversion n raw => Sys2Proof.Machine.execHeadTempConversion n raw s
  | .recordWriteStart n => Sys2Proof.Machine.execRecordWriteStart n s
  | .recordPageDone n => Sys2Proof.Machine.execRecordPageDone n s
  | .recordReadbackDone n bytes => Sys2Proof.Machine.execRecordReadbackDone n bytes s
  | .recordWriteRetry n => Sys2Proof.Machine.execRecordWriteRetry n s
  | .spitFire n noteA noteB => Sys2Proof.Machine.execSpitFire n noteA noteB s
  | .railSoftstartGood r => Sys2Proof.Machine.execRailSoftstartGood r s
  | .railSlewStep r => Sys2Proof.Machine.execRailSlewStep r s
  | .railIdleOff r => Sys2Proof.Machine.execRailIdleOff r s
  | .railFault r cause => Sys2Proof.Machine.execRailFault r cause s
  | .railFaultRecover r => Sys2Proof.Machine.execRailFaultRecover r s
  | .vhsFaultClr r => Sys2Proof.Machine.execVhsFaultClr r s
  | .vtabWrite ix val => Sys2Proof.Machine.execVtabWrite ix val s
  | .senseCfgWrite n val => Sys2Proof.Machine.execSenseCfgWrite n val s
  | .portPowerGood n => Sys2Proof.Machine.execPortPowerGood n s
  | .portPowerTimeout n => Sys2Proof.Machine.execPortPowerTimeout n s
  | .portVoltageMeasure n v10mV rail => Sys2Proof.Machine.execPortVoltageMeasure n v10mV rail s
  | .echoRecord n win => Sys2Proof.Machine.execEchoRecord n win s
  | .portShort n => Sys2Proof.Machine.execPortShort n s
  | .shortComparatorTrip n => Sys2Proof.Machine.execShortComparatorTrip n s
  | .mapAddHost n nozzle => Sys2Proof.Machine.execMapAddHost n nozzle s
  | .mapFreeNozzle n nozzle => Sys2Proof.Machine.execMapFreeNozzle n nozzle s
  | .mapFreeEchoContact n => Sys2Proof.Machine.execMapFreeEchoContact n s
  | .mapFreeNonFactory n => Sys2Proof.Machine.execMapFreeNonFactory n s
  | .suspClr n => Sys2Proof.Machine.execSuspClr n s
  | .nzhCntClr n => Sys2Proof.Machine.execNzhCntClr n s
  | .csStart n => Sys2Proof.Machine.execCsStart n s
  | .csAbort n => Sys2Proof.Machine.execCsAbort n s
  | .csFire n before dd noteA noteB => Sys2Proof.Machine.execCsFire n before dd noteA noteB s
  | .csCfgWrite n val => Sys2Proof.Machine.execCsCfgWrite n val s
  | .diagnosisWindowEnd p a b => Sys2Proof.Machine.execDiagnosisWindowEnd p a b s
  | .copySnapshot => Sys2Proof.Machine.execCopySnapshot s
  | .copyFix p corrupt => Sys2Proof.Machine.execCopyFix p corrupt s
  | .engineSelftestDone x pass => Sys2Proof.Machine.execEngineSelftestDone x pass s
  | .quietPoint => Sys2Proof.Machine.execQuietPoint s
  | .engineRetire x => Sys2Proof.Machine.execEngineRetire x s
  | .engineRevive x => Sys2Proof.Machine.execEngineRevive x s
  | .failoverTest => Sys2Proof.Machine.execFailoverTest s
  | .swapOpen => Sys2Proof.Machine.execSwapOpen s
  | .swapArm => Sys2Proof.Machine.execSwapArm s
  | .swapCancel => Sys2Proof.Machine.execSwapCancel s
  | .engineRestart => Sys2Proof.Machine.execEngineRestart s
  | .supCntClr => Sys2Proof.Machine.execSupCntClr s
  | .healthLogTimer => Sys2Proof.Machine.execHealthLogTimer s
  | .tpNop => Sys2Proof.Machine.execTpNop s
  | .holdAdmit hostWrite => Sys2Proof.Machine.execHoldAdmit hostWrite s
  | .releaseAdmit hostWrite => Sys2Proof.Machine.execReleaseAdmit hostWrite s
  | .stop => Sys2Proof.Machine.execStop s
  | .abortDoc => Sys2Proof.Machine.execAbortDoc s
  | .calibrate => Sys2Proof.Machine.execCalibrate s
  | .testStrip => Sys2Proof.Machine.execTestStrip s
  | .maintEnter => Sys2Proof.Machine.execMaintEnter s
  | .maintExit => Sys2Proof.Machine.execMaintExit s
  | .faultAck => Sys2Proof.Machine.execFaultAck s
  | .ovsClear => Sys2Proof.Machine.execOvsClear s
  | .cancel => Sys2Proof.Machine.execCancel s
  | .deferredCmdExecute => Sys2Proof.Machine.execDeferredCmdExecute s
  | .hostMailWrite ix val => Sys2Proof.Machine.execHostMailWrite ix val s
  | .tpMailWrite ix val => Sys2Proof.Machine.execTpMailWrite ix val s
  | .docfaultPulse => Sys2Proof.Machine.execDocfaultPulse s
  | .docfaultPulseEnd => Sys2Proof.Machine.execDocfaultPulseEnd s
  | .moveAbs a => Sys2Proof.Machine.execMoveAbs a s
  | .moveRel a => Sys2Proof.Machine.execMoveRel a s
  | .home a => Sys2Proof.Machine.execHome a s
  | .softStop a => Sys2Proof.Machine.execSoftStop a s
  | .axisStop a => Sys2Proof.Machine.execAxisStop a s
  | .energise a => Sys2Proof.Machine.execEnergise a s
  | .disable a => Sys2Proof.Machine.execDisable a s
  | .setPos a => Sys2Proof.Machine.execSetPos a s
  | .jog a => Sys2Proof.Machine.execJog a s
  | .motStopAll => Sys2Proof.Machine.execMotStopAll s
  | .servoPeriod rd => Sys2Proof.Machine.execServoPeriod rd s
  | .homeSettleEnd a => Sys2Proof.Machine.execHomeSettleEnd a s
  | .holdDelayEnd a => Sys2Proof.Machine.execHoldDelayEnd a s
  | .limitQualified a hi level n => Sys2Proof.Machine.execLimitQualified a hi level n s
  | .bridgeFault cause => Sys2Proof.Machine.execBridgeFault cause s
  | .vmGood => Sys2Proof.Machine.execVmGood s
  | .thmUpdate rd => Sys2Proof.Machine.execThmUpdate rd s
  | .thermalShutdown cause => Sys2Proof.Machine.execThermalShutdown cause s
  | .shutdownRetest openShort t => Sys2Proof.Machine.execShutdownRetest openShort t s
  | .diodeFaultTimeout => Sys2Proof.Machine.execDiodeFaultTimeout s
  | .thermalRecordRewrite => Sys2Proof.Machine.execThermalRecordRewrite s
  | .standbyRcTrim t => Sys2Proof.Machine.execStandbyRcTrim t s
  | .sensorResume => Sys2Proof.Machine.execSensorResume s
  | .thmPeakClr => Sys2Proof.Machine.execThmPeakClr s
  | .calibrationDone rd => Sys2Proof.Machine.execCalibrationDone rd s
  | .calPeriodExpiry => Sys2Proof.Machine.execCalPeriodExpiry s
  | .calDueStart => Sys2Proof.Machine.execCalDueStart s
  | .calGraceExpiry => Sys2Proof.Machine.execCalGraceExpiry s
  | .trimSlewStep => Sys2Proof.Machine.execTrimSlewStep s
  | .calReqFull => Sys2Proof.Machine.execCalReqFull s
  | .calReqPart => Sys2Proof.Machine.execCalReqPart s
  | .otpRead word level => Sys2Proof.Machine.execOtpRead word level s
  | .otpProgram word => Sys2Proof.Machine.execOtpProgram word s
  | .otpReburn word => Sys2Proof.Machine.execOtpReburn word s
  | .otpVoid word => Sys2Proof.Machine.execOtpVoid word s
  | .otpSpare word => Sys2Proof.Machine.execOtpSpare word s
  | .otpLock region => Sys2Proof.Machine.execOtpLock region s
  | .otpReread words locks => Sys2Proof.Machine.execOtpReread words locks s
  | .otpBitPulse verified => Sys2Proof.Machine.execOtpBitPulse verified s
  | .vaonGood => Sys2Proof.Machine.execVaonGood s
  | .vaonLost => Sys2Proof.Machine.execVaonLost s
  | .mainSupplyGood ix => Sys2Proof.Machine.execMainSupplyGood ix s
  | .mainSupplyLost ix => Sys2Proof.Machine.execMainSupplyLost ix s
  | .perstAssert => Sys2Proof.Machine.execPerstAssert s
  | .xinLost => Sys2Proof.Machine.execXinLost s
  | .resetRelease ret0 ret1 => Sys2Proof.Machine.execResetRelease ret0 ret1 s
  | .clocksStageDone ok tenthMs => Sys2Proof.Machine.execClocksStageDone ok tenthMs s
  | .fusesStageDone words locks tenthMs => Sys2Proof.Machine.execFusesStageDone words locks tenthMs s
  | .firmwareStageDone header slotA slotB tenthMs => Sys2Proof.Machine.execFirmwareStageDone header slotA slotB tenthMs s
  | .configStageDone slotA slotB tenthMs => Sys2Proof.Machine.execConfigStageDone slotA slotB tenthMs s
  | .selftestStageDone passA passB ingFail egrFail tenthMs => Sys2Proof.Machine.execSelftestStageDone passA passB ingFail egrFail tenthMs s
  | .restoreStageDone records tenthMs => Sys2Proof.Machine.execRestoreStageDone records tenthMs s
  | .startRetryTimer => Sys2Proof.Machine.execStartRetryTimer s
  | .sleepRequest => Sys2Proof.Machine.execSleepRequest s
  | .wakeRequest => Sys2Proof.Machine.execWakeRequest s
  | .standbyRequest => Sys2Proof.Machine.execStandbyRequest s
  | .cancelStandby => Sys2Proof.Machine.execCancelStandby s
  | .standbyQuiesced => Sys2Proof.Machine.execStandbyQuiesced s
  | .standbyAxesStill => Sys2Proof.Machine.execStandbyAxesStill s
  | .wakePin => Sys2Proof.Machine.execWakePin s
  | .rtcAlarm => Sys2Proof.Machine.execRtcAlarm s
  | .aonXtalSearchEnd => Sys2Proof.Machine.execAonXtalSearchEnd s
  | .aonXtalLost => Sys2Proof.Machine.execAonXtalLost s
  | .rtcHiWrite val => Sys2Proof.Machine.execRtcHiWrite val s
  | .rtcCommit => Sys2Proof.Machine.execRtcCommit s
  | .spreadRampDone => Sys2Proof.Machine.execSpreadRampDone s
  | .retUserWrite ix val => Sys2Proof.Machine.execRetUserWrite ix val s
  | .coreOnDemandStart => Sys2Proof.Machine.execCoreOnDemandStart s
  | .coreOnDemandStop => Sys2Proof.Machine.execCoreOnDemandStop s
  | .mgtRestart => Sys2Proof.Machine.execMgtRestart s
  | .mgtWatchdog => Sys2Proof.Machine.execMgtWatchdog s
  | .mgtRestartDone a b => Sys2Proof.Machine.execMgtRestartDone a b s
  | .diagDump => Sys2Proof.Machine.execDiagDump s
  | .mgtMonitorTick vm10mV package10mW rail0 rail1 rail2 rail3 supplies => Sys2Proof.Machine.execMgtMonitorTick vm10mV package10mW rail0 rail1 rail2 rail3 supplies s
  | .logRecordWrite ok => Sys2Proof.Machine.execLogRecordWrite ok s
  | .updOpen kolto => Sys2Proof.Machine.execUpdOpen kolto s
  | .updEraseDone ok => Sys2Proof.Machine.execUpdEraseDone ok s
  | .updPageProgrammed ok errs => Sys2Proof.Machine.execUpdPageProgrammed ok errs s
  | .updVerifyDone image errs => Sys2Proof.Machine.execUpdVerifyDone image errs s
  | .updAbort => Sys2Proof.Machine.execUpdAbort s
  | .updActivate => Sys2Proof.Machine.execUpdActivate s
  | .updInvalidate kolto slotB => Sys2Proof.Machine.execUpdInvalidate kolto slotB s
  | .updReload kolto => Sys2Proof.Machine.execUpdReload kolto s
  | .fwActivationTimeout => Sys2Proof.Machine.execFwActivationTimeout s
  | .headWrite => Sys2Proof.Machine.execHeadWrite s
  | .userRead => Sys2Proof.Machine.execUserRead s
  | .recoveryChunk verified => Sys2Proof.Machine.execRecoveryChunk verified s
  | .smbusReadWord addr code extra pec => Sys2Proof.Machine.execSmbusReadWord addr code extra pec s
  | .smbusBlockRead addr code extra pec => Sys2Proof.Machine.execSmbusBlockRead addr code extra pec s
  | .uartRequest => Sys2Proof.Machine.execUartRequest s
  | .msiHoldoffEnd v => Sys2Proof.Machine.execMsiHoldoffEnd v s
  | .msixUnmask v => Sys2Proof.Machine.execMsixUnmask v s
  | .lastingClear bits => Sys2Proof.Machine.execLastingClear bits s
  | .evtTest => Sys2Proof.Machine.execEvtTest s
  | .evtCntClr => Sys2Proof.Machine.execEvtCntClr s
  | .aerCorrectableError bit => Sys2Proof.Machine.execAerCorrectableError bit s
  | .passWatchdog x => Sys2Proof.Machine.execPassWatchdog x s
  | .koltoReloadDone image => Sys2Proof.Machine.execKoltoReloadDone image s
  | .auxDataConsumed n errs => Sys2Proof.Machine.execAuxDataConsumed n errs s
  | .i2cTimeout n phase => Sys2Proof.Machine.execI2cTimeout n phase s

end Sys2Proof.Machine
end

