-- ==== Sys2Proof/Safety.lean ====
section
/-! DEFINITION. What claims call a sound state and a completed step. -/

namespace Sys2Proof.Machine

/-- The brake is held by at most one engine (R294). -/
def State.brakeOk (s : State) : Bool := !(s.sup.brakeA && s.sup.brakeB)

/-- A sound state: the pond's cells are in their canonical form, and at most one engine holds the brake. -/
def State.Inv (s : State) : Prop := Memory.wf s.pond.mem = true ∧ s.brakeOk = true

/-- A channel apart from the read requests it has issued: which of them go out in a command's clock depends on what every channel owes (R73). -/
def Dma.unasked (d : Dma) : Dma := { d with reqs := [], nextReq := 0, cur := d.cur.map fun c => { c with asked := 0 } }

/-- The thermal block apart from the flash window, which an image that comes into force narrows (R447). -/
def Thm.unwindowed (t : Thm) : Thm := { t with flashLow := 0, flashHigh := 0 }

/-- The captured halves apart from those of the fault registers, which a first record of the FIFO replaces (R340). -/
def Captures.unfaulted (c : Captures) : Captures := { c with faultDoc := 0, faultTag := 0, faultLine := 0 }

/-- The outcome is a next state. -/
def completes : Host.Outcome State Fault Refusal → Bool
  | .next _ => true
  | .fault _ => false
  | .refused _ => false

end Sys2Proof.Machine
end

