-- ==== Sys2Proof/Certificates/Slice0/Obligations.lean ====
section
/-! DEFINITION. The statements about the model: for every family of commands what a command of it does, and what holds of every step.
`settle s u` is what follows in its own clock from a command that leads from `s` to `u` (Machine/Settle.lean); `SettleFrame` says what that
leaves alone. -/

open Sys2Proof Machine

/-! ## The queue and what every command does -/

/-- A step carries out the command in front of the queue with the rest of the queue in place. -/
def Obligations.StepRunsFront : Prop :=
  ∀ (c : Instr) (rest : List Instr) (s : State), step { s with pending := c :: rest } = exec c { s with pending := rest }

/-- With an empty queue one clock of FIRE passes and nothing else happens: the model's choice (log entry 1). A step takes exactly the
front of the queue. -/
def Obligations.QueueSteps : Prop :=
  (∀ s : State, s.pending = [] → step s = .next { s with now := s.now + 16 }) ∧
  (∀ s t : State, step s = .next t → t.pending = s.pending.tail)

/-- Every command completes, whatever the state: none ends in a fault or a refusal. -/
def Obligations.EveryCommandCompletes : Prop := ∀ (c : Instr) (s : State), ∃ t, exec c s = .next t

/-- No command adds to, removes from or reorders the queue. -/
def Obligations.CommandsKeepQueue : Prop := ∀ (c : Instr) (s t : State), exec c s = .next t → t.pending = s.pending

/-- The state after reset is sound. (R117, R295) -/
def Obligations.ResetSound : Prop :=
 State.reset.Inv

/-- Every step keeps a sound state sound: the pond's cells stay in canonical form, and the brake is never held by both engines. (R117,
R295) -/
def Obligations.StepKeepsSound : Prop := ∀ s t : State, s.Inv → step s = .next t → t.Inv

/-- What follows a command in its own clock leaves alone: the queue, the time, the free values read, the encoder inputs and the loops, the
profiles, the DMA channels apart from the read requests that they issue, the thermal block apart from the flash window, the fuses, the
captured halves but those of the fault registers, the pond's bytes, the count of ignored writes, SCRATCH, the MSI-X table and the class settings, and what the host link and the power block gate on.
(R465, R32, R335, R365) -/
def Obligations.SettleFrame : Prop :=
  ∀ s0 s : State, let t := settle s0 s
    t.pending = s.pending ∧ t.now = s.now ∧ t.free = s.free ∧ t.enc = s.enc ∧ t.ftl = s.ftl ∧ t.prof = s.prof ∧
    t.dma.map Dma.unasked = s.dma.map Dma.unasked ∧
    t.thm.unwindowed = s.thm.unwindowed ∧ t.otp = s.otp ∧ t.cap.unfaulted = s.cap.unfaulted ∧ t.pond.mem = s.pond.mem ∧
    t.top.ignored = s.top.ignored ∧ t.top.scratch = s.top.scratch ∧ t.evt.table = s.evt.table ∧ t.evt.cfg = s.evt.cfg ∧ t.link.cfgReady = s.link.cfgReady ∧
    t.link.d3hot = s.link.d3hot ∧ t.pwr.released = s.pwr.released ∧ t.pwr.cfg = s.pwr.cfg

/-! ## Registers and the host link -/

/-- A BAR0 write of a 32-bit word reaches the register at its offset; a 64-bit write is two 32-bit writes, the lower address first; a word
without all four of its byte enables is not written, so that a write that begins inside a word and has 32 bits writes nothing. SCRATCH
takes the word written, and nothing else that `settle` leaves alone changes. Writes on the other buses: a BAR2 write of the low half of a
channel's doorbell, alone or with the high half, is that channel's doorbell, and so is the second word of an access that begins in the
high half before it; the high half alone, a part of the low half and an offset from 0x0A0 up are discarded; BAR4 writes set the words of
the MSI-X table, each in its own entry; a transport-port write reaches the port's register, as one of SCRATCH does in every state but
OFF, STANDBY, SLEEP, BOOT and RESET_HOLD. The access types, each through a write of a whole word: the bits of W1C registers that are
written 1 clear and the others stay; a W1S bit acts when it is written 1 and not when it is written 0; RO registers and offsets without a
block take no effect and are not counted; RWG fields are ignored and counted while a document is in progress, whatever is written, and
RWL fields while their lock bit is set; an access that reaches several ignored fields counts once. (R2, R3, R5, R8, R9, R13, R15, R16,
R88, R467) -/
def Obligations.RegisterWrites : Prop :=
  (∀ (off : Nat) (val : DWord) (be : BitVec 8) (s : State), s.link.cfgReady = true →
     exec (.registerWrite .bar0 off val be) s = .next (settle s (writeAccess writeWord off val be (touchLink s))) ∧
     (off % 4 = 0 → be = 0x0F →
       exec (.registerWrite .bar0 off val be) s = .next (settle s (writeWord off (val.setWidth 32) (touchLink s)))) ∧
     (off % 4 = 0 → be = 0xFF → exec (.registerWrite .bar0 off val be) s =
       .next (settle s (writeWord (off + 4) ((val >>> 32).setWidth 32) (writeWord off (val.setWidth 32) (touchLink s))))) ∧
     (off % 4 = 0 → be.setWidth 4 ≠ (15 : BitVec 4) → (be >>> 4).setWidth 4 ≠ (15 : BitVec 4) →
       exec (.registerWrite .bar0 off val be) s = .next (settle s (touchLink s))) ∧
     (off % 4 ≠ 0 → be = 0x0F → exec (.registerWrite .bar0 off val be) s = .next (settle s (touchLink s)))) ∧
  (∀ (v : Word) (s : State), s.link.cfgReady = true →
     ∃ t, exec (.registerWrite .bar0 0x18 (v.setWidth 64) 0x0F) s = .next t ∧ t.top.scratch = v ∧ t.top.ignored = s.top.ignored ∧
       t.dma.map Dma.unasked = s.dma.map Dma.unasked ∧ t.ftl = s.ftl ∧ t.enc = s.enc ∧ t.otp = s.otp ∧
       t.thm.unwindowed = s.thm.unwindowed ∧ t.cap.unfaulted = s.cap.unfaulted ∧ t.pond.mem = s.pond.mem) ∧
  (∀ (val : DWord) (s : State),
     (s.link.cfgReady = true →
       (∀ ch : Chan, exec (.registerWrite .bar2 (8 * ch.val) val 0x0F) s = exec (.doorbell ch val true false) s ∧
         exec (.registerWrite .bar2 (8 * ch.val) val 0xFF) s = exec (.doorbell ch val true true) s) ∧
       (∀ (ch : Chan) (be : BitVec 8), 0 < ch.val → (be >>> 4).setWidth 4 = (15 : BitVec 4) →
         exec (.registerWrite .bar2 (8 * ch.val - 4) val be) s = exec (.doorbell ch (val >>> 32) true false) s) ∧
       (∀ (off : Nat) (be : BitVec 8), off % 8 ≠ 4 → be.setWidth 4 ≠ (15 : BitVec 4) →
         exec (.registerWrite .bar2 off val be) s = .next (settle s (touchLink s))) ∧
       (∀ (off : Nat) (be : BitVec 8), off % 8 ≠ 0 → ((be : BitVec 8) >>> 4).setWidth 4 ≠ (15 : BitVec 4) →
         exec (.registerWrite .bar2 off val be) s = .next (settle s (touchLink s))) ∧
       (∀ off be, 0xA0 ≤ off → exec (.registerWrite .bar2 off val be) s = .next (settle s (touchLink s))) ∧
       (∀ v : Fin 128, ∃ t, exec (.registerWrite .bar4 (16 * v.val) val 0x0F) s = .next t ∧ t.evt.table[v].addrLo = val.setWidth 32 ∧
         (∀ u : Fin 128, u ≠ v → t.evt.table[u] = s.evt.table[u]) ∧ t.top.scratch = s.top.scratch ∧ t.ftl = s.ftl) ∧
       (∀ v : Fin 128, ∃ t, exec (.registerWrite .bar4 (16 * v.val + 4) val 0x0F) s = .next t ∧ t.evt.table[v].addrHi = val.setWidth 32 ∧
         (∀ u : Fin 128, u ≠ v → t.evt.table[u] = s.evt.table[u]) ∧ t.top.scratch = s.top.scratch ∧ t.ftl = s.ftl) ∧
       (∀ v : Fin 128, ∃ t, exec (.registerWrite .bar4 (16 * v.val + 8) val 0x0F) s = .next t ∧ t.evt.table[v].data = val.setWidth 32 ∧
         (∀ u : Fin 128, u ≠ v → t.evt.table[u] = s.evt.table[u]) ∧ t.top.scratch = s.top.scratch ∧ t.ftl = s.ftl) ∧
       (∀ v : Fin 128, ∃ t, exec (.registerWrite .bar4 (16 * v.val + 12) val 0x0F) s = .next t ∧
         t.evt.table[v].masked = val.getLsbD 0 ∧
         (∀ u : Fin 128, u ≠ v → t.evt.table[u] = s.evt.table[u]) ∧ t.top.scratch = s.top.scratch ∧ t.ftl = s.ftl)) ∧
     (s.pwr.released = true → ∀ off be,
       exec (.registerWrite .tp off val be) s = .next (settle s (writePort off (val.setWidth 16) s)) ∧
       (notReady s.top.state = false →
         exec (.registerWrite .tp 7 val be) s = .next (settle s { s with tpt := { s.tpt with scratch := val.setWidth 16 } })))) ∧
  (∀ (w : Word) (s : State), s.link.cfgReady = true →
     let u := touchLink s
     let wr (off : Nat) : Host.Outcome State Fault Refusal := exec (.registerWrite .bar0 off (w.setWidth 64) 0x0F) s
     (∀ g : Fin 4, wr (0x1010 + 4 * g.val) =
       .next (settle s { u with evt := { s.evt with pend := s.evt.pend &&& ~~~(w.setWidth 128 <<< (32 * g.val)) } })) ∧
     wr 0x2008 = .next (settle s { u with pwr := { s.pwr with err := s.pwr.err &&& ~~~w } }) ∧
     wr 0x3008 = .next (settle s { u with thm := { s.thm with err := s.thm.err &&& ~~~w } }) ∧
     (∀ ch : Chan, wr (0x8034 + 0x100 * ch.val) =
       .next (settle s (setDma ch { s.dma[ch] with err := s.dma[ch].err &&& ~~~w } u))) ∧
     (w.getLsbD 1 = false → wr 0x1000 = .next (settle s (if w.getLsbD 0 then raise Src.evtTest u else u))) ∧
     (∀ off, off < 0x14 ∨ (0x7000 ≤ off ∧ off < 0x73C0) ∨ (0x9400 ≤ off ∧ off < 0xA000) ∨ (0xD000 ≤ off ∧ off < 0xE000) ∨ 0x30000 ≤ off →
       wr off = .next (settle s u)) ∧
     (docInProgress s = true → wr 0x200C = .next (settle s (countIgnored u)) ∧ wr 0x3018 = .next (settle s (countIgnored u)) ∧
       wr 0x400C = .next (settle s (countIgnored u)) ∧ wr 0xA020 = .next (settle s (countIgnored u)) ∧
       (countIgnored u).top.ignored = satInc s.top.ignored) ∧
     (docInProgress s = false → wr 0x3018 = .next (settle s { u with thm := { s.thm with modelCfg := newModelCfg s.thm.modelCfg w } }) ∧
       wr 0x400C = .next (settle s { u with cal := { s.cal with cfg := newCalCfg s.cal.cfg w } })) ∧
     (∀ ch : Chan,
       (s.dma[ch].enable = false →
         wr (0x8008 + 0x100 * ch.val) = .next (settle s (setDma ch { s.dma[ch] with ringLo := w &&& 0xFFFFFFE0 } u)) ∧
         wr (0x800C + 0x100 * ch.val) = .next (settle s (setDma ch { s.dma[ch] with ringHi := w } u))) ∧
       (s.dma[ch].enable = true →
         wr (0x8008 + 0x100 * ch.val) = .next (settle s (countIgnored u)) ∧
         wr (0x800C + 0x100 * ch.val) = .next (settle s (countIgnored u)) ∧
         (w &&& 0x1F = 0 → wr (0x8000 + 0x100 * ch.val) = .next (settle s (countIgnored u))))))

/-- The count of ignored writes is cleared by its own command; a count in the same clock leaves it at 1. (R29) -/
def Obligations.IgnoredWritesClear : Prop :=
  ∀ (same : Bool) (s : State), s.link.cfgReady = true →
    ∃ t, exec (.ignoredWritesClr same) s = .next t ∧ t.top.ignored = (if same then 1 else 0) ∧ t.top.scratch = s.top.scratch ∧
      t.dma.map Dma.unasked = s.dma.map Dma.unasked ∧ t.ftl = s.ftl ∧ t.otp = s.otp ∧ t.pond.mem = s.pond.mem

/-- While a document is in progress, each of these writes is ignored and counted once, and has no other effect. (R2, R5) -/
def Obligations.GuardedWritesIgnored : Prop :=
  ∀ s : State, s.link.cfgReady = true → docInProgress s = true →
    let ign : Host.Outcome State Fault Refusal := .next (settle s (countIgnored (touchLink s)))
    (∀ p v, exec (.partUnitsWrite p v) s = ign) ∧ (∀ v, exec (.auxUnitsWrite v) s = ign) ∧
    (∀ x v, exec (.ftlEnableWrite x v) s = ign) ∧ (∀ x v, exec (.ratioDenWrite x v) s = ign) ∧
    (∀ x v, exec (.encCfgWrite x v) s = ign) ∧ (∀ x v, exec (.loopCfgWrite x v) s = ign) ∧
    (∀ p v, exec (.hpEnableWrite p v) s = ign) ∧ (∀ p v, exec (.hpPwrOffWrite p v) s = ign) ∧
    (∀ i v, exec (.vtabWrite i v) s = ign) ∧ (∀ p v, exec (.senseCfgWrite p v) s = ign) ∧
    (∀ p n, exec (.mapAddHost p n) s = ign) ∧ (∀ p n, exec (.mapFreeNozzle p n) s = ign) ∧
    (∀ p, exec (.mapFreeEchoContact p) s = ign) ∧ (∀ p, exec (.mapFreeNonFactory p) s = ign) ∧
    (∀ p v, exec (.csCfgWrite p v) s = ign) ∧
    (∀ x, loopInUse x s = true → exec (.ftlReset x) s = ign) ∧ (∀ p, portInDoc p s = true → exec (.headReread p) s = ign)

/-- Before configuration readiness the host's commands change nothing; while the dies are held in reset, what happens inside them does not
happen. (R77, R78, R421, R441) -/
def Obligations.GatesHold : Prop :=
  ∀ s : State,
    (s.link.cfgReady = false →
      (∀ off val be, exec (.registerWrite .bar0 off val be) s = .next (settle s s)) ∧
      (∀ off val be, exec (.registerWrite .bar2 off val be) s = .next (settle s s)) ∧
      (∀ off val be, exec (.registerWrite .bar4 off val be) s = .next (settle s s)) ∧
      (∀ ch val lo hi, exec (.doorbell ch val lo hi) s = .next (settle s s)) ∧
      (∀ ch, exec (.dmaKill ch) s = .next (settle s s)) ∧ (∀ w, exec (.otpProgram w) s = .next (settle s s)) ∧
      exec .sleepRequest s = .next (settle s s)) ∧
    (s.pwr.released = false →
      (∀ off val be, exec (.registerWrite .tp off val be) s = .next (settle s s)) ∧
      (∀ p b, exec (.docOpen p b) s = .next (settle s s)) ∧
      (∀ inp a b dt na nb, exec (.encEdge inp a b dt na nb) s = .next (settle s s)) ∧
      (∀ x, exec (.enginePassStart x) s = .next (settle s s)) ∧ (∀ n v, exec (.headTempConversion n v) s = .next (settle s s)) ∧
      exec .stop s = .next (settle s s))

/-- A read of a LO half captures the HI half at that instant, and changes no other capture and none of the values read; the HI register
then reads the captured half. Register reads: an offset that no block decodes reads 0; a read of any width that lies in a word gives the
bytes of that word, and a read of two words reads the lower one first; a WO register reads 0, a register that is written 1 to clear its
current value; the doorbells read 0; the TPT window shows the transport-port registers in bits 15:0, and the port gives a whole word per
access, in SLEEP the value that the register had as SLEEP was entered. The link's commands: a configuration request is answered with Configuration Request Retry Status before configuration readiness and completed after
it, a read with the word at its offset and a write with the register set; 64 µs after the last traffic L1 is entered with no document in
progress and no work pending; D3hot and D0 with PWR.CFG.D3_SLEEP 0; the link state is taken over and reported when it changes; an AER
correctable error sets its status bit and counts in its class. (R3, R8, R9, R10, R15, R73, R77, R80, R81, R88, R105, R116, R194, R259, R323, R327, R432,
R474) -/
def Obligations.LinkAndCaptures : Prop :=
  (∀ s : State,
     (s.link.cfgReady = true →
       (∀ x : LoopId, ∃ t, exec (.captureReadLo (.pos x)) s = .next t ∧ t.cap.pos[loopIx x] = hiOf (posShown x s) ∧
         t.cap.unfaulted = Captures.unfaulted { s.cap with pos := t.cap.pos } ∧ t.ftl = s.ftl) ∧
       (∀ x : LoopId, ∃ t, exec (.captureReadLo (.hwm x)) s = .next t ∧ t.cap.hwm[loopIx x] = hiOf (markShown x s) ∧
         t.cap.unfaulted = Captures.unfaulted { s.cap with hwm := t.cap.hwm } ∧ t.ftl = s.ftl) ∧
       (∀ x : LoopId, ∃ t, exec (.captureReadLo (.trig0 x)) s = .next t ∧ t.cap.trig0[loopIx x] = hiOf (trigShown 0 (loopOf x s)) ∧
         t.cap.unfaulted = Captures.unfaulted { s.cap with trig0 := t.cap.trig0 } ∧ t.ftl = s.ftl) ∧
       (∀ x : LoopId, ∃ t, exec (.captureReadLo (.trig1 x)) s = .next t ∧ t.cap.trig1[loopIx x] = hiOf (trigShown 1 (loopOf x s)) ∧
         t.cap.unfaulted = Captures.unfaulted { s.cap with trig1 := t.cap.trig1 } ∧ t.ftl = s.ftl) ∧
       (∀ n : Port, ∃ t, exec (.captureReadLo (.fires n)) s = .next t ∧ t.cap.fires[n] = hiOf s.hp[n].fires ∧
         t.cap.unfaulted = Captures.unfaulted { s.cap with fires := t.cap.fires }) ∧
       (∃ t, exec (.captureReadLo .lastTime) s = .next t ∧
         t.cap.unfaulted = Captures.unfaulted { s.cap with lastTime := hiOf s.cal.lastTime }) ∧
       (∃ t, exec (.captureReadLo .rtc) s = .next t ∧ t.cap.unfaulted = Captures.unfaulted { s.cap with rtc := hiOf (rtcNow s) })) ∧
     (s.pwr.released = true →
       let cap (r : LoReg) (c : Captures) : Prop := exec (.captureReadLo r) s = .next (settle s { s with cap := c })
       (∀ r rest, s.tpt.fifo = r :: rest → cap .faultDoc { s.cap with faultDoc := (r.docId >>> 16).setWidth 16 } ∧
         cap .faultTag { s.cap with faultTag := (r.tag >>> 16).setWidth 16 } ∧
         cap .faultLine { s.cap with faultLine := (r.line >>> 16).setWidth 16 }) ∧
       cap .trig0Doc { s.cap with trig0Doc := (s.tpt.trigDoc[0] >>> 16).setWidth 16 } ∧
       cap .trig1Doc { s.cap with trig1Doc := (s.tpt.trigDoc[1] >>> 16).setWidth 16 } ∧
       (∀ d, holdDoc s = some d → cap .holdDoc { s.cap with holdDoc := (d.id >>> 16).setWidth 16 }) ∧
       cap .lastDone { s.cap with lastDone := (s.tpt.lastDone >>> 16).setWidth 16 })) ∧
  (∀ s : State,
     (∀ off, (0xD000 ≤ off ∧ off < 0xE000) ∨ 0x30000 ≤ off → readWord off s = 0) ∧
     (∀ off k n, off % 4 = 0 → 0 < n → k + n ≤ 4 →
       readAccess .bar0 (off + k) n s = (((toLe 4 (readWord off s).toNat).drop k).take n, afterRead off s)) ∧
     (∀ off, off % 4 = 0 → readAccess .bar0 off 8 s =
       (toLe 4 (readWord off s).toNat ++ toLe 4 (readWord (off + 4) (afterRead off s)).toNat, afterRead (off + 4) (afterRead off s))) ∧
     (∀ off n, readAccess .bar2 off n s = (List.replicate n 0, s)) ∧
     readWord 0x14 s = 0 ∧ readWord 0x18 s = s.top.scratch ∧ readWord 0x2008 s = s.pwr.err ∧ readWord 0x3008 s = s.thm.err ∧
     readWord 0x200C s = s.pwr.cfg ∧
     (∀ ch : Chan, readWord (0x8034 + 0x100 * ch.val) s = s.dma[ch].err ∧ readWord (0x8018 + 0x100 * ch.val) s = (tailShown s.dma[ch]).setWidth 32) ∧
     (∀ a : Fin 256, readWord (0x7000 + 4 * a.val) s = (readPort a.val s).setWidth 32) ∧
     (∀ a n, portOpen s = true → (readAccess .tp a n s).1 = toLe 2 (readPort a s).toNat) ∧
     (∀ a, s.pwr.readySeen = true → tpAlways a s = none →
       readPort a s = if s.top.state = .sleep ∧ tpOwn a = false then s.tpt.sleepRegs.getD a 0 else (tpOther a s).getD 0) ∧
     afterRead 0xC020 s = captureRead (.pos .a) s ∧ readWord 0xC024 (captureRead (.pos .a) s) = hiOf (posShown .a s) ∧
     afterRead 0xC820 s = captureRead (.pos .b) s ∧ readWord 0xC824 (captureRead (.pos .b) s) = hiOf (posShown .b s)) ∧
  (∀ s : State,
     (∀ w off v, s.pwr.released = true → s.link.cfgReady = false →
       exec (.configRequest w off v) s = .next (settle s (reply [1] (touchLink s)))) ∧
     (∀ off v, s.pwr.released = true → s.link.cfgReady = true →
       exec (.configRequest false off v) s = .next (settle s (reply (0 :: toLe 4 (cfgWord off (touchLink s)).toNat) (touchLink s)))) ∧
     (∀ off v, s.pwr.released = true → s.link.cfgReady = true →
       exec (.configRequest true off v) s = .next (settle s (reply [0] (cfgWrite off v (touchLink s)))) ∧
       (cfgWrite 4 v s).link.busMaster = v.getLsbD 2) ∧
     (s.pwr.released = true → docInProgress s = false → workPending s = false →
       exec .l1Entry s = .next (settle s
         { s with now := max s.now (s.link.traffic + 512000), link := { s.link with l1 := true } })) ∧
     (s.link.cfgReady = true → s.pwr.cfg.getLsbD 0 = false → ∃ t, exec .d3hotEntry s = .next t ∧ t.link.d3hot = true ∧
       (∀ ch : Chan, works s.dma[ch] = true → t.dma[ch].state = .killed)) ∧
     (s.link.cfgReady = true → s.pwr.cfg.getLsbD 0 = false →
       ∃ t, exec .d0Return s = .next t ∧ t.link.d3hot = false ∧ t.dma.map Dma.unasked = s.dma.map Dma.unasked) ∧
     (∀ sp w : BitVec 4, ∀ dl rev : Bool, s.pwr.released = true →
       (sp ≠ s.link.speed ∨ w ≠ s.link.width ∨ dl ≠ s.link.dlActive → exec (.linkStateChange sp w dl rev) s =
         .next (settle s (raise Src.linkChange { s with link := { s.link with speed := sp, width := w, dlActive := dl, reversed := rev } }))) ∧
       (sp = s.link.speed → w = s.link.width → dl = s.link.dlActive → exec (.linkStateChange sp w dl rev) s =
         .next (settle s { s with link := { s.link with reversed := rev } }))) ∧
     (∀ b : Fin 16, s.pwr.released = true → exec (.aerCorrectableError b) s = .next (settle s (touchLink (reportCorrectable b.val s))) ∧
       (reportCorrectable b.val s).link.aer.corStatus.getLsbD b.val = true))

/-! ## DMA channels and packets -/

/-- A doorbell: a write of the high half alone is discarded; before READY the value is latched; in SLEEP with PWR.CFG bit 12 it also wakes
the device; a killed or resetting channel discards it; a value that R89 does not admit is ignored and sets DB_BAD; an admitted one becomes
TAIL, of a running channel as of a stopped one, and changes nothing else of the channels. With PWR.CFG bit 12 the clock of a wake source
is noted, for a SLEEP command of the same clock. (R79, R88, R89, R90, R424, R426) -/
def Obligations.Doorbells : Prop :=
  ∀ (ch : Chan) (val : DWord) (hi : Bool) (s : State), s.link.cfgReady = true →
    let d := s.dma[ch]
    let v := bellValue val hi
    let n := max 1 d.entries.toNat
    (badBell d v = false ↔ v >>> 16 = 0 ∧ (v.setWidth 16).toNat < n ∧
      inFlight d ≤ ((v.setWidth 16).toNat + n - d.head.toNat % n) % n) ∧
    let woken (u : State) : State := if s.pwr.cfg.getLsbD 12 then { u with pwr := { u.pwr with wakeSeen := some u.now } } else u
    exec (.doorbell ch val false hi) s = .next (settle s s) ∧
    (s.link.readyGate = true → s.top.state ≠ .sleep →
      ∃ t, exec (.doorbell ch val true hi) s = .next t ∧
        t.dma.map Dma.unasked = (s.dma.set ch.val { d with latched := some v } ch.isLt).map Dma.unasked) ∧
    (s.link.readyGate = true → s.top.state = .sleep → s.pwr.cfg.getLsbD 12 = true →
      exec (.doorbell ch val true hi) s = .next (settle s (leaveSleep 16 (woken (setDma ch { d with latched := some v } (touchLink s)))))) ∧
    (s.link.readyGate = false → s.top.state ≠ .sleep →
      (d.state = .killed ∨ d.state = .resetting → exec (.doorbell ch val true hi) s = .next (settle s (woken (touchLink s)))) ∧
      (d.state ≠ .killed → d.state ≠ .resetting → badBell d v = true →
        exec (.doorbell ch val true hi) s = .next (settle s (woken (raise Src.dbBad (chanErr ch 0 (touchLink s)))))) ∧
      (d.state ≠ .killed → d.state ≠ .resetting → badBell d v = false →
        exec (.doorbell ch val true hi) s =
          .next (settle s (woken (chanWake ch (setDma ch { d with tail := v.setWidth 16 } (touchLink s))))) ∧
        (d.state ≠ .running ∨ hasCurrent d = true ∨ (d.stopReq = false ∧ d.ahead = none) →
          ∃ t, exec (.doorbell ch val true hi) s = .next t ∧
            t.dma.map Dma.unasked = (s.dma.set ch.val { d with tail := v.setWidth 16 } ch.isLt).map Dma.unasked)))

/-- The control bits of a channel, in every state of the channel in which each acts. A write counts once as ignored while the channel is
enabled, since it reaches fields that are then locked. A channel that stops with no descriptor current is STOPPED once no read request of
it is outstanding. (R107, R108, R109, R110, R111, R112) -/
def Obligations.ChannelControl : Prop :=
  ∀ (ch : Chan) (s : State), s.link.cfgReady = true →
    let d := s.dma[ch]
    let ign := countWhen d.enable (touchLink s)
    let bare : ChState := if (abandoned d).isEmpty then .stopped else .stopping
    (d.state = .disabled → checkerOut ch s = false →
      exec (.dmaEnable ch) s = .next (settle s (chanWake ch (setDma ch { d with enable := true, state := .running } ign))) ∧
      (hasCurrent d = false → d.ahead = none →
        (d.stopReq = true → ∃ t, exec (.dmaEnable ch) s = .next t ∧ t.dma[ch].unasked =
          Dma.unasked { d with enable := true, state := bare, dropped := abandoned d }) ∧
        (d.stopReq = false → ∃ t, exec (.dmaEnable ch) s = .next t ∧ t.dma[ch].unasked =
          Dma.unasked { d with enable := true, state := .running }))) ∧
    (d.state ≠ .disabled → exec (.dmaEnable ch) s = .next (settle s ign)) ∧
    (d.state = .running → hasCurrent d = false →
      ∃ t, exec (.dmaStopReq ch) s = .next t ∧ t.dma[ch].unasked = Dma.unasked
        { d with stopReq := true, state := bare, cur := none, ahead := none, refetching := none, dropped := abandoned d }) ∧
    (d.state = .running → hasCurrent d = true →
      ∃ t, exec (.dmaStopReq ch) s = .next t ∧ t.dma[ch].unasked = Dma.unasked { d with stopReq := true, state := .stopping }) ∧
    (d.state ≠ .running →
      ∃ t, exec (.dmaStopReq ch) s = .next t ∧ t.dma[ch].unasked = Dma.unasked { d with stopReq := true }) ∧
    (d.state = .stopping ∨ d.state = .stopped →
      exec (.dmaResume ch) s = .next (settle s (chanWake ch (setDma ch { d with stopReq := false, state := .running } ign))) ∧
      (hasCurrent d = true ∨ d.ahead = none →
        ∃ t, exec (.dmaResume ch) s = .next t ∧ t.dma[ch].unasked = Dma.unasked { d with stopReq := false, state := .running })) ∧
    (d.state = .running ∨ d.state = .stopping ∨ d.state = .stopped ∨ d.state = .halted →
      exec (.dmaKill ch) s = .next (settle s (auxLost ch (killChan ch ign))) ∧
      (16 ≤ ch.val → ∃ t, exec (.dmaKill ch) s = .next t ∧ t.dma[ch].state = .killed ∧ t.dma[ch].code = 0x14 ∧ t.dma[ch].cur = none ∧
        t.dma[ch].ahead = none ∧ t.dma[ch].refetching = none ∧ t.dma[ch].dropped = abandoned d) ∧
      (∀ p : Port, ch = chanOf p → channelDocs p s = [] →
        ∃ t, exec (.dmaKill ch) s = .next t ∧ t.dma[ch].state = .killed ∧ t.dma[ch].code = 0x14 ∧ t.dma[ch].cur = none ∧
        t.dma[ch].ahead = none ∧ t.dma[ch].refetching = none ∧ t.dma[ch].dropped = abandoned d)) ∧
    (d.state = .disabled ∨ d.state = .killed ∨ d.state = .resetting → exec (.dmaKill ch) s = .next (settle s ign)) ∧
    (d.state = .disabled ∨ d.state = .stopped ∨ d.state = .halted ∨ d.state = .killed →
      ∃ t, exec (.dmaReset ch) s = .next t ∧ t.dma[ch].unasked = Dma.unasked { d with state := .resetting }) ∧
    (d.state = .running ∨ d.state = .stopping → exec (.dmaReset ch) s = .next (settle s (auxLost ch (resetChan ch ign))) ∧
      resetChan ch ign = resetChan ch (killChan ch ign)) ∧
    (d.state = .resetting → s.pwr.released = true →
      ∃ t, exec (.dmaResetDone ch) s = .next t ∧ t.dma[ch].unasked = Dma.unasked { d with
        state := .disabled, enable := false, stopReq := false, head := 0, tail := 0, retired := 0, errCheck := 0, errRetries := 0,
        frame := .idle, k := 0, lastDoc := 0, openDoc := 0, lineCount := 0, prevTest := false, cur := none, ahead := none,
        dropped := [], refetching := none, latched := none })

/-- RING_SIZE takes a power of two from 16 to 65,536; another value leaves it and sets RING_SIZE_BAD; on an enabled channel the write is
ignored and counted. (R87) -/
def Obligations.RingSize : Prop :=
  ∀ (ch : Chan) (val : Word) (s : State), s.link.cfgReady = true →
    let d := s.dma[ch]
    (∀ k < 13, val.toNat % 131072 = 16 * 2 ^ k → d.enable = false →
      ∃ t, exec (.ringSizeWrite ch val) s = .next t ∧ t.dma.map Dma.unasked =
        (s.dma.set ch.val { d with entries := BitVec.ofNat 17 (16 * 2 ^ k) } ch.isLt).map Dma.unasked) ∧
    ((∀ k < 13, val.toNat % 131072 ≠ 16 * 2 ^ k) → d.enable = false →
      ∃ t, exec (.ringSizeWrite ch val) s = .next t ∧
        t.dma.map Dma.unasked = (s.dma.set ch.val { d with err := setBit d.err 1 } ch.isLt).map Dma.unasked) ∧
    (d.enable = true → exec (.ringSizeWrite ch val) s = .next (settle s (countIgnored (touchLink s))))

/-- A descriptor that arrives with the completions of its read: with nothing current it becomes current and on a line channel, where it
passes the conditions of R106, begins to be read with its header; with one current it is kept as the one ahead; the second read of the
slot of R97 brings the refetched descriptor. The completions of an abandoned read are discarded. A good header keeps the first 32 bytes
and has the whole buffer requested; a header that fails is handled as a failing packet, which on the first fetch outside DISCARD is a
refetch 2 µs later. Auxiliary channels and waiting descriptors: data of a host-to-device descriptor go into the auxiliary partition and
the descriptor retires, and bytes beyond UPD_LEN end the update session; device-to-host data are posted and the descriptor retires, those
of a dump being every BAR0 block in turn and then the trace buffer; a descriptor that waited for space begins to be read, and a doc-open
that waited for a table entry opens its document once one is free or its document has one. (R96, R99, R100, R106, R125, R127) -/
def Obligations.Descriptors : Prop :=
  (∀ (ch : Chan) (id : Nat) (b : List Byte) (s : State), s.pwr.released = true →
     let d := s.dma[ch]
     (∀ r, d.reqs.find? (fun q => q.id == id && q.backoff.isNone && q.kind != .buffer) = some r → b.length = 32 →
       let d' := { d with reqs := d.reqs.filter fun q => q.id != id }
       let u := touchLink (setDma ch d' s)
       let c : CurDesc := { desc := parseDesc b, retries := r.reissues }
       (r.kind = .next → d.state = .running → hasCurrent d = false → d.ahead = none → 0 < pendingDescs d →
         exec (.descriptorArrival ch id b) s = .next (settle s (becomeCurrent ch c u)) ∧
         (∀ p : Port, ch = chanOf p → c.desc.len ≠ 0 → c.desc.flags &&& 0xF8#8 = 0 → c.desc.addr.toNat % 32 = 0 →
           c.desc.len ≤ 0xFFFFE0 → c.desc.len ≤ lineCapacity p s → c.desc.len ≤ lineFree p s →
           ∃ t, exec (.descriptorArrival ch id b) s = .next t ∧ t.dma[ch].unasked = Dma.unasked { d with cur := some { c with goal := 32 } })) ∧
       (r.kind = .next → hasCurrent d = true → d.ahead = none → inFlight d < pendingDescs d →
         ∃ t, exec (.descriptorArrival ch id b) s = .next t ∧
           t.dma[ch].unasked = Dma.unasked { d with ahead := some ⟨parseDesc b, r.reissues⟩ }) ∧
       (∀ f : Word × Word × Nat, r.kind = .slot → d.refetching = some f →
         exec (.descriptorArrival ch id b) s = .next (settle s (proceed ch (becomeCurrent ch
           { desc := parseDesc b, refetch := true, first := some (f.1, f.2.1), retries := f.2.2 + r.reissues } u))))) ∧
     (d.reqs.any (fun q => q.id == id) = false → d.dropped.contains id = true →
       exec (.descriptorArrival ch id b) s = .next (settle s (touchLink (endDropped ch id s))) ∧
       (endDropped ch id s).dma[ch].dropped = d.dropped.filter (fun i => i != id) ∧
       (endDropped ch id s).dma[ch].state = if d.state = .stopping ∧ hasCurrent d = false ∧ d.dropped.filter (fun i => i != id) = []
         then .stopped else d.state)) ∧
  (∀ (p : Port) (b : List Byte) (c : CurDesc) (s : State), s.pwr.released = true → b.length = 32 →
     s.dma[chanOf p].cur = some c → takesData s.dma[chanOf p] c = true → c.header = [] → c.asked = 32 →
     let d := s.dma[chanOf p]
     (headFails c.desc.len b = false → exec (.packetHeaderArrival p b) s = .next (settle s (setDma (chanOf p)
       { d with reqs := d.reqs.filter (fun r => r.kind == .next), cur := some { c with header := b, goal := c.desc.len } } s))) ∧
     (headFails c.desc.len b = true → exec (.packetHeaderArrival p b) s = .next (settle s (deliverPacket p b s)) ∧
       (d.frame ≠ .discard → c.refetch = false → ∃ t, exec (.packetHeaderArrival p b) s = .next t ∧
         t.dma[chanOf p].unasked.cur = some { c with asked := 0, goal := 0, refetchAt := some (s.now + 16000), first := some (crc32c (b.take 32), 0) }))) ∧
  (∀ (c : CurDesc) (s : State), s.pwr.released = true →
     (∀ b : List Byte, s.dma[(19 : Chan)].cur = some c → isH2d 19 c.desc = true → takesAux s.dma[(19 : Chan)] c = true →
       b.length = c.desc.len →
       exec (.auxDescriptorDelivered 19 b) s = .next (settle s (proceed 19 (retire 19 0 0 b (crc32c b) (storeAux 19 b s))))) ∧
     (∀ b : List Byte, s.dma[(18 : Chan)].cur = some c → takesAux s.dma[(18 : Chan)] c = true → b.length = c.desc.len →
       s.mgt.updState = .receiving → fwRuns s = true → s.mgt.received.length + b.length ≤ s.mgt.updLen.toNat →
       exec (.auxDescriptorDelivered 18 b) s = .next (settle s (proceed 18 (modMgt (fun m => { m with received := s.mgt.received ++ b })
         (retire 18 0 0 b (crc32c b) (storeAux 18 b s)))))) ∧
     (∀ b : List Byte, s.dma[(18 : Chan)].cur = some c → takesAux s.dma[(18 : Chan)] c = true → b.length = c.desc.len →
       s.mgt.updState = .receiving ∨ s.mgt.updState = .verifying → fwRuns s = true → s.mgt.updLen.toNat < s.mgt.received.length + b.length →
       exec (.auxDescriptorDelivered 18 b) s = .next (settle s (proceed 18 (failSession (modMgt (fun m => { m with
         received := s.mgt.received ++ b }) (retire 18 0 0 b (crc32c b) (storeAux 18 b s))))))) ∧
     (∀ b : List Byte, s.dma[(19 : Chan)].cur = some c → isH2d 19 c.desc = false → b ≠ [] → b.length ≤ c.desc.len →
       exec (.d2hDescriptorWritten 19 b) s = .next (settle s (proceed 19 (retire 19 (if b.length = c.desc.len then 0 else 2) 0 b (crc32c b)
         (postWrites (b.length + 1) c.desc.addr s.link.mps b s))))) ∧
     (∀ b : List Byte, s.dma[(17 : Chan)].cur = some c → fwRuns s = true → 0 < s.mgt.dumps → 0 < c.desc.len →
       let left := (dumpBytes b s).drop s.mgt.dumpPos
       let m' := if left.length ≤ c.desc.len then { s.mgt with dumps := s.mgt.dumps - 1, dumpPos := 0 }
         else { s.mgt with dumpPos := s.mgt.dumpPos + c.desc.len }
       exec (.d2hDescriptorWritten 17 b) s = .next (settle s (d2hRetire 17 c (left.take c.desc.len) { s with mgt := m' }))) ∧
     (∀ (b : List Byte) (r : LogRec), s.dma[(16 : Chan)].cur = some c → fwRuns s = true →
       ((logAfter s.mgt.logNext s.mgt).take (c.desc.len / 32)).getLast? = some r →
       exec (.d2hDescriptorWritten 16 b) s = .next (settle s (uploadLog c s)) ∧
       (uploadLog c s).mgt.logNext = if s.mgt.logFresh then s.mgt.logFrom else nextSeq r.seq) ∧
     (∀ ch : Chan, s.dma[ch].cur = some c → c.waitSpace = true → c.desc.len ≤ chanFree ch s →
       exec (.descSpaceWaitEnd ch) s = .next (settle s (beginDelivery ch c s)) ∧
       ∃ t, exec (.descSpaceWaitEnd ch) s = .next t ∧ t.dma[ch].unasked.cur =
         some { c with waitSpace := false, goal := if ch.val < 16 then 32 else c.desc.len, asked := 0 }) ∧
     (∀ (p : Port) (b : List Byte), s.dma[chanOf p].cur = some c → c.waitTable = some b → s.docs.length < 64 ∨ findDoc (pktDoc b) s ≠ none →
       let c' := { c with waitTable := none }
       let d' := { s.dma[chanOf p] with cur := some c' }
       let u := setDma (chanOf p) d' s
       exec (.docTableWaitEnd p) s = .next (settle s (deliverPacket p b u)) ∧
       (takesData d' c' = true → wholePacket d' c' b = true → c.header ++ b.drop c.header.length = b →
         (checkPacket p d' c.desc.len b).1 = true → pktType b = 2 → d'.frame = .idle → openOk p d' b u = true →
         s.docs.length < 64 → findDoc (pktDoc b) s = none →
         exec (.docTableWaitEnd p) s = .next (settle s (retirePacket p (if c.refetch then 1 else 0) 0 b (checkPacket p d' c.desc.len b).2.1
           (openDoc p (pktDoc b) { u with docs := s.docs ++ [newDoc (pktDoc b) (openPayload b)] }))))))

/-- A failed read is reported through AER and issued again after 1 µs times a power of two while re-issues are left; without one the
channel halts. A completion timeout is the same event, with the bit of its own. The completion of an abandoned read is reported and
discarded. A re-issue goes out when its backoff ends, and is counted for the channel and for the descriptor it serves; a refetch waits
until 2 µs after the failure and has the ring slot at HEAD read again. (R97, R102, R103, R104) -/
def Obligations.ReadFailures : Prop :=
  (∀ (ch : Chan) (id : Nat) (e : CplError) (h : BitVec 128) (s : State), s.pwr.released = true → id < s.dma[ch].nextReq →
     let d := s.dma[ch]
     let u := touchLink (reportAer (aerBit e) (some h) s)
     let w := reportAer 14 none s
     u.link.aer.uncStatus.getLsbD (aerBit e) = true ∧ w.link.aer.uncStatus.getLsbD 14 = true ∧
     (∀ r, d.reqs.find? (fun q => q.id == id) = some r → r.backoff = none →
       let retry := { d with reqs := d.reqs.map fun q => if q.id = r.id then { q with backoff := some (s.now + 8000 * 2 ^ r.reissues) } else q }
       (r.reissues < d.retryLimit.toNat →
         exec (.readCompletionError ch id e h) s = .next (settle s (setDma ch retry u)) ∧
         exec (.completionTimeout ch id) s = .next (settle s (setDma ch retry w))) ∧
       (d.retryLimit.toNat ≤ r.reissues →
         exec (.readCompletionError ch id e h) s = .next (settle s (haltChan ch (r.kind != .buffer) u)) ∧
         exec (.completionTimeout ch id) s = .next (settle s (haltChan ch (r.kind != .buffer) w)))) ∧
     (d.reqs.find? (fun q => q.id == id) = none → d.dropped.contains id = true →
       exec (.readCompletionError ch id e h) s =
         .next (settle s (endDropped ch id u)))) ∧
  (∀ (ch : Chan) (s : State), s.pwr.released = true →
     (∀ (id : Nat) (r : ReadReq) (e : Nat), s.dma[ch].reqs.find? (fun q => q.id == id) = some r → r.backoff = some e →
       let d := s.dma[ch]
       exec (.readReissue ch id) s = .next (settle s (touchLink (setDma ch { d with
         reqs := d.reqs.map fun q => if q.id = id then { q with backoff := none, reissues := q.reissues + 1 } else q
         errRetries := satInc d.errRetries
         err := setBit d.err 2
         cur := if r.kind = .buffer then d.cur.map fun c => { c with retries := c.retries + 1 } else d.cur } (advanceTo e s)))) ∧
       (∃ t, exec (.readReissue ch id) s = .next t ∧ t.now = max s.now e ∧ t.dma[ch].errRetries = satInc d.errRetries ∧
         t.dma[ch].head = d.head ∧ t.dma[ch].state = d.state)) ∧
     (∀ (p : Port) (c : CurDesc) (e : Nat) (f : Word × Word), s.dma[chanOf p].cur = some c → works s.dma[chanOf p] = true →
       c.refetchAt = some e → c.first = some f →
       ∃ t, exec (.packetRefetch p) s = .next t ∧ t.now = max s.now e ∧ t.dma[chanOf p].unasked =
         Dma.unasked { s.dma[chanOf p] with cur := none, refetching := some (f.1, f.2, c.retries) }))

/-- A packet whose check passes is routed by its type and the channel's framing, and its descriptor retires: a doc-open, a line, a test
line, a doc-close and a filler each on its own command; a packet of a type that another row stands for leaves the command nothing to act
on (the model's reading, log entry 44), and one of no defined type is handled with the lines. What routing does
with a packet that passed its check (R45): a filler that names the framing's document and line changes nothing; a line that fits the open
document is taken; the doc-close of the document returns the channel to IDLE; in DISCARD a packet is discarded; a packet that the framing
does not expect is a breach. A first check failure keeps the descriptor and orders a refetch 2 µs later, on the command of each packet
type. What each packet does that has arrived whole and passed its check. The doc-open of a new document, and the one by which a further
channel opens it, open the document on the channel; a line or a test line that fits the open document is taken as line k; a test line
outside a document in MAINT is queued as spits; the doc-close of the document returns the channel to IDLE; a filler changes no framing.
Each retires its descriptor with status OK, or OK_REFETCH when it is the second fetch. A doc-open that finds the table full waits. The
framing and the counters of a channel after a packet that is taken, with no descriptor ahead: HEAD and RETIRED advance; a doc-open leaves
OPEN with its document and k 0, a line OPEN with the next k or ENDED after the last line, a doc-close IDLE, and a filler the framing it
found. (R45, R46, R62, R63, R64, R66, R68, R97, R126) -/
def Obligations.Packets : Prop :=
  (∀ (p : Port) (b : List Byte) (c : CurDesc) (st : Nat) (s u : State), s.pwr.released = true →
     let d := s.dma[chanOf p]
     let k := checkPacket p d c.desc.len b
     d.cur = some c → takesData d c = true → wholePacket d c b = true → c.header ++ b.drop c.header.length = b → k.1 = true →
     routePacket p b s = some (st, u) →
     let done : Host.Outcome State Fault Refusal := .next (settle s (retirePacket p (if st = 0 && c.refetch then 1 else st) 0 b k.2.1 u))
     (pktType b = 1 → exec (.linePacket p b) s = done) ∧ (pktType b = 2 → exec (.docOpen p b) s = done) ∧
     (pktType b = 3 → exec (.docClose p b) s = done) ∧ (pktType b = 4 → exec (.filler p b) s = done) ∧
     (pktType b = 5 → exec (.testLine p b) s = done)) ∧
  (∀ (p : Port) (b : List Byte) (s : State),
     let idle : Host.Outcome State Fault Refusal := .next (settle s s)
     (pktType b ≠ 2 → exec (.docOpen p b) s = idle) ∧ (pktType b ≠ 3 → exec (.docClose p b) s = idle) ∧
     (pktType b ≠ 4 → exec (.filler p b) s = idle) ∧ (pktType b ≠ 5 → exec (.testLine p b) s = idle) ∧
     (pktType b = 2 ∨ pktType b = 3 ∨ pktType b = 4 ∨ pktType b = 5 → exec (.linePacket p b) s = idle) ∧
     (s.pwr.released = true → pktType b ≠ 2 → pktType b ≠ 3 → pktType b ≠ 4 → pktType b ≠ 5 →
       exec (.linePacket p b) s = .next (settle s (deliverPacket p b s)))) ∧
  (∀ (p : Port) (b : List Byte) (s : State),
     let d := s.dma[chanOf p]
     (fillerOk p d b = true → routePacket p b s = some (0, s)) ∧
     (fillerOk p d b = false → d.frame = .opened →
       routePacket p b s = some (if lineOk p d b s then (0, takeLine p b s) else breach p s)) ∧
     (fillerOk p d b = false → d.frame = .ended → pktType b = 3 → headerOk p b = true → pktTags b = 0 → pktDoc b = d.openDoc →
       pktLine b = BitVec.ofNat 32 d.lineCount → pktPlen b = 0 → routePacket p b s = some (0, frameIdle p s)) ∧
     (fillerOk p d b = false → d.frame = .discard → routePacket p b s = some (6, advanceLine p false s)) ∧
     (fillerOk p d b = false → d.frame = .idle → pktType b ≠ 2 → pktType b ≠ 5 → routePacket p b s = some (breach p s))) ∧
  (∀ (p : Port) (b : List Byte) (c : CurDesc) (s : State), s.pwr.released = true →
     let d := s.dma[chanOf p]
     let k := checkPacket p d c.desc.len b
     d.cur = some c → takesData d c = true → headFails c.desc.len b = true ∨ wholePacket d c b = true →
     c.header ++ b.drop c.header.length = b → k.1 = false → c.refetch = false → d.frame ≠ .discard →
     let refetches (cmd : Instr) := ∃ t, exec cmd s = .next t ∧
       t.dma[chanOf p].unasked.cur = some { c with asked := 0, goal := 0, refetchAt := some (s.now + 16000), first := some k.2 } ∧
       t.dma[chanOf p].head = d.head ∧ t.dma[chanOf p].retired = d.retired ∧ t.dma[chanOf p].frame = d.frame ∧ t.dma[chanOf p].k = d.k
     (pktType b = 2 → refetches (.docOpen p b)) ∧ (pktType b = 3 → refetches (.docClose p b)) ∧
     (pktType b = 4 → refetches (.filler p b)) ∧ (pktType b = 5 → refetches (.testLine p b)) ∧
     (pktType b ≠ 2 → pktType b ≠ 3 → pktType b ≠ 4 → pktType b ≠ 5 → refetches (.linePacket p b))) ∧
  (∀ (p : Port) (b : List Byte) (c : CurDesc) (s : State), s.pwr.released = true →
     let d := s.dma[chanOf p]
     let k := checkPacket p d c.desc.len b
     d.cur = some c → takesData d c = true → wholePacket d c b = true → c.header ++ b.drop c.header.length = b → k.1 = true →
     let done (u : State) : Host.Outcome State Fault Refusal := .next (settle s (retirePacket p (if c.refetch then 1 else 0) 0 b k.2.1 u))
     let id := pktDoc b
     (pktType b = 2 → d.frame = .idle → openOk p d b s = true →
       (findDoc id s = none → s.docs.length < 64 →
         exec (.docOpen p b) s = done (openDoc p id { s with docs := s.docs ++ [newDoc id (openPayload b)] })) ∧
       (∀ doc, findDoc id s = some doc → doc.barred = false → doc.admitted = false → doc.opened.getLsbD p.val = false →
         doc.payload = openPayload b → exec (.docOpen p b) s = done (openDoc p id s)) ∧
       (findDoc id s = none → 64 ≤ s.docs.length →
         exec (.docOpen p b) s = .next (settle s (setDma (chanOf p) { d with cur := some { c with waitTable := some b } } s)))) ∧
     (d.frame = .opened → lineOk p d b s = true →
       (pktType b = 1 → exec (.linePacket p b) s = done (takeLine p b s)) ∧
       (pktType b = 5 → exec (.testLine p b) s = done (takeLine p b s))) ∧
     (∀ q, pktType b = 5 → d.frame = .idle → s.top.state = .maint → spitProfile p s = some q → headerOk p b = true →
       pktTags b &&& 0xFE#8 = 0 → pktPlen b = 8 → pktDoc b = d.lastDoc → pktLine b = BitVec.allOnes 32 →
       testOk (pktPayload b) (ebBpn (energyOf q s)) (recNozzles s.hp[p].record) false = true →
       exec (.testLine p b) s = done (setTrack p { s.track[p] with
         spits := s.track[p].spits ++ [(q, pktPayload b, leNat (pktPayload b) 6 2)] } s)) ∧
     (pktType b = 3 → d.frame = .ended → headerOk p b = true → pktTags b = 0 → pktDoc b = d.openDoc →
       pktLine b = BitVec.ofNat 32 d.lineCount → pktPlen b = 0 → exec (.docClose p b) s = done (frameIdle p s)) ∧
     (pktType b = 4 → headerOk p b = true → pktTags b = 0 → pktDoc b = (expected d).1 → pktLine b = (expected d).2 →
       exec (.filler p b) s = done s)) ∧
  (∀ (p : Port) (b : List Byte) (c : CurDesc) (s : State), s.pwr.released = true →
     let d := s.dma[chanOf p]
     d.cur = some c → takesData d c = true → wholePacket d c b = true → c.header ++ b.drop c.header.length = b →
     (checkPacket p d c.desc.len b).1 = true → d.ahead = none →
     let retired (t : State) := t.dma[chanOf p].head = BitVec.ofNat 16 ((d.head.toNat + 1) % max 1 d.entries.toNat) ∧
       t.dma[chanOf p].retired = d.retired + 1 ∧ t.dma[chanOf p].code = (if c.refetch then 1 else 0) ∧ t.dma[chanOf p].cur = none
     (pktType b = 2 → d.frame = .idle → openOk p d b s = true → findDoc (pktDoc b) s = none → s.docs.length < 64 →
       ∃ t, exec (.docOpen p b) s = .next t ∧ retired t ∧ t.dma[chanOf p].frame = .opened ∧ t.dma[chanOf p].openDoc = pktDoc b ∧
         t.dma[chanOf p].lastDoc = pktDoc b ∧ t.dma[chanOf p].k = 0) ∧
     (d.frame = .opened → lineOk p d b s = true →
       (pktType b = 1 → ∃ t, exec (.linePacket p b) s = .next t ∧ retired t ∧ t.dma[chanOf p].k = d.k + 1 ∧
         t.dma[chanOf p].frame = (if d.lineCount ≤ d.k + 1 then .ended else .opened)) ∧
       (pktType b = 5 → ∃ t, exec (.testLine p b) s = .next t ∧ retired t ∧ t.dma[chanOf p].k = d.k + 1 ∧
         t.dma[chanOf p].frame = (if d.lineCount ≤ d.k + 1 then .ended else .opened))) ∧
     (pktType b = 3 → d.frame = .ended → headerOk p b = true → pktTags b = 0 → pktDoc b = d.openDoc →
       pktLine b = BitVec.ofNat 32 d.lineCount → pktPlen b = 0 →
       ∃ t, exec (.docClose p b) s = .next t ∧ retired t ∧ t.dma[chanOf p].frame = .idle ∧ t.dma[chanOf p].lastDoc = d.lastDoc) ∧
     (pktType b = 4 → headerOk p b = true → pktTags b = 0 → pktDoc b = (expected d).1 → pktLine b = (expected d).2 →
       ∃ t, exec (.filler p b) s = .next t ∧ retired t ∧ t.dma[chanOf p].frame = d.frame ∧ t.dma[chanOf p].k = d.k ∧
         t.dma[chanOf p].lastDoc = d.lastDoc))

/-! ## The mill pond -/

/-- A scrubbed row moves the pass on: the next row, or the end of the pass with its count, its time and the rows that had one-bit errors;
the words of the row that had upset bits are read through the decoder. While the scrubber does not run nothing happens. A finished copy
maps the row's address to the lowest free spare row and logs the assignment. (R120, R121, R122) -/
def Obligations.PondUpkeep : Prop :=
  (∀ (errs : Upsets) (s : State), s.pwr.released = true →
     let now' := max s.now (scrubDue s)
     (s.pond.scrubRuns = false → exec (.scrubRow errs) s = .next (settle s s)) ∧
     (s.pond.scrubRuns = true → (∀ e ∈ errs, e.1 / 128 ≠ s.pond.scrubRow) → s.pond.scrubRow + 1 < 41472 →
       exec (.scrubRow errs) s = .next (settle s { s with
         now := now', pond := { s.pond with scrubRow := s.pond.scrubRow + 1, scrubMark := now' } })) ∧
     (s.pond.scrubRuns = true → (∀ e ∈ errs, e.1 / 128 ≠ s.pond.scrubRow) → s.pond.scrubRow = 41471 →
       exec (.scrubRow errs) s = .next (settle s { s with
         now := now'
         pond := { s.pond with scrubRow := 0, scrubMark := now', passes := s.pond.passes + 1,
                               lastPassMs := satNat 16 ((now' - s.pond.passStart) / 8000000),
                               passStart := now', onePrev := s.pond.oneNow, oneNow := [] } })) ∧
     (∀ (w : Nat) (x : BitVec 79), s.pond.scrubRuns = true → s.pond.scrubRow < 40960 → spareOf s.pond.scrubRow s = none →
       w / 128 = s.pond.scrubRow →
       (popCount x = 1 → exec (.scrubRow [(w, x)]) s = .next (settle s (nextScrub
         (noteOneBit s.pond.scrubRow s.pond.scrubRow (wordCorrected w false { s with now := now' }))))) ∧
       (popCount x = 2 → exec (.scrubRow [(w, x)]) s = .next (settle s (nextScrub (wordCorrected w true { s with now := now' })))) ∧
       (popCount x = 3 → exec (.scrubRow [(w, x)]) s = .next (settle s (nextScrub (wordLost w { s with now := now' })))))) ∧
  (∀ (row : Nat) (rest : List Nat) (k : Nat) (s : State), s.pwr.released = true → s.pond.copying = row :: rest → k < 512 →
     (∀ t ∈ s.pond.spares, t.2 ≠ k) → (∀ j < k, ∃ t ∈ s.pond.spares, t.2 = j) →
     (∀ errs : Upsets,
       let u := wordErrors (errs.filter fun e => e.1 / 128 == row) s
       exec (.spareRowCopyDone errs) s = .next (settle s (pushLog 5 0 (toLe 2 row ++ toLe 2 k)
         { u with pond := { u.pond with copying := u.pond.copying.drop 1, spares := u.pond.spares ++ [(row, k)] } }))) ∧
     exec (.spareRowCopyDone []) s = .next (settle s (pushLog 5 0 (toLe 2 row ++ toLe 2 k)
       { s with pond := { s.pond with copying := rest, spares := s.pond.spares ++ [(row, k)] } })))

/-- With no document in progress, a partition takes its new size where the pond's partitions are free and all sizes still fit; otherwise
every size stays and the error is flagged. (R124) -/
def Obligations.PartitionSizes : Prop :=
  ∀ (val : Word) (s : State), s.link.cfgReady = true → docInProgress s = false →
    let bad : State := { touchLink s with pond := { s.pond with err := setBit s.pond.err 0 } }
    let free : Prop := (∀ q : Port, s.pond.ports[q].lines = []) ∧ s.pond.aux[0] = [] ∧ s.pond.aux[1] = [] ∧
      ∀ c : Chan, s.dma[c].state = .disabled ∨ s.dma[c].state = .stopped
    let total (u : State) : Nat := ((List.finRange 16).map fun q : Port => u.pond.ports[q].units.toNat).sum + u.pond.auxUnits.toNat
    (∀ p : Port,
      let u := setStore p { s.pond.ports[p] with units := val.setWidth 14, next := 0, repBuf := none } (touchLink s)
      (free → total u ≤ 10240 → exec (.partUnitsWrite p val) s = .next (settle s u)) ∧
      (¬free ∨ 10240 < total u → exec (.partUnitsWrite p val) s = .next (settle s bad))) ∧
    (let u : State := { touchLink s with pond := { s.pond with auxUnits := val.setWidth 14 } };
      (free → total u ≤ 10240 → exec (.auxUnitsWrite val) s = .next (settle s u)) ∧
      (¬free ∨ 10240 < total u → exec (.auxUnitsWrite val) s = .next (settle s bad)))

/-- The admission hold, the evaluation tick, the clear of the pond's counters, and the auxiliary bytes that the firmware has used: those
that have arrived, read through the decoder and released. What an evaluation of one offered document does: nothing while the state or an
earlier overlapping document holds it, and the admission of a document that meets every condition. The throughput of a port: the bytes of
the last 50 ms over the owed time in them, unless they hold less than 5 ms of it. (R125, R131, R132, R136, R141) -/
def Obligations.PondControls : Prop :=
  (∀ s : State,
     (s.link.cfgReady = true →
       exec (.admitHoldWrite true) s = .next (settle s { touchLink s with pond := { s.pond with admitHold := true } }) ∧
       exec (.admitHoldWrite false) s = .next (settle s (evaluateAll { touchLink s with pond := { s.pond with admitHold := false } })) ∧
       exec .pndCntClr s = .next (settle s
         { touchLink s with pond := { s.pond with ceSingle := 0, ceDouble := 0, ueCount := 0, underruns := 0 } })) ∧
     (s.pwr.released = true →
       exec .sluiceEvalTick s = .next (settle s (evaluateAll { s with now := (s.now / 800000 + 1) * 800000 }))) ∧
     (s.pwr.released = true → fwRuns s = true → ∀ n errs,
       let k := min n (segBytes s.pond.aux[1] - auxReserved 19 s.dma[(19 : Chan)])
       exec (.auxDataConsumed n errs) s = .next (settle s (freeAux 1 0 k (readAux 1 0 k errs s))) ∧
       segBytes (freeAux 1 0 k s).pond.aux[1] = segBytes s.pond.aux[1] - k)) ∧
  (∀ (d : Doc) (s : State), findDoc d.id s = some d → d.offered = true → d.admitted = false → d.barred = false → d.stream = true →
     (cond1 s ≠ 0 ∨ orderHeld d s = true → evaluateDoc s d.id = s) ∧
     (loadFantail d s = s → firstCause d s = (0, 0) → evaluateDoc s d.id = admitDoc d s) ∧
     (loadFantail d s = s → 3 ≤ (firstCause d s).1 → evaluateDoc s d.id = s)) ∧
  (∀ (p : Port) (s : State), s.pwr.released = true →
     let now' := (s.now / 8000000 + 1) * 8000000
     let m := s.pond.ports[p].meter
     let owed := m.owed + (if owesLines p s then now' - s.now else 0)
     let w := ((m.bytes, owed) :: m.window).take 50
     let o := (w.map fun t => t.2).sum
     let b := (w.map fun t => t.1).sum
     ∃ u t, exec .rateUpdateTick s = .next t ∧ t = settle { s with now := now' } u ∧ u.now = now' ∧
       u.pond.ports[p].meter = { window := w, bytes := 0, owed := 0
                                 rate := if o < 40000000 then m.rate else heldQuot (b * 8000000000) o })

/-- A byte written into the pond reads back, and every other byte is left as it was. A stored line: its bytes are the packet's, no byte
outside its address range changes, and the line is entered in the port's list. (R117, R123, R126) -/
def Obligations.PondStorage : Prop :=
  (∀ (a x : Nat) (b : Byte) (m : List Host.Cell), Memory.wf m = true →
     Memory.wf (memWrite m a b) = true ∧ memRead (memWrite m a b) x = if x = a then b else memRead m x) ∧
  (∀ (p : Port) (doc : Word) (k : Nat) (isTest : Bool) (b : List Byte) (s : State), Memory.wf s.pond.mem = true →
     b.length ≤ 32 * lineGranules p s →
     let g := s.pond.ports[p].next
     let t := storeLine p doc k isTest b s
     (∀ i < b.length, memRead t.pond.mem (storedAddr p s g i) = b.getD i 0) ∧
     (∀ a, (∀ i < b.length, storedAddr p s g i ≠ a) → memRead t.pond.mem a = memRead s.pond.mem a) ∧
     t.pond.ports[p].lines = s.pond.ports[p].lines ++ [{ doc := doc, line := k, gran := g, len := b.length, isTest := isTest }] ∧
     (∀ q, q ≠ p → t.pond.ports[q] = s.pond.ports[q]))

/-- The addresses of two ports' lines never meet, whatever the sizes of the partitions. (R123) -/
def Obligations.PartitionsDisjoint : Prop :=
  ∀ (p q : Port) (g h i j : Nat) (s : State), p ≠ q → 0 < s.pond.ports[p].units.toNat → 0 < s.pond.ports[q].units.toNat →
    storedAddr p s g i ≠ storedAddr q s h j

/-! ## The check units -/

/-- A unit that is armed with a good configuration starts at its initial value, a scan with FOLD 1 after its fold; with a bad one it is
refused and flagged; a running unit ignores it. An abort of a running unit leaves no result, and one of another unit nothing. CFG of a
unit: a write while its configuration is locked is ignored and counted; a WIDTH of 0 or above 64 keeps the field and is flagged. The count
of persistent failures is cleared, and holds 1 where one comes in the same clock. (R161, R164, R165, R167, R169) -/
def Obligations.CheckUnits : Prop :=
  (∀ (i : Fin 8) (s : State),
     let u := s.chk.units[i]
     (∀ m : Bool, (if m then s.pwr.released else s.link.cfgReady) = true →
       let s' := if m then s else touchLink s
       let start : ChkUnit := { u with
         arm := true, state := .running, ue := false, raced := s.otp.burn.isSome && unitFeed u == 0 && unitSrc u == 0x13
         clipped := false, mismatch := false, matched := false, skip := midRecord (unitSrc u) s && unitFeed u == 1
         skipCopies := if unitFeed u = 1 ∧ unitSrc u = tapCopy then midCopies s else 0
         paused := unitFeed u == 0 && s.thm.level == 64, result := 0, progress := 0, seq := u.seqStart, reg := u.init
         recsLeft := u.records.toNat }
       (u.state ≠ .running → armBad i m u = true →
         exec (.chkArm i m) s = .next (settle s (modUnit i (fun u => { u with armBad := true }) s'))) ∧
       (u.state ≠ .running → armBad i m u = false → unitFeed u ≠ 0 ∨ unitFold u ≠ 1 →
         exec (.chkArm i m) s = .next (settle s (modUnit i (fun _ => start) s'))) ∧
       (u.state ≠ .running → armBad i m u = false → unitFeed u = 0 → unitFold u = 1 →
         exec (.chkArm i m) s = .next (settle s (modUnit i (fun _ =>
           feedUnit (toLe 4 (unitSrc u) ++ toLe 4 u.length.toNat ++ toLe 8 u.start.toNat) start) s'))) ∧
       (u.state = .running → exec (.chkArm i m) s = .next (settle s s'))) ∧
     (s.link.cfgReady = true → u.state = .running → exec (.chkAbort i) s = .next (settle s (modUnit i (fun u =>
       { u with state := .aborted, arm := false, result := 0, paused := false }) (touchLink s)))) ∧
     (s.link.cfgReady = true → u.state ≠ .running → exec (.chkAbort i) s = .next (settle s (touchLink s)))) ∧
  (∀ s : State, s.link.cfgReady = true →
     (∀ (i : Fin 8) (val : Word),
       let u := s.chk.units[i]
       (unitLocked i u = true → exec (.chkWidthWrite i val) s = .next (settle s (countIgnored (touchLink s)))) ∧
       (unitLocked i u = false → 1 ≤ val.toNat % 128 → val.toNat % 128 ≤ 64 →
         exec (.chkWidthWrite i val) s = .next (settle s (modUnit i (fun u => { u with cfg := val &&& 0x00FF7FFF }) (touchLink s)))) ∧
       (unitLocked i u = false → val.toNat % 128 = 0 ∨ 64 < val.toNat % 128 →
         exec (.chkWidthWrite i val) s = .next (settle s (modUnit i (fun u => { u with
           cfg := (val &&& 0x00FF7F80) ||| (u.cfg &&& 0x7F), armBad := true }) (touchLink s))))) ∧
     (∀ same : Bool, exec (.chkPersistClr same) s =
       .next (settle s { touchLink s with chk := { s.chk with persist := if same then 1 else 0 } })))

/-- A scan ends with the final value over the bytes of its range, whatever the region, after the words it met have been through the
decoder; of the pond, with its range inside the region, the bytes are those stored there, and the result is compared where the unit
compares. A record passes a tap: a unit that does not listen there keeps its state; one that does takes its bytes, unless it was armed in
the middle of the record. A flash read is a command; the records of the other taps pass with the descriptor, packet, line or copy that
makes them, and a command that names one of those taps repeats nothing: the model's choice (log entry 69). (R151, R152, R153, R164) -/
def Obligations.CheckRuns : Prop :=
  (∀ (i : Fin 8) (ext : List Byte) (s : State), s.pwr.released = true →
     let u := s.chk.units[i]
     scanning u = true → u.paused = false →
     (∀ errs : Upsets,
       let s' := wordErrors errs s
       let b := scanBytes s'.chk.units[i] ext s'
       exec (.chkScanDone i ext errs) s = .next (settle s (finishUnit i (modUnit i (fun v =>
         feedUnit b { v with progress := BitVec.ofNat 32 b.length, ue := metLost errs s, clipped := scanClipped u s }) s')))) ∧
     (∀ lo hi : Nat, u.raced = false → scanRange u s = some (lo, hi) → scanClipped u s = false → unitDoneEvt u = true → unitCompare u = true →
       let f := feedUnit ((List.range (hi - lo)).map fun k => memRead s.pond.mem (lo + k)) u
       let r := unitResult f
       let same := r == (u.expect &&& maskOf (unitWidth u))
       let s' := modUnit i (fun _ => { f with
         progress := BitVec.ofNat 32 (hi - lo), ue := false, clipped := false, result := r, arm := false, state := .done, paused := false,
         matched := same, mismatch := !same }) s
       let v := raise Src.chkDone (if same then s' else raise Src.chkMismatch s')
       exec (.chkScanDone i ext []) s = .next (settle s v))) ∧
  (∀ (tap : BitVec 8) (b : List Byte) (s : State), s.pwr.released = true →
     (tap.toNat = tapFlash → exec (.chkSnoopRecord tap b) s = .next (settle s (snoopRecord tapFlash b s))) ∧
     (tap.toNat ≠ tapFlash → exec (.chkSnoopRecord tap b) s = .next (settle s s)) ∧
     ((∀ i : Fin 8, s.chk.units[i].state ≠ .running ∨ unitFeed s.chk.units[i] ≠ 1 ∨ unitSrc s.chk.units[i] ≠ tap.toNat) →
       snoopRecord tap.toNat b s = s) ∧
     (∀ i : Fin 8, (∀ j : Fin 8, j ≠ i → s.chk.units[j].state ≠ .running) →
       let u := s.chk.units[i]
       u.state = .running → unitFeed u = 1 → unitSrc u = tap.toNat →
       (u.skip = true → snoopRecord tap.toNat b s = modUnit i (fun u => { u with skip := false }) s) ∧
       (u.skip = false → unitFold u = 0 → u.records = 0 → snoopRecord tap.toNat b s = modUnit i (fun u => { u with
         reg := (feedUnit b u).reg, seq := u.seq + 1, progress := u.progress + BitVec.ofNat 32 b.length, recsLeft := u.recsLeft - 1 }) s)))

/-! ## The encoders and the loops -/

/-- Levels that have not stood for IN_FILTER samples are not accepted and only the time passes. Accepted ones that no enabled loop
follows, or that do not change, are taken over `dt` clocks of FIRE later and count no edge. An accepted change of one of the levels A and
B is one edge for a loop that counts, where its DECODE counts that transition; a change of both in one sample is two edges in the
direction of the edge before, and is counted as illegal; where one level has stood longer it comes first. The filters' delay is subtracted
from the time of each edge. The index input: an accepted edge that follows the counted number of edges, give or take one, or the first of
all, restarts the count; another is a miss. With IDX_EN 0 nothing is compared, and the count starts afresh. A faulty pair of a
differential input is remembered and reported; on A or B a loop that follows it loses lock, on the index pair its count starts afresh; of
a single-ended input nothing follows. When the pair is good again the present levels become the reference. (R171, R173, R174, R175, R177)
-/
def Obligations.EncoderInputs : Prop :=
  (∀ (inp : Fin 2) (a b : Bool) (dt na nb : Nat) (s : State), s.pwr.released = true →
     (na < filterOf inp s → nb < filterOf inp s →
       exec (.encEdge inp a b dt na nb) s = .next (settle s { s with now := s.now + 16 * dt })) ∧
     (filterOf inp s ≤ na → filterOf inp s ≤ nb → s.top.state ≠ .sleep →
       (∀ x, follows x inp s = false ∨ (loopOf x s).state = .off) ∨ (s.enc[inp].a = a ∧ s.enc[inp].b = b) →
       exec (.encEdge inp a b dt na nb) s = .next (settle s { s with
         now := s.now + 16 * dt, enc := s.enc.set inp.val { s.enc[inp] with a := a, b := b } inp.isLt }))) ∧
  (∀ (x : LoopId) (inp : Fin 2) (a b : Bool) (dt na nb : Nat) (s : State), s.pwr.released = true →
     follows x inp s = true → (∀ y, y ≠ x → follows y inp s = false) → countsEdges x s = true →
     let i := s.enc[inp]
     let later : State := { s with now := s.now + 16 * dt }
     let s1 : State := { later with enc := s.enc.set inp.val { i with a := a, b := b } inp.isLt }
     let t (n : Nat) : Nat := s.now + 16 * dt - 16 * n
     let cfg := (loopOf x s).encCfg
     let mode := (cfg.toNat / 16) % 4
     let inv := cfg.getLsbD 3
     (a ≠ i.a → b = i.b → filterOf inp s ≤ na → exec (.encEdge inp a b dt na nb) s = .next (settle s (wakeBy 10
       (if decodes mode true a then countEdge x ((a != b) != inv) 1 (t na) s1 else s1)))) ∧
     (a = i.a → b ≠ i.b → filterOf inp s ≤ nb → exec (.encEdge inp a b dt na nb) s = .next (settle s (wakeBy 10
       (if decodes mode false a then countEdge x ((a == b) != inv) 1 (t nb) s1 else s1)))) ∧
     (a ≠ i.a → b ≠ i.b → filterOf inp s ≤ na → na = nb →
       exec (.encEdge inp a b dt na nb) s = .next (settle s (wakeBy 10 (illegalEdge x (t na) s1)))) ∧
     (a ≠ i.a → b ≠ i.b → filterOf inp s ≤ nb → nb < na → exec (.encEdge inp a b dt na nb) s =
       .next (settle s (wakeBy 10 (inputLevels inp a b (t nb) (inputLevels inp a i.b (t na) later))))) ∧
     (a ≠ i.a → b ≠ i.b → filterOf inp s ≤ na → na < nb → exec (.encEdge inp a b dt na nb) s =
       .next (settle s (wakeBy 10 (inputLevels inp a b (t na) (inputLevels inp i.a b (t nb) later)))))) ∧
  (∀ (dt n : Nat) (s : State), s.pwr.released = true → follows .a 0 s = true → follows .b 0 s = false →
     (loopOf .a s).state ≠ .off → s.enc[0].faultI = false →
     let l := loopOf .a s
     (n < filterOf 0 s → exec (.indexEdge 0 dt n) s = .next (settle s { s with now := s.now + 16 * dt })) ∧
     (filterOf 0 s ≤ n → indexOn 0 s = true →
       l.indexRef = false ∨ (l.indexCount ≤ l.indexEdges.toNat + 1 ∧ l.indexEdges.toNat ≤ l.indexCount + 1) →
       ∃ t, exec (.indexEdge 0 dt n) s = .next t ∧ t.now = s.now + 16 * dt ∧
         t.ftl = s.ftl.set 0 { l with indexSeen := true, indexCount := 0, indexRef := true }) ∧
     (filterOf 0 s ≤ n → indexOn 0 s = true →
       l.indexRef = true → l.indexEdges.toNat + 1 < l.indexCount ∨ l.indexCount + 1 < l.indexEdges.toNat →
       ∃ t, exec (.indexEdge 0 dt n) s = .next t ∧ t.ftl = s.ftl.set 0
         { l with indexSeen := true, indexCount := 0, indexRef := true, err := setBit l.err 4, indexMiss := satInc l.indexMiss }) ∧
     (filterOf 0 s ≤ n → indexOn 0 s = false → ∃ t, exec (.indexEdge 0 dt n) s = .next t ∧ t.now = s.now + 16 * dt ∧
       t.ftl = s.ftl.set 0 { l with indexSeen := true, indexCount := 0, indexRef := false })) ∧
  (∀ (inp : Fin 2) (s : State), s.pwr.released = true →
     (∀ sig, (inputCfg inp s).getLsbD 1 = true → exec (.encLineFault inp sig) s = .next (settle s s)) ∧
     ((inputCfg inp s).getLsbD 1 = false →
       (∃ t, exec (.encLineFault inp .chA) s = .next t ∧
         t.enc = s.enc.set inp.val { s.enc[inp] with faultA := true } inp.isLt ∧
         ∀ x, follows x inp s = true → (loopOf x t).state ≠ .locked ∧ (loopOf x t).pos = (loopOf x s).pos) ∧
       (∃ t, exec (.encLineFault inp .chB) s = .next t ∧
         t.enc = s.enc.set inp.val { s.enc[inp] with faultB := true } inp.isLt ∧
         ∀ x, follows x inp s = true → (loopOf x t).state ≠ .locked ∧ (loopOf x t).pos = (loopOf x s).pos) ∧
       (∃ t, exec (.encLineFault inp .index) s = .next t ∧
         t.enc = s.enc.set inp.val { s.enc[inp] with faultI := true } inp.isLt ∧
         ∀ x, follows x inp s = true → (loopOf x t).indexRef = false ∧ (loopOf x t).state = (loopOf x s).state)) ∧
     (∀ a b, ∃ t, exec (.encLineFaultClear inp .chA a b) s = .next t ∧
       t.enc = s.enc.set inp.val { s.enc[inp] with faultA := false, a := a, b := b } inp.isLt ∧ t.ftl = s.ftl) ∧
     (∀ a b, ∃ t, exec (.encLineFaultClear inp .chB a b) s = .next t ∧
       t.enc = s.enc.set inp.val { s.enc[inp] with faultB := false, a := a, b := b } inp.isLt ∧ t.ftl = s.ftl) ∧
     (∀ a b, ∃ t, exec (.encLineFaultClear inp .index a b) s = .next t ∧
       t.enc = s.enc.set inp.val { s.enc[inp] with faultI := false } inp.isLt ∧ t.ftl = s.ftl))

/-- Decoded edges move the position of a loop by RATIO_NUM / RATIO_DEN each, whatever else they cause; the remainder is kept unless new
settings that were held go into force with the edge, and the edge's time unless a new ENC_CFG does. (R178) -/
def Obligations.EdgeMovesPosition : Prop :=
  ∀ (x : LoopId) (fwd : Bool) (k t : Nat) (s : State),
    let l := loopOf x s
    let l' := loopOf x (countEdge x fwd k t s)
    let den := max 1 l.set.den.toNat
    let total : Int := (l.rem : Int) + (if fwd then (1 : Int) else -1) * (k * l.set.num.toNat : Nat)
    l'.pos = l.pos + BitVec.ofInt 48 (total / den) ∧ l'.lastDir = fwd ∧ (l.pendSet = none → (l'.rem : Int) = total % den) ∧
    (l.pendEnc = none → l'.lastEdge = some t)

/-- An enabled loop reports CRAWL from the time at which its estimated rate falls below 200 Hz, and what was held for a line boundary goes
into force; it leaves CRAWL at 210 Hz. A loop that is off does not report it. ENABLE of a loop that is off starts it in ACQUIRE with
cleared estimates; ENABLE 0 turns it off and keeps its position; a write of what it has changes nothing else. RESET of a loop that no
document uses clears it. Nothing waits for a boundary in these states. The overspeed limit and the error peak of a loop are cleared by the
host, whether or not a document is in progress. (R183, R190, R193, R194) -/
def Obligations.LoopControl : Prop :=
  (∀ (x : LoopId) (s : State), s.pwr.released = true →
     let l := loopOf x s
     (l.state ≠ .off → l.crawl = false → exec (.crawlEnter x) s = .next (settle s
       (applyHeld x (modLoop x (fun l => { l with crawl := true }) { s with now := max s.now (slowAt l s.now) })))) ∧
     (l.state ≠ .off → l.crawl = false → l.pendSet = none → l.pendEnc = none → l.pendIndex = none →
       ∃ t, exec (.crawlEnter x) s = .next t ∧ t.now = max s.now (slowAt l s.now) ∧
         t.ftl = s.ftl.set (loopIx x).val { l with crawl := true } (loopIx x).isLt) ∧
     (l.state = .off ∨ l.crawl = true → exec (.crawlEnter x) s = .next (settle s s)) ∧
     (21000 ≤ lineRate l s.now →
       ∃ t, exec (.crawlExit x) s = .next t ∧ t.ftl = s.ftl.set (loopIx x).val { l with crawl := false } (loopIx x).isLt) ∧
     (lineRate l s.now < 21000 → exec (.crawlExit x) s = .next (settle s s))) ∧
  (∀ (x : LoopId) (s : State), s.link.cfgReady = true → docInProgress s = false →
     let l := loopOf x s
     l.pendSet = none → l.pendEnc = none → l.pendIndex = none →
     (l.state = .off → ∃ t, exec (.ftlEnableWrite x true) s = .next t ∧ t.ftl = s.ftl.set (loopIx x).val { clearEst l with
       enable := true, state := .acquire, crawl := true, hadLock := false, indexSeen := false, indexRef := false, indexCount := 0 } (loopIx x).isLt) ∧
     (l.state ≠ .off → ∃ t, exec (.ftlEnableWrite x true) s = .next t ∧
       t.ftl = s.ftl.set (loopIx x).val { l with enable := true } (loopIx x).isLt) ∧
     (l.state ≠ .off → ∃ t, exec (.ftlEnableWrite x false) s = .next t ∧ t.ftl = s.ftl.set (loopIx x).val
       { l with enable := false, state := .off, crawl := false } (loopIx x).isLt) ∧
     (l.state = .off → ∃ t, exec (.ftlEnableWrite x false) s = .next t ∧
       t.ftl = s.ftl.set (loopIx x).val { l with enable := false } (loopIx x).isLt) ∧
     (∃ t, exec (.ftlReset x) s = .next t ∧ t.ftl = s.ftl.set (loopIx x).val { clearEst l with
       enable := false, state := .off, hadLock := false, crawl := false, reverse := false, pos := 0, hwm := 0, rem := 0, bound := 0, fOvs := 48000 } (loopIx x).isLt)) ∧
  (∀ (x : LoopId) (s : State), s.link.cfgReady = true →
     (∃ t, exec (.ftlOvsClr x) s = .next t ∧ t.ftl = s.ftl.set (loopIx x).val { loopOf x s with fOvs := 48000 } (loopIx x).isLt) ∧
     (∃ t, exec (.ftlPeakClr x) s = .next t ∧ t.ftl = s.ftl.set (loopIx x).val { loopOf x s with errPeak := 0 } (loopIx x).isLt))

/-- Settings of a loop. A ratio outside its bounds leaves the pair and is flagged. A BW outside 20 to 5,000, an OVS_TOL above 12, a filter
outside 2 to 30 and a DECODE of 3 leave the old value of their field and are flagged, while the other fields of the word take effect. What
is written goes into force at once in a loop that is not LOCKED or is in CRAWL, and waits for the line boundary in another. The line
boundary of a loop comes when its position reaches the next multiple of 256: it is noted, the held settings go into force, and the loop's
ports without a line in progress pass their own boundary; before that nothing happens. (R26, R172, R179, R180, R188, R194) -/
def Obligations.LoopSettings : Prop :=
  (∀ (x : LoopId) (val : Word) (s : State), s.link.cfgReady = true → docInProgress s = false →
     let l := loopOf x s
     let den := val.toNat % 16777216
     let f : FantailSet := { writtenSet l with num := l.heldNum, den := BitVec.ofNat 24 den }
     (ratioOk l.heldNum.toNat den = false → ∃ t, exec (.ratioDenWrite x val) s = .next t ∧
       t.ftl = s.ftl.set (loopIx x).val { l with err := setBit l.err 0 } (loopIx x).isLt) ∧
     (ratioOk l.heldNum.toNat den = true → l.state = .locked → l.crawl = false → ∃ t, exec (.ratioDenWrite x val) s = .next t ∧
       t.ftl = s.ftl.set (loopIx x).val { l with pendSet := some f } (loopIx x).isLt) ∧
     (ratioOk l.heldNum.toNat den = true → l.state ≠ .locked ∨ l.crawl = true → ∃ t, exec (.ratioDenWrite x val) s = .next t ∧
       (loopOf x t).set = f ∧ (loopOf x t).pos = l.pos ∧ (loopOf x t).pendSet = none)) ∧
  (∀ (x : LoopId) (val : Word) (s : State), s.link.cfgReady = true → docInProgress s = false →
     let l := loopOf x s
     let bw := val.toNat % 8192
     let tol := (val.toNat / 65536) % 16
     let f := writtenSet l
     let g : FantailSet := { f with bw := if bw < 20 ∨ 5000 < bw then f.bw else BitVec.ofNat 13 bw
                                    tol := if 12 < tol then f.tol else BitVec.ofNat 4 tol }
     let e := if bw < 20 ∨ 5000 < bw ∨ 12 < tol then setBit l.err 0 else l.err
     (l.state = .locked → l.crawl = false → ∃ t, exec (.loopCfgWrite x val) s = .next t ∧
       t.ftl = s.ftl.set (loopIx x).val { l with pendSet := some g, err := e } (loopIx x).isLt) ∧
     (l.state ≠ .locked ∨ l.crawl = true → ∃ t, exec (.loopCfgWrite x val) s = .next t ∧
       (loopOf x t).set = g ∧ (loopOf x t).pendSet = none ∧ (loopOf x t).err = e ∧ (loopOf x t).pos = l.pos)) ∧
  (∀ (x : LoopId) (val : Word) (s : State), s.link.cfgReady = true → docInProgress s = false →
     let l := loopOf x s
     let old := l.pendEnc.getD l.encCfg
     let filt := (val.toNat / 256) % 32
     let dec := (val.toNat / 16) % 4
     let w := BitVec.ofNat 32 (256 * (if filt < 2 ∨ 30 < filt then (old.toNat / 256) % 32 else filt) +
       16 * (if dec = 3 then (old.toNat / 16) % 4 else dec) + val.toNat % 16)
     let e := if filt < 2 ∨ 30 < filt ∨ dec = 3 then setBit l.err 0 else l.err
     (l.state = .locked → l.crawl = false → ∃ t, exec (.encCfgWrite x val) s = .next t ∧
       t.ftl = s.ftl.set (loopIx x).val { l with pendEnc := some w, err := e } (loopIx x).isLt) ∧
     (l.state ≠ .locked ∨ l.crawl = true → ∃ t, exec (.encCfgWrite x val) s = .next t ∧
       (loopOf x t).encCfg = w ∧ (loopOf x t).pendEnc = none ∧ (loopOf x t).err = e ∧ (loopOf x t).pos = l.pos) ∧
     (l.state = .off → val.getLsbD 2 = true → ∃ t, exec (.encCfgWrite x val) s = .next t ∧
       t.ftl = s.ftl.set (loopIx x).val { l with encCfg := w, pendEnc := none, err := e } (loopIx x).isLt)) ∧
  (∀ (x : LoopId) (s : State), s.pwr.released = true →
     let l := loopOf x s
     let target := (l.bound.toNat + 256) % posMod
     let crossed (t : Nat) : State := modLoop x (fun l => { l with bound := floorLine (BitVec.ofNat 48 (loopPos l t)) })
       { s with now := max s.now t }
     (l.state = .off → exec (.loopLineBoundary x) s = .next (settle s s)) ∧
     (l.state ≠ .off →
       (∀ t, reachTime l target s.now = some t →
         let u := applyHeld x (crossed t)
         exec (.loopLineBoundary x) s = .next (settle s ((portsOf (loopPorts x u)).foldl
           (fun u p => if (runningLoads p u).isEmpty then queueCopy p u else u) u))) ∧
       (∀ f : FantailSet, posAbove target (loopPos l s.now) = false → loopPorts x s = 0 → l.pendSet = some f → l.pendEnc = none →
         l.pendIndex = none → ∃ t, exec (.loopLineBoundary x) s = .next t ∧ t.now = s.now ∧ (loopOf x t).set = f ∧
           (loopOf x t).pendSet = none ∧ (loopOf x t).pos = l.pos ∧ (loopOf x t).bound = floorLine (BitVec.ofNat 48 (loopPos l s.now))) ∧
       (reachTime l target s.now = none → exec (.loopLineBoundary x) s = .next (settle s s))))

/-- The document trigger: an edge of the other polarity or that has not stood for 8 samples only passes the time; so does one before READY
or in a state that takes none, but for a wake; otherwise both loops latch their position and the edge goes to the oldest pending document
of the input, if that is admitted, or is an orphan. An edge of input 0 goes before one of input 1 in the same clock, also where that came
first. Line-ahead events: the document that is next on the port gets its line when the loop's
position reaches its point; none comes while no document is due, before that position, or during a full copy to an engine that rejoins.
Fire ticks: the lead column of a load is due at the fire time of its position. In a loop that is not LOCKED or is in CRAWL the line is
dropped; else a load that is in time starts its sequence, with the lateness that the port's state gives it; the lag column has its own
tick. (R185, R186, R187, R191, R192, R337, R338) -/
def Obligations.LineTiming : Prop :=
  (∀ (i : Fin 2) (rise : Bool) (dt n : Nat) (s : State), s.pwr.released = true →
     let s1 : State := { s with now := s.now + 16 * dt }
     let s2 := latchTrig i (s.now + 16 * dt - 16 * n) s1
     (n < 8 ∨ rise = s.tpt.pol.getLsbD i.val → exec (.docTrigEdge i rise dt n) s = .next (settle s s1)) ∧
     (8 ≤ n → rise ≠ s.tpt.pol.getLsbD i.val →
       (s.pwr.readySeen = false ∨ notReady s.top.state = true →
         exec (.docTrigEdge i rise dt n) s = .next (settle s (wakeBy 11 s1))) ∧
       (s.pwr.readySeen = true → notReady s.top.state = false →
         (∀ d, trigTarget i s = some d → d.admitted = true →
           exec (.docTrigEdge i rise dt n) s = .next (settle s (wakeBy 11 (takeEdge i (s.now + 16 * dt - 16 * n) d s2)))) ∧
         (∀ d, trigTarget i s = some d → d.admitted = false →
           exec (.docTrigEdge i rise dt n) s = .next (settle s (wakeBy 11 (orphanEdge i s2)))) ∧
         (trigTarget i s = none → exec (.docTrigEdge i rise dt n) s = .next (settle s (wakeBy 11 (orphanEdge i s2))))))) ∧
  (∀ (d d1 : Doc) (t : Nat) (s : State), findDoc d.id s = some d → findDoc d1.id s = some d1 → d.id ≠ d1.id → d1.trigged ≠ none →
     (s.tpt.lastEdge = some (1, t, d1.id) →
       ((findDoc d.id (takeEdge 0 t d s)).bind fun q => q.trigged) = some (s.tpt.trigOrder - 1) ∧
       ((findDoc d1.id (takeEdge 0 t d s)).bind fun q => q.trigged) = some s.tpt.trigOrder) ∧
     (∀ i : Fin 2, s.tpt.lastEdge = none → ((findDoc d.id (takeEdge i t d s)).bind fun q => q.trigged) = some s.tpt.trigOrder ∧
       findDoc d1.id (takeEdge i t d s) = some d1)) ∧
  (∀ (p : Port) (errs : Upsets) (s : State), s.pwr.released = true →
     (s.sup.rejoining = true ∨ nextAheadDoc p s = none → exec (.lineAheadEvent p errs) s = .next (settle s s)) ∧
     (∀ d, s.sup.rejoining = false → nextAheadDoc p s = some d →
       let l := loopOf d.loop s
       (∀ t, reachTime l (aheadPos d p s) s.now = some t →
         exec (.lineAheadEvent p errs) s = .next (settle s (aheadOf p d (wordErrors errs { s with now := max s.now t })))) ∧
       (posAbove (aheadPos d p s) (loopPos l s.now) = false →
         exec (.lineAheadEvent p errs) s = .next (settle s (aheadOf p d (wordErrors errs s)))) ∧
       (reachTime l (aheadPos d p s) s.now = none → exec (.lineAheadEvent p errs) s = .next (settle s s)))) ∧
  (∀ (p : Port) (ld : Load) (d : Doc) (s : State), s.pwr.released = true → findDoc ld.docId s = some d →
     let l := loopOf d.loop s
     let target := leadPos d p ld.line s
     let lagTarget := (target + ld.phi) % posMod
     let ticks := l.state = .locked ∧ l.crawl = false
     l.state ≠ .off → l.reverse = false →
     (s.loads[p].find? (fun q => !q.ticked) = some ld → l.hadLock = true →
       (ld.unplaced = true → exec (.fireTick p false) s = .next (settle s (passLoad p ld s))) ∧
       (∀ t, ld.unplaced = false → ¬ticks → reachTime l target s.now = some t → exec (.fireTick p false) s =
         .next (settle s (dropMotion p d ld { s with now := max s.now t }))) ∧
       (∀ t, ld.unplaced = false → ticks → fireTime l target s.now = some t → exec (.fireTick p false) s =
         .next (settle s (tickLead p d ld { s with now := max s.now t })))) ∧
     (let u := setTrack p { s.track[p] with loop := d.loop } s
       let f := lineRate l s.now
       let delay := earliestStart p ld (linePeriod f) u - s.now
       d.ports[p].lost = false → ld.overlap = false → earlierFires d p u = false → s.track[p].dropping = false →
       f ≤ tolLimit d p u → 8 * delay ≤ linePeriod f → ld.kind ≠ .drop → tickLead p d ld s = startLoad p d ld delay u) ∧
     (s.loads[p].find? (fun q => q.ticked && !q.lagTicked && q.phi != 0) = some ld →
       (∀ t, ticks → fireTime l lagTarget s.now = some t → exec (.fireTick p true) s =
         .next (settle s (tickLag p d ld { s with now := max s.now t }))) ∧
       (∀ t, ¬ticks → reachTime l lagTarget s.now = some t → exec (.fireTick p true) s = .next (settle s
         (modLoad p ld.docId ld.line (fun q => { q with lagTicked := true, lagAt := 0 })
           (markDoc d.id 0x03 p.val (ld.line - ld.n) (dropLine d.loop true { s with now := max s.now t })))))))

/-! ## The engines and the egress -/

/-- An engine that computes lines and runs no pass starts the queued pass with the earliest deadline; a retired or busy engine starts
none. A pass within its 400 clocks whose memory read and sequence are sound takes one pass off the load; with the read check failed that
is remembered and counted; a pass that ran too long, out of sequence, or met an uncorrectable word of the engine's memory, is an engine
fault, and so is what the other engine of a pair reports in the same clock: both together fail the load for both. A write in the window of
the energy blocks reaches the word of both engines; the counters of one engine are cleared without the other's. (R195, R197, R200, R201,
R224, R225, R302) -/
def Obligations.Engines : Prop :=
  (∀ (x : EngId) (s : State), s.pwr.released = true →
     let e := eng x s
     (∀ r, computes e.role = true → e.running = none → nextPass x s = some r →
       exec (.enginePassStart x) s = .next (settle s (setEng x { e with running := some r } s))) ∧
     (nextPass x s = none → exec (.enginePassStart x) s = .next (settle s s)) ∧
     (computes e.role = false ∨ e.running ≠ none → exec (.enginePassStart x) s = .next (settle s s))) ∧
  (∀ (x : EngId) (note : PassNote) (p : Port) (ld : Load) (s : State), s.pwr.released = true →
     let e := eng x s
     let s1 := setEng x { e with
       running := none, passes := e.passes + 1,
       busy := (s.now, note.clocks) :: e.busy.filter fun t => decide (s.now < t.1 + 8000000),
       health := { e.health with corrected := satAdd e.health.corrected note.corrected } } s
     let w := workOf x ld
     let ok := note.memUe = false ∧ note.sequence = false ∧ note.clocks ≤ 400
     runningLoad x s = some (p, ld) →
     (note.other = none → note.memUe = true →
       exec (.enginePassDone x note) s = .next (settle s (engineFault x 4 false p ld.docId ld.line s1))) ∧
     (note.other = none → note.memUe = false → note.sequence = true ∨ 400 < note.clocks →
       exec (.enginePassDone x note) s = .next (settle s (engineFault x 5 false p ld.docId ld.line s1))) ∧
     (note.other = none → ok → ld.pkt = [] ∨ (note.readFail = false ∧ readChecks p ld = true) →
       exec (.enginePassDone x note) s = .next (settle s (emitPort p (modLoad p ld.docId ld.line (setWork x { w with
         left := w.left - 1, flips := w.flips ++ note.flips, emit := w.emit ++ note.emitFlips }) s1)))) ∧
     (note.other = none → ok → ld.pkt ≠ [] → note.readFail = true ∨ readChecks p ld = false → w.badRead = false →
       exec (.enginePassDone x note) s = .next (settle s (emitPort p (modLoad p ld.docId ld.line (setWork x { w with
         left := w.left - 1, badRead := true, flips := w.flips ++ note.flips, emit := w.emit ++ note.emitFlips })
           (setEng x { eng x s1 with readFails := satInc (eng x s1).readFails } s1))))) ∧
     (∀ k, note.other = some k → isPair s = true → ok → exec (.enginePassDone x note) s =
       .next (settle s (passEnds x p ld note (engineFault x.other k.toNat false p ld.docId ld.line s1)))) ∧
     (∀ k, note.other = some k → isPair s = true → note.memUe = true → exec (.enginePassDone x note) s = .next (settle s
       (match x with
        | .a => bothFault 4 k.toNat p ld.docId ld.line s1
        | .b => bothFault k.toNat 4 p ld.docId ld.line s1)))) ∧
  (∀ s : State, s.link.cfgReady = true →
     (∀ (q : Fin 8) (i : Fin 24) (val : Word), i ≠ 7 → docInProgress s = false → swapOpenNow s = false →
       exec (.profileWrite (256 * q.val + 4 * i.val) val) s =
         .next (settle s { touchLink s with engA := putEnergy q i val s.engA, engB := putEnergy q i val s.engB })) ∧
     (∀ (q : Fin 8) (i : Fin 24) (val : Word), i ≠ 7 → docInProgress s = true →
       exec (.profileWrite (256 * q.val + 4 * i.val) val) s = .next (settle s (countIgnored (touchLink s)))) ∧
     (∀ x, exec (.engCntClr x) s = .next (settle s (setEng x { eng x s with
       passes := 0, predrops := 0, readFails := 0, clamps := 0, slackMin := 0xFFFF } (touchLink s)))))

/-- A missed deadline: the engine that missed it is at fault; with both late the load fails for both; a load that was dropped or judged,
and one whose loop stands still, misses nothing. The pass watchdog of an idle engine does nothing, and that of a hung pass is an engine
fault. The cut-off: a load that has its packet, or is to be dropped, is left as it is; one without is marked, counted and becomes blank.
(R199, R239, R302) -/
def Obligations.Deadlines : Prop :=
  (∀ (x : EngId) (p : Port) (ld : Load) (s : State), s.pwr.released = true → nextToEmit x p s = some ld →
     let y := workOf x.other ld
     (ld.kind = .drop ∨ ld.verdict ≠ .waiting ∨ deadlineOf p ld s = none → exec (.deadlineMiss x p) s = .next (settle s s)) ∧
     (∀ t, ld.kind ≠ .drop → ld.verdict = .waiting → deadlineOf p ld s = some t →
       let s1 : State := { s with now := max s.now t }
       ((y.part && y.pkt.isNone) = false →
         exec (.deadlineMiss x p) s = .next (settle s (engineFault x 1 false p ld.docId ld.line s1))) ∧
       (y.part = true → y.pkt = none → exec (.deadlineMiss x p) s = .next (settle s (bothFault 1 1 p ld.docId ld.line s1)))) ∧
     ((eng x s).running = none → exec (.passWatchdog x) s = .next (settle s s)) ∧
     (runningLoad x s = some (p, ld) →
       exec (.passWatchdog x) s = .next (settle s (engineFault x 5 false p ld.docId ld.line (setEng x { eng x s with running := none } s))))) ∧
  (∀ (p : Port) (ld : Load) (s : State), s.pwr.released = true → s.loads[p].find? (fun l => !l.ticked) = some ld →
     (ld.handed = true ∨ ld.kind = .drop ∨ (ld.failed = true ∧ ld.kind = .blank) → exec (.egressCutoff p) s = .next (settle s s)) ∧
     (ld.handed = false → ld.kind ≠ .drop → ld.failed = false ∨ ld.kind ≠ .blank →
       exec (.egressCutoff p) s = .next (settle s (modLoad p ld.docId ld.line
         (fun l => { l with failed := true, kind := .blank, verdict := .none, used := none })
         (markDoc ld.docId 2 p.val (markLine ld) (setHp p { s.hp[p] with egrBlanked := satInc s.hp[p].egrBlanked } s))))))

/-- A plane that has been shifted advances the clock to the end of its shift; a plane is latched once its load has ticked and a plane is
ready, not before its start, its strobes begin where the lanes may move, the next plane may be shifted from 20 ns before, and the planes
of the load latched before it are kept for their echoes. The port line boundary: once the last
plane's strobes and the guard are over, of both columns where there are two, held writes go into force, the port's copy is queued and the
load has passed; before that nothing happens. (R188, R233, R234, R235, R275) -/
def Obligations.Planes : Prop :=
  (∀ (p : Port) (s : State), s.pwr.released = true →
     (shiftLoad p s = none → exec (.planeShiftDone p) s = .next (settle s s)) ∧
     (∀ ld, shiftLoad p s = some ld →
       let t := shiftStart p ld s + loadShift p ld s
       exec (.planeShiftDone p) s = .next (settle s (modLoad p ld.docId ld.line
         (fun l => { l with shifted := l.shifted + 1, shiftAt := t }) { s with now := max s.now t }))) ∧
     (∀ (ld : Load) (rest : List Load), s.loads[p] = ld :: rest → ld.ticked = false ∨ ld.shifted ≤ ld.latched →
       exec (.planeLatch p) s = .next (settle s s)) ∧
     (∀ (ld : Load) (rest : List Load), s.loads[p] = ld :: rest → ld.ticked = true → ld.latched < ld.shifted →
       let t := planeStart p ld s
       let s0 : State := { s with now := max s.now t }
       let s1 := if ld.latched = 0 then firstLatch p ld t s0 else closeStrobes p ld t s0
       let s2 := modLoad p ld.docId ld.line
         (fun l => { l with latched := l.latched + 1, planeAt := t, shiftAt := t - 160, openLead := lanesMayMove p s1 }) s1
       let s3 := setTrack p { s2.track[p] with latchAt := t } s2
       (∀ l, findLoad p ld.docId ld.line s3 = some l → exec (.planeLatch p) s = .next (settle s (holdPlanes p l s3)) ∧
         (holdPlanes p l s3).track[p].firing = some l) ∧
       (∀ l f, findLoad p ld.docId ld.line s3 = some l → s3.track[p].firing = some f → f.docId ≠ l.docId ∨ f.line ≠ l.line →
         (holdPlanes p l s3).track[p].fired = some f))) ∧
  (∀ (p : Port) (ld : Load) (rest : List Load) (s : State), s.pwr.released = true → s.loads[p] = ld :: rest →
     (ld.ticked = false ∨ ld.latched = 0 ∨ ld.latched ≠ usedPlanes ld ∨ (ld.phi ≠ 0 ∧ ld.lagTicked = false) →
       exec (.portLineBoundary p) s = .next (settle s s)) ∧
     (ld.ticked = true → 0 < ld.latched → ld.latched = usedPlanes ld → ld.phi = 0 ∨ ld.lagTicked = true →
       let t := strobesEnd ld + ld.guard
       let s1 := advanceTo t (closeStrobes p ld (strobesEnd ld) s)
       let g := setGuardOk p (!s1.track[p].skipped) s1
       let s2 := setTrack p { g.track[p] with boundAt := t, skipped := false } g
       exec (.portLineBoundary p) s = .next (settle s (finishLoad p ld (queueCopy p (applyPort p s2)))) ∧
       (∀ r, s2.hp[p].pendRate = some r → (applyPort p s2).hp[p].spitRate = r)))

/-! ## The head ports -/

/-- A head that is plugged in once the device has reached stage 5 starts to read its record; before that its presence is only held. A head
that is removed leaves the port ABSENT, with its record gone and a mailbox write of it refused, and is counted and reported. The end of a
record's reading: with no valid copy the port is INVALID, or stays SHORTED where it was reread in that state, and the event is raised;
with one it is loaded. A copy that was given up counts as invalid. A failed transfer is counted, and is retried after 1 ms; the fourth
failure of a copy gives it up. (R240, R241, R247, R250) -/
def Obligations.HeadRecords : Prop :=
  (∀ (n : Port) (s : State),
     (s.pwr.released = false ∨ s.pwr.stage.toNat < 5 ∨ (s.hp[n].pstate ≠ .absent) →
       exec (.headPresent n) s = .next (settle s (modHp n (fun h => { h with present := true }) s))) ∧
     (s.pwr.released = true → 5 ≤ s.pwr.stage.toNat → s.hp[n].pstate = .absent →
       exec (.headPresent n) s = .next (settle s (startReading n (modHp n (fun h => { h with present := true }) s)))) ∧
     (s.hp[n].pstate = .absent →
       exec (.headRemoved n) s = .next (settle s (modHp n (fun h => { h with present := false }) s))) ∧
     (s.hp[n].pstate ≠ .absent →
       exec (.headRemoved n) s = .next (settle s (countClass Cls.hpPresence (raise Src.headRemoved (dropPower n (modHp n (fun h => { h with
         present := false, pstate := .absent, reread := false, record := [], validTemp := none, err := setBit h.err 3, write := .idle,
         writeHeld := false, hot := false, hardHot := false, usagePend := 0 }) (endMail n 2 s)))))))) ∧
  (∀ (n : Port) (s : State), s.pwr.released = true → readsRecord s.hp[n] = true →
     let h := s.hp[n]
     (∀ c0 c1,
       let d0 := if h.got0 = some none then none else c0
       let d1 := if h.got1 = some none then none else c1
       (chooseCopy d0 d1 = none → exec (.recordReadDone n c0 c1) s = .next (settle s (raise Src.headRecordBad (hpErr n 6
         (modHp n (fun h => { h with pstate := if h.reread then .shorted else .invalid, reread := false }) s))))) ∧
       (∀ copy r, chooseCopy d0 d1 = some (copy, r) → exec (.recordReadDone n c0 c1) s = .next (settle s (loadRecord n copy r
         ((d0.filter recordValid).isNone || (d1.filter recordValid).isNone) s)))) ∧
     (h.tries0 < 3 → exec (.i2cTimeout n (.read false)) s = .next (settle s (countClass Cls.hpI2c (hpErr n 8
       (modHp n (fun h => { h with readAt := s.now + 8000000, tries0 := h.tries0 + 1 }) s))))) ∧
     (h.tries0 = 3 → exec (.i2cTimeout n (.read false)) s = .next (settle s (countClass Cls.hpI2c (hpErr n 8
       (modHp n (fun h => { h with readAt := s.now + 8000000, tries0 := 4, got0 := some none }) s))))) ∧
     (h.tries1 < 3 → exec (.i2cTimeout n (.read true)) s = .next (settle s (countClass Cls.hpI2c (hpErr n 8
       (modHp n (fun h => { h with readAt := s.now + 8000000, tries1 := h.tries1 + 1 }) s))))) ∧
     (0 < h.tries0 ∨ 0 < h.tries1 → exec (.recordReadRetry n) s = .next (settle s { s with now := max s.now h.readAt })))

/-- ENABLE and PWR_OFF: each takes the written value, and the port is reviewed; PWR_OFF 1 and then 0 ends SHORTED. A reread starts
TEMP_PEAK afresh and reads the record again, with the head unpowered, on every port with a head, a SHORTED one included. What a review of
a port does: power goes off where its conditions no longer hold, and is asked for where they do: a valid record, ENABLE 1, PWR_OFF 0, and
neither SAFE_HOLD nor an orderly STANDBY. (R247, R248) -/
def Obligations.HeadPower : Prop :=
  (∀ (n : Port) (s : State), s.link.cfgReady = true → docInProgress s = false →
     let u := touchLink s
     (∀ v, exec (.hpEnableWrite n v) s = .next (settle s (reviewPort n (modHp n (fun h => { h with enable := v }) u)))) ∧
     (∀ v, s.hp[n].pstate ≠ .shorted ∨ s.hp[n].pwrOff = false ∨ v = true →
       exec (.hpPwrOffWrite n v) s = .next (settle s (reviewPort n (modHp n (fun h => { h with pwrOff := v }) u)))) ∧
     (s.hp[n].pstate = .shorted → s.hp[n].pwrOff = true → exec (.hpPwrOffWrite n false) s = .next (settle s (reviewPort n
       (modHp n (fun h => { h with pwrOff := false, pstate := if h.reread then .reading else .unpowered, reread := false }) u)))) ∧
     (s.hp[n].pstate = .absent → exec (.headReread n) s = .next (settle s u)) ∧
     (s.hp[n].pstate ≠ .absent →
       let v := modHp n (fun h => { h with tempPeak := h.temp }) u
       exec (.headReread n) s = .next (settle s (startReading n (endMail n 2
         (if s.hp[n].pstate = .powering ∨ s.hp[n].pstate = .active then dropPower n v else v)))))) ∧
  (∀ (n : Port) (s : State),
     ((s.hp[n].pstate = .powering ∨ s.hp[n].pstate = .active) → powerOk n s = false →
       reviewPort n s = dropPower n (modHp n (fun h => { h with pstate := .unpowered }) s)) ∧
     (s.hp[n].pstate = .unpowered → powerOk n s = true →
       reviewPort n s = requestPower n (modHp n (fun h => { h with pstate := .powering }) s)) ∧
     ((s.hp[n].pstate = .powering ∨ s.hp[n].pstate = .active) → powerOk n s = true → reviewPort n s = s) ∧
     (powerOk n s = true ↔ s.hp[n].record ≠ [] ∧ s.hp[n].enable = true ∧ s.hp[n].pwrOff = false ∧ s.top.state ≠ .safeHold ∧
       s.pwr.standbyAxes = false))

/-- A thermistor conversion: a code at which the thermistor has its R25 is 25 °C; a valid one becomes the head's temperature and is
counted; the third in a row out of range is a failed sensor. A spit in MAINT: the clock reaches the spit's time, one spit of the entry is
used up, the next comes a period of the spit rate later, and the spit is built, compared, handed over and fired; a port without power, or
whose egress checker is out of service, fires none. Outside MAINT nothing happens. (R17, R144, R238, R251, R252, R253, R255) -/
def Obligations.HeadTemperature : Prop :=
  (∀ (n : Port) (raw : BitVec 12) (s : State), s.pwr.released = true →
     let h := s.hp[n]
     let s1 := modHp n (fun h => { h with raw := raw }) s
     (0 < raw.toNat → raw.toNat < Config.thermFull → 0 < recR25 h.record → 0 < recBeta h.record →
       1000 * raw.toNat = (Config.thermFull - raw.toNat) * recR25 h.record → headTemp raw.toNat h.record = some 400) ∧
     (h.record = [] → exec (.headTempConversion n raw) s = .next (settle s s1)) ∧
     (∀ t, h.record ≠ [] → headTemp raw.toNat h.record = some t → -320 ≤ t → t ≤ 2000 →
       exec (.headTempConversion n raw) s = .next (settle s (useTemp n (modHp n (fun h => { h with
         validTemp := some t, badConv := 0, goodConv := h.goodConv + 1
         sensorFail := h.sensorFail && decide (h.goodConv + 1 < 100) }) s1))) ∧
       (h.sensorFail = false → portInDoc n s = true → ∃ u, exec (.headTempConversion n raw) s = .next u ∧
         (useTemp n (modHp n (fun h => { h with validTemp := some t, badConv := 0, goodConv := h.goodConv + 1 }) s1)).hp[n].temp = t)) ∧
     (h.record ≠ [] → tempValid (headTemp raw.toNat h.record) = none →
       (h.badConv = 2 → h.sensorFail = false →
         exec (.headTempConversion n raw) s = .next (settle s (useTemp n (countClass Cls.hpSensor (raise Src.headSensorFail
           (modHp n (fun h => { h with badConv := h.badConv + 1, goodConv := 0, sensorFail := true, err := setBit h.err 2 }) s1)))))) ∧
       (h.badConv ≠ 2 ∨ h.sensorFail = true → exec (.headTempConversion n raw) s = .next (settle s (useTemp n
         (modHp n (fun h => { h with badConv := h.badConv + 1, goodConv := 0 }) s1)))))) ∧
  (∀ (n : Port) (q : Fin 8) (payload : List Byte) (k : Nat) (rest : List (Fin 8 × List Byte × Nat)) (a b : PassNote) (s : State),
     s.pwr.released = true → s.track[n].spits = (q, payload, k) :: rest →
     let s1 : State := { s with now := max s.now s.track[n].spitAt }
     let s2 := setTrack n { s.track[n] with
       spits := if k ≤ 1 then rest else (q, payload, k - 1) :: rest,
       spitAt := s1.now + ceilDiv 8000000000 (spitRate n q s1) } s1
     (s.top.state ≠ .maint → exec (.spitFire n a b) s = .next (settle s s)) ∧
     (∀ t : State, t.pwr.released = true → t.track[n].spits = [] → exec (.spitFire n a b) t = .next (settle t t)) ∧
     (s.top.state = .maint → exec (.spitFire n a b) s = .next (settle s (fireSpit n q payload a b s2).2)) ∧
     (s.top.state = .maint → s.hp[n].pstate ≠ .active ∨ s.chk.fixedEgr.getLsbD n.val = true →
       exec (.spitFire n a b) s = .next (settle s s2)))

/-- Record writes: a write begins with page 0 of the copy not in use, inside the temperature window, and is held outside it; no page goes
out, and no write begins, outside UNPOWERED, POWERING and ACTIVE; the pages follow in order, each to the head's address; a usage write that
reads back valid becomes the copy in use, and a mailbox write that does ends with result 0; a bad one is retried 1 s later, three times,
and the fourth failure ends it. (R257, R258) -/
def Obligations.RecordWrites : Prop :=
  ∀ (n : Port) (s : State), s.pwr.released = true →
    let h := s.hp[n]
    let begun (d : List Byte) := modHp n (fun h => { h with write := .page 0, writeData := d, writeUnits := 0, writeTries := 0 })
      (modHp n (fun h => { h with mailRuns := true }) s)
    let go (u : State) : Host.Outcome State Fault Refusal := .next (settle s (modHp n (fun h => { h with writeHeld := false }) u))
    let held (u : State) : State := modHp n (fun h => { h with writeHeld := true }) u
    let page (k : Nat) : State := { s with out := { s.out with head :=
      ⟨n, h.memAddr, h.memA16, (if h.copy then 0 else 128) + 8 * k, slice h.writeData (8 * k) 8⟩ :: s.out.head } }
    (∀ d, canWrite h = true → h.write = .idle → h.mailWrite = some d →
      (writeWindow s = true → exec (.recordWriteStart n) s = go (begun (mailRecord d h.record))) ∧
      (writeWindow s = false → exec (.recordWriteStart n) s = .next (settle s (hpErr n 9 (held (begun (mailRecord d h.record))))))) ∧
    (canWrite h = false → exec (.recordWriteStart n) s = .next (settle s s)) ∧
    (∀ k, canWrite h = true → h.write = .page k → h.writeHeld = true →
      (writeWindow s = true → exec (.recordWriteStart n) s = go s) ∧
      (writeWindow s = false → exec (.recordWriteStart n) s = .next (settle s (hpErr n 9 (held s))))) ∧
    (canWrite h = true → h.write = .idle → h.mailWrite = none → h.usagePend ≠ 0 → h.writeOver = false →
      exec (.recordWriteStart n) s = .next (settle s (beginUsage n s))) ∧
    (∀ k, h.write = .page k → h.writeHeld = false → k < 15 →
      let next := modHp n (fun h => { h with write := .page (k + 1) }) (page k)
      (canWrite h = true → writeWindow s = true → exec (.recordPageDone n) s = go next) ∧
      (canWrite h = true → writeWindow s = false → exec (.recordPageDone n) s = .next (settle s (hpErr n 9 (held next)))) ∧
      (canWrite h = false → exec (.recordPageDone n) s = .next (settle s (held next)))) ∧
    (h.write = .page 15 → h.writeHeld = false →
      exec (.recordPageDone n) s = .next (settle s (modHp n (fun h => { h with write := .readback }) (page 15)))) ∧
    (∀ b, h.write = .readback → recordValid b = true →
      (h.mailRuns = false → exec (.recordReadbackDone n b) s = .next (settle s (modHp n (fun h => { h with
        write := .idle, writeTries := 0, writeOver := false, copy := !h.copy, record := b
        usagePend := h.usagePend - BitVec.ofNat 8 h.writeUnits }) s))) ∧
      (h.mailRuns = true → exec (.recordReadbackDone n b) s =
        .next (settle s (endMail n 0 (modHp n (fun h => { h with write := .idle, writeTries := 0 }) s))))) ∧
    (∀ b, h.write = .readback → recordValid b = false →
      (h.writeTries < 3 → exec (.recordReadbackDone n b) s = .next (settle s (raise Src.headWriteFail (hpErr n 10 (modHp n (fun h => { h with
        write := .retryWait, writeTries := h.writeTries + 1, writeAt := s.now + 8000000000, writeHeld := false }) s))))) ∧
      (h.writeTries = 3 → h.mailRuns = false →
        exec (.recordReadbackDone n b) s = .next (settle s (raise Src.headWriteFail (hpErr n 10 (modHp n (fun h => { h with
          write := .idle, writeTries := 4, writeOver := true, writeAt := s.now + 8000000000, writeHeld := false }) s))))) ∧
      (h.writeTries = 3 → h.mailRuns = true →
        exec (.recordReadbackDone n b) s = .next (settle s (endMail n 2 (raise Src.headWriteFail (hpErr n 10 (modHp n (fun h => { h with
          write := .idle, writeTries := 4, writeAt := s.now + 8000000000, writeHeld := false }) s))))))) ∧
    (h.write = .retryWait →
      let again := modHp n (fun h => { h with write := .page 0 }) { s with now := max s.now h.writeAt }
      (canWrite h = true → writeWindow s = true → exec (.recordWriteRetry n) s = go again) ∧
      (canWrite h = false → exec (.recordWriteRetry n) s = .next (settle s (held again)))) ∧
    (s.link.cfgReady = true → h.usagePend ≠ 0 → canWrite h = true → h.write = .idle → h.mailWrite = none →
      exec (.usageFlush n) s = .next (settle s (beginUsage n (countWhen (docInProgress s) (touchLink s)))))

/-! ## The head supplies and nozzle health -/

/-- A rail's life: its soft start ends in GOOD at its due time; 100 ms after its last port it goes OFF; an idle-off of a rail that is not
GOOD does nothing; a latched fault is cleared by the host and not by time, a fault that has not latched by 100 ms. A slew moves the code
one step towards its target every 64 µs and ends in GOOD at it. A rail fault: the rail stops, its ports lose their power, and the fault is
counted and reported; a fault that the rail cannot have in its state does nothing. Low VDRV is a fault of every rail at once: a rail that
runs stops, one that is stopped takes note of it, and each is counted and reported. The voltage table and the sensing settings: a voltage
in range is stored and every rail takes up its target; one out of range is dropped. A shunt of 0 and a settling of less than 2 samples
leave their own field as it was, beside the rest of the word. A set-point that changes during the soft start is taken up, and GOOD then
comes no sooner than 1 ms later. (R261, R264, R266, R274) -/
def Obligations.Rails : Prop :=
  (∀ (r : Fin 4) (s : State),
     let l := s.hdv.rails[r]
     let s1 : State := { s with now := max s.now l.due }
     (s.pwr.released = true → l.state = .softstart →
       exec (.railSoftstartGood r) s = .next (settle s (serveWaiting r (modRail r (fun l => { l with state := .good }) s1)))) ∧
     (s.pwr.released = true → l.state = .good → railIdle r s = true →
       exec (.railIdleOff r) s = .next (settle s (modRail r (fun l => { l with state := .off, rank := none }) s1))) ∧
     (s.pwr.released = true → l.state ≠ .good → exec (.railIdleOff r) s = .next (settle s s)) ∧
     (s.pwr.released = true → l.state = .fault → isLasting Cls.hdvRail s = false →
       exec (.railFaultRecover r) s = .next (settle s (railToOff r s1))) ∧
     (s.pwr.released = true → l.state = .latched → exec (.railFaultRecover r) s = .next (settle s s)) ∧
     (s.link.cfgReady = true → l.state = .latched →
       exec (.vhsFaultClr r) s = .next (settle s (railToOff r (countWhen (docInProgress s) (touchLink s))))) ∧
     (s.link.cfgReady = true → l.state ≠ .latched →
       exec (.vhsFaultClr r) s = .next (settle s (countWhen (docInProgress s) (touchLink s))))) ∧
  (∀ (r : Fin 4) (s : State), s.pwr.released = true →
     let l := s.hdv.rails[r]
     let s1 : State := { s with now := max s.now l.due }
     let c := if l.code.toNat < l.target.toNat then l.code + 1 else if l.target.toNat < l.code.toNat then l.code - 1 else l.code
     (l.state = .slewing → c ≠ l.target →
       exec (.railSlewStep r) s = .next (settle s (modRail r (fun l => { l with code := c, due := s1.now + 512000 }) s1))) ∧
     (l.state = .slewing → c = l.target →
       exec (.railSlewStep r) s = .next (settle s (serveWaiting r (modRail r (fun l => { l with code := c, state := .good }) s1)))) ∧
     (l.state ≠ .slewing → exec (.railSlewStep r) s = .next (settle s s))) ∧
  (∀ (r : Fin 4) (cause : RailCause) (s : State), s.pwr.released = true →
     let s1 := modRail r (fun l => { l with
       state := .fault, err := setBit l.err (causeBit cause), waiting := 0, due := s.now + 800000000 }) s
     (cause ≠ .uvDrv → faultable cause s.hdv.rails[r] = true → exec (.railFault r cause) s = .next (settle s
       (latchFaults (countClass Cls.hdvRail (raise Src.railFault ((railPorts r).foldl (fun s p =>
         if s.hp[p].pstate = .powering ∨ s.hp[p].pstate = .active then dropPower p (refusePower p s) else s) s1)))))) ∧
     (cause ≠ .uvDrv → faultable cause s.hdv.rails[r] = false → exec (.railFault r cause) s = .next (settle s (latchFaults s))) ∧
     (exec (.railFault r .uvDrv) s = .next (settle s (latchFaults (drvLow (drvLow (drvLow (drvLow s 0) 1) 2) 3)))) ∧
     (faultable .uvDrv s.hdv.rails[r] = true → drvLow s r = faultRail r .uvDrv s) ∧
     (faultable .uvDrv s.hdv.rails[r] = false →
       drvLow s r = countClass Cls.hdvRail (raise Src.railFault (modRail r (fun l => { l with err := setBit l.err 3 }) s)))) ∧
  (∀ (val : Word) (s0 : State), s0.link.cfgReady = true → docInProgress s0 = false →
     let s := touchLink s0
     (∀ i : Fin 8, (val.toNat % 65536 ≤ 4095 →
         exec (.vtabWrite i val) s0 = .next (settle s0 (retargetAll { s with hdv := { s.hdv with vtab := s.hdv.vtab.set i.val (val.setWidth 16) i.isLt } }))) ∧
       (4095 < val.toNat % 65536 → exec (.vtabWrite i val) s0 = .next (settle s0 s))) ∧
     (∀ p : Port,
       exec (.senseCfgWrite p val) s0 = .next (settle s0 (modHdv p (fun h => { h with
         rshunt := if 1 ≤ val.toNat / 65536 then (val >>> 16).setWidth 16 else h.rshunt
         settle := if 2 ≤ (val.toNat / 256) % 16 then (val >>> 8).setWidth 4 else h.settle
         gain := (val >>> 1).setWidth 2, echoEn := val.getLsbD 0 }) s)))) ∧
  (∀ (r : Fin 4) v (s : State), s.hdv.rails[r].state = .softstart → s.hdv.rails[r].rank = some v →
     let c := setPoint r v s
     (c = s.hdv.rails[r].code → retarget r s = s) ∧
     (c ≠ s.hdv.rails[r].code → (retarget r s).hdv.rails[r].target = c ∧ (retarget r s).hdv.rails[r].code = c ∧
       (retarget r s).hdv.rails[r].state = .softstart ∧ s.now + 8000000 ≤ (retarget r s).hdv.rails[r].due))

/-- Power good makes a powering port ACTIVE with its gain reset and reports it; its absence for 5 ms refuses the port; in another state
both do nothing. A measured voltage is taken, and with it the output voltage and current of the port's rail. A declared short of a powered
port: the port is SHORTED, its power is off, and the short is counted and reported; the comparator's own flag tells which. Only a class T
head with sensing enabled is shorted by its samples; the comparator protects every head. An echo window of a port that senses: one whose
line guard brings no new baseline is measured against the one in use, another against its own, which is a short if it lies more than 4
drops above the first; its strobes and its length are those of the load's plane as it fired, and its plateau is the samples from SETTLE
on, up to one every 62.5 ns of the window. A window of a load whose planes are no longer held, one that its plane did not fire, one of a
cut load, or of a port that does not sense is discarded; one with fewer than two plateau samples is counted in NO_ECHO. (R265, R269, R270,
R271, R272, R273, R274, R278) -/
def Obligations.PortSupply : Prop :=
  (∀ (n : Port) (s : State), s.pwr.released = true →
     let h := s.hdv.ports[n]
     (s.hp[n].pstate = .powering → h.gate = true →
       exec (.portPowerGood n) s = .next (settle s (raise Src.headReady (modHp n (fun h => { h with pstate := .active, wasActive := true })
         (setNzh n { s.nzh[n] with exon := [] }
           (modHdv n (fun h => { h with pwrGood := true, gainK := 16777216, first := none, guardOk := false }) s))))) ∧
       exec (.portPowerTimeout n) s = .next (settle s (refusePower n (releaseGate n (modHdv n (fun h => { h with err := setBit h.err 0 })
         { s with now := max s.now h.pgDue }))))) ∧
     (s.hp[n].pstate ≠ .powering ∨ h.gate = false →
       exec (.portPowerGood n) s = .next (settle s s) ∧ exec (.portPowerTimeout n) s = .next (settle s s)) ∧
     (∀ v rail, exec (.portVoltageMeasure n v rail) s = .next (settle s
       (modRail ⟨n.val / 4, by omega⟩ (fun l => { l with vout := satNat 16 rail.v10mV, iout := satNat 16 rail.i10mA })
         (modHdv n (fun h => { h with vport := v }) s))))) ∧
  (∀ (n : Port) (s : State), s.pwr.released = true →
     let short (c : Bool) : State := countClass Cls.hdvShort (raise Src.headShort (dropPower n (hpErr n 4 (modHp n (fun h => { h with pstate := .shorted })
       (modHdv n (fun h => { h with err := if c then setBit (setBit h.err 1) 2 else setBit h.err 1, shorts := satInc h.shorts }) s)))))
     (s.hdv.ports[n].gate = true → exec (.shortComparatorTrip n) s = .next (settle s (short true))) ∧
     (s.hdv.ports[n].gate = true → s.hdv.ports[n].echoEn = true → recClassL s.hp[n].record = false →
       exec (.portShort n) s = .next (settle s (short false))) ∧
     (s.hdv.ports[n].echoEn = false ∨ recClassL s.hp[n].record = true → exec (.portShort n) s = .next (settle s s)) ∧
     (s.hdv.ports[n].gate = false →
       exec (.portShort n) s = .next (settle s s) ∧ exec (.shortComparatorTrip n) s = .next (settle s s))) ∧
  (∀ (n : Port) (w : EchoIn) (s : State), s.pwr.released = true →
     (heldPlanes n w s = none → exec (.echoRecord n w) s = .next (settle s s)) ∧
     (∀ ld, heldPlanes n w s = some ld → (planeWindows ld w.plane)[w.number]? = none → exec (.echoRecord n w) s = .next (settle s s)) ∧
     (∀ ld win, heldPlanes n w s = some ld → (planeWindows ld w.plane)[w.number]? = some win →
       (ld.cut = true ∨ s.hdv.ports[n].echoEn = false ∨ recClassL s.hp[n].record = true ∨ s.hdv.ports[n].gate = false →
         exec (.echoRecord n w) s = .next (settle s s)) ∧
       (ld.cut = false → s.hdv.ports[n].echoEn = true → recClassL s.hp[n].record = false → s.hdv.ports[n].gate = true →
         (newBase s.hdv.ports[n] w.guard = none →
           exec (.echoRecord n w) s = .next (settle s (releasePlanes n ld w (measureWindow n ld w win s)))) ∧
         (∀ b, newBase s.hdv.ports[n] w.guard = some b →
           let s1 := modHdv n (fun h => { h with base := b, afresh := false, first := some (h.first.getD b) }) s
           exec (.echoRecord n w) s = .next (settle s (if baseShort { s1.hdv.ports[n] with scale := ld.scale } then declareShort n false s1
             else releasePlanes n ld w (measureWindow n ld w win s1)))))) ∧
     (∀ k len l, plateau k len l = (l.take (len / 500)).drop k) ∧
     (∀ (ld : Load) (win : List (Nat × Bool) × Nat),
       let e := sumOf (win.1.map fun t => pktExpect (usedPacket ld) w.plane t.1 (b2n t.2))
       let l := plateau s.hdv.ports[n].settle.toNat win.2 w.samples
       sampleShort { s.hdv.ports[n] with scale := ld.scale } e l = false → l.length < 2 →
       measureWindow n ld w win s = modHdv n (fun h => { h with noEcho := satInc h.noEcho }) s))

/-- The map commands record their fields; a nozzle that may not be added, or is not in the map, is refused; otherwise the map changes and
is posted. The suspicions of a port are cleared by the host, and its counters, which leaves the last localisation; a contact-sheet
configuration in range is taken, another is flagged. (R280, R289, R293) -/
def Obligations.NozzleMaps : Prop :=
  (∀ (n : Port) (x : BitVec 11) (s0 : State), s0.link.cfgReady = true → docInProgress s0 = false →
     let s := touchLink s0
     let z := s.nzh[n]
     let s1 := noteMapCmd n 1 x s
     let s2 := noteMapCmd n 2 x s
     (activeMissing z x.toNat = true ∨ 64 ≤ activeCount z ∨ freePlace z = none →
       exec (.mapAddHost n x) s0 = .next (settle s0 (refuseMap n s1))) ∧
     (activeMissing z x.toNat = false → activeCount z < 64 → freePlace z ≠ none →
       exec (.mapAddHost n x) s0 = .next (settle s0 (postMaps s1 (enterMissing n x.toNat .host s1)))) ∧
     (activeMissing z x.toNat = true → exec (.mapFreeNozzle n x) s0 = .next (settle s0
       (postMaps s2 (setNzh n (keepEntries (fun e => !isActive e || e.nozzle != x.toNat) s2.nzh[n]) s2)))) ∧
     (activeMissing z x.toNat = false → exec (.mapFreeNozzle n x) s0 = .next (settle s0 (refuseMap n s2))) ∧
     (let s3 := noteMapCmd n 3 z.mapNozzle s
      exec (.mapFreeEchoContact n) s0 = .next (settle s0
       (postMaps s3 (setNzh n (keepEntries (fun e => e.kind != .echo && e.kind != .contact) s3.nzh[n]) s3)))) ∧
     (let s4 := noteMapCmd n 4 z.mapNozzle s
      exec (.mapFreeNonFactory n) s0 = .next (settle s0
       (postMaps s4 (setNzh n (keepEntries (fun e => e.kind == .factory || e.kind == .incoming) s4.nzh[n]) s4))))) ∧
  (∀ (n : Port) (s0 : State), s0.link.cfgReady = true →
     let s := touchLink s0
     exec (.suspClr n) s0 = .next (settle s0 (setNzh n { s.nzh[n] with susp := Vector.replicate 32 none } s)) ∧
     exec (.nzhCntClr n) s0 = .next (settle s0 (setNzh n { s.nzh[n] with
       windows := 0, deficits := 0, excess := 0, expired := 0, resets := 0, localised := 0 } s)) ∧
     (∀ val, docInProgress s0 = false → csCfgOk val = true →
       exec (.csCfgWrite n val) s0 = .next (settle s0 (setNzh n { s.nzh[n] with csCfg := val &&& 0xFFFFF0FF } s))) ∧
     (∀ val, docInProgress s0 = false → csCfgOk val = false → exec (.csCfgWrite n val) s0 = .next (settle s0 (nzhErr n 4 s))))

/-- A contact sheet starts in MAINT on an active port with no other sheet running, and is refused elsewhere; an abort ends it; each of its
slots fires one spit and judges its drop window if the spit was fired, unless the beam was blocked before the first: DD_IN reads blocked
below CS_CFG.THRESH, and a drop is seen where it does so between CS_CFG.T_MIN and CS_CFG.T_MAX after the fire. The verdict of a
nozzle on a contact sheet: after DROPS windows it fails with fewer than PASS_MIN drops seen, and the next nozzle follows. (R290, R291,
R292) -/
def Obligations.ContactSheets : Prop :=
  (∀ (n : Port) (s : State),
     (s.link.cfgReady = true → s.top.state = .maint → s.hp[n].pstate = .active → sheetRuns s = false →
       exec (.csStart n) s = .next (settle s (match spitProfile n s with
         | some q => setNzh n { s.nzh[n] with
             csState := .running, csProfile := q, csFailed := 0, csNozzle := 0, csDrops := 0, csSeen := 0, csBad := [] } (touchLink s)
         | none => nzhErr n 5 (touchLink s)))) ∧
     (s.link.cfgReady = true → s.top.state ≠ .maint ∨ s.hp[n].pstate ≠ .active ∨ sheetRuns s = true →
       exec (.csStart n) s = .next (settle s (nzhErr n 5 (touchLink s)))) ∧
     (s.link.cfgReady = true → s.nzh[n].csState = .running →
       exec (.csAbort n) s = .next (settle s (setNzh n { s.nzh[n] with csState := .aborted } (touchLink s)))) ∧
     (∀ before dd a b, s.pwr.released = true → s.nzh[n].csState = .running → s.nzh[n].csNozzle = 0 → s.nzh[n].csDrops = 0 →
       before.any (beamBlocked s.nzh[n].csCfg) = true →
       exec (.csFire n before dd a b) s = .next (settle s (nzhErr n 6 (setNzh n { s.nzh[n] with csState := .aborted } s)))) ∧
     (∀ before dd a b, s.pwr.released = true → s.nzh[n].csState = .running →
       s.nzh[n].csNozzle ≠ 0 ∨ s.nzh[n].csDrops ≠ 0 ∨ before.any (beamBlocked s.nzh[n].csCfg) = false →
       let q := s.nzh[n].csProfile
       let s1 : State := { s with now := max s.now s.track[n].spitAt }
       let s2 := setTrack n { s.track[n] with spitAt := s1.now + max 400000 (ceilDiv 8000000000 (spitRate n q s1)) } s1
       let f := fireSpit n q (sheetPayload n s2) a b s2
       exec (.csFire n before dd a b) s = .next (settle s (if f.1 then judgeDrop n (dropSeen s.nzh[n].csCfg dd) f.2 else f.2))) ∧
     (∀ before dd a b, s.pwr.released = true → s.nzh[n].csState ≠ .running → exec (.csFire n before dd a b) s = .next (settle s s)) ∧
     (∀ (cfg : Word) (mv : Nat), beamBlocked cfg mv = true ↔ mv < 10 * (cfg.toNat % 256)) ∧
     (∀ (cfg : Word) (ns mv : Nat), dropSeen cfg [(ns, mv)] = true ↔
       1000 * ((cfg.toNat / 1048576) % 64) ≤ ns ∧ ns ≤ 1000 * (cfg.toNat / 67108864) ∧ beamBlocked cfg mv = true)) ∧
  (∀ (n : Port) (seen : Bool) (s : State),
     let z := s.nzh[n]
     let ok := z.csSeen + (if seen then 1 else 0)
     (z.csDrops + 1 < csDropsOf z →
       judgeDrop n seen s = setNzh n { z with csDrops := z.csDrops + 1, csSeen := ok } s) ∧
     (csDropsOf z ≤ z.csDrops + 1 → z.csNozzle + 1 < recNozzles s.hp[n].record →
       judgeDrop n seen s = setNzh n { z with
         csDrops := 0, csSeen := 0, csNozzle := z.csNozzle + 1
         csFailed := if ok < csPassMin z then z.csFailed + 1 else z.csFailed
         csBad := if ok < csPassMin z then z.csBad ++ [z.csNozzle] else z.csBad } s) ∧
     ((judgeDrop n seen s).nzh[n].csState = .running → (judgeDrop n seen s).nzh[n].csResult = z.csResult))

/-! ## The pair of engines -/

/-- The end of the window of a diagnosis, whose verdict time is 1.2 µs: one engine with a finding is at fault by its kind, MEM for an
uncorrectable word and WATCHDOG for a failed sequence check; findings in both are a fault of both; with none the verdict is a mismatch, or
the fault of a FAILOVER_TEST that waits. Corrected words count in HEALTH. With nothing in diagnosis it does nothing. The state copy: a
snapshot of the lead's segment of the port in front of the queue is latched; it reaches the other engine unless it is stale, which is
counted, or corrupt, which is an engine fault and ends a rejoin copy; one for a line that the receiver has not built yet waits. A copy that
is fixed is a record of its tap and is counted, one that is dropped is none. (R153, R154, R299, R302, R306, R307, R308, R315) -/
def Obligations.PairFaults : Prop :=
  (∀ (p : Port) (a b : DiagNote) (s : State), s.pwr.released = true →
     (∀ n : DiagNote, (n.memUe = true → findingKind n = some 4) ∧ (n.memUe = false → n.sequence = true → findingKind n = some 5) ∧
       (n.memUe = false → n.sequence = false → findingKind n = none)) ∧
     (∀ ld, (s.loads[p].find? fun l => l.verdict == .diagnosing) = some ld →
       let s1 := noteVerdict 150 (noteCorrected .b b.corrected (noteCorrected .a a.corrected { s with now := max s.now ld.diagEnd }))
       (∀ k, findingKind a = some k → findingKind b = none →
         exec (.diagnosisWindowEnd p a b) s = .next (settle s (engineFault .a k false p ld.docId ld.line s1))) ∧
       (∀ k, findingKind a = none → findingKind b = some k →
         exec (.diagnosisWindowEnd p a b) s = .next (settle s (engineFault .b k false p ld.docId ld.line s1))) ∧
       (∀ k k', findingKind a = some k → findingKind b = some k' →
         exec (.diagnosisWindowEnd p a b) s = .next (settle s (bothFault k k' p ld.docId ld.line s1))) ∧
       (findingKind a = none → findingKind b = none → s.sup.testPending = false →
         exec (.diagnosisWindowEnd p a b) s = .next (settle s (mismatchVerdict p ld.docId ld.line s1))) ∧
       (findingKind a = none → findingKind b = none → s.sup.testPending = true → isPair s = true →
         exec (.diagnosisWindowEnd p a b) s = .next (settle s (engineFault (mainEng s) 8 false p ld.docId ld.line s1)))) ∧
     ((∀ l ∈ s.loads[p], l.verdict ≠ .diagnosing) → exec (.diagnosisWindowEnd p a b) s = .next (settle s s))) ∧
  (∀ (p : Port) (s : State), s.pwr.released = true →
     (∀ rest, s.sup.copyQueue = p :: rest → exec .copySnapshot s = .next (settle s { s with sup := { s.sup with
       copyQueue := rest, fullLeft := s.sup.fullLeft - 1
       latent := s.sup.latent.set p.val (some (eng (mainEng s) s).seg[p]) p.isLt } })) ∧
     (s.sup.copyQueue = [] → exec .copySnapshot s = .next (settle s s)) ∧
     (∀ c, s.sup.latent[p] = none → exec (.copyFix p c) s = .next (settle s s)) ∧
     (∀ g, s.sup.latent[p] = some g →
       let x := (mainEng s).other
       let own := (eng x s).seg[p]
       let s0 : State := { s with sup := { s.sup with latent := s.sup.latent.set p.val none p.isLt } }
       let cut := cutCopies (setBit 0 p.val) s0
       let bad := supErr 5 { cut with sup := { cut.sup with copyDiscard := satInc cut.sup.copyDiscard } }
       let fixed := fixSegment x p g s0
       (exec (.copyFix p true) s = .next (settle s (engineFault x 6 false p g.docId g.line.toNat
         (if s.sup.rejoining then breakRejoin bad else bad)))) ∧
       (fixed.sup.copies = s.sup.copies + 1 ∧ (eng x fixed).seg[p] = g) ∧
       (s.sup.rejoining = false → copyStale own g s = true → exec (.copyFix p false) s = .next (settle s
         { cut with sup := { cut.sup with copyStale := satInc cut.sup.copyStale } })) ∧
       (s.sup.rejoining = false → copyStale own g s = false → copyEarly own g s = true →
         exec (.copyFix p false) s = .next (settle s s)) ∧
       (s.sup.rejoining = false → copyStale own g s = false → copyEarly own g s = false → segCheck p own = segCheck p g →
         exec (.copyFix p false) s = .next (settle s fixed)) ∧
       (s.sup.rejoining = true → clearBit fixed.sup.rejoinDue p.val ≠ 0 → exec (.copyFix p false) s = .next (settle s
         { fixed with sup := { fixed.sup with rejoinDue := clearBit fixed.sup.rejoinDue p.val } }))))

/-- An engine's self test ends only where one runs; a pass of a rejoining engine lets it wait for its rejoin at the next quiet point, and
a fail retires it. At a quiet point what has waited for one happens; elsewhere nothing does. (R312, R313, R314, R317) -/
def Obligations.SelftestsAndQuietPoints : Prop :=
  (∀ (x : EngId) (s : State), s.pwr.released = true →
     ((eng x s).selftest = false → ∀ ok, exec (.engineSelftestDone x ok) s = .next (settle s s)) ∧
     ((eng x s).selftest = true → s.sup.restarting = false → s.sup.swap = .closed → roleOf x s = .rejoining →
       exec (.engineSelftestDone x true) s = .next (settle s
         (let s1 := raise Src.engSelftest (stopSelftest x s)
          { s1 with sup := { s1.sup with rejoinWait := true } })) ∧
       exec (.engineSelftestDone x false) s = .next (settle s (rolesFor x .retired .solo
         (noteFault x 7 0 0 (supErr 7 (raise Src.engSelftest (stopSelftest x s))))))) ∧
     ((eng x s).selftest = true → s.sup.restarting = false → s.sup.swap = .armed → s.sup.staging = x →
       exec (.engineSelftestDone x true) s = .next (settle s
         (let s1 := raise Src.engSelftest (stopSelftest x s)
          { s1 with sup := { s1.sup with swap := .ready } })) ∧
       exec (.engineSelftestDone x false) s = .next (settle s (endSwap true (noteFault x 7 0 0
         (supErr 7 (raise Src.engSelftest (stopSelftest x s)))))))) ∧
  (∀ s : State, s.pwr.released = true →
     (docInProgress s = true ∨ (s.top.state ≠ .ready ∧ s.top.state ≠ .gap) → exec .quietPoint s = .next (settle s s)) ∧
     (docInProgress s = false → s.top.state = .ready → s.sup.safePending = false → s.sup.switchPending = true → fwRuns s = false →
       exec .quietPoint s = .next (settle s
         (let x := mainEng s
          closeFailed (startSelftest x (giveBrake x.other (rolesFor x .rejoining .solo
            { s with sup := { s.sup with switchPending := false, rejoinWait := false } })))))) ∧
     (docInProgress s = false → s.top.state = .gap → s.sup.safePending = true → fwRuns s = false →
       exec .quietPoint s = .next (settle s (setState .safeHold { s with sup := { s.sup with safePending := false, engSafeHold := true } }))) ∧
     (docInProgress s = false → s.top.state = .ready → s.sup.safePending = false → s.sup.switchPending = false → s.sup.swap = .closed →
       s.sup.rejoinWait = true → s.sup.rejoining = false → fwRuns s = false →
       exec .quietPoint s = .next (settle s (queueFull 0 { s with sup := { s.sup with rejoining := true, rejoinDue := BitVec.allOnes 16 } }))))

/-- The host's commands to the pair, each where R315 accepts it and where it refuses it. None acts before the SELFTEST stage of the start
has ended, or in the clock of a fault report, which prevails. The swap of the profile blocks: it opens only for a pair with none open, is
armed only from its staging and with a good check value, and is cancelled only while open. The engines are logged by the firmware's timer,
in the interval that the image gives, from the last time on.
(R34, R311, R315, R316, R317, R318, R320) -/
def Obligations.PairCommands : Prop :=
  (∀ s0 : State, s0.link.cfgReady = true →
     let s := touchLink s0
     let out (t : State) : Host.Outcome State Fault Refusal := .next (settle s0 t)
     (supReady s = true ↔ s0.sup.started = true ∧ s0.sup.faultAt ≠ some s0.now) ∧
     (∀ x, roleOf x s = .solo ∨ supReady s = false → exec (.engineRetire x) s0 = out (supRefuse 1 x s)) ∧
     (∀ x, supReady s = true → roleOf x s = .retired → exec (.engineRetire x) s0 = out (supCmd 1 x false s)) ∧
     (∀ x, supReady s = true → isPair s = true → exec (.engineRetire x) s0 = out (engineFault x 8 true 0 0 0 (supCmd 1 x false s))) ∧
     (∀ x, supReady s = true → roleOf x s = .rejoining → isPair s = false → s.sup.swap = .closed → exec (.engineRetire x) s0 = out
       (let s1 := noteFault x 8 0 0 (stopSelftest x (supCmd 1 x false s))
        rolesFor x .retired .solo (dropCopies { s1 with sup := { s1.sup with rejoinWait := false, rejoining := false, switchPending := false } }))) ∧
     (∀ x, supReady s = true → roleOf x s = .retired → exec (.engineRevive x) s0 = out
       (startSelftest x (rolesFor x .rejoining .solo (supCmd 2 x false s)))) ∧
     (∀ x, roleOf x s ≠ .retired ∨ supReady s = false → exec (.engineRevive x) s0 = out (supRefuse 2 x s)) ∧
     (isPair s = true → supReady s = true → exec .failoverTest s0 = out
       (let s1 := supCmd 3 (cmdEngine s) false s
        { s1 with sup := { s1.sup with testPending := true } })) ∧
     (isPair s = false ∨ supReady s = false → exec .failoverTest s0 = out (supRefuse 3 (cmdEngine s) s)) ∧
     (s.sup.engSafeHold = true → supReady s = true → exec .engineRestart s0 = out
       (let s1 := supCmd 7 (cmdEngine s) false s
        startSelftest .b (startSelftest .a { s1 with sup := { s1.sup with restarting := true, resultA := none, resultB := none } }))) ∧
     (s.sup.engSafeHold = false ∨ supReady s = false → exec .engineRestart s0 = out (supRefuse 7 (cmdEngine s) s)) ∧
     exec .supCntClr s0 = out { s with sup := { s.sup with
       mismatches := 0, failovers := 0, copies := 0, copyDiff := 0, copyStale := 0, copyDiscard := 0, verdictMax := 0 } }) ∧
  (∀ s0 : State, s0.link.cfgReady = true →
     let s := touchLink s0
     let out (t : State) : Host.Outcome State Fault Refusal := .next (settle s0 t)
     let s4 := supCmd 4 (cmdEngine s) false s
     let s5 := supCmd 5 (cmdEngine s) false s
     let x := (mainEng s).other
     (isPair s = true → s.sup.swap = .closed → supReady s = true → exec .swapOpen s0 = out
       (let s1 := dropCopies (withdraw x (noteFault x 8 0 0 s4))
        raise Src.supRole (rolesFor x .rejoining .solo { s1 with sup := { s1.sup with
         swap := .staging, staging := x, rejoinWait := false, testPending := false } }))) ∧
     (isPair s = false ∨ s.sup.swap ≠ .closed ∨ supReady s = false → exec .swapOpen s0 = out (supRefuse 4 (cmdEngine s) s)) ∧
     (s.sup.swap = .staging → supReady s = true → crc32c (stageBytes s5) = s5.sup.stageCrc → exec .swapArm s0 = out
       (let y := s5.sup.staging
        let s6 := setEng y { eng y s5 with blocks := s5.sup.stage } s5
        startSelftest y { s6 with sup := { s6.sup with swap := .armed } })) ∧
     (s.sup.swap = .staging → supReady s = true → crc32c (stageBytes s5) ≠ s5.sup.stageCrc → exec .swapArm s0 = out (endSwap true s5)) ∧
     (s.sup.swap ≠ .staging ∨ supReady s = false → exec .swapArm s0 = out (supRefuse 5 (cmdEngine s) s)) ∧
     (swapOpenNow s = true → supReady s = true → exec .swapCancel s0 = out (endSwap false (supCmd 6 (cmdEngine s) false s))) ∧
     (swapOpenNow s = false ∨ supReady s = false → exec .swapCancel s0 = out (supRefuse 6 (cmdEngine s) s)) ∧
     let due := max s0.now (s0.mgt.healthAt + 28800000000000 * s0.mgt.healthH)
     let u : State := { s0 with now := due, mgt := { s0.mgt with healthAt := due } }
     (s0.pwr.released = true → fwRuns s0 = true → exec .healthLogTimer s0 = out (logEngines true u)) ∧
     (s0.pwr.released = true → fwRuns s0 = false → exec .healthLogTimer s0 = out u))

/-! ## The transport port -/

/-- Commands of the port: in the states that take none each is refused and counted; where R334 accepts one it has its effect, where it
defers one it waits, where it refuses one nothing but the result changes. FAULT_ACK removes the oldest record, and the fault registers show
the next. (R331, R332, R333, R334, R335, R336) -/
def Obligations.PortCommands : Prop :=
  ∀ s : State, s.pwr.released = true →
    let refuse (op : Nat) : Host.Outcome State Fault Refusal := .next (settle s (refuseNotNow op s))
    (notReady s.top.state = true → exec .tpNop s = refuse 0 ∧ exec .stop s = refuse 3 ∧ exec .abortDoc s = refuse 4 ∧
      exec .calibrate s = refuse 5 ∧ exec .testStrip s = refuse 6 ∧ exec .maintEnter s = refuse 7 ∧ exec .maintExit s = refuse 8 ∧
      exec .faultAck s = refuse 9 ∧ exec .ovsClear s = refuse 10 ∧ exec .cancel s = refuse 11 ∧
      exec (.holdAdmit none) s = refuse 1 ∧ exec (.releaseAdmit none) s = refuse 2) ∧
    (notReady s.top.state = false →
      exec .tpNop s = .next (settle s (noteCmd 0 0 s)) ∧
      exec (.holdAdmit none) s = .next (settle s (setAdmitHold true (noteCmd 1 0 s))) ∧
      exec (.releaseAdmit none) s = .next (settle s (setAdmitHold false (noteCmd 2 0 s))) ∧
      (∀ w, s.link.cfgReady = true → exec (.releaseAdmit (some w)) s = .next (settle s (setAdmitHold w (noteCmd 2 0 (setAdmitHold w s)))) ∧
        exec (.holdAdmit (some w)) s = .next (settle s (setAdmitHold true (noteCmd 1 0 (setAdmitHold w s))))) ∧
      (∀ w, s.link.cfgReady = false → exec (.releaseAdmit (some w)) s = exec (.releaseAdmit none) s ∧
        exec (.holdAdmit (some w)) s = exec (.holdAdmit none) s) ∧
      (s.tpt.deferStop = false → s.top.state ≠ .calib → exec .stop s = .next (settle s (stopDevice (noteCmd 3 0 s)))) ∧
      (s.tpt.deferStop = false → s.top.state = .calib → exec .stop s =
        .next (settle s (modTpt (fun t => { t with deferStop := true }) (noteCmd 3 1 s)))) ∧
      (argDoc s.tpt ≠ 0 → argDoc s.tpt ≠ BitVec.allOnes 32 → docLive (argDoc s.tpt) s = true → s.tpt.deferStop = false →
        exec .abortDoc s = .next (settle s (abortDocument (argDoc s.tpt) (noteCmd 4 0 s)))) ∧
      (argDoc s.tpt = 0 → exec .abortDoc s = .next (settle s (refuseBad 4 s))) ∧
      (∀ r rest, s.tpt.fifo = r :: rest →
        let u := modTpt (fun t => { t with fifo := rest }) (noteCmd 9 0 s)
        exec .faultAck s = .next (settle s (captureFault u)) ∧
        (∀ q l, rest = q :: l → (captureFault u).cap = { s.cap with
          faultDoc := (q.docId >>> 16).setWidth 16, faultTag := (q.tag >>> 16).setWidth 16, faultLine := (q.line >>> 16).setWidth 16 })) ∧
      (s.tpt.fifo = [] → exec .faultAck s = refuse 9) ∧
      exec .ovsClear s = .next (settle s (clearOvs (if s.tpt.arg0.getLsbD 0 then .b else .a) (noteCmd 10 0 s))) ∧
      (2 < s.tpt.arg0.toNat → exec .cancel s = .next (settle s (refuseBad 11 s))) ∧
      (s.tpt.arg0.toNat = 0 → s.tpt.deferStop = true → exec .cancel s = .next (settle s (cancelStop (noteCmd 11 0 s)))))

/-- Calibration, test strip and maintenance from the port: in READY and GAP accepted, in PRINT and THERMAL_HOLD deferred, in SAFE_HOLD refused;
a calibration is deferred in MAINT too and refused in CALIB, MAINT_ENTER the other way about; maintenance is left only in MAINT. A command
whose class is deferred already is refused. CANCEL takes back what is deferred of its class, and is refused where nothing is. Deferred
commands are carried out in the order STOP, CAL, MAINT, each once its entry for the state is A, and CAL and MAINT once every load handed
over has passed: a STOP that is due stops the device before the others are looked at, and waits in CALIB; a calibration that is due starts,
which leaves a deferred MAINT_ENTER waiting; one whose state refuses it is cancelled. A deferred calibration also waits for the firmware.
(R331, R334, R335, R444) -/
def Obligations.PortModes : Prop :=
  (∀ s : State, s.pwr.released = true → s.tpt.deferCal = none →
     (s.top.state = .ready ∨ s.top.state = .gap →
       exec .calibrate s = .next (settle s (startCal true (noteCmd 5 0 s))) ∧
       exec .testStrip s = .next (settle s (startCal false (noteCmd 6 0 s)))) ∧
     (s.top.state = .print ∨ s.top.state = .maint ∨ s.top.state = .thermalHold →
       exec .calibrate s = .next (settle s (modTpt (fun t => { t with deferCal := some true }) (noteCmd 5 1 s))) ∧
       exec .testStrip s = .next (settle s (modTpt (fun t => { t with deferCal := some false }) (noteCmd 6 1 s)))) ∧
     (s.top.state = .calib ∨ s.top.state = .safeHold →
       exec .calibrate s = .next (settle s (refuseNotNow 5 s)) ∧ exec .testStrip s = .next (settle s (refuseNotNow 6 s)))) ∧
  (∀ s : State, s.pwr.released = true → s.tpt.deferMaint = false →
     (s.top.state = .ready ∨ s.top.state = .gap → exec .maintEnter s = .next (settle s (beginMaint (noteCmd 7 0 s)))) ∧
     (s.top.state = .print ∨ s.top.state = .calib ∨ s.top.state = .thermalHold →
       exec .maintEnter s = .next (settle s (modTpt (fun t => { t with deferMaint := true }) (noteCmd 7 1 s)))) ∧
     (s.top.state = .maint ∨ s.top.state = .safeHold → exec .maintEnter s = .next (settle s (refuseNotNow 7 s))) ∧
     (s.top.state = .maint → exec .maintExit s = .next (settle s (leaveMaint (noteCmd 8 0 s)))) ∧
     (s.top.state ≠ .maint → exec .maintExit s = .next (settle s (refuseNotNow 8 s)))) ∧
  (∀ s : State, s.pwr.released = true → notReady s.top.state = false →
     (s.tpt.deferCal ≠ none →
       exec .calibrate s = .next (settle s (refuseNotNow 5 s)) ∧ exec .testStrip s = .next (settle s (refuseNotNow 6 s))) ∧
     (s.tpt.deferMaint = true →
       exec .maintEnter s = .next (settle s (refuseNotNow 7 s)) ∧ exec .maintExit s = .next (settle s (refuseNotNow 8 s))) ∧
     (s.tpt.arg0 = 0 → exec .cancel s = .next (settle s
       (if s.tpt.deferStop = true then cancelStop (noteCmd 11 0 s) else refuseNotNow 11 s))) ∧
     (s.tpt.arg0 = 1 → exec .cancel s = .next (settle s
       (if s.tpt.deferCal ≠ none then cancelCal (noteCmd 11 0 s) else refuseNotNow 11 s))) ∧
     (s.tpt.arg0 = 2 → exec .cancel s = .next (settle s
       (if s.tpt.deferMaint = true then cancelMaint (noteCmd 11 0 s) else refuseNotNow 11 s)))) ∧
  (∀ s : State, s.pwr.released = true →
     exec .deferredCmdExecute s = .next (settle s (runMaint (runCal (runStop s)))) ∧
     (s.tpt.deferStop = false → s.tpt.deferCal = none → s.tpt.deferMaint = false → exec .deferredCmdExecute s = .next (settle s s)) ∧
     (s.tpt.deferStop = true → notReady s.top.state = false → s.top.state ≠ .calib →
       exec .deferredCmdExecute s = .next (settle s (runMaint (runCal
         (stopDevice (noteDone (modTpt (fun t => { t with deferStop := false }) s))))))) ∧
     (s.tpt.deferStop = true → s.top.state = .calib → s.tpt.deferCal = none → exec .deferredCmdExecute s = .next (settle s s)) ∧
     (∀ full, s.tpt.deferStop = false → s.tpt.deferCal = some full →
       (s.top.state = .ready ∨ s.top.state = .gap → loadsPassed s = true → fwRuns s = true →
         exec .deferredCmdExecute s = .next (settle s (startCal full (noteDone (modTpt (fun t => { t with deferCal := none }) s))))) ∧
       (s.tpt.deferMaint = false →
         (s.top.state = .ready ∨ s.top.state = .gap → loadsPassed s = false ∨ fwRuns s = false →
           exec .deferredCmdExecute s = .next (settle s s)) ∧
         (s.top.state = .print ∨ s.top.state = .maint ∨ s.top.state = .thermalHold → exec .deferredCmdExecute s = .next (settle s s)) ∧
         (s.top.state = .calib ∨ s.top.state = .safeHold → exec .deferredCmdExecute s = .next (settle s (cancelCal s))))) ∧
     (s.tpt.deferStop = false → s.tpt.deferCal = none → s.tpt.deferMaint = true →
       (s.top.state = .ready ∨ s.top.state = .gap →
         exec .deferredCmdExecute s = .next (settle s (if loadsPassed s = true then
           beginMaint (noteDone (modTpt (fun t => { t with deferMaint := false }) s)) else s))) ∧
       (s.top.state = .print ∨ s.top.state = .calib ∨ s.top.state = .thermalHold → exec .deferredCmdExecute s = .next (settle s s)) ∧
       (s.top.state = .maint ∨ s.top.state = .safeHold → exec .deferredCmdExecute s = .next (settle s (cancelMaint s)))))

/-- The mailboxes and the fault pulse: a word goes into its register, the last of the host's sets MAIL and the last of the transport
side's raises the event; a pulse is low for 2 µs and then high for at least 1 µs. (R329, R341) -/
def Obligations.PortMailAndPulse : Prop :=
  ∀ s : State,
    (∀ (i : Fin 8) (v : Half), s.link.cfgReady = true →
      (i ≠ 7 → exec (.hostMailWrite i v) s = .next (settle s (modTpt (fun t => { t with hostMail := t.hostMail.set i.val v i.isLt }) (touchLink s)))) ∧
      (i = 7 → exec (.hostMailWrite i v) s =
        .next (settle s (tpFlag Tpf.mail (modTpt (fun t => { t with hostMail := t.hostMail.set i.val v i.isLt }) (touchLink s)))))) ∧
    (∀ (i : Fin 8) (v : Half), s.pwr.released = true →
      (notReady s.top.state = true → exec (.tpMailWrite i v) s = .next (settle s (modTpt (fun t => { t with ignored := satInc t.ignored }) s))) ∧
      (notReady s.top.state = false → i ≠ 7 →
        exec (.tpMailWrite i v) s = .next (settle s (modTpt (fun t => { t with tpMail := t.tpMail.set i.val v i.isLt }) s))) ∧
      (notReady s.top.state = false → i = 7 → exec (.tpMailWrite i v) s =
        .next (settle s (raise Src.tpMail (modTpt (fun t => { t with tpMail := t.tpMail.set i.val v i.isLt }) s))))) ∧
    (s.pwr.released = true → 0 < s.tpt.pulses → s.tpt.pulseLow = false →
      exec .docfaultPulse s = .next (settle s (modTpt (fun t => { t with
        pulses := t.pulses - 1, pulseLow := true, pulseAt := max s.now t.pulseAt + 16000 }) { s with now := max s.now s.tpt.pulseAt }))) ∧
    (s.pwr.released = true → s.tpt.pulseLow = true →
      exec .docfaultPulseEnd s = .next (settle s (modTpt (fun t => { t with
        pulseLow := false, pulseAt := max s.now t.pulseAt + 8000 }) { s with now := max s.now s.tpt.pulseAt })))

/-! ## The motion axes -/

/-- An axis command is judged in the order of R364: a refused one records its reason, is counted and changes nothing else; an accepted one
acts. The reasons of R364 in their order: a state that does not allow the command, an axis that moves, a lost position, a limit or
chatter, a bridge that is off. A move in the clock of a stop counts as one on a moving axis. A move from an idle axis with a known position that nothing bars is accepted. (R358, R362, R363, R364) -/
def Obligations.AxisCommands : Prop :=
  (∀ (a : Fin 4) (s : State), s.link.cfgReady = true →
     let r (op : Nat) : Nat := cmdResult op s.now s.top.state s.mot.vmGood s.mot.axes[a]
     let n (op : Nat) : State := modAxis a (noteAxisCmd op (r op)) (touchLink s)
     let out (op : Nat) (act : State → State) : Host.Outcome State Fault Refusal := .next (settle s (if r op = 0 then act (n op) else n op))
     exec (.moveAbs a) s = out 1 (moveAbs a) ∧ exec (.moveRel a) s = out 2 (moveRel a) ∧ exec (.home a) s = out 3 (startHome a) ∧
     exec (.softStop a) s = out 4 (softStop a) ∧ exec (.axisStop a) s = out 5 (stopAxis a) ∧ exec (.energise a) s = out 6 (energise a) ∧
     exec (.disable a) s = out 7 (disableAxis a) ∧ exec (.setPos a) s = out 8 (setPosition a) ∧ exec (.jog a) s = out 9 (jogAxis a) ∧
     let halt (i : Fin 4) (u : State) : State := modAxis i (fun x => { x with stoppedAt := some s.now }) (stopAxis i u)
     exec .motStopAll s = .next (settle s (halt 3 (halt 2 (halt 1 (halt 0 (touchLink s))))))) ∧
  (∀ (st : DevState) (vm : Bool) (now : Nat) (a : Axis),
     let cmdResult (op : Nat) (st : DevState) (vm : Bool) (a : Axis) : Nat := Machine.cmdResult op now st vm a
     (motionState (maintOnly a) st = false → cmdResult 1 st vm a = 1 ∧ cmdResult 2 st vm a = 1 ∧ cmdResult 3 st vm a = 1 ∧ cmdResult 9 st vm a = 1) ∧
     (motionState (maintOnly a) st = true → a.motion ≠ .idle ∨ a.stoppedAt = some now →
       cmdResult 1 st vm a = 2 ∧ cmdResult 2 st vm a = 2 ∧ cmdResult 3 st vm a = 2 ∧ cmdResult 8 st vm a = 2 ∧ cmdResult 9 st vm a = 2) ∧
     (motionState (maintOnly a) st = true → a.motion = .idle → a.stoppedAt ≠ some now → a.posState.toNat < 2 → cmdResult 1 st vm a = 3) ∧
     (motionState (maintOnly a) st = true → a.motion = .idle → a.stoppedAt ≠ some now → a.chatter = true → cmdResult 2 st vm a = 4) ∧
     (motionState (maintOnly a) st = true → a.motion = .idle → a.stoppedAt ≠ some now → a.chatter = false → a.hiNow = false → a.loNow = false → a.bridge = .off →
       cmdResult 2 st vm a = 5) ∧
     (motionState (maintOnly a) st = true → a.motion = .idle → a.stoppedAt ≠ some now → 2 ≤ a.posState.toNat → a.chatter = false → a.hiNow = false → a.loNow = false →
       a.bridge ≠ .off → cmdResult 1 st vm a = 0 ∧ cmdResult 2 st vm a = 0) ∧
     (stopState st = true → cmdResult 4 st vm a = 0 ∧ cmdResult 5 st vm a = 0) ∧
     (bridgeState st = true → cmdResult 7 st vm a = 0 ∧ cmdResult 6 st true a = 0 ∧ cmdResult 6 st false a = 5) ∧
     cmdResult 0 st vm a = 6 ∧ cmdResult 15 st vm a = 6)

/-- A servo period: the clock reaches the period, the supply reading is taken, and every axis has its period in turn. An axis at rest
keeps its position through a servo period. Homing goes on to its back-off when it has settled; a hold delay ends in the hold current.
(R345, R346, R347, R350, R355) -/
def Obligations.AxisTiming : Prop :=
  (∀ (rd : ServoIn) (s : State), s.pwr.released = true →
     let now := max s.now s.mot.servoAt
     exec (.servoPeriod rd) s = .next (settle s (servoAxis 3 rd.load3 (servoAxis 2 rd.load2 (servoAxis 1 rd.load1 (servoAxis 0 rd.load0
       { s with now := now, mot := { s.mot with servoAt := now + 400000, vm := satNat 16 rd.vm10mV } })))))) ∧
  (∀ (i : Fin 4) (load : Nat) (s : State), s.mot.axes[i].leg = none →
     (servoAxis i load s).mot.axes[i].pos = s.mot.axes[i].pos ∧ (servoAxis i load s).mot.axes[i].posState = s.mot.axes[i].posState ∧
     (servoAxis i load s).mot.axes[i].stalls = s.mot.axes[i].stalls) ∧
  (∀ (a : Fin 4) (s : State), s.pwr.released = true →
     let x := s.mot.axes[a]
     (x.home = .settle → exec (.homeSettleEnd a) s = .next (settle s (modAxis a
       (fun x => beginLeg .homing .backoff (!homeDir x) (some (x.backoff.toNat * 65536)) (homeSpeed x) x) { s with now := max s.now x.settleAt }))) ∧
     (x.home ≠ .settle → exec (.homeSettleEnd a) s = .next (settle s s)) ∧
     (∀ t, x.holdAt = some t → exec (.holdDelayEnd a) s = .next (settle s (modAxis a
       (fun x => { x with holdAt := none, bridge := if x.bridge = .off then .off else .hold }) { s with now := max s.now t }))) ∧
     (x.holdAt = none → exec (.holdDelayEnd a) s = .next (settle s s)))

/-- The limits. A level counts once it has stood for its debounce time on an enabled input and is new to it; another changes nothing. One that
counts is remembered with its time; one that trips stops an axis that travels towards it, fails a homing that backs off, and in the seek of a
homing is the reference, where POS becomes HOME_OFFSET at the edge, or fails it; the eighth change within 100 ms is chatter, which stops the
axis. A bridge fault takes the axis off with its position lost, or every axis where the supply is out of its window; an open coil counts
only with 100 mA or more below STALL.MIN_SPEED; VM good energises the axes restored from retention. In STANDBY a fault of the supply loses
the retained positions, and is shown at the start. (R352, R353, R356, R359, R361) -/
def Obligations.AxisFaults : Prop :=
  (∀ (a : Fin 4) (hi level : Bool) (n : Nat) (s : State), s.pwr.released = true →
     let x := s.mot.axes[a]
     let tripped := level == x.limCfg.getLsbD (if hi then 19 else 18)
     let recent := (s.now :: if hi then x.hiTimes else x.loTimes).filter fun t => decide (s.now < t + 800000000)
     let s1 := modAxis a (fun x => if hi then { x with hiNow := tripped, hiTimes := recent.take 8 }
       else { x with loNow := tripped, loTimes := recent.take 8 }) s
     let u := if tripped then limitTrips a hi (edgePosition n x s) s1 else s1
     (limitQualifies hi level n x = true ↔ x.limCfg.getLsbD (if hi then 17 else 16) = true ∧ tripped ≠ (if hi then x.hiNow else x.loNow) ∧
       10 * ((x.limCfg.toNat / (if hi then 256 else 1)) % 256) ≤ n) ∧
     (limitQualifies hi level n x = false → exec (.limitQualified a hi level n) s = .next (settle s s)) ∧
     (limitQualifies hi level n x = true →
       (recent.length < 8 ∨ u.mot.axes[a].chatter = true → exec (.limitQualified a hi level n) s = .next (settle s u)) ∧
       (8 ≤ recent.length → u.mot.axes[a].chatter = false →
         exec (.limitQualified a hi level n) s = .next (settle s (countClass Cls.motLimit (raise Src.motLimit (stopAxis a
           (modAxis a (fun x => { x with err := setBit x.err 3, chatter := true }) u))))))) ∧
     (∀ e : BitVec 48,
       (x.home = .none → travels hi x = true → limitTrips a hi e s1 = countClass Cls.motLimit (raise Src.motLimit (stopAxis a
         (modAxis a (fun x => { x with err := setBit x.err 2, limTrips := satInc x.limTrips }) s1)))) ∧
       (x.home = .none → travels hi x = false → limitTrips a hi e s1 = s1) ∧
       (x.home = .backoff → limitTrips a hi e s1 = homeFails a 4 s1) ∧
       (x.home = .seek → limitTrips a hi e s1 =
         if limAsHome x = true ∧ hi = homeDir x then limitReference a e s1 else homeFails a 4 s1) ∧
       (limitReference a e s).mot.axes[a].pos = x.pos + (wholePos x.homeOffset - e) ∧
       (homeFails a 4 s).mot.axes[a].motion = .idle ∧ (homeFails a 4 s).mot.axes[a].posState = 1)) ∧
  ((∀ (c : BridgeCause) (s : State), s.pwr.released = false → c = .vmLow ∨ c = .vmHigh → s.top.state = .standby →
     exec (.bridgeFault c) s = .next (settle s { s with pwr := { s.pwr with
       heldVm := setBit s.pwr.heldVm (if c = .vmLow then 0 else 1)
       axisRecs := s.pwr.axisRecs.map fun r => { r with posState := 0, energised := false } } })) ∧
   (∀ (c : BridgeCause) (s : State), s.pwr.released = false → s.top.state ≠ .standby → exec (.bridgeFault c) s = .next (settle s s)) ∧
   ∀ s : State, s.pwr.released = true →
     let off (x : Axis) : Axis := { bridgesOff x with stoppedAt := some s.now }
     (∀ a, exec (.bridgeFault (.overcurrent a)) s =
       .next (settle s (countClass Cls.motBridge (raise Src.motFault (axisErr a 6 (modAxis a off s)))))) ∧
     (∀ a : Fin 4, let x := s.mot.axes[a]
       (x.bridge ≠ .off → 12800 ≤ x.iSet → x.speed.natAbs < x.stall.toNat % 65536 → exec (.bridgeFault (.openCoil a)) s =
         .next (settle s (countClass Cls.motBridge (raise Src.motFault (axisErr a 7 (modAxis a off s)))))) ∧
       (x.bridge = .off ∨ x.iSet < 12800 ∨ x.stall.toNat % 65536 ≤ x.speed.natAbs →
         exec (.bridgeFault (.openCoil a)) s = .next (settle s s))) ∧
     exec (.bridgeFault .vmLow) s = .next (settle s (countClass Cls.motBridge (raise Src.motFault (vmFault 0 true s)))) ∧
     exec (.bridgeFault .vmHigh) s = .next (settle s (countClass Cls.motBridge (raise Src.motFault (vmFault 1 false s)))) ∧
     (∀ a : Fin 4, (vmFault 0 true s).mot.axes[a].bridge = .off ∧ (vmFault 0 true s).mot.axes[a].posState = 0) ∧
     (∃ u, exec .vmGood s = .next (settle s u) ∧ u.mot.vmGood = true ∧ ∀ a : Fin 4,
       u.mot.axes[a] = if s.mot.axes[a].reenergise then { s.mot.axes[a] with reenergise := false, bridge := .hold } else s.mot.axes[a]))

/-! ## Temperature, calibration, fuses and power -/

/-- The 1 ms update: with a plausible reading and a good sensor the temperatures, the peak, the warning, the throttle and its level follow
the reading; three implausible readings in a row fail the sensor, which in a SAFE_HOLD that stands already changes its flags alone (log
entry 92); a plausible reading trims both RC oscillators while the sensor is good, by the free function of log entry 91. The thermal record
is rewritten each millisecond of a document in progress; the RC is trimmed every 8 s of STANDBY; SENSOR_RESUME of a good sensor is remembered, and ends the failure of one that meets
R381's conditions; PEAK_CLR clears the peak. A shut-down holds both dies in reset, is counted and shows its cause, and trips in a device that is held in reset as in one that runs; once a second the diode
is tested again, and the device starts again when it is plausible and at or below 130 °C; a diode fault of 2 s counts as hot. (R368, R369,
R370, R371, R374, R375, R376, R377, R378, R381, R384, R385) -/
def Obligations.ThermalBlock : Prop :=
  (∀ (rd : ThmIn) (s : State), s.pwr.released = true →
     let avg := filterStep (tauDd s.thm * 100) s.thm.driveAvg ((rd.pVdrv + rd.pBridge) * 1000)
     let drive := rd.tLogic + riseOf (thetaDd s.thm) avg
     let ctl := max rd.tLogic drive
     let thr := decide (2000 ≤ ctl) || (s.thm.throttle && decide (1920 < ctl))
     (plausible rd = true → s.thm.sensorFail = false → s.thm.modelActive = false → drive < 2400 →
       ∃ t, exec (.thmUpdate rd) s = .next t ∧ t.thm.tLogic = rd.tLogic ∧ t.thm.tDrive = drive ∧ t.thm.tCtl = ctl ∧
         t.thm.peak = some (match s.thm.peak with | some p => max p ctl | none => ctl) ∧ t.thm.warn = (decide (1840 ≤ ctl) || (s.thm.warn && decide (1760 < ctl))) ∧
         t.thm.throttle = thr ∧ t.thm.level = (if thr then (max 0 (min 64 ((ctl - 2000) * 64 / 240))).toNat else 0) ∧
         t.now = (s.now / 8000000 + 1) * 8000000 ∧ t.dma.map Dma.unasked = s.dma.map Dma.unasked ∧ t.ftl = s.ftl ∧ t.otp = s.otp ∧ t.pond.mem = s.pond.mem) ∧
     (exec (.thmUpdate rd) s = .next (settle s (driveTrip (thermalUpdate rd { s with now := (s.now / 8000000 + 1) * 8000000 })))) ∧
     (plausible rd = false → s.thm.failRun = 2 → s.thm.sensorFail = false →
       let u := takeReading rd s
       u.thm.sensorFail = true ∧ u.thm.plausFails = satInc s.thm.plausFails ∧
       (s.top.state ≠ .safeHold → u.thm.modelActive = true ∧ u.thm.hold = true ∧ u.thm.level = 64 ∧
         u.thm.sensorFails = satInc s.thm.sensorFails) ∧
       (s.top.state = .safeHold → u.thm.modelActive = s.thm.modelActive ∧ u.thm.hold = s.thm.hold ∧ u.thm.level = s.thm.level ∧
         u.thm.plausible = s.thm.plausible)) ∧
     (plausible rd = true → s.thm.sensorFail = false →
       (takeReading rd s).thm.rcFast = Config.rcTrim true s.pwr.rcCoef.1 s.pwr.rcCoef.2 rd.tLogic ∧
       (takeReading rd s).pwr.rcTrim = Config.rcTrim false s.pwr.rcCoef.1 s.pwr.rcCoef.2 rd.tLogic) ∧
     (plausible rd = true → s.thm.sensorFail = true →
       (takeReading rd s).thm.rcFast = s.thm.rcFast ∧ (takeReading rd s).pwr.rcTrim = s.pwr.rcTrim)) ∧
  (∀ s : State,
     (s.pwr.released = true → docInProgress s = true →
       let l := s.docs.filter fun d => d.admitted
       exec .thermalRecordRewrite s = .next (settle s { s with
         now := (s.now / 8000000 + 1) * 8000000
         pwr := { s.pwr with thermCount := l.length, thermDocs := (l.take 4).map fun d => ⟨d.id, BitVec.ofNat 24 (firstUnfired d s)⟩ } })) ∧
     (s.pwr.released = true → docInProgress s = false → exec .thermalRecordRewrite s = .next (settle s s)) ∧
     (∀ temp, s.top.state = .standby →
       let t := (s.now / 64000000000 + 1) * 64000000000
       exec (.standbyRcTrim temp) s = .next (settle s { s with now := t, pwr := { s.pwr with
         rcTrimAt := t, rcTrim := Config.rcTrim false s.pwr.rcCoef.1 s.pwr.rcCoef.2 temp } })) ∧
     (∀ temp, s.top.state ≠ .standby → exec (.standbyRcTrim temp) s = .next (settle s s)) ∧
     (s.link.cfgReady = true → s.thm.sensorFail = false →
       exec .sensorResume s = .next (settle s { touchLink s with thm := { s.thm with resume := true } })) ∧
     (s.link.cfgReady = true → s.thm.sensorFail = true → 1000 ≤ s.thm.passRun → s.thm.tCtl ≤ 2160 →
       ∃ t, exec .sensorResume s = .next t ∧ t.thm.sensorFail = false ∧ t.thm.modelActive = false ∧ t.thm.resume = true) ∧
     (s.link.cfgReady = true → exec .thmPeakClr s = .next (settle s { touchLink s with thm := { s.thm with peak := none } }))) ∧
  (∀ s : State,
     (∀ c, s.pwr.released = true → s.pwr.supply.getLsbD 0 = true → s.thm.tripped = none →
       ∃ u, exec (.thermalShutdown c) s = .next (settle s u) ∧ u.thm.tripped = some c ∧ u.pwr.released = false ∧ u.pwr.resetCause = 16 ∧
         u.pwr.shutdowns = satInc s.pwr.shutdowns ∧ u.otp.cells = s.otp.cells ∧ u.pwr.retUser = s.pwr.retUser) ∧
     (∀ c, s.pwr.released = false → s.pwr.supply.getLsbD 0 = true → s.thm.tripped = none → exec (.thermalShutdown c) s = .next (settle s
       { s with thm := { s.thm with tripped := some c }, pwr := { s.pwr with
         shutdowns := satInc s.pwr.shutdowns, heldShut := some c, resetCause := 16, retCause := 16
         axisRecs := s.pwr.axisRecs.map fun r => { r with posState := 0, energised := false } } })) ∧
     (∀ c, s.pwr.supply.getLsbD 0 = false ∨ s.thm.tripped ≠ none → exec (.thermalShutdown c) s = .next (settle s s)) ∧
     (s.pwr.released = true → s.pwr.supply.getLsbD 0 = true → s.thm.tripped = none →
       ∃ t, exec .diodeFaultTimeout s = .next t ∧ t.thm.tripped = some .openShort ∧ t.now = s.now + 16000000000 ∧ t.pwr.released = false) ∧
     (∀ c bad temp, s.thm.tripped = some c → bad = true ∨ 2080 < temp →
       exec (.shutdownRetest bad temp) s = .next (settle s { s with now := (s.now / 8000000000 + 1) * 8000000000 })) ∧
     (∀ c temp, s.thm.tripped = some c → temp ≤ 2080 → s.pwr.perst = true → s.pwr.supply = 0x7F → s.pwr.released = false →
       ∃ t, exec (.shutdownRetest false temp) s = .next t ∧ t.thm.tripped = none ∧ t.pwr.released = true) ∧
     (∀ bad temp, s.thm.tripped = none → exec (.shutdownRetest bad temp) s = .next (settle s s)))

/-- The triggers: the period makes a partial calibration due, a due trigger runs in READY and GAP with no document in progress, and
becomes a deferred command after GRACE where the state allows one; elsewhere its grace starts again. The host's requests are refused while
one is deferred, started in READY and GAP, and deferred in PRINT. The end of a calibration that runs in CALIB, what it leaves (LAST_TIME as the
stamp of its end, log entry 52; the step timing of trims that still move kept; an echo baseline to take afresh at every port), and what its
results do: with a failed IREF no trim is posted; a code within its limit becomes the entry's target, at once where its output is not
in use; a full one takes the board calibration into use. A full trigger in a partial calibration is due at its exit, and one that is
due when a partial calibration starts makes that a full one. Each 64 µs a moving trim goes one step towards its target. (R388, R389, R390, R391, R392, R394, R395, R449) -/
def Obligations.Calibration : Prop :=
  (∀ s : State,
     (s.pwr.released = true → s.cal.cfg.getLsbD 24 = true → s.cal.running = none → s.cal.dueFull = none →
       let t := max s.now (s.cal.lastAt + 480000000000 * (s.cal.cfg.toNat % 256))
       exec .calPeriodExpiry s = .next (settle s { s with
         now := t, cal := { s.cal with lastAt := t, duePart := some (s.cal.duePart.getD t) } })) ∧
     (s.pwr.released = true → s.cal.cfg.getLsbD 24 = false → exec .calPeriodExpiry s = .next (settle s s)) ∧
     (∀ k, s.pwr.released = true → s.cal.dueFull = some k →
       (s.top.state = .ready ∨ s.top.state = .gap → docInProgress s = false → fwRuns s = true → s.tpt.deferCal = none →
         exec .calDueStart s = .next (settle s (setState .calib { s with mgt := { s.mgt with calRun := false }, cal := { s.cal with
           running := some true, startAt := s.now, duePart := none, dueFull := none, overdue := false } }))) ∧
       (docInProgress s = true → exec .calDueStart s = .next (settle s s)) ∧
       (let t := k + 8000000000 * ((s.cal.cfg.toNat / 65536) % 256)
        legality 5 s.top.state ≠ .refused → exec .calGraceExpiry s = .next (settle s { s with
         now := max s.now t, cal := { s.cal with overdue := true }, tpt := { s.tpt with deferCal := some true } })) ∧
       (legality 5 s.top.state = .refused → exec .calGraceExpiry s = .next (settle s { s with
         now := max s.now (k + 8000000000 * ((s.cal.cfg.toNat / 65536) % 256)), cal := { s.cal with
           dueFull := some (max s.now (k + 8000000000 * ((s.cal.cfg.toNat / 65536) % 256)))
           duePart := s.cal.duePart.map fun _ => max s.now (k + 8000000000 * ((s.cal.cfg.toNat / 65536) % 256)), overdue := false } }))) ∧
     (s.link.cfgReady = true →
       (s.tpt.deferCal = none → s.top.state = .ready ∨ s.top.state = .gap →
         exec .calReqFull s = .next (settle s (startCal true { touchLink s with cal := { s.cal with reqResult := 0 } })) ∧
         exec .calReqPart s = .next (settle s (startCal false { touchLink s with cal := { s.cal with reqResult := 0 } }))) ∧
       (s.tpt.deferCal = none → s.top.state = .print →
         exec .calReqFull s = .next (settle s { touchLink s with cal := { s.cal with reqResult := 1 }, tpt := { s.tpt with deferCal := some true } }) ∧
         exec .calReqPart s = .next (settle s { touchLink s with cal := { s.cal with reqResult := 1 }, tpt := { s.tpt with deferCal := some false } })) ∧
       (s.tpt.deferCal ≠ none →
         exec .calReqFull s = .next (settle s { touchLink s with cal := { s.cal with reqResult := 2 } }) ∧
         exec .calReqPart s = .next (settle s { touchLink s with cal := { s.cal with reqResult := 2 } })))) ∧
  (∀ (rd : CalIn) (s : State),
     (s.pwr.released = true → s.cal.running = none → exec (.calibrationDone rd) s = .next (settle s s)) ∧
     (s.pwr.released = true → s.cal.running = some false → s.top.state = .calib →
       exec (.calibrationDone rd) s = .next (settle s (enterRest (finishCal false false rd s)))) ∧
     (∀ start full, let u := finishCal start full rd s
       u.cal.running = none ∧ u.cal.lastFull = full ∧ u.cal.count = s.cal.count + 1 ∧ u.cal.tempAny = s.thm.tCtl ∧
       u.cal.lastTime = rtcNow u ∧
       u.cal.stepAt = (if trimsMove s then s.cal.stepAt else u.now + 512000) ∧
       (∀ p : Port, u.hdv.ports[p].afresh = true) ∧
       u.cal.lastAt = max s.now (s.cal.startAt + 8000 * (if full then 2400 else 300)) ∧ u.now = u.cal.lastAt) ∧
     (∀ start full, s.cal.exitFull = true → (finishCal start full rd s).cal.dueFull ≠ none) ∧
     (s.cal.running = some false → (calTrigger true s).cal.exitFull = true ∧ (calTrigger true s).cal.dueFull = s.cal.dueFull) ∧
     (∀ full, (startCal full s).cal.running = some (full || s.cal.dueFull.isSome) ∧ (startCal full s).cal.dueFull = none) ∧
     (∀ start, (takeResults start true rd s).cal.calres = (le32 s.cal.board 0).toInt) ∧
     (∀ start full, irefFails (codesOf full rd s) s = true → (takeResults start full rd s).cal.trim = s.cal.trim) ∧
     (∀ (i : Fin 64) (c : Int), codeOk s.cal.factory[i] c = true →
       (takeCode false s (i, c)).cal.trim[i] =
         { target := BitVec.ofInt 12 c, now := if trimInUse i.val s then s.cal.trim[i].now else BitVec.ofInt 12 c }) ∧
     (s.pwr.released = true → trimsMove s = true →
       let t := max s.now s.cal.stepAt
       exec .trimSlewStep s = .next (settle s { s with now := t, cal := { s.cal with
         stepAt := t + 512000
         trim := s.cal.trim.map fun k => { k with now :=
           if k.now.toNat < k.target.toNat then k.now + 1 else if k.target.toNat < k.now.toNat then k.now - 1 else k.now } } })) ∧
     (s.pwr.released = true → trimsMove s = false → exec .trimSlewStep s = .next (settle s s)))

/-- READ delivers the corrected value of a word at the level asked for, and is refused for level 3 and during a burn, where the burn's OP,
WORD and RESULT stay; the burn commands are refused with their RESULT and start otherwise; REREAD takes new cells and leaves the values and
the lock fuses in use; a cell that reads 1 at every level does so for good; a word's codeword decodes to its data. A verified pulse of a word's burn
sets its cell at every level and goes on to the next bit; one that does not verify is tried up to four times; with no burn running it does
nothing. (R396, R399, R402, R403, R404) -/
def Obligations.Fuses : Prop :=
  (∀ (w : BitVec 9) (s : State), s.link.cfgReady = true →
     (s.otp.burn = none →
       let raw := (cellsOf w.toNat s.otp.cells).normal
       let d := match eccDecode raw with | some v => v.1 | none => raw.setWidth 64
       ∃ t, exec (.otpRead w 0) s = .next t ∧ t.otp = { s.otp with
         data := (if statOf w.toNat s.otp = some .ambiguous then raw.setWidth 64 else d)
         cmdLevel := 0, cmdOp := 1, cmdWord := w, cmdResult := 0 }) ∧
     (s.otp.burn = none → ∃ t, exec (.otpRead w 3) s = .next t ∧
       t.otp = { s.otp with cmdLevel := 3, cmdOp := 1, cmdWord := w, cmdResult := 14, err := setBit s.otp.err 4 }) ∧
     (∀ level, s.otp.burn ≠ none → ∃ t, exec (.otpRead w level) s = .next t ∧ t.otp = { s.otp with err := setBit s.otp.err 4 }) ∧
     (let run (op : Nat) : Host.Outcome State Fault Refusal := match burnRefused op w.toNat s.otp.data (touchLink s) with
         | some r => .next (settle s (refuseOtp op w r (touchLink s)))
         | none => .next (settle s (runBurn burnFuel (noteRegion 0x13 0 (2 ^ 65) (startBurn op w.toNat (noteOtp op w 15 (touchLink s))))))
      exec (.otpProgram w) s = run 2 ∧ exec (.otpReburn w) s = run 3 ∧ exec (.otpVoid w) s = run 4 ∧
        exec (.otpSpare w) s = run 5 ∧ exec (.otpLock w) s = run 6) ∧
     (let u := startBurn 2 w.toNat (noteOtp 2 w 15 s)
      u.otp.cmdResult = 15 ∧ u.otp.cells = s.otp.cells ∧ u.pwr.journal = some ⟨w, 0, eccEncode s.otp.data⟩ ∧
       u.otp.burn = some { op := 2, target := w.toNat, value := s.otp.data, word := w.toNat, step := .word true, tries := 0, done := 0
                           code := eccEncode s.otp.data, bits := bitsOf (eccEncode s.otp.data), due := s.now + 104000 }) ∧
     (∀ b, s.otp.burn = some b → b.bits ≠ [] → ctlInWindow s = true → runBurn burnFuel s = s) ∧
     (∀ words locks, s.otp.burn = none → ∃ t, exec (.otpReread words locks) s = .next t ∧ t.otp.values = s.otp.values ∧
       t.otp.cells = (takeCells words locks s.otp).cells ∧ t.otp.locks = (takeCells words locks s.otp).locks ∧
       t.otp.lockUse = s.otp.lockUse ∧ t.otp.cmdOp = 7 ∧ t.otp.cmdResult = 0 ∧ t.otp.reads = satInc s.otp.reads)) ∧
  (∀ (words : List FuseRead) (locks : List LockRead) (o : Otp) (w : Nat) (i : Nat),
     let c := cellsOf w o.cells
     c.normal.getLsbD i = true → c.low.getLsbD i = true → c.high.getLsbD i = true →
     (cellsOf w (takeCells words locks o).cells).normal.getLsbD i = true) ∧
  (∀ v : DWord, eccDecode (eccEncode v) = some (v, 0)) ∧
  (∀ s : State, s.pwr.released = true →
     (s.otp.burn = none → ∀ v, exec (.otpBitPulse v) s = .next (settle s s)) ∧
     (∀ (b : Burn) (bit next : Nat) (rest : List Nat), s.otp.burn = some b → b.bits = bit :: next :: rest → b.step = .word true →
       ctlInWindow s = true →
       (∃ u, exec (.otpBitPulse true) s = .next (settle s u) ∧ u.now = max s.now b.due ∧
         u.out.fuse = (BitVec.ofNat 9 b.word, bit) :: s.out.fuse ∧
         u.otp.burn = some { b with bits := next :: rest, tries := 0, done := b.done + 1, due := max s.now b.due + 96000 } ∧
         u.otp.cells = (setCell b.word bit s).otp.cells ∧ u.otp.values = s.otp.values ∧ u.otp.locks = s.otp.locks) ∧
       (b.tries < 3 → ∃ u, exec (.otpBitPulse false) s = .next (settle s u) ∧ u.otp.cells = s.otp.cells ∧
         u.otp.burn = some { b with tries := b.tries + 1, due := max s.now b.due + 96000 })))

/-- The supplies and resets: VAON brings the always-on domain up in STANDBY with its RTC at 0, and its loss takes the device to OFF; a
main supply, PERST_N and XIN reset both dies with their cause, in the register and in bank 0, and leave the fuses and the retained words; a
loss in STANDBY changes nothing more, and a shut-down that is held stays the cause. Reset release begins the start and raises MAIN_EN, with
the axes of an orderly STANDBY restored and its cause shown; a shut-down since then shows with its flag; a bank 0 whose cells have changed
so that its check fails reads as cleared, and the axes show it at a wake from STANDBY. What `loadBank0` gives where the changed cells still
pass is the bank as it stands. (R361, R376, R417, R420, R421, R423, R429, R430, R434) -/
def Obligations.SuppliesAndResets : Prop :=
  ∀ s : State,
    (s.pwr.supply.getLsbD 0 = false → ∃ u, exec .vaonGood s = .next (settle s u) ∧ u.top.state = .standby ∧ u.pwr.supply = 1 ∧
      u.pwr.resetCause = 1 ∧ u.pwr.released = false ∧ u.pwr.attempts = 0 ∧ rtcNow u = 0 ∧ u.otp.cells = s.otp.cells) ∧
    (s.pwr.supply.getLsbD 0 = true → exec .vaonGood s = .next (settle s s)) ∧
    (∃ u, exec .vaonLost s = .next (settle s u) ∧ u.top.state = .off ∧ u.pwr.supply = 0 ∧ u.pwr.released = false ∧
      u.pwr.attempts = 0 ∧ u.otp.cells = s.otp.cells) ∧
    (∀ i, exec (.mainSupplyGood i) s = .next (settle s { s with pwr := { s.pwr with supply := setBit s.pwr.supply (i.val + 1) } })) ∧
    (∀ i, s.pwr.released = true → s.top.state ≠ .off → ∃ u, exec (.mainSupplyLost i) s = .next (settle s u) ∧ u.top.state = .standby ∧
      u.pwr.supply = clearBit s.pwr.supply (i.val + 1) ∧ u.pwr.resetCause = 2 ∧ u.pwr.retCause = 2 ∧ u.pwr.orderly = false ∧
      u.pwr.released = false ∧ u.pwr.retUser = s.pwr.retUser ∧ u.otp.cells = s.otp.cells) ∧
    (∀ i, s.pwr.released = false → s.top.state = .standby →
      exec (.mainSupplyLost i) s = .next (settle s { s with pwr := { s.pwr with supply := clearBit s.pwr.supply (i.val + 1) } })) ∧
    (∀ i, s.pwr.released = false → s.top.state ≠ .off → s.top.state ≠ .standby → ∃ u, exec (.mainSupplyLost i) s = .next (settle s u) ∧
      u.top.state = .standby ∧ u.pwr.orderly = false ∧ u.pwr.resetCause = if s.thm.tripped.isSome then s.pwr.resetCause else 2) ∧
    (s.pwr.released = true → ∃ u, exec .perstAssert s = .next (settle s u) ∧ u.pwr.perst = false ∧ u.pwr.resetCause = 4 ∧
      u.pwr.released = false ∧ u.pwr.retUser = s.pwr.retUser ∧ u.otp.cells = s.otp.cells ∧ u.top.scratch = 0) ∧
    (s.pwr.released = false → exec .perstAssert s = .next (settle s { s with pwr := { s.pwr with perst := false } })) ∧
    (s.pwr.released = true → ∃ u, exec .xinLost s = .next (settle s u) ∧ u.pwr.resetCause = 8 ∧ u.pwr.err = 2 ∧ u.pwr.released = false) ∧
    (s.pwr.released = false → exec .xinLost s = .next (settle s s)) ∧
    (∀ x y, s.pwr.supply ≠ 0x7F ∨ s.thm.tripped ≠ none ∨ s.pwr.released = true → exec (.resetRelease x y) s = .next (settle s s)) ∧
    (s.pwr.supply = 0x7F → s.thm.tripped = none → s.pwr.released = false →
      (s.top.state ≠ .standby → s.pwr.heldShut = none → s.pwr.heldVm = 0 →
        exec (.resetRelease [] []) s = .next (settle s { s with
          top := { s.top with state := .boot }
          pwr := { s.pwr with
            released := true, releasedAt := s.now, perst := true, attempts := satInc s.pwr.attempts, stage := 1, mainEn := true
            heldShut := none, heldVm := 0, retCause := s.pwr.resetCause.setWidth 8 } })) ∧
      (s.top.state = .standby → s.pwr.orderly = true → s.pwr.heldVm = 0 → ∃ u, exec (.resetRelease [] []) s = .next (settle s u) ∧
        u.pwr.resetCause = (if s.pwr.heldShut = none then 32 else 48) ∧ u.pwr.released = true ∧ u.pwr.mainEn = true ∧
        ∀ a : Fin 4, u.mot.axes[a].pos = wholePos s.pwr.axisRecs[a].pos ∧
          u.mot.axes[a].posState = (if s.pwr.axisRecs[a].posState = 3 then 2 else s.pwr.axisRecs[a].posState)) ∧
      (∀ c, s.pwr.heldShut = some c → s.pwr.heldVm = 0 → ∃ u, exec (.resetRelease [] []) s = .next (settle s u) ∧
        u.thm.err.getLsbD 2 = true ∧ u.mot.err.getLsbD 2 = true ∧ u.pwr.heldShut = none ∧ u.evt.pend.getLsbD Src.motFault = true) ∧
      (∀ x y, x ≠ [] → bankGood (flipBytes (bank0Bytes (readBank1 y s).pwr) x) = false → s.pwr.heldShut = none → s.pwr.heldVm = 0 →
        ∃ u, exec (.resetRelease x y) s = .next (settle s u) ∧ u.top.state = .boot ∧ u.pwr.attempts = 1 ∧ u.pwr.err.getLsbD 3 = true ∧
          u.pwr.retUser = Vector.replicate 7 0 ∧ ∀ a : Fin 4, u.mot.axes[a].bridge = s.mot.axes[a].bridge ∧
            u.mot.axes[a].err.getLsbD 9 = (s.mot.axes[a].err.getLsbD 9 || s.top.state == .standby)) ∧
      (∀ x, x ≠ [] → bankGood (flipBytes (bank0Bytes s.pwr) x) = true →
        exec (.resetRelease x []) s = .next (settle s (beginStart (s.top.state == .standby && s.pwr.orderly)
          { s with pwr := loadBank0 (flipBytes (bank0Bytes s.pwr) x) s.pwr }))))

/-- The start stages: each advances the stage where it passes, and leaves the device waiting in RESET_HOLD with its retry time where it
fails, logged as a START record of that stage; FUSES waits for a burn; FIRMWARE without a valid slot offers recovery and sets no timer, and a
boot header that fails its check is flagged; a slot that was tried in vain is counted; RESTORE reaches READY. (R34, R167, R400, R434, R437,
R438, R440, R445, R451) -/
def Obligations.StartStages : Prop :=
  ∀ (n : Nat) (s : State),
    let at_ : State := { s with now := s.now + n * 800000 }
    let fails (k wait : Nat) (u : State) : State := setState .resetHold (logStart (BitVec.ofNat 8 (2 ^ k)) { u with pwr := { u.pwr with
      failed := BitVec.ofNat 4 k, failedSet := setBit u.pwr.failedSet k, retryAt := some (u.now + wait) } })
    (inStage 1 s = true →
      exec (.clocksStageDone true n) s = .next (settle s (stageOk 1 n { at_ with pwr := { s.pwr with xinOk := true, fireLock := true, coreLock := true } })) ∧
      (s.pwr.failedSet.getLsbD 1 = false → exec (.clocksStageDone false n) s =
        .next (settle s (fails 1 800000000 { at_ with link := { s.link with cfgReady := true } }))) ∧
      (s.pwr.failedSet.getLsbD 1 = true → exec (.clocksStageDone false n) s =
        .next (settle s (fails 1 8000000000 { at_ with link := { s.link with cfgReady := true } })))) ∧
    (∀ words locks b, inStage 2 s = true → s.otp.burn = some b → exec (.fusesStageDone words locks n) s = .next (settle s s)) ∧
    (∀ words locks, inStage 2 s = true → s.otp.burn = none →
      let r := readFuses words locks at_
      let u : State := { r.2 with link := { r.2.link with cfgReady := true } }
      exec (.fusesStageDone words locks n) s = .next (settle s (if r.1 then claimForSlots (stageOk 2 n (loadFactory u)) else fails 2 800000000 u))) ∧
    (∀ header a b, inStage 3 s = true → slotBFirst a b false = false →
      ∃ u, exec (.firmwareStageDone header a b n) s = .next (settle s u) ∧
        u.mgt.err.getLsbD 0 = (s.mgt.err.getLsbD 0 || !bootHeaderOk header) ∧
        match parseImage false a rangeOnly s.otp, parseImage false b rangeOnly s.otp with
        | some i, _ => u.mgt.running = true ∧ u.mgt.recovery = false ∧ u.mgt.fwSlot = false ∧ u.mgt.fwVer = i.secVer ∧ u.pwr.stage = 4
        | none, some i => u.mgt.running = true ∧ u.mgt.recovery = false ∧ u.mgt.fwSlot = true ∧ u.mgt.fwVer = i.secVer ∧ u.pwr.stage = 4
        | none, none => u.mgt.recovery = true ∧ u.top.state = .resetHold ∧ u.pwr.failed = 3 ∧ u.pwr.retryAt = none) ∧
    (∀ a b, inStage 4 s = true → slotBFirst a b true = false →
      match parseImage true a (loadsAccepted s) s.otp, parseImage true b (loadsAccepted s) s.otp with
      | some i, _ => exec (.configStageDone a b n) s = .next (settle s (startDiscovery (stageOk 4 n
          (applyImage false i (scanSlot true false a (releaseUnit false (noteSlots true a b (loadsAccepted s) at_)))))))
      | none, some i => ∃ u, exec (.configStageDone a b n) s = .next (settle s (startDiscovery (stageOk 4 n (applyImage true i u)))) ∧ u.now = at_.now
      | none, none => ∃ u, exec (.configStageDone a b n) s = .next (settle s u) ∧ u.top.state = .resetHold ∧ u.pwr.failed = 4) ∧
    (inStage 5 s = true →
      (∃ u, exec (.selftestStageDone true true 0 0 n) s = .next (settle s u) ∧ u.engA.role = .lead ∧ u.engB.role = .shadow ∧
        u.sup.brakeA = true ∧ u.sup.brakeB = false ∧ u.cal.running = some true ∧ u.pwr.stage = 6) ∧
      (∃ u, exec (.selftestStageDone false false 0 0 n) s = .next (settle s u) ∧ u.top.state = .resetHold ∧ u.pwr.failed = 5)) ∧
    (∀ recs, inStage 7 s = true →
      let x := stageOk 7 n (reapplyLog (resumeLog recs at_))
      let y := setState .ready { x with pwr := { x.pwr with stage := 15, readySeen := true } }
      exec (.restoreStageDone recs n) s = .next (settle s (openGate (logStart (y.pwr.failedSet.setWidth 8) (markThermal (readyEvents y))))) ∧
        ((∀ r ∈ recs, parseRecord r = none) → (resumeLog recs s).mgt.place = s.mgt.place ∧ (resumeLog recs s).mgt.logReady = true ∧
          (resumeLog recs s).mgt.ring = s.mgt.ring)) ∧
    (∀ t, s.pwr.released = true → s.pwr.retryAt = some t → s.top.state = .resetHold →
      exec .startRetryTimer s = .next (settle s (claimForSlots (setState .boot { s with
        now := max s.now t, pwr := { s.pwr with retryAt := none, attempts := satInc s.pwr.attempts } })))) ∧
    (∀ k, 1 ≤ k → k ≤ 7 → inStage k s = true → (stageOk k n s).pwr.stage = BitVec.ofNat 4 (k + 1))

/-- SLEEP and STANDBY: SLEEP is accepted in READY and GAP, and stops both PLLs; a wake opens the ring gate again, and prevails over a
request of its own clock, whichever of the two is first in the queue; STANDBY is requested, waits for what runs, ends MAINT, writes bank 0
and removes the power; on-demand clocking follows R427. The always-on domain: the wake pin and the alarm raise MAIN_EN where WAKE_SRC names
them, the crystal's search and loss change to the RC, a written RTC value is committed at the next tick and then shown, a spread ramp ends
in its new depth, and RET_USER takes its word. (R424, R425, R426, R427, R428, R429, R430, R432, R433, R435) -/
def Obligations.SleepAndStandby : Prop :=
  (∀ s : State,
     (s.link.cfgReady = true →
       (s.top.state = .ready ∨ s.top.state = .gap → s.pwr.cfg.getLsbD 0 = false ∨ s.link.d3hot = true →
         s.pwr.wakeSeen ≠ some s.now →
         ∃ u, exec .sleepRequest s = .next (settle s u) ∧ u.top.state = .sleep ∧ u.pwr.fireLock = false ∧ u.pwr.coreLock = false ∧
           u.link.readyGate = true ∧ u.pwr.cmdOp = 1 ∧ u.pwr.cmdResult = 0 ∧ u.pwr.sleptAt = some s.now) ∧
       (s.pwr.wakeSeen = some s.now → exec .sleepRequest s =
         .next (settle s { touchLink s with pwr := { s.pwr with cmdOp := 1, cmdResult := 2 } })) ∧
       (s.top.state ≠ .ready → s.top.state ≠ .gap → exec .sleepRequest s =
         .next (settle s { touchLink s with pwr := { s.pwr with cmdOp := 1, cmdResult := 2 } })) ∧
       (s.pwr.cfg.getLsbD 0 = true → s.link.d3hot = false → exec .sleepRequest s =
         .next (settle s { touchLink s with pwr := { s.pwr with cmdOp := 1, cmdResult := 2 } })) ∧
       (s.top.state = .sleep → s.pwr.sleptAt ≠ some s.now → exec .wakeRequest s = .next (settle s (openGate (resumeLoops (raise Src.wake (setState .ready { touchLink s with
         pwr := { s.pwr with cmdOp := 2, cmdResult := 0, fireLock := true, coreLock := true, coreOnDemand := false, wakeCause := 0 } })))))) ∧
       (s.top.state ≠ .sleep → exec .wakeRequest s = .next (settle s { touchLink s with pwr := { s.pwr with cmdOp := 2, cmdResult := 2 } })) ∧
       (s.top.state ≠ .off → exec .standbyRequest s =
         .next (settle s { touchLink s with pwr := { s.pwr with cmdOp := 3, cmdResult := 1, standbyPend := true } })) ∧
       exec .cancelStandby s = .next (settle s { touchLink s with
         pwr := { s.pwr with cmdOp := 4, cmdResult := 0, standbyPend := false, standbyAxes := false } })) ∧
     (s.pwr.released = true →
       (s.pwr.standbyPend = true → s.pwr.standbyAxes = false → docInProgress s = false → writesRun s = false →
         (s.top.state ≠ .maint → s.top.state ≠ .calib → exec .standbyQuiesced s = .next (settle s
           (let t := softStopAll s
            { t with pwr := { t.pwr with standbyAxes := true } }))) ∧
         (s.top.state = .maint → exec .standbyQuiesced s = .next (settle s
           (let t := softStopAll (leaveMaint (stopAll (abortSheets s)))
            { t with pwr := { t.pwr with standbyAxes := true } })))) ∧
       (∀ bit : Nat, s.pwr.cfg.getLsbD bit = true → s.top.state = .sleep → s.pwr.sleptAt = some s.now →
         (wakeBy bit s).pwr.cmdOp = 1 ∧ (wakeBy bit s).pwr.cmdResult = 2 ∧ (wakeBy bit s).pwr.wakeSeen = some s.now) ∧
       (docInProgress s = true ∨ writesRun s = true → exec .standbyQuiesced s = .next (settle s s)) ∧
       (s.pwr.standbyAxes = true → axesStill s = true → ∃ u, exec .standbyAxesStill s = .next (settle s u) ∧ u.top.state = .standby ∧
         u.pwr.released = false ∧ u.pwr.orderly = true ∧ u.pwr.aonCfg = s.pwr.cfg ∧
         u.pwr.mainEn = (s.pwr.mainEn && !s.pwr.cfg.getLsbD 1) ∧
         ∀ a : Fin 4, u.pwr.axisRecs[a] = axisRecord s.mot.axes[a]) ∧
       (s.top.state = .sleep → exec .coreOnDemandStart s = .next (settle s { s with
         now := s.now + 200000, pwr := { s.pwr with coreOnDemand := true, coreLock := true } })) ∧
       (s.top.state = .sleep → s.pwr.coreOnDemand = true → exec .coreOnDemandStop s = .next (settle s { s with
         now := s.now + 8000000, pwr := { s.pwr with coreOnDemand := false, coreLock := false } })))) ∧
  (∀ s : State,
     (s.top.state = .standby → s.pwr.mainEn = false → s.pwr.aonCfg.getLsbD 8 = true → exec .wakePin s = .next (settle s { s with
       now := s.now + 800000, pwr := { s.pwr with mainEn := true, wakeCause := 1 } })) ∧
     (s.pwr.aonCfg.getLsbD 8 = false → exec .wakePin s = .next (settle s { s with now := s.now + 800000 })) ∧
     (s.top.state = .standby → s.pwr.mainEn = false → s.pwr.aonCfg.getLsbD 9 = true → s.pwr.alarmHi.getLsbD 31 = true →
       exec .rtcAlarm s = .next (settle s { s with
         now := max s.now (rtcTime (alarmOf s.pwr) s), pwr := { s.pwr with mainEn := true, wakeCause := 2 } })) ∧
     (s.pwr.alarmHi.getLsbD 31 = false → exec .rtcAlarm s = .next (settle s s)) ∧
     (s.pwr.aonSearch = true → exec .aonXtalSearchEnd s = .next (settle s { s with
       now := s.now + 8000000000, pwr := { s.pwr with aonSearch := false, aonRc := true } })) ∧
     (s.pwr.aonRc = false → exec .aonXtalLost s = .next (settle s (raise Src.aonXtalLost { s with
       now := s.now + 32000000, pwr := { s.pwr with aonRc := true, aonSearch := false, err := setBit s.pwr.err 2 } }))) ∧
     (s.pwr.aonRc = true → exec .aonXtalLost s = .next (settle s s)) ∧
     (∀ v : Word, s.link.cfgReady = true → exec (.rtcHiWrite v) s =
       .next (settle s { touchLink s with pwr := { s.pwr with rtcArmed := some (v.setWidth 16 ++ s.pwr.rtcLo) } })) ∧
     (∀ v, s.pwr.rtcArmed = some v → ∃ u, exec .rtcCommit s = .next (settle s u) ∧ u.pwr.rtcArmed = none ∧ s.now ≤ u.now ∧ rtcNow u = v) ∧
     (s.pwr.rtcArmed = none → exec .rtcCommit s = .next (settle s s)) ∧
     (∀ v, s.pwr.released = true → s.pwr.spreadRamp = some v → exec .spreadRampDone s = .next (settle s { s with
       now := s.now + 8000000, pwr := { s.pwr with spreadNow := v, spreadRamp := none } })) ∧
     (∀ i (v : Word), s.link.cfgReady = true → exec (.retUserWrite i v) s =
       .next (settle s { touchLink s with pwr := { s.pwr with retUser := s.pwr.retUser.set i.val v i.isLt } })))

/-! ## Management and events -/

/-- The processor and its log: a restart ends any run it claimed, the watchdog is counted, and the processor runs again from the slot in
force once its firmware has been verified again, else from the other slot; a dump is queued; the monitor's readings are taken; the oldest
record goes to the next place of the ring with its sequence number, after a compaction where one is due, and a place that fails is torn and
not used again. The mailbox, recovery, SMBus and the console: a legal head record is handed to its port, USER bytes are copied into the
window, chunks of the recovery image are taken in order until the image is whole and judged, status words and the identity block are
answered at the configured address, with PEC where the master sends it, other codes and bytes written are answered NACK, and a processor
that does not run answers BUSY. The PEC, the torn place and the record that stays queued are the model's (log entries 96 and 98). (R443,
R444, R452, R454, R456, R460, R461, R462) -/
def Obligations.Management : Prop :=
  (∀ s : State,
     (s.link.cfgReady = true → s.mgt.running = true → sessionRuns s.mgt = false →
       ∃ u, exec .mgtRestart s = .next (settle s u) ∧ u.mgt = { s.mgt with restarting := true, restartBy := s.now + 480000000, byWatchdog := false } ∧
         u.chk.units[7].mgtOwn = false) ∧
     (s.link.cfgReady = true → s.mgt.running = false → exec .mgtRestart s = .next (settle s (touchLink s))) ∧
     (s.link.cfgReady = true → s.mgt.running = true → sessionRuns s.mgt = true → exec .mgtRestart s = .next (settle s
       (let t := failSession (touchLink s)
        { t with mgt := { t.mgt with restarting := true, restartBy := t.now + 480000000, byWatchdog := false } }))) ∧
     (s.pwr.released = true → fwRuns s = true → exec .mgtWatchdog s =
       .next (settle s (countClass Cls.mgtWatchdog (mgtErr 3 (beginRestart true { s with now := s.now + 800000000 }))))) ∧
     (∀ a b, s.pwr.released = true → s.mgt.restarting = true → s.mgt.activation ≠ .firmware →
       let old := parseImage false (slotBytes a b s.mgt.fwSlot) rangeOnly s.otp
       let other := parseImage false (slotBytes a b (!s.mgt.fwSlot)) rangeOnly s.otp
       ∃ u, exec (.mgtRestartDone a b) s = .next (settle s u) ∧
         (∀ i, old = some i → u.mgt.restarting = false ∧ u.mgt.restarts = satInc s.mgt.restarts ∧ u.mgt.fwSlot = s.mgt.fwSlot ∧
           u.mgt.fwVer = i.secVer ∧ u.evt.pend.getLsbD Src.mgtRestart = true) ∧
         (∀ i, old = none → other = some i → s.mgt.trying = none → u.mgt.restarting = false ∧ u.mgt.fwSlot = (!s.mgt.fwSlot) ∧
           u.mgt.fwVer = i.secVer) ∧
         (old = none → other = none ∨ s.mgt.trying ≠ none → u.mgt.restarting = true)) ∧
     (s.link.cfgReady = true → exec .diagDump s = .next (settle s { touchLink s with mgt := { s.mgt with dumps := s.mgt.dumps + 1 } })) ∧
     (∀ vm pk (r0 r1 r2 r3 : RailRead) sup, s.pwr.released = true → fwRuns s = true →
       ∃ u, exec (.mgtMonitorTick vm pk r0 r1 r2 r3 sup) s = .next (settle s u) ∧ u.now = (s.now / 800000000 + 1) * 800000000 ∧
         u.mgt = { s.mgt with tCtl := s.thm.tCtl, supplies := sup, vm10mV := vm, package := pk, rails := #v[r0.v10mV, r1.v10mV, r2.v10mV, r3.v10mV] } ∧
         u.hdv.rails[0].vout = satNat 16 r0.v10mV ∧ u.hdv.rails[0].iout = satNat 16 r0.i10mA ∧
         u.hdv.rails[3].vout = satNat 16 r3.v10mV ∧ u.hdv.rails[3].iout = satNat 16 r3.i10mA) ∧
     (∀ r rest, s.pwr.released = true → logWrites s = true → s.mgt.fifo = r :: rest →
       let r' := { r with seq := s.mgt.logSeq }
       let m' : Mgt := { s.mgt with torn := s.mgt.place :: s.mgt.torn, place := placeAfter s.mgt.torn s.mgt.place }
       (compacts s.mgt = false →
         exec (.logRecordWrite true) s = .next (settle s (flashOp (.program (0x601000 + 32 * s.mgt.place) (recordBytes r')) { s with
           mgt := { s.mgt with fifo := rest, ring := s.mgt.ring ++ [(s.mgt.place, r')], place := placeAfter s.mgt.torn s.mgt.place
                               logNewest := s.mgt.logSeq, logSeq := nextSeq s.mgt.logSeq } })) ∧
         exec (.logRecordWrite false) s = .next (settle s (countClass Cls.flash
           (flashOp (.program (0x601000 + 32 * s.mgt.place) (recordBytes r')) { s with mgt := m' })))) ∧
       (compacts s.mgt = true → exec (.logRecordWrite true) s = .next (settle s (placeRecord r
         (let t := compact s
          { t with mgt := { t.mgt with fifo := rest } }))))) ∧
     (∀ ok, s.pwr.released = true → logWrites s = false ∨ s.mgt.fifo = [] → exec (.logRecordWrite ok) s = .next (settle s s))) ∧
  (∀ s : State,
     (s.link.cfgReady = true →
       (∀ p : Port, s.mgt.mbxArg.toNat = p.val → s.mgt.recovery = false → mbxBusy s = false → mbxLenOk s.mgt = true →
         recordValid (mbxBytes 128 s.mgt) = true → s.hp[p].record ≠ [] → recSerial (mbxBytes 128 s.mgt) = recSerial s.hp[p].record →
         canWrite s.hp[p] = true → s.hp[p].write = .idle →
         ∃ u, exec .headWrite s = .next (settle s u) ∧ u.mgt.mbxResult = 3 ∧ u.hp[p].write = .page 0 ∧
           u.hp[p].writeData = mailRecord (mbxBytes 128 s.mgt) s.hp[p].record) ∧
       (s.mgt.recovery = false → mbxBusy s = true → exec .headWrite s = .next (settle s (noteMbx 1 1 (touchLink s))) ∧
         exec .userRead s = .next (settle s (noteMbx 2 1 (touchLink s)))) ∧
       (s.mgt.recovery = false → mbxBusy s = false → mbxLenOk s.mgt = true →
         2048 * s.mgt.mbxArg.toNat + s.mgt.mbxLen.toNat ≤ s.mgt.user.length →
         exec .userRead s = .next (settle s (mbxDone 2 0 { touchLink s with
           mgt := putMbx (slice s.mgt.user (2048 * s.mgt.mbxArg.toNat) s.mgt.mbxLen.toNat) s.mgt }))) ∧
       (∀ back, s.mgt.recovery = true → mbxLenOk s.mgt = true → 0 < s.mgt.mbxArg.toNat →
         let img := s.mgt.recImage ++ mbxBytes s.mgt.mbxLen.toNat s.mgt
         let t := startFlash (.program (slotBase false false + 2048 * s.mgt.mbxArg.toNat) (mbxBytes s.mgt.mbxLen.toNat s.mgt))
           { touchLink s with mgt := { s.mgt with recImage := img } }
         (2048 * s.mgt.mbxArg.toNat = s.mgt.recImage.length →
           (recWhole img = false → exec (.recoveryChunk back) s = .next (settle s (mbxDone 3 0 t))) ∧
           (recWhole img = true → exec (.recoveryChunk back) s = .next (settle s (recoverEnds (back.getD img) t)))) ∧
         (2048 * s.mgt.mbxArg.toNat ≠ s.mgt.recImage.length → ∃ u, exec (.recoveryChunk back) s = .next (settle s u) ∧
           u.mgt.mbxResult = 2 ∧ u.mgt.recImage = [] ∧ u.mgt.recovery = true))) ∧
     (s.pwr.released = true →
       (∀ c x pec, fwRuns s = true →
         let sealed (l : List Byte) : List Byte := 0 :: (l ++ if pec then [pecOf s.mgt.smbAddr c l] else [])
         (∀ v, smbWord c.toNat (tpStatus s) s = some v →
           exec (.smbusReadWord s.mgt.smbAddr c [] pec) s = .next (settle s (reply (sealed (toLe 2 v)) s))) ∧
         (smbWord c.toNat (tpStatus s) s = none ∨ x ≠ [] →
           exec (.smbusReadWord s.mgt.smbAddr c x pec) s = .next (settle s (reply [2] s))) ∧
         (c = 0x20 → exec (.smbusBlockRead s.mgt.smbAddr c [] pec) s = .next (settle s (reply (sealed ([20] ++ toLe 2 0x2416 ++
           toLe 2 topRev.toNat ++ toLe 4 s.mgt.fwVer.toNat ++ toLe 4 s.mgt.cfgVer.toNat ++ toLe 8 (fuseValue 1 s.otp).toNat)) s))) ∧
         (c ≠ 0x20 ∨ x ≠ [] → exec (.smbusBlockRead s.mgt.smbAddr c x pec) s = .next (settle s (reply [2] s)))) ∧
       (∀ a c x pec, a ≠ s.mgt.smbAddr → exec (.smbusReadWord a c x pec) s = .next (settle s s) ∧
         exec (.smbusBlockRead a c x pec) s = .next (settle s s)) ∧
       (fwRuns s = false → (∀ c x pec, exec (.smbusReadWord s.mgt.smbAddr c x pec) s = .next (settle s (reply [1] s)) ∧
         exec (.smbusBlockRead s.mgt.smbAddr c x pec) s = .next (settle s (reply [1] s))) ∧ exec .uartRequest s = .next (settle s s)) ∧
       (fwRuns s = true → ∃ u, exec .uartRequest s = .next (settle s u) ∧ u.free = s.free + 1 ∧
         u.out.replies = toLe 8 (Config.freeWord s.free).toNat :: s.out.replies)))

/-- Update sessions: OPEN erases the slot that is not in force, pages are programmed from the second on and counted until the last of them
begins the verification, a good image is committed with its first page last, a bad one fails the session and releases the data that has
arrived, ABORT ends it, ACTIVATE of firmware restarts into it. A flash operation that fails is counted, and the session goes on (log entry
96). Activations: new firmware that does not report in time gives way to the other slot's, and a Kolto reload is applied or rolled back.
(R113, R118, R125, R457, R458, R474) -/
def Obligations.Updates : Prop :=
  (∀ s : State,
     (∀ k : Bool, s.link.cfgReady = true →
       (fwRuns s = false ∨ s.mgt.updState ≠ .idle → exec (.updOpen k) s = .next (settle s (noteUpd 1 k s.mgt.updSlot 1 (touchLink s)))) ∧
       (fwRuns s = true → s.mgt.updState = .idle → 512 ≤ s.mgt.updLen.toNat → s.mgt.updLen.toNat ≤ slotSize k →
         ∃ u, exec (.updOpen k) s = .next (settle s u) ∧ u.mgt.updState = .erasing ∧ u.mgt.sesKind = k ∧ u.mgt.received = [] ∧
           u.mgt.sesSlot = (!inForce k s.mgt) ∧ u.mgt.updResult = 0 ∧ u.mgt.slots[slotIx k (!inForce k s.mgt)] = none)) ∧
     (s.pwr.released = true → s.mgt.updState = .erasing →
       let u : State := { s with mgt := { s.mgt with updState := .receiving } }
       (s.mgt.flashWait = [] → exec (.updEraseDone true) s = .next (settle s u) ∧
         exec (.updEraseDone false) s = .next (settle s (countClass Cls.flash u))) ∧
       (∀ ok, s.mgt.flashWait ≠ [] → exec (.updEraseDone ok) s = .next (settle s s))) ∧
     (∀ ok errs, s.pwr.released = true →
       (pageReady s = false → exec (.updPageProgrammed ok errs) s = .next (settle s s)) ∧
       (pageReady s = true →
         let t := nextPage s.mgt
         let n := t.2 - t.1
         let x := flashOp (.program (slotBase s.mgt.sesKind s.mgt.sesSlot + t.1) (slice s.mgt.received t.1 n)) (readAux 0 256 n errs s)
         let y := if ok then x else countClass Cls.flash x
         let z := freeAux 0 256 n { y with mgt := { y.mgt with programmed := y.mgt.programmed + n } }
         (t.2 ≠ s.mgt.updLen.toNat → exec (.updPageProgrammed ok errs) s = .next (settle s z)) ∧
         (t.2 = s.mgt.updLen.toNat → ∃ u, exec (.updPageProgrammed ok errs) s = .next (settle s u) ∧ u.mgt.updState = .verifying ∧
           u.out.flash = z.out.flash ∧ (s.chk.units[7].state ≠ .running → u.chk.units[7].mgtOwn = true)))) ∧
     (∀ image errs, s.pwr.released = true → verifyEnds s = true →
       let b := s.mgt.received.take 256 ++ image.drop 256
       match parseImage s.mgt.sesKind b loadsInRange s.otp with
       | none => exec (.updVerifyDone image errs) s = .next (settle s (failSession (endImageScan b (readAux 0 0 256 errs s))))
       | some i => ∃ u, exec (.updVerifyDone image errs) s = .next (settle s u) ∧ u.mgt.updState = .committed ∧
           u.mgt.slots[slotIx s.mgt.sesKind s.mgt.sesSlot] = some i ∧ u.mgt.programmed = s.mgt.programmed + 256 ∧
           u.out.flash = .program (slotBase s.mgt.sesKind s.mgt.sesSlot) (s.mgt.received.take 256) :: s.out.flash) ∧
     (s.link.cfgReady = true → fwRuns s = true →
       (sessionRuns s.mgt = true → exec .updAbort s = .next (settle s (failSession (noteUpd 2 s.mgt.updKind s.mgt.updSlot 0 (touchLink s))))) ∧
       (s.mgt.updState = .idle → exec .updAbort s = .next (settle s (noteUpd 2 s.mgt.updKind s.mgt.updSlot 1 (touchLink s)))) ∧
       (s.mgt.updState ≠ .committed → exec .updActivate s = .next (settle s (noteUpd 3 s.mgt.updKind s.mgt.updSlot 1 (touchLink s)))) ∧
       (s.mgt.updState = .committed → s.mgt.sesKind = false → ∃ u, exec .updActivate s = .next (settle s u) ∧ u.mgt.updState = .pending ∧
         u.mgt.restarting = true ∧ u.mgt.fwSlot = s.mgt.sesSlot ∧ u.mgt.trying = some s.mgt.fwSlot ∧ u.mgt.updResult = 0)) ∧
     ((failSession s).mgt.updState = .idle ∧ (failSession s).mgt.received = [] ∧
       segBytes (failSession s).pond.aux[0] = min (segBytes s.pond.aux[0]) (auxReserved 18 s.dma[18]))) ∧
  (∀ s : State,
     (s.pwr.released = true →
       (s.mgt.trying.isSome = true → s.mgt.restarting = true → ∃ u, exec .fwActivationTimeout s = .next (settle s u) ∧
         u.mgt.fwSlot = (!s.mgt.fwSlot) ∧ u.mgt.trying = none ∧ u.mgt.updState = .idle ∧ u.mgt.restarting = true ∧
         u.mgt.slots[slotIx false s.mgt.fwSlot] = none ∧ u.mgt.restartBy = max s.now s.mgt.restartBy + 480000000) ∧
       (∀ image, reloadDue s = false → exec (.koltoReloadDone image) s = .next (settle s s)) ∧
       (∀ image, reloadDue s = true →
         let ix := slotIx true s.mgt.sesSlot
         let t := releaseUnit false (scanSlot true s.mgt.sesSlot image (claimUnit s))
         exec (.koltoReloadDone image) s = .next (settle s (match parseImage true image (loadsAccepted t) t.otp with
           | none => rollBack t
           | some i => activated (applyImage t.mgt.sesSlot i
               { t with mgt := { t.mgt with slots := t.mgt.slots.set ix.val (some i) ix.isLt } }))))))

/-- INVALIDATE programs MAGIC of its slot to 0 where the other slot of the kind is valid, and changes nothing of what is in force; it is
refused elsewhere. RELOAD activates the slot left valid, of two the newer one, and is refused where none is. Both wait for no session:
with one, or with no firmware running, they are refused with RESULT 1. (R459) -/
def Obligations.InvalidateAndReload : Prop :=
  (∀ (k b : Bool) (s : State), s.link.cfgReady = true → fwRuns s = false ∨ s.mgt.updState ≠ .idle →
    exec (.updInvalidate k b) s = .next (settle s { touchLink s with
      mgt := { s.mgt with updOp := 4, updKind := k, updSlot := b, updResult := 1 } }) ∧
    exec (.updReload k) s = .next (settle s (noteUpd 5 k s.mgt.updSlot 1 (touchLink s)))) ∧
  ∀ (k b : Bool) (s : State), s.link.cfgReady = true → fwRuns s = true → s.mgt.updState = .idle →
    let ix := slotIx k b
    (∀ i j, s.mgt.slots[slotIx k false] = some i → s.mgt.slots[slotIx k true] = some j →
      exec (.updReload k) s = .next (settle s (activate k (seqNewer j.seq i.seq) (noteUpd 5 k s.mgt.updSlot 0 (touchLink s))))) ∧
    ((s.mgt.slots[slotIx k (!b)]).isSome = true → exec (.updInvalidate k b) s = .next (settle s
      (startFlash (.program (slotBase k b) [0, 0, 0, 0]) { touchLink s with
        mgt := { s.mgt with updOp := 4, updKind := k, updSlot := b, updResult := 0, slots := s.mgt.slots.set ix.val none ix.isLt } }))) ∧
    (s.mgt.slots[slotIx k (!b)] = none → exec (.updInvalidate k b) s = .next (settle s { touchLink s with
      mgt := { s.mgt with updOp := 4, updKind := k, updSlot := b, updResult := 2 } })) ∧
    (s.mgt.slots[slotIx k (!b)] = none → (s.mgt.slots[ix]).isSome = true →
      exec (.updReload k) s = .next (settle s (activate k b (noteUpd 5 k s.mgt.updSlot 0 (touchLink s))))) ∧
    (s.mgt.slots[slotIx k (!b)] = none → s.mgt.slots[ix] = none →
      exec (.updReload k) s = .next (settle s (noteUpd 5 k s.mgt.updSlot 2 (touchLink s))))

/-- MSI-X and the classes: a held vector whose holdoff ends, and a pending one whose mask is lifted, send their one message where messages
are enabled; LASTING bits clear with their windows, but for a class whose THRESHOLD is reached in the clock of the write, by an event queued
before it or after it; TEST raises its source; the totals clear. (R467, R471, R478) -/
def Obligations.EventCommands : Prop :=
  ∀ s : State,
    (∀ (v : Fin 128) (t : Nat), s.pwr.released = true → s.evt.holdEnd[v] = some t → s.evt.held.getLsbD v.val = true → vecOpen v s = true →
      exec (.msiHoldoffEnd v) s = .next (settle s (sendMsi v { s with
        now := max s.now t
        evt := { s.evt with holdEnd := s.evt.holdEnd.set v.val none v.isLt, held := clearBit s.evt.held v.val, pba := setBit s.evt.pba v.val } }))) ∧
    (∀ v : Fin 128, s.pwr.released = true → s.evt.holdEnd[v] = none → exec (.msiHoldoffEnd v) s = .next (settle s s)) ∧
    (∀ v : Fin 128, s.link.cfgReady = true →
      let u : State := { touchLink s with evt := { s.evt with table := s.evt.table.set v.val { s.evt.table[v] with masked := false } v.isLt } }
      (s.evt.pba.getLsbD v.val = false → exec (.msixUnmask (some v)) s = .next (settle s u)) ∧
      (s.evt.pba.getLsbD v.val = true → s.link.msixEn = true → s.link.busMaster = true → s.link.funcMask = false → s.evt.holdEnd[v] = none →
        exec (.msixUnmask (some v)) s = .next (settle s (sendMsi v u)))) ∧
    (s.link.cfgReady = true →
      (exec (.msixUnmask none) s = .next (settle s (sendAllPending { s with link := { s.link with l1 := false, traffic := s.now, funcMask := false } }))) ∧
      (∀ w : Word, ∃ u, exec (.lastingClear w) s = .next (settle s u) ∧ u.evt.cfg = s.evt.cfg ∧ u.evt.pend = s.evt.pend ∧
        u.mgt = s.mgt ∧ u.top = s.top ∧ ∀ c : Fin 32,
          (w.getLsbD c.val = false → u.evt.classes[c] = s.evt.classes[c] ∧ isLasting c u = isLasting c s) ∧
          (w.getLsbD c.val = true → u.evt.classes[c].times = [] ∧ u.evt.classes[c].total = s.evt.classes[c].total ∧
            clearedNow c u = some (isLasting c s, s.evt.classes[c].times) ∧
            isLasting c u = (isLasting c s && s.evt.classes[c].hitAt == some s.now))) ∧
      (∀ (c : Fin 32) old, clearedNow c s = some (true, old) → isLasting c s = false →
        s.evt.cfg[c].threshold.toNat ≤ inWindow ((usNow s :: old).take s.evt.cfg[c].threshold.toNat) (usNow s)
          (s.evt.cfg[c].window.toNat * 1000) →
        isLasting c (countClass c s) = true ∧ (countClass c s).evt.raised = s.evt.raised) ∧
      exec .evtTest s = .next (settle s (raise Src.evtTest (touchLink s))) ∧
      exec .evtCntClr s = .next (settle s { touchLink s with evt := { s.evt with classes := s.evt.classes.map fun k => { k with total := 0 } } }))
end

