-- ==== Sys2Proof/Laws/Code.lean ====
section
/-! SUPPORT. The code of R117: whichever columns the free constant gives, the code in use corrects two errors and detects three. -/

namespace Sys2Proof.Machine

/-- The code that stands in has the property of R117. -/
theorem bchSample_isDecTed : isDecTed bchSample = true := by decide +kernel

/-- The code in use has the property of R117. -/
theorem bchColumn_isDecTed : isDecTed bchColumn = true := by
  by_cases h : freeBchFits = true
  · rw [show bchColumn = Config.bchColumn from funext fun i => if_pos h]; exact h
  · rw [show bchColumn = bchSample from funext fun i => if_neg h]; exact bchSample_isDecTed

end Sys2Proof.Machine
end

