-- ==== Sys2Proof/Laws/HeldPrint.lean ====
section
/-! SUPPORT. What the shared operations leave alone (the command queue, the pond's cells, the brake): the events, the pond, the documents, the channels, the packets and the engine pair. -/

set_option linter.all false

namespace Sys2Proof.Machine

/-- The queue, the pond's cells and the brake are the same in both states. -/
abbrev Held (a b : State) : Prop :=
  a.pending = b.pending ∧ a.pond.mem = b.pond.mem ∧ a.sup.brakeA = b.sup.brakeA ∧ a.sup.brakeB = b.sup.brakeB

/-- The queue and the pond's cells are the same in both states. -/
abbrev HeldMem (a b : State) : Prop := a.pending = b.pending ∧ a.pond.mem = b.pond.mem

/-- The queue and the brake are the same in both states. -/
abbrev HeldBrake (a b : State) : Prop :=
  a.pending = b.pending ∧ a.sup.brakeA = b.sup.brakeA ∧ a.sup.brakeB = b.sup.brakeB

@[simp] theorem ite_pending (c : Prop) [Decidable c] (a b : State) : (ite c a b).pending = ite c a.pending b.pending := by split <;> rfl
@[simp] theorem ite_pond (c : Prop) [Decidable c] (a b : State) : (ite c a b).pond = ite c a.pond b.pond := by split <;> rfl
@[simp] theorem ite_mem (c : Prop) [Decidable c] (a b : Pond) : (ite c a b).mem = ite c a.mem b.mem := by split <;> rfl
@[simp] theorem ite_sup (c : Prop) [Decidable c] (a b : State) : (ite c a b).sup = ite c a.sup b.sup := by split <;> rfl
@[simp] theorem ite_brakeA (c : Prop) [Decidable c] (a b : Sup) : (ite c a b).brakeA = ite c a.brakeA b.brakeA := by split <;> rfl
@[simp] theorem ite_brakeB (c : Prop) [Decidable c] (a b : Sup) : (ite c a b).brakeB = ite c a.brakeB b.brakeB := by split <;> rfl
theorem foldl_keep {α β : Type} (p : State → β) (g : State → α → State) (h : ∀ s a, p (g s a) = p s) (l : List α) (s : State) : p (l.foldl g s) = p s := by
  induction l generalizing s with
  | nil => rfl
  | cons a l ih => simp [ih, h]
@[simp] theorem foldl_pending {α : Type} (g : State → α → State) (l : List α) (s : State) (h : ∀ s a, (g s a).pending = s.pending) : (l.foldl g s).pending = s.pending := foldl_keep State.pending g h l s
@[simp] theorem foldl_mem {α : Type} (g : State → α → State) (l : List α) (s : State) (h : ∀ s a, (g s a).pond.mem = s.pond.mem) : (l.foldl g s).pond.mem = s.pond.mem := foldl_keep (fun s => s.pond.mem) g h l s
@[simp] theorem foldl_brakeA {α : Type} (g : State → α → State) (l : List α) (s : State) (h : ∀ s a, (g s a).sup.brakeA = s.sup.brakeA) : (l.foldl g s).sup.brakeA = s.sup.brakeA := foldl_keep (fun s => s.sup.brakeA) g h l s
@[simp] theorem foldl_brakeB {α : Type} (g : State → α → State) (l : List α) (s : State) (h : ∀ s a, (g s a).sup.brakeB = s.sup.brakeB) : (l.foldl g s).sup.brakeB = s.sup.brakeB := foldl_keep (fun s => s.sup.brakeB) g h l s

@[simp] theorem advanceTo_held (t : Nat) (s : State) : Held (advanceTo t s) s := by
  unfold Held advanceTo
  simp

@[simp] theorem tickTo_held (p : Nat) (s : State) : Held (tickTo p s) s := by
  unfold Held tickTo
  simp

@[simp] theorem nextFree_held (s : State) : Held (nextFree s).2 s := by
  unfold Held nextFree
  simp

@[simp] theorem hostWrite_held (addr : DWord) (data : List Byte) (s : State) : Held (hostWrite addr data s) s := by
  unfold Held hostWrite
  simp

@[simp] theorem reply_held (data : List Byte) (s : State) : Held (reply data s) s := by
  unfold Held reply
  simp

@[simp] theorem noteRegion_held (src : Nat) (lo : Nat) (hi : Nat) (s : State) : Held (noteRegion src lo hi s) s := by
  unfold Held noteRegion
  simp

@[simp] theorem flashOp_held (op : FlashOp) (s : State) : Held (flashOp op s) s := by
  unfold Held flashOp
  simp

@[simp] theorem raise_held (src : Nat) (s : State) : Held (raise src s) s := by
  unfold Held raise
  simp

@[simp] theorem tpFlag_held (i : Nat) (s : State) : Held (tpFlag i s) s := by
  unfold Held tpFlag
  simp

@[simp] theorem pushLog_held (type : BitVec 8) (aux : BitVec 8) (payload : List Byte) (s : State) : Held (pushLog type aux payload s) s := by
  unfold Held pushLog
  simp

@[simp] theorem setAdmitHold_held (v : Bool) (s : State) : Held (setAdmitHold v s) s := by
  unfold Held setAdmitHold
  simp

@[simp] theorem escalate_held (c : Fin 32) (s : State) : Held (escalate c s) s := by
  unfold Held escalate
  simp

@[simp] theorem countClass_held (c : Fin 32) (s : State) : Held (countClass c s) s := by
  unfold Held countClass
  simp

@[simp] theorem clearClass_held (c : Fin 32) (s : State) : Held (clearClass c s) s := by
  unfold Held clearClass
  simp

@[simp] theorem countClassN_held (c : Fin 32) (n : Nat) (s : State) :
    (countClassN c n s).pending = s.pending ∧ (countClassN c n s).pond.mem = s.pond.mem ∧ (countClassN c n s).sup.brakeA = s.sup.brakeA ∧ (countClassN c n s).sup.brakeB = s.sup.brakeB := by
  induction n generalizing s with
  | zero => simp [countClassN]
  | succ n ih => simp [countClassN, ih]

@[simp] theorem sendMsi_held (v : Fin 128) (s : State) : Held (sendMsi v s) s := by
  unfold Held sendMsi
  simp

@[simp] theorem requestMsi_held (v : Fin 128) (s : State) : Held (requestMsi v s) s := by
  unfold Held requestMsi
  simp

@[simp] theorem logEvent_held (src : Fin 128) (s : State) : Held (logEvent src s) s := by
  unfold Held logEvent
  simp

@[simp] theorem routeOne_held (src : Fin 128) (s : State) : Held (routeOne src s) s := by
  unfold Held routeOne
  simp

@[simp] theorem routeAll_held (s : State) : Held (routeAll s) s := by
  unfold Held routeAll
  simp

@[simp] theorem setState_held (st : DevState) (s : State) : Held (setState st s) s := by
  unfold Held setState
  simp

@[simp] theorem countIgnored_held (s : State) : Held (countIgnored s) s := by
  unfold Held countIgnored
  simp

@[simp] theorem modUnit_held (i : Fin 8) (f : ChkUnit → ChkUnit) (s : State) : Held (modUnit i f s) s := by
  unfold Held modUnit
  simp

@[simp] theorem finishUnit_held (i : Fin 8) (s : State) : Held (finishUnit i s) s := by
  unfold Held finishUnit
  simp

@[simp] theorem takeRecord_held (tap : Nat) (b : List Byte) (i : Fin 8) (s : State) : Held (takeRecord tap b i s) s := by
  unfold Held takeRecord
  simp

@[simp] theorem snoopUnit_held (tap : Nat) (b : List Byte) (s : State) (i : Fin 8) : Held (snoopUnit tap b s i) s := by
  unfold Held snoopUnit
  simp

@[simp] theorem snoopRecord_held (tap : Nat) (b : List Byte) (s : State) : Held (snoopRecord tap b s) s := by
  unfold Held snoopRecord
  simp

@[simp] theorem tapCut_held (tap : Nat) (s : State) : Held (tapCut tap s) s := by
  unfold Held tapCut
  simp

@[simp] theorem snoopCopyUnit_held (p : Port) (b : List Byte) (s : State) (i : Fin 8) : Held (snoopCopyUnit p b s i) s := by
  unfold Held snoopCopyUnit
  simp

@[simp] theorem snoopCopy_held (p : Port) (b : List Byte) (s : State) : Held (snoopCopy p b s) s := by
  unfold Held snoopCopy
  simp

@[simp] theorem cutCopies_held (gone : BitVec 16) (s : State) : Held (cutCopies gone s) s := by
  unfold Held cutCopies
  simp

@[simp] theorem setEng_held (x : EngId) (e : Engine) (s : State) : Held (setEng x e s) s := by
  unfold Held setEng
  (repeat' split) <;> simp

@[simp] theorem setLoop_held (x : LoopId) (l : Loop) (s : State) : Held (setLoop x l s) s := by
  unfold Held setLoop
  simp

@[simp] theorem setDma_held (ch : Chan) (d : Dma) (s : State) : Held (setDma ch d s) s := by
  unfold Held setDma
  simp

@[simp] theorem setHp_held (p : Port) (h : HeadPort) (s : State) : Held (setHp p h s) s := by
  unfold Held setHp
  simp

@[simp] theorem setStore_held (p : Port) (t : PortStore) (s : State) : Held (setStore p t s) s := by
  unfold Held setStore
  simp

@[simp] theorem setTrack_held (p : Port) (t : PortTrack) (s : State) : Held (setTrack p t s) s := by
  unfold Held setTrack
  simp

@[simp] theorem setLoads_held (p : Port) (l : List Load) (s : State) : Held (setLoads p l s) s := by
  unfold Held setLoads
  simp

@[simp] theorem modAux_held (i : Fin 2) (f : List (Nat × Nat) → List (Nat × Nat)) (s : State) : Held (modAux i f s) s := by
  unfold Held modAux
  simp

@[simp] theorem reserveAux_held (i : Fin 2) (n : Nat) (s : State) : Held (reserveAux i n s) s := by
  unfold Held reserveAux
  simp

@[simp] theorem unreserveAux_held (i : Fin 2) (n : Nat) (s : State) : Held (unreserveAux i n s) s := by
  unfold Held unreserveAux
  simp

@[simp] theorem freeAux_held (i : Fin 2) (keep : Nat) (n : Nat) (s : State) : Held (freeAux i keep n s) s := by
  unfold Held freeAux
  simp

@[simp] theorem noteRace_held (addrs : List Nat) (s : State) : Held (noteRace addrs s) s := by
  unfold Held noteRace
  simp

@[simp] theorem pondWrite_held (f : Nat → Nat) (bytes : List Byte) (s : State) : HeldBrake (pondWrite f bytes s) s := by
  unfold HeldBrake pondWrite
  simp

@[simp] theorem storeLine_held (p : Port) (doc : Word) (k : Nat) (isTest : Bool) (bytes : List Byte) (s : State) : HeldBrake (storeLine p doc k isTest bytes s) s := by
  unfold HeldBrake storeLine
  simp

@[simp] theorem releaseLines_held (p : Port) (f : Stored → Bool) (s : State) : Held (releaseLines p f s) s := by
  unfold Held releaseLines
  simp

@[simp] theorem releaseDoc_held (id : Word) (s : State) : Held (releaseDoc id s) s := by
  unfold Held releaseDoc
  simp

@[simp] theorem retireLine_held (x : EngId) (p : Port) (id : Word) (k : Nat) (s : State) : Held (retireLine x p id k s) s := by
  unfold Held retireLine
  simp

@[simp] theorem retireBoth_held (p : Port) (id : Word) (k : Nat) (s : State) : Held (retireBoth p id k s) s := by
  unfold Held retireBoth
  simp

@[simp] theorem reviewRelease_held (s : State) : Held (reviewRelease s) s := by
  unfold Held reviewRelease
  simp

@[simp] theorem replaceRow_held (row : Nat) (s : State) : Held (replaceRow row s) s := by
  unfold Held replaceRow
  simp

@[simp] theorem wordCorrected_held (word : Nat) (two : Bool) (s : State) : Held (wordCorrected word two s) s := by
  unfold Held wordCorrected
  simp

@[simp] theorem wordLost_held (word : Nat) (s : State) : HeldBrake (wordLost word s) s := by
  unfold HeldBrake wordLost
  (try simp) <;> (repeat' (first | intro _ | split)) <;> (try simp)

@[simp] theorem writeBackWord_held (word : Nat) (v : BitVec 64) (s : State) : HeldBrake (writeBackWord word v s) s := by
  unfold HeldBrake writeBackWord
  simp

@[simp] theorem readThrough_held (s : State) (e : Nat × BitVec 79) : HeldBrake (readThrough s e) s := by
  unfold HeldBrake readThrough
  (try simp) <;> (repeat' (first | intro _ | split)) <;> (try simp)

@[simp] theorem wordErrors_held (errs : Upsets) (s : State) : HeldBrake (wordErrors errs s) s := by
  unfold HeldBrake wordErrors
  simp

@[simp] theorem readAux_held (i : Fin 2) (keep : Nat) (n : Nat) (errs : Upsets) (s : State) : HeldBrake (readAux i keep n errs s) s := by
  unfold HeldBrake readAux
  simp

@[simp] theorem modDoc_held (id : Word) (f : Doc → Doc) (s : State) : Held (modDoc id f s) s := by
  unfold Held modDoc
  simp

@[simp] theorem modDocPort_held (id : Word) (p : Port) (f : DocPort → DocPort) (s : State) : Held (modDocPort id p f s) s := by
  unfold Held modDocPort
  simp

@[simp] theorem captureFault_held (s : State) : Held (captureFault s) s := by
  unfold Held captureFault
  simp

@[simp] theorem pushFault_held (id : Word) (tag : Word) (reason : Nat) (port : Nat) (line : Nat) (s : State) : Held (pushFault id tag reason port line s) s := by
  unfold Held pushFault
  simp

@[simp] theorem markDoc_held (id : Word) (reason : Nat) (port : Nat) (line : Nat) (s : State) : Held (markDoc id reason port line s) s := by
  unfold Held markDoc
  (repeat' split) <;> simp

@[simp] theorem docDone_held (id : Word) (s : State) : Held (docDone id s) s := by
  unfold Held docDone
  simp

@[simp] theorem sweepBarred_held (s : State) : Held (sweepBarred s) s := by
  unfold Held sweepBarred
  simp

@[simp] theorem noteLeft_held (p : Port) (id : Word) (s : State) : Held (noteLeft p id s) s := by
  unfold Held noteLeft
  simp

@[simp] theorem noteOpened_held (p : Port) (id : Option Word) (s : State) : Held (noteOpened p id s) s := by
  unfold Held noteOpened
  simp

@[simp] theorem frameIdle_held (p : Port) (s : State) : Held (frameIdle p s) s := by
  unfold Held frameIdle
  simp

@[simp] theorem frameDiscard_held (p : Port) (id : Word) (count : Nat) (s : State) : Held (frameDiscard p id count s) s := by
  unfold Held frameDiscard
  simp

@[simp] theorem frameToDiscard_held (id : Word) (s : State) (p : Port) : Held (frameToDiscard id s p) s := by
  unfold Held frameToDiscard
  simp

@[simp] theorem discardHolders_held (id : Word) (s : State) : Held (discardHolders id s) s := by
  unfold Held discardHolders
  simp

@[simp] theorem barDoc_held (id : Word) (s : State) : Held (barDoc id s) s := by
  unfold Held barDoc
  simp

@[simp] theorem withdrawDoc_held (id : Word) (s : State) : Held (withdrawDoc id s) s := by
  unfold Held withdrawDoc
  simp

@[simp] theorem abortDocument_held (id : Word) (s : State) : Held (abortDocument id s) s := by
  unfold Held abortDocument
  (repeat' split) <;> simp

@[simp] theorem abortAll_held (s : State) : Held (abortAll s) s := by
  unfold Held abortAll
  simp

@[simp] theorem channelLost_held (p : Port) (reason : Nat) (s : State) : Held (channelLost p reason s) s := by
  unfold Held channelLost
  simp

@[simp] theorem channelReset_held (p : Port) (s : State) : Held (channelReset p s) s := by
  unfold Held channelReset
  simp

@[simp] theorem applySet_held (x : LoopId) (f : FantailSet) (s : State) : Held (applySet x f s) s := by
  unfold Held applySet
  simp

@[simp] theorem writeSet_held (x : LoopId) (f : FantailSet) (s : State) : Held (writeSet x f s) s := by
  unfold Held writeSet
  simp

@[simp] theorem setSpeed_held (v : Nat) (s : State) : Held (setSpeed v s) s := by
  unfold Held setSpeed
  simp

@[simp] theorem recomputeSpeed_held (s : State) : Held (recomputeSpeed s) s := by
  unfold Held recomputeSpeed
  simp

@[simp] theorem refreshSpeed_held (s0 s : State) : Held (refreshSpeed s0 s) s := by
  unfold Held refreshSpeed
  simp

@[simp] theorem refreshHold_held (s : State) : Held (refreshHold s) s := by
  unfold Held refreshHold
  simp

@[simp] theorem admitPort_held (id : Word) (pf : Profile) (q : Fin 8) (s : State) (p : Port) : Held (admitPort id pf q s p) s := by
  unfold Held admitPort
  (repeat' split) <;> simp

@[simp] theorem admitDoc_held (d : Doc) (s : State) : Held (admitDoc d s) s := by
  unfold Held admitDoc
  (repeat' split) <;> simp

@[simp] theorem downgrade_held (d : Doc) (s : State) : Held (downgrade d s) s := by
  unfold Held downgrade
  simp

@[simp] theorem loadFantail_held (d : Doc) (s : State) : Held (loadFantail d s) s := by
  unfold Held loadFantail
  (repeat' split) <;> simp

@[simp] theorem evaluateDoc_held (s : State) (id : Word) : Held (evaluateDoc s id) s := by
  unfold Held evaluateDoc
  (try simp) <;> (repeat' (first | intro _ | split)) <;> (try simp)

@[simp] theorem evaluateAll_held (s : State) : Held (evaluateAll s) s := by
  unfold Held evaluateAll
  simp

@[simp] theorem chanErr_held (ch : Chan) (i : Nat) (s : State) : Held (chanErr ch i s) s := by
  unfold Held chanErr
  simp

@[simp] theorem logUser_held (ch : Chan) (code : Nat) (desc : Desc) (s : State) : Held (logUser ch code desc s) s := by
  unfold Held logUser
  simp

@[simp] theorem touchLink_held (s : State) : Held (touchLink s) s := by
  unfold Held touchLink
  simp

@[simp] theorem issueReq_held (ch : Chan) (kind : ReqKind) (off : Nat) (len : Nat) (s : State) : Held (issueReq ch kind off len s) s := by
  unfold Held issueReq
  simp

@[simp] theorem issueBuffer_held (ch : Chan) (s : State) : Held (issueBuffer ch s) s := by
  unfold Held issueBuffer
  (try simp) <;> (repeat' (first | intro _ | split)) <;> (try simp)

@[simp] theorem issueSlot_held (ch : Chan) (s : State) : Held (issueSlot ch s) s := by
  unfold Held issueSlot
  simp

@[simp] theorem fetchDesc_held (ch : Chan) (s : State) : Held (fetchDesc ch s) s := by
  unfold Held fetchDesc
  simp

@[simp] theorem issueOwed_held (ch : Chan) (s : State) : Held (issueOwed ch s) s := by
  unfold Held issueOwed
  simp

@[simp] theorem issueAll_held (s : State) : Held (issueAll s) s := by
  unfold Held issueAll
  simp

@[simp] theorem stopAt_held (ch : Chan) (s : State) : Held (stopAt ch s) s := by
  unfold Held stopAt
  simp

@[simp] theorem endDropped_held (ch : Chan) (id : Nat) (s : State) : Held (endDropped ch id s) s := by
  unfold Held endDropped
  simp

@[simp] theorem rejectDesc_held (ch : Chan) (code : Nat) (errBit : Nat) (s : State) : Held (rejectDesc ch code errBit s) s := by
  unfold Held rejectDesc
  (try simp) <;> (repeat' (first | intro _ | split)) <;> (try simp)

@[simp] theorem retire_held (ch : Chan) (status : Nat) (wbFlags : Nat) (moved : List Byte) (crc : Word) (s : State) : Held (retire ch status wbFlags moved crc s) s := by
  unfold Held retire
  (try simp) <;> (repeat' (first | intro _ | split)) <;> (try simp)

@[simp] theorem beginDelivery_held (ch : Chan) (c : CurDesc) (s : State) : Held (beginDelivery ch c s) s := by
  unfold Held beginDelivery
  simp

@[simp] theorem becomeCurrent_held (ch : Chan) (c : CurDesc) (s : State) : Held (becomeCurrent ch c s) s := by
  unfold Held becomeCurrent
  simp

@[simp] theorem proceed_held (ch : Chan) (s : State) : Held (proceed ch s) s := by
  unfold Held proceed
  (try simp) <;> (repeat' (first | intro _ | split)) <;> (try simp)

@[simp] theorem reportAer_held (bit : Nat) (header : Option (BitVec 128)) (s : State) : Held (reportAer bit header s) s := by
  unfold Held reportAer
  simp

@[simp] theorem reportCorrectable_held (bit : Nat) (s : State) : Held (reportCorrectable bit s) s := by
  unfold Held reportCorrectable
  simp

@[simp] theorem dropPartial_held (ch : Chan) (s : State) : Held (dropPartial ch s) s := by
  unfold Held dropPartial
  simp

@[simp] theorem haltChan_held (ch : Chan) (isDesc : Bool) (s : State) : Held (haltChan ch isDesc s) s := by
  unfold Held haltChan
  (try simp) <;> (repeat' (first | intro _ | split)) <;> (try simp)

@[simp] theorem letOut_held (n : Nat) (ch : Chan) (id : Nat) (s : State) : Held (letOut n ch id s) s := by
  induction n generalizing s with
  | zero => simp [Held, letOut]
  | succ n ih =>
    unfold Held letOut
    dsimp only
    split
    · simp
    · split
      · simp
      · next r _ => have := ih (issueBuffer ch (setDma ch { s.dma[ch] with reqs := s.dma[ch].reqs.filter fun q => q.id != r.id } s)); simpa [Held] using this

@[simp] theorem issuedBy_held (ch : Chan) (id : Nat) (s : State) : Held (issuedBy ch id s) s := by
  unfold Held issuedBy
  dsimp only
  split <;> simp

@[simp] theorem reportFailed_held (err : Option (CplError × BitVec 128)) (s : State) : Held (reportFailed err s) s := by
  unfold Held reportFailed
  (repeat' split) <;> simp

@[simp] theorem retryOrHalt_held (ch : Chan) (r : ReadReq) (s : State) : Held (retryOrHalt ch r s) s := by
  unfold Held retryOrHalt
  simp

@[simp] theorem unexpected_held (err : Option (CplError × BitVec 128)) (s : State) : Held (unexpected err s) s := by
  unfold Held unexpected
  (repeat' split) <;> simp

@[simp] theorem requestFailed_held (ch : Chan) (id : Nat) (err : Option (CplError × BitVec 128)) (s : State) : Held (requestFailed ch id err s) s := by
  unfold Held requestFailed
  (try simp) <;> (repeat' (first | intro _ | split)) <;> (try simp)

@[simp] theorem reissue_held (ch : Chan) (id : Nat) (s : State) : Held (reissue ch id s) s := by
  unfold Held reissue
  (try simp) <;> (repeat' (first | intro _ | split)) <;> (try simp)

@[simp] theorem descArrives_held (ch : Chan) (id : Nat) (bytes : List Byte) (s : State) : Held (descArrives ch id bytes s) s := by
  unfold Held descArrives
  (try simp) <;> (repeat' (first | intro _ | split)) <;> (try simp)

@[simp] theorem chanWake_held (ch : Chan) (s : State) : Held (chanWake ch s) s := by
  unfold Held chanWake
  simp

@[simp] theorem enableChan_held (ch : Chan) (s : State) : Held (enableChan ch s) s := by
  unfold Held enableChan
  simp

@[simp] theorem stopChan_held (ch : Chan) (s : State) : Held (stopChan ch s) s := by
  unfold Held stopChan
  (try simp) <;> (repeat' (first | intro _ | split)) <;> (try simp)

@[simp] theorem resumeChan_held (ch : Chan) (s : State) : Held (resumeChan ch s) s := by
  unfold Held resumeChan
  simp

@[simp] theorem dropTransfer_held (ch : Chan) (s : State) : Held (dropTransfer ch s) s := by
  unfold Held dropTransfer
  simp

@[simp] theorem loseCounts_held (ch : Chan) (s : State) : Held (loseCounts ch s) s := by
  unfold Held loseCounts
  simp

@[simp] theorem killChan_held (ch : Chan) (s : State) : Held (killChan ch s) s := by
  unfold Held killChan
  (try simp) <;> (repeat' (first | intro _ | split)) <;> (try simp)

@[simp] theorem resetChan_held (ch : Chan) (s : State) : Held (resetChan ch s) s := by
  unfold Held resetChan
  (repeat' split) <;> (try simp) <;> (repeat' (first | intro _ | apply And.intro | refine (foldl_pending _ _ _ (fun s a => ?_)).trans ?_ | refine (foldl_mem _ _ _ (fun s a => ?_)).trans ?_ | refine (foldl_brakeA _ _ _ (fun s a => ?_)).trans ?_ | refine (foldl_brakeB _ _ _ (fun s a => ?_)).trans ?_ | split)) <;> (try simp)

@[simp] theorem finishReset_held (ch : Chan) (s : State) : Held (finishReset ch s) s := by
  unfold Held finishReset
  (repeat' split) <;> simp

@[simp] theorem ringBell_held (ch : Chan) (val : DWord) (s : State) : Held (ringBell ch val s) s := by
  unfold Held ringBell
  (try simp) <;> (repeat' (first | intro _ | split)) <;> (try simp)

@[simp] theorem doorbell_held (ch : Chan) (val : DWord) (s : State) : Held (doorbell ch val s) s := by
  unfold Held doorbell
  simp

@[simp] theorem openGate_held (s : State)  :
    (openGate s).pending = s.pending ∧ (openGate s).pond.mem = s.pond.mem ∧ (openGate s).sup.brakeA = s.sup.brakeA ∧ (openGate s).sup.brakeB = s.sup.brakeB := by
  unfold openGate
  dsimp only
  refine ⟨?_, ?_, ?_, ?_⟩
  · refine (foldl_pending _ _ _ (fun s a => ?_)).trans rfl; split <;> simp
  · refine (foldl_mem _ _ _ (fun s a => ?_)).trans rfl; split <;> simp
  · refine (foldl_brakeA _ _ _ (fun s a => ?_)).trans rfl; split <;> simp
  · refine (foldl_brakeB _ _ _ (fun s a => ?_)).trans rfl; split <;> simp

@[simp] theorem spaceFreed_held (ch : Chan) (s : State) : Held (spaceFreed ch s) s := by
  unfold Held spaceFreed
  (try simp) <;> (repeat' (first | intro _ | split)) <;> (try simp)

@[simp] theorem advanceLine_held (p : Port) (isTest : Bool) (s : State) : Held (advanceLine p isTest s) s := by
  unfold Held advanceLine
  simp

@[simp] theorem malformed_held (ch : Chan) (s : State) : Held (malformed ch s) s := by
  unfold Held malformed
  simp

@[simp] theorem handleFailing_held (p : Port) (s : State) : Held (handleFailing p s) s := by
  unfold Held handleFailing
  (try simp) <;> (repeat' (first | intro _ | split)) <;> (try simp)

@[simp] theorem breach_held (p : Port) (s : State) : Held (breach p s).2 s := by
  unfold Held breach
  simp

@[simp] theorem takeLine_held (p : Port) (b : List Byte) (s : State) : HeldBrake (takeLine p b s) s := by
  unfold HeldBrake takeLine
  (try simp) <;> (repeat' (first | intro _ | split)) <;> (try simp)

@[simp] theorem openDoc_held (p : Port) (id : Word) (s : State) : Held (openDoc p id s) s := by
  unfold Held openDoc
  (try simp) <;> (repeat' (first | intro _ | split)) <;> (try simp)

theorem openPacket_held (p : Port) (b : List Byte) (s : State) (r : Nat × State) (h : openPacket p b s = some r) :
    r.2.pending = s.pending ∧ r.2.pond.mem = s.pond.mem ∧ r.2.sup.brakeA = s.sup.brakeA ∧ r.2.sup.brakeB = s.sup.brakeB := by
  unfold openPacket at h
  dsimp only at h
  (repeat' split at h) <;> first | (cases h; done) | (cases h; simp [apply_ite State.pending, apply_ite State.pond]; done)

@[simp] theorem spitTest_held (p : Port) (b : List Byte) (s : State) : Held (spitTest p b s).2 s := by
  unfold Held spitTest
  (try simp) <;> (repeat' (first | intro _ | split)) <;> (try simp)

theorem routePacket_held (p : Port) (b : List Byte) (s : State) (r : Nat × State) (h : routePacket p b s = some r) :
    r.2.pending = s.pending ∧ r.2.sup.brakeA = s.sup.brakeA ∧ r.2.sup.brakeB = s.sup.brakeB := by
  unfold routePacket at h
  dsimp only at h
  (repeat' split at h) <;> first | (cases h; simp; done) | (have := openPacket_held _ _ _ _ h; simp [this]; done)

@[simp] theorem retirePacket_held (p : Port) (status : Nat) (flags : Nat) (moved : List Byte) (c : Word) (s : State) : Held (retirePacket p status flags moved c s) s := by
  unfold Held retirePacket
  simp

@[simp] theorem recordFail_held (p : Port) (c : Word) (r : Word) (s : State) : Held (recordFail p c r s) s := by
  unfold Held recordFail
  (try simp) <;> (repeat' (first | intro _ | split)) <;> (try simp)

@[simp] theorem recordPersist_held (p : Port) (s : State) : Held (recordPersist p s) s := by
  unfold Held recordPersist
  simp

@[simp] theorem deliverPacket_held (p : Port) (b : List Byte) (s : State)  :
    (deliverPacket p b s).pending = s.pending ∧ (deliverPacket p b s).sup.brakeA = s.sup.brakeA ∧ (deliverPacket p b s).sup.brakeB = s.sup.brakeB := by
  unfold deliverPacket
  dsimp only
  split
  · simp
  · split
    · simp
    · split
      · simp
      · split
        · split
          · simp
          · next h => have := routePacket_held _ _ _ _ h; simpa using this
        · split
          · simp
          · split <;> simp

@[simp] theorem headerArrives_held (p : Port) (b : List Byte) (s : State) : HeldBrake (headerArrives p b s) s := by
  unfold HeldBrake headerArrives
  (try simp) <;> (repeat' (first | intro _ | split)) <;> (try simp)

@[simp] theorem refetchPacket_held (p : Port) (s : State) : Held (refetchPacket p s) s := by
  unfold Held refetchPacket
  (try simp) <;> (repeat' (first | intro _ | split)) <;> (try simp)

@[simp] theorem tableFreed_held (p : Port) (s : State) : HeldBrake (tableFreed p s) s := by
  unfold HeldBrake tableFreed
  (try simp) <;> (repeat' (first | intro _ | split)) <;> (try simp)

@[simp] theorem setNzh_held (p : Port) (z : Nzh) (s : State) : Held (setNzh p z s) s := by
  unfold Held setNzh
  simp

@[simp] theorem nzhErr_held (p : Port) (i : Nat) (s : State) : Held (nzhErr p i s) s := by
  unfold Held nzhErr
  simp

@[simp] theorem dropIncoming_held (w : List (Port × Nat × Port × Nat)) (s : State) (p : Port) : Held (dropIncoming w s p) s := by
  unfold Held dropIncoming
  simp

@[simp] theorem addIncoming_held (s : State) (t : Port × Nat × Port × Nat) : Held (addIncoming s t) s := by
  unfold Held addIncoming
  simp

@[simp] theorem logEntries_held (p : Port) (type : BitVec 8) (serial : DWord) (l : List MapEntry) (s : State) : Held (logEntries p type serial l s) s := by
  unfold Held logEntries
  simp

@[simp] theorem logMap_held (s0 : State) (s : State) (p : Port) : Held (logMap s0 s p) s := by
  unfold Held logMap
  simp

@[simp] theorem evalMaps_held (s0 : State) (s : State) : Held (evalMaps s0 s) s := by
  unfold Held evalMaps
  simp

@[simp] theorem logMaps_held (s0 : State) (s : State) : Held (logMaps s0 s) s := by
  unfold Held logMaps
  simp

@[simp] theorem postMaps_held (s0 : State) (s : State) : Held (postMaps s0 s) s := by
  unfold Held postMaps
  simp

@[simp] theorem enterMissing_held (p : Port) (x : Nat) (k : MapKind) (s : State) : Held (enterMissing p x k s) s := by
  unfold Held enterMissing
  simp

@[simp] theorem discoverMap_held (p : Port) (gone : Option DWord) (s0 : State) : Held (discoverMap p gone s0) s0 := by
  unfold Held discoverMap
  (repeat' split) <;> simp

@[simp] theorem refuseMap_held (p : Port) (s : State) : Held (refuseMap p s) s := by
  unfold Held refuseMap
  simp

@[simp] theorem noteMapCmd_held (p : Port) (op : BitVec 4) (x : BitVec 11) (s : State) : Held (noteMapCmd p op x s) s := by
  unfold Held noteMapCmd
  simp

@[simp] theorem addHost_held (p : Port) (x : Nat) (s : State) : Held (addHost p x s) s := by
  unfold Held addHost
  simp

@[simp] theorem freeNozzle_held (p : Port) (x : Nat) (s : State) : Held (freeNozzle p x s) s := by
  unfold Held freeNozzle
  simp

@[simp] theorem freeKinds_held (p : Port) (keep : MapKind → Bool) (s : State) : Held (freeKinds p keep s) s := by
  unfold Held freeKinds
  simp

@[simp] theorem confirm_held (p : Port) (x : Nat) (s : State) : Held (confirm p x s) s := by
  unfold Held confirm
  simp

@[simp] theorem suspect_held (p : Port) (x : Nat) (s : State) : Held (suspect p x s) s := by
  unfold Held suspect
  (try simp) <;> (repeat' (first | intro _ | split)) <;> (try simp)

@[simp] theorem ageSuspicions_held (p : Port) (s : State) : Held (ageSuspicions p s) s := by
  unfold Held ageSuspicions
  simp

@[simp] theorem localiseAll_held (p : Port) (u : List Nat) (s : State) : Held (localiseAll p u s) s := by
  unfold Held localiseAll
  simp

@[simp] theorem localise_held (p : Port) (c : WindowClass) (f : List Nat) (s : State) : Held (localise p c f s) s := by
  unfold Held localise
  (repeat' split) <;> simp

@[simp] theorem countWindow_held (p : Port) (doc : Word) (line : Nat) (c : WindowClass) (s : State) : Held (countWindow p doc line c s) s := by
  unfold Held countWindow
  (try simp) <;> (repeat' (first | intro _ | split)) <;> (try simp)

@[simp] theorem takeWindow_held (p : Port) (doc : Word) (line : Nat) (e : Nat) (m : Int) (f : List Nat) (s : State) : Held (takeWindow p doc line e m f s) s := by
  unfold Held takeWindow
  simp

@[simp] theorem startSheet_held (p : Port) (s : State) : Held (startSheet p s) s := by
  unfold Held startSheet
  (repeat' split) <;> simp

@[simp] theorem abortSheet_held (p : Port) (s : State) : Held (abortSheet p s) s := by
  unfold Held abortSheet
  simp

@[simp] theorem abortSheets_held (s : State) : Held (abortSheets s) s := by
  unfold Held abortSheets
  simp

@[simp] theorem finishSheet_held (p : Port) (s : State) : Held (finishSheet p s) s := by
  unfold Held finishSheet
  simp

@[simp] theorem judgeDrop_held (p : Port) (seen : Bool) (s : State) : Held (judgeDrop p seen s) s := by
  unfold Held judgeDrop
  simp

@[simp] theorem modLoad_held (p : Port) (doc : Word) (line : Nat) (f : Load → Load) (s : State) : Held (modLoad p doc line f s) s := by
  unfold Held modLoad
  simp

@[simp] theorem mapLoads_held (f : Load → Load) (s : State) : Held (mapLoads f s) s := by
  unfold Held mapLoads
  simp

@[simp] theorem supErr_held (i : Nat) (s : State) : Held (supErr i s) s := by
  unfold Held supErr
  simp

@[simp] theorem giveBrake_held (x : EngId) (s : State) : HeldMem (giveBrake x s) s := by
  unfold HeldMem giveBrake
  simp

@[simp] theorem clearBrake_held (s : State) : HeldMem (clearBrake s) s := by
  unfold HeldMem clearBrake
  simp

@[simp] theorem logEngines_held (periodic : Bool) (s : State) : Held (logEngines periodic s) s := by
  unfold Held logEngines
  simp

@[simp] theorem noteSolo_held (s : State) : Held (noteSolo s) s := by
  unfold Held noteSolo
  simp

@[simp] theorem setRoles_held (a : Role) (b : Role) (s : State) : Held (setRoles a b s) s := by
  unfold Held setRoles
  simp

@[simp] theorem rolesFor_held (x : EngId) (r : Role) (other : Role) (s : State) : Held (rolesFor x r other s) s := by
  unfold Held rolesFor
  (repeat' split) <;> simp

@[simp] theorem startSelftest_held (x : EngId) (s : State) : Held (startSelftest x s) s := by
  unfold Held startSelftest
  simp

@[simp] theorem stopSelftest_held (x : EngId) (s : State) : Held (stopSelftest x s) s := by
  unfold Held stopSelftest
  simp

@[simp] theorem withdraw_held (x : EngId) (s : State) : Held (withdraw x s) s := by
  unfold Held withdraw
  simp

@[simp] theorem dropCopies_held (s : State) : Held (dropCopies s) s := by
  unfold Held dropCopies
  simp

@[simp] theorem queueFull_held (first : Port) (s : State) : Held (queueFull first s) s := by
  unfold Held queueFull
  simp

@[simp] theorem reloadBlocks_held (x : EngId) (s : State) : Held (reloadBlocks x s) s := by
  unfold Held reloadBlocks
  simp

@[simp] theorem endSwap_held (failed : Bool) (s : State) : Held (endSwap failed s) s := by
  unfold Held endSwap
  simp

@[simp] theorem closeFailed_held (s : State) : Held (closeFailed s) s := by
  unfold Held closeFailed
  simp

@[simp] theorem noteFault_held (x : EngId) (kind : Nat) (p : Nat) (line : Nat) (s : State) : Held (noteFault x kind p line s) s := by
  unfold Held noteFault
  (repeat' split) <;> simp

@[simp] theorem markMismatched_held (x : EngId) (s : State) : Held (markMismatched x s) s := by
  unfold Held markMismatched
  simp

@[simp] theorem leavePair_held (x : EngId) (retire : Bool) (raises : Bool) (s : State) : HeldMem (leavePair x retire raises s) s := by
  unfold HeldMem leavePair
  simp

@[simp] theorem markStopped_held (s : State) : Held (markStopped s) s := by
  unfold Held markStopped
  (repeat' split) <;> (try simp) <;> (repeat' (first | intro _ | apply And.intro | refine (foldl_pending _ _ _ (fun s a => ?_)).trans ?_ | refine (foldl_mem _ _ _ (fun s a => ?_)).trans ?_ | refine (foldl_brakeA _ _ _ (fun s a => ?_)).trans ?_ | refine (foldl_brakeB _ _ _ (fun s a => ?_)).trans ?_ | split)) <;> (try simp)

@[simp] theorem soloLasting_held (s : State) : HeldMem (soloLasting s) s := by
  unfold HeldMem soloLasting
  simp

@[simp] theorem soloFault_held (x : EngId) (kind : Nat) (p : Port) (doc : Word) (line : Nat) (s : State) : HeldMem (soloFault x kind p doc line s) s := by
  unfold HeldMem soloFault
  simp

@[simp] theorem leadStays_held (x : EngId) (retire : Bool) (s : State) : HeldMem (leadStays x retire s) s := by
  unfold HeldMem leadStays
  dsimp only
  (repeat' split) <;> simp

@[simp] theorem engineFault_held (x : EngId) (kind : Nat) (retire : Bool) (p : Port) (doc : Word) (line : Nat) (s : State) : HeldMem (engineFault x kind retire p doc line s) s := by
  unfold HeldMem engineFault
  simp

@[simp] theorem oneLeaves_held (s : State) : HeldMem (oneLeaves s) s := by
  unfold HeldMem oneLeaves
  simp

@[simp] theorem bothFault_held (kindA : Nat) (kindB : Nat) (p : Port) (doc : Word) (line : Nat) (s : State) : HeldMem (bothFault kindA kindB p doc line s) s := by
  unfold HeldMem bothFault
  simp

@[simp] theorem noteVerdict_held (units : Nat) (s : State) : Held (noteVerdict units s) s := by
  unfold Held noteVerdict
  simp

@[simp] theorem mismatchVerdict_held (p : Port) (doc : Word) (line : Nat) (s : State) : HeldMem (mismatchVerdict p doc line s) s := by
  unfold HeldMem mismatchVerdict
  simp

@[simp] theorem decideLoad_held (p : Port) (s : State) (key : Word × Nat) : Held (decideLoad p s key) s := by
  unfold Held decideLoad
  (repeat' split) <;> simp

@[simp] theorem decideAll_held (s : State) : HeldMem (decideAll s) s := by
  unfold HeldMem decideAll
  (repeat' split) <;> simp

@[simp] theorem noteEgress_held (p : Port) (doc : Word) (line : Word) (b : List Byte) (s : State) : Held (noteEgress p doc line b s) s := by
  unfold Held noteEgress
  simp

@[simp] theorem takeOver_held (x : EngId) (p : Port) (ld : Load) (s : State) : Held (takeOver x p ld s) s := by
  unfold Held takeOver
  simp

@[simp] theorem presented_held (x : EngId) (p : Port) (ld : Load) (s : State) : Held (presented x p ld s) s := by
  unfold Held presented
  simp

@[simp] theorem offerLoad_held (p : Port) (ld : Load) (s : State) : HeldMem (offerLoad p ld s) s := by
  unfold HeldMem offerLoad
  (repeat' split) <;> simp

@[simp] theorem handOver_held (s : State) (p : Port) : HeldMem (handOver s p) s := by
  unfold HeldMem handOver
  (repeat' split) <;> (try simp) <;> (repeat' (first | intro _ | apply And.intro | refine (foldl_pending _ _ _ (fun s a => ?_)).trans ?_ | refine (foldl_mem _ _ _ (fun s a => ?_)).trans ?_ | refine (foldl_brakeA _ _ _ (fun s a => ?_)).trans ?_ | refine (foldl_brakeB _ _ _ (fun s a => ?_)).trans ?_ | split)) <;> (try simp)

@[simp] theorem pairRound_held (s : State) : HeldMem (pairRound s) s := by
  unfold HeldMem pairRound
  simp

@[simp] theorem pairSettle_held (s : State) : HeldMem (pairSettle s) s := by
  unfold HeldMem pairSettle
  simp

@[simp] theorem noteCorrected_held (x : EngId) (k : Nat) (s : State) : Held (noteCorrected x k s) s := by
  unfold Held noteCorrected
  simp

@[simp] theorem endDiagnosis_held (p : Port) (a : DiagNote) (b : DiagNote) (s : State) : HeldMem (endDiagnosis p a b s) s := by
  unfold HeldMem endDiagnosis
  (repeat' split) <;> simp

@[simp] theorem queueCopy_held (p : Port) (s : State) : Held (queueCopy p s) s := by
  unfold Held queueCopy
  simp

@[simp] theorem snapshot_held (s : State) : Held (snapshot s) s := by
  unfold Held snapshot
  (repeat' split) <;> simp

@[simp] theorem fixSegment_held (x : EngId) (p : Port) (g : Segment) (s : State) : Held (fixSegment x p g s) s := by
  unfold Held fixSegment
  simp

@[simp] theorem exchangeBlocks_held (s : State) : HeldMem (exchangeBlocks s) s := by
  unfold HeldMem exchangeBlocks
  simp

@[simp] theorem finishRejoin_held (s : State) : HeldMem (finishRejoin s) s := by
  unfold HeldMem finishRejoin
  simp

@[simp] theorem breakRejoin_held (s : State) : Held (breakRejoin s) s := by
  unfold Held breakRejoin
  simp

@[simp] theorem fixCopy_held (p : Port) (corrupt : Bool) (s : State) : HeldMem (fixCopy p corrupt s) s := by
  unfold HeldMem fixCopy
  (repeat' split) <;> simp

@[simp] theorem startRejoin_held (s : State) : Held (startRejoin s) s := by
  unfold Held startRejoin
  simp

@[simp] theorem finishRestart_held (a : Bool) (b : Bool) (s : State) : HeldMem (finishRestart a b s) s := by
  unfold HeldMem finishRestart
  simp

@[simp] theorem endSelftest_held (x : EngId) (pass : Bool) (s : State) : HeldMem (endSelftest x pass s) s := by
  unfold HeldMem endSelftest
  (try simp) <;> (repeat' (first | intro _ | split)) <;> (try simp)

@[simp] theorem pairQuiet_held (s : State) : HeldMem (pairQuiet s) s := by
  unfold HeldMem pairQuiet
  simp

@[simp] theorem supCmd_held (op : Nat) (x : EngId) (refused : Bool) (s : State) : Held (supCmd op x refused s) s := by
  unfold Held supCmd
  simp

@[simp] theorem supRefuse_held (op : Nat) (x : EngId) (s : State) : Held (supRefuse op x s) s := by
  unfold Held supRefuse
  simp

@[simp] theorem retireEngine_held (x : EngId) (s : State) : HeldMem (retireEngine x s) s := by
  unfold HeldMem retireEngine
  simp

@[simp] theorem reviveEngine_held (x : EngId) (s : State) : Held (reviveEngine x s) s := by
  unfold Held reviveEngine
  simp

@[simp] theorem testFailover_held (s : State) : Held (testFailover s) s := by
  unfold Held testFailover
  simp

@[simp] theorem openSwap_held (s : State) : Held (openSwap s) s := by
  unfold Held openSwap
  simp

@[simp] theorem armSwap_held (s : State) : Held (armSwap s) s := by
  unfold Held armSwap
  simp

@[simp] theorem cancelSwap_held (s : State) : Held (cancelSwap s) s := by
  unfold Held cancelSwap
  simp

@[simp] theorem restartEngines_held (s : State) : Held (restartEngines s) s := by
  unfold Held restartEngines
  simp

@[simp] theorem modLoop_held (x : LoopId) (f : Loop → Loop) (s : State) : Held (modLoop x f s) s := by
  unfold Held modLoop
  simp

@[simp] theorem dropLine_held (x : LoopId) (flagged : Bool) (s : State) : Held (dropLine x flagged s) s := by
  unfold Held dropLine
  simp

@[simp] theorem checkHot_held (p : Port) (s : State) : Held (checkHot p s) s := by
  unfold Held checkHot
  simp

@[simp] theorem checkHard_held (p : Port) (id : Word) (s : State) : Held (checkHard p id s).2 s := by
  unfold Held checkHard
  dsimp only
  (repeat' split) <;> simp

@[simp] theorem checkDone_held (id : Word) (s : State) : Held (checkDone id s) s := by
  unfold Held checkDone
  (repeat' split) <;> simp

@[simp] theorem finishLoad_held (p : Port) (ld : Load) (s : State) : Held (finishLoad p ld s) s := by
  unfold Held finishLoad
  simp

@[simp] theorem setGuardOk_held (p : Port) (v : Bool) (s : State) : Held (setGuardOk p v s) s := by
  unfold Held setGuardOk
  simp

@[simp] theorem passLoad_held (p : Port) (ld : Load) (s : State) : Held (passLoad p ld s) s := by
  unfold Held passLoad
  simp

@[simp] theorem emitBuilt_held (x : EngId) (p : Port) (ld : Load) (s : State) : HeldMem (emitBuilt x p ld s) s := by
  unfold HeldMem emitBuilt
  simp

@[simp] theorem blankFrom_held (p : Port) (id : Word) (n k : Nat) (s : State) : Held (blankFrom p id n k s) s := by
  induction n generalizing k s with
  | zero => simp [Held, blankFrom]
  | succ n ih =>
    unfold Held blankFrom
    dsimp only
    split
    · split
      · have h := fun u => ih (k + 1) u
        simp [Held] at h
        simp [h]
      · simp
    · simp

@[simp] theorem readBoth_held (p : Port) (ld : Load) (s : State) : Held (readBoth p ld s) s := by
  unfold Held readBoth
  simp

@[simp] theorem emitNext_held (x : EngId) (p : Port) (s : State) : HeldMem (emitNext x p s) s := by
  unfold HeldMem emitNext
  (try simp) <;> (repeat' (first | intro _ | split)) <;> (try simp)

@[simp] theorem emitPort_held (p : Port) (s : State) : HeldMem (emitPort p s) s := by
  unfold HeldMem emitPort
  simp

@[simp] theorem startPass_held (x : EngId) (s : State) : Held (startPass x s) s := by
  unfold Held startPass
  (repeat' split) <;> simp

@[simp] theorem passEnds_held (x : EngId) (p : Port) (ld : Load) (note : PassNote) (s : State) : HeldMem (passEnds x p ld note s) s := by
  unfold HeldMem passEnds
  simp

@[simp] theorem donePass_held (x : EngId) (note : PassNote) (s : State) : HeldMem (donePass x note s) s := by
  unfold HeldMem donePass
  (try simp) <;> (repeat' (first | intro _ | split)) <;> (try simp)

@[simp] theorem missDeadline_held (x : EngId) (p : Port) (s : State) : HeldMem (missDeadline x p s) s := by
  unfold HeldMem missDeadline
  (repeat' split) <;> simp

@[simp] theorem watchdogPass_held (x : EngId) (s : State) : HeldMem (watchdogPass x s) s := by
  unfold HeldMem watchdogPass
  (repeat' split) <;> simp

@[simp] theorem starve_held (p : Port) (id : Word) (k : Nat) (s : State) : Held (starve p id k s) s := by
  unfold Held starve
  simp

@[simp] theorem keepRepeat_held (p : Port) (d : Doc) (k : Nat) (b : List Byte) (s : State) : HeldBrake (keepRepeat p d k b s) s := by
  unfold HeldBrake keepRepeat
  simp

@[simp] theorem deliverRepeat_held (p : Port) (d : Doc) (k : Nat) (b : List Byte) (s : State) : Held (deliverRepeat p d k b s).2 s := by
  unfold Held deliverRepeat
  (repeat' split) <;> simp

@[simp] theorem deliverLine_held (p : Port) (d : Doc) (k : Nat) (s : State) : HeldBrake (deliverLine p d k s).2 s := by
  unfold HeldBrake deliverLine
  (try simp) <;> (repeat' (first | intro _ | split)) <;> (try simp)

@[simp] theorem pushLoad_held (p : Port) (ld : Load) (s : State) : Held (pushLoad p ld s) s := by
  unfold Held pushLoad
  simp

@[simp] theorem queueLoad_held (p : Port) (d : Doc) (j : Nat) (dv : Delivery) (blank : Bool) (overlap unplaced hot : Bool) (s : State) : HeldMem (queueLoad p d j dv blank overlap unplaced hot s) s := by
  unfold HeldMem queueLoad
  simp

@[simp] theorem deliver_held (p : Port) (d : Doc) (j : Nat) (blank : Bool) (s : State) : HeldBrake (deliver p d j blank s).2 s := by
  unfold HeldBrake deliver
  (repeat' split) <;> simp

@[simp] theorem aheadOf_held (p : Port) (d : Doc) (s : State)  :
    (aheadOf p d s).pending = s.pending := by
  unfold aheadOf
  (try simp) <;> (repeat' (first | intro _ | split)) <;> (try simp)

@[simp] theorem reachAhead_held (p : Port) (d : Doc) (ups : Upsets) (s : State)  :
    (reachAhead p d ups s).pending = s.pending := by
  unfold reachAhead
  (repeat' split) <;> simp

@[simp] theorem lineAhead_held (p : Port) (ups : Upsets) (s : State)  :
    (lineAhead p ups s).pending = s.pending := by
  unfold lineAhead
  (repeat' split) <;> simp

@[simp] theorem countFires_held (p : Port) (k : Nat) (s : State) : Held (countFires p k s) s := by
  unfold Held countFires
  simp

@[simp] theorem closeStrobes_held (p : Port) (ld : Load) (t : Nat) (s : State) : Held (closeStrobes p ld t s) s := by
  unfold Held closeStrobes
  simp

@[simp] theorem cutLoad_held (p : Port) (ld : Load) (s : State) : Held (cutLoad p ld s) s := by
  unfold Held cutLoad
  simp

@[simp] theorem portLost_held (p : Port) (s : State) : Held (portLost p s) s := by
  unfold Held portLost
  simp

@[simp] theorem reverseCut_held (x : LoopId) (s : State)  :
    (reverseCut x s).pending = s.pending ∧ (reverseCut x s).pond.mem = s.pond.mem ∧ (reverseCut x s).sup.brakeA = s.sup.brakeA ∧ (reverseCut x s).sup.brakeB = s.sup.brakeB := by
  unfold reverseCut
  refine ⟨?_, ?_, ?_, ?_⟩
  · refine foldl_pending _ _ _ (fun s a => foldl_pending _ _ _ (fun s a => ?_)); split <;> [split; skip] <;> simp
  · refine foldl_mem _ _ _ (fun s a => foldl_mem _ _ _ (fun s a => ?_)); split <;> [split; skip] <;> simp
  · refine foldl_brakeA _ _ _ (fun s a => foldl_brakeA _ _ _ (fun s a => ?_)); split <;> [split; skip] <;> simp
  · refine foldl_brakeB _ _ _ (fun s a => foldl_brakeB _ _ _ (fun s a => ?_)); split <;> [split; skip] <;> simp

@[simp] theorem lowerOvs_held (x : LoopId) (fit : Nat) (peak : Nat) (s : State) : Held (lowerOvs x fit peak s) s := by
  unfold Held lowerOvs
  simp

@[simp] theorem noteLate_held (p : Port) (x : LoopId) (delay : Nat) (period : Nat) (s : State) : Held (noteLate p x delay period s) s := by
  unfold Held noteLate
  simp

@[simp] theorem startLoad_held (p : Port) (d : Doc) (ld : Load) (delay : Nat) (s : State) : Held (startLoad p d ld delay s) s := by
  unfold Held startLoad
  simp

@[simp] theorem dropMotion_held (p : Port) (d : Doc) (ld : Load) (s : State) : Held (dropMotion p d ld s) s := by
  unfold Held dropMotion
  simp

@[simp] theorem tickLead_held (p : Port) (d : Doc) (ld : Load) (s : State) : Held (tickLead p d ld s) s := by
  unfold Held tickLead
  simp

@[simp] theorem leadReached_held (p : Port) (ld : Load) (s : State) : Held (leadReached p ld s) s := by
  unfold Held leadReached
  (try simp) <;> (repeat' (first | intro _ | split)) <;> (try simp)

@[simp] theorem tickLag_held (p : Port) (d : Doc) (ld : Load) (s : State) : Held (tickLag p d ld s) s := by
  unfold Held tickLag
  simp

@[simp] theorem lagReached_held (p : Port) (ld : Load) (s : State) : Held (lagReached p ld s) s := by
  unfold Held lagReached
  (try simp) <;> (repeat' (first | intro _ | split)) <;> (try simp)

@[simp] theorem fireTickOn_held (p : Port) (lag : Bool) (s : State) : Held (fireTickOn p lag s) s := by
  unfold Held fireTickOn
  (repeat' split) <;> simp

@[simp] theorem shiftDone_held (p : Port) (s : State) : Held (shiftDone p s) s := by
  unfold Held shiftDone
  (repeat' split) <;> simp

@[simp] theorem spitGuard_held (p : Port) (s : State) : Held (spitGuard p s) s := by
  unfold Held spitGuard
  (repeat' split) <;> simp

@[simp] theorem holdPlanes_held (p : Port) (ld : Load) (s : State) : Held (holdPlanes p ld s) s := by
  unfold Held holdPlanes
  simp

@[simp] theorem firstLatch_held (p : Port) (ld : Load) (t : Nat) (s : State) : Held (firstLatch p ld t s) s := by
  unfold Held firstLatch
  simp

@[simp] theorem latchPlane_held (p : Port) (s : State) : Held (latchPlane p s) s := by
  unfold Held latchPlane
  (repeat' split) <;> (try simp) <;> split <;> simp

@[simp] theorem cutoff_held (p : Port) (s : State) : Held (cutoff p s) s := by
  unfold Held cutoff
  (repeat' split) <;> simp

@[simp] theorem applyPort_held (p : Port) (s : State) : Held (applyPort p s) s := by
  unfold Held applyPort
  (try simp) <;> (repeat' (first | intro _ | split)) <;> (try simp)

@[simp] theorem portBoundary_held (p : Port) (s : State) : Held (portBoundary p s) s := by
  unfold Held portBoundary
  (repeat' split) <;> simp

end Sys2Proof.Machine
end

