-- ==== Sys2Proof/Laws/HeldSupply.lean ====
section
/-! SUPPORT. What the shared operations leave alone (the command queue, the pond's cells, the brake): the supply, the edge tracking, the motion axes, the thermal unit, the calibration, the fuse array and the transport port. -/

set_option linter.all false

namespace Sys2Proof.Machine

@[simp] theorem modRail_held (r : Fin 4) (f : Rail → Rail) (s : State) : Held (modRail r f s) s := by
  unfold Held modRail
  simp

@[simp] theorem modHdv_held (p : Port) (f : HdvPort → HdvPort) (s : State) : Held (modHdv p f s) s := by
  unfold Held modHdv
  simp

@[simp] theorem modHp_held (p : Port) (f : HeadPort → HeadPort) (s : State) : Held (modHp p f s) s := by
  unfold Held modHp
  simp

@[simp] theorem hpErr_held (p : Port) (i : Nat) (s : State) : Held (hpErr p i s) s := by
  unfold Held hpErr
  simp

@[simp] theorem retarget_held (r : Fin 4) (s : State) : Held (retarget r s) s := by
  unfold Held retarget
  (try simp) <;> (repeat' (first | intro _ | split)) <;> (try simp)

@[simp] theorem retargetAll_held (s : State) : Held (retargetAll s) s := by
  unfold Held retargetAll
  simp

@[simp] theorem releaseGate_held (p : Port) (s : State) : Held (releaseGate p s) s := by
  unfold Held releaseGate
  simp

@[simp] theorem refusePower_held (p : Port) (s : State) : Held (refusePower p s) s := by
  unfold Held refusePower
  simp

@[simp] theorem closeSwitch_held (p : Port) (s : State) : Held (closeSwitch p s) s := by
  unfold Held closeSwitch
  simp

@[simp] theorem requestPower_held (p : Port) (s : State) : Held (requestPower p s) s := by
  unfold Held requestPower
  (try simp) <;> (repeat' (first | intro _ | split)) <;> (try simp)

@[simp] theorem reevaluate_held (p : Port) (s : State) : Held (reevaluate p s) s := by
  unfold Held reevaluate
  simp

@[simp] theorem dropPower_held (p : Port) (s : State) : Held (dropPower p s) s := by
  unfold Held dropPower
  simp

@[simp] theorem reviewPort_held (p : Port) (s : State) : Held (reviewPort p s) s := by
  unfold Held reviewPort
  simp

@[simp] theorem reviewPorts_held (s : State) : Held (reviewPorts s) s := by
  unfold Held reviewPorts
  simp

@[simp] theorem setEnable_held (p : Port) (v : Bool) (s : State) : Held (setEnable p v s) s := by
  unfold Held setEnable
  simp

@[simp] theorem setPower_held (p : Port) (enable : Bool) (pwrOff : Bool) (s : State) : Held (setPower p enable pwrOff s) s := by
  unfold Held setPower
  simp

@[simp] theorem setPwrOff_held (p : Port) (v : Bool) (s : State) : Held (setPwrOff p v s) s := by
  unfold Held setPwrOff
  simp

@[simp] theorem powerGood_held (p : Port) (s : State) : Held (powerGood p s) s := by
  unfold Held powerGood
  simp

@[simp] theorem powerTimeout_held (p : Port) (s : State) : Held (powerTimeout p s) s := by
  unfold Held powerTimeout
  simp

@[simp] theorem serveWaiting_held (r : Fin 4) (s : State) : Held (serveWaiting r s) s := by
  unfold Held serveWaiting
  simp

@[simp] theorem softstartGood_held (r : Fin 4) (s : State) : Held (softstartGood r s) s := by
  unfold Held softstartGood
  simp

@[simp] theorem slewStep_held (r : Fin 4) (s : State) : Held (slewStep r s) s := by
  unfold Held slewStep
  simp

@[simp] theorem idleOff_held (r : Fin 4) (s : State) : Held (idleOff r s) s := by
  unfold Held idleOff
  simp

@[simp] theorem faultRail_held (r : Fin 4) (cause : RailCause) (s : State) : Held (faultRail r cause s) s := by
  unfold Held faultRail
  simp

@[simp] theorem drvLow_held (s : State) (r : Fin 4) : Held (drvLow s r) s := by
  unfold Held drvLow
  simp

@[simp] theorem latchFaults_held (s : State) : Held (latchFaults s) s := by
  unfold Held latchFaults
  simp

@[simp] theorem railFaulted_held (r : Fin 4) (cause : RailCause) (s : State) : Held (railFaulted r cause s) s := by
  unfold Held railFaulted
  simp

@[simp] theorem railToOff_held (r : Fin 4) (s : State) : Held (railToOff r s) s := by
  unfold Held railToOff
  simp

@[simp] theorem faultRecover_held (r : Fin 4) (s : State) : Held (faultRecover r s) s := by
  unfold Held faultRecover
  simp

@[simp] theorem clearFault_held (r : Fin 4) (s : State) : Held (clearFault r s) s := by
  unfold Held clearFault
  simp

@[simp] theorem stopRails_held (s : State) : Held (stopRails s) s := by
  unfold Held stopRails
  simp

@[simp] theorem measureRail_held (r : Fin 4) (m : RailRead) (s : State) : Held (measureRail r m s) s := by
  unfold Held measureRail
  simp

@[simp] theorem measurePort_held (p : Port) (v : Half) (m : RailRead) (s : State) : Held (measurePort p v m s) s := by
  unfold Held measurePort
  simp

@[simp] theorem declareShort_held (p : Port) (comparator : Bool) (s : State) : Held (declareShort p comparator s) s := by
  unfold Held declareShort
  simp

@[simp] theorem sampledShort_held (p : Port) (s : State) : Held (sampledShort p s) s := by
  unfold Held sampledShort
  simp

@[simp] theorem startReading_held (p : Port) (s : State) : Held (startReading p s) s := by
  unfold Held startReading
  simp

@[simp] theorem headPlugged_held (p : Port) (s : State) : Held (headPlugged p s) s := by
  unfold Held headPlugged
  simp

@[simp] theorem endMail_held (p : Port) (result : BitVec 2) (s : State) : Held (endMail p result s) s := by
  unfold Held endMail
  simp

@[simp] theorem headUnplugged_held (p : Port) (s : State) : Held (headUnplugged p s) s := by
  unfold Held headUnplugged
  simp

@[simp] theorem loadRecord_held (p : Port) (copy : Bool) (r : List Byte) (single : Bool) (s : State) : Held (loadRecord p copy r single s) s := by
  unfold Held loadRecord
  simp

@[simp] theorem finishReading_held (p : Port) (c0 : Option (List Byte)) (c1 : Option (List Byte)) (s : State) : Held (finishReading p c0 c1 s) s := by
  unfold Held finishReading
  (try simp) <;> (repeat' (first | intro _ | split)) <;> (try simp)

@[simp] theorem i2cFailed_held (p : Port) (s : State) : Held (i2cFailed p s) s := by
  unfold Held i2cFailed
  simp

@[simp] theorem copyFailed_held (p : Port) (copy : Bool) (s : State) : Held (copyFailed p copy s) s := by
  unfold Held copyFailed
  simp

@[simp] theorem retryRead_held (p : Port) (s : State) : Held (retryRead p s) s := by
  unfold Held retryRead
  simp

@[simp] theorem rereadHead_held (p : Port) (s : State) : Held (rereadHead p s) s := by
  unfold Held rereadHead
  simp

@[simp] theorem standIn_held (p : Port) (s : State) : Held (standIn p s).2 s := by
  unfold Held standIn
  (repeat' split) <;> simp

@[simp] theorem useTemp_held (p : Port) (s : State) : Held (useTemp p s) s := by
  unfold Held useTemp
  (try simp) <;> (repeat' (first | intro _ | split)) <;> (try simp)

@[simp] theorem convertTemp_held (p : Port) (raw : BitVec 12) (s : State) : Held (convertTemp p raw s) s := by
  unfold Held convertTemp
  (try simp) <;> (repeat' (first | intro _ | split)) <;> (try simp)

@[simp] theorem startPage_held (p : Port) (s : State) : Held (startPage p s) s := by
  unfold Held startPage
  simp

@[simp] theorem beginWrite_held (p : Port) (data : List Byte) (units : Nat) (s : State) : Held (beginWrite p data units s) s := by
  unfold Held beginWrite
  simp

@[simp] theorem beginUsage_held (p : Port) (s : State) : Held (beginUsage p s) s := by
  unfold Held beginUsage
  simp

@[simp] theorem beginMail_held (p : Port) (r : List Byte) (s : State) : Held (beginMail p r s) s := by
  unfold Held beginMail
  simp

@[simp] theorem recordWrite_held (p : Port) (s : State) : Held (recordWrite p s) s := by
  unfold Held recordWrite
  (try simp) <;> (repeat' (first | intro _ | split)) <;> (try simp)

@[simp] theorem flushUsage_held (p : Port) (s : State) : Held (flushUsage p s) s := by
  unfold Held flushUsage
  simp

@[simp] theorem pageDone_held (p : Port) (s : State) : Held (pageDone p s) s := by
  unfold Held pageDone
  (try simp) <;> (repeat' (first | intro _ | split)) <;> (try simp)

@[simp] theorem writeFailed_held (p : Port) (s : State) : Held (writeFailed p s) s := by
  unfold Held writeFailed
  simp

@[simp] theorem readbackDone_held (p : Port) (b : List Byte) (s : State) : Held (readbackDone p b s) s := by
  unfold Held readbackDone
  simp

@[simp] theorem retryWrite_held (p : Port) (s : State) : Held (retryWrite p s) s := by
  unfold Held retryWrite
  simp

@[simp] theorem i2cTimedOut_held (p : Port) (phase : I2cPhase) (s : State) : Held (i2cTimedOut p phase s) s := by
  unfold Held i2cTimedOut
  (repeat' split) <;> simp

@[simp] theorem buildSpit_held (p : Port) (x : EngId) (note : PassNote) (ld : Load) (s : State) : HeldMem (buildSpit p x note ld s).2 s := by
  unfold HeldMem buildSpit
  (try simp) <;> (repeat' (first | intro _ | split)) <;> (try simp)

@[simp] theorem spitFaults_held (p : Port) (line : Nat) (a : Option Nat) (b : Option Nat) (s : State) : HeldMem (spitFaults p line a b s) s := by
  unfold HeldMem spitFaults
  (repeat' split) <;> simp

@[simp] theorem spitMismatch_held (p : Port) (line : Nat) (s : State) : HeldMem (spitMismatch p line s) s := by
  unfold HeldMem spitMismatch
  (repeat' split) <;> simp

@[simp] theorem judgeSpit_held (p : Port) (line : Nat) (s : State) : HeldMem (judgeSpit p line s) s := by
  unfold HeldMem judgeSpit
  (try simp) <;> (repeat' (first | intro _ | split)) <;> (try simp)

@[simp] theorem strobeSpit_held (p : Port) (ld : Load) (s : State) : Held (strobeSpit p ld s) s := by
  unfold Held strobeSpit
  simp

@[simp] theorem sendSpit_held (p : Port) (r : Option Load) (s : State) : Held (sendSpit p r s).2 s := by
  unfold Held sendSpit
  (repeat' split) <;> simp

@[simp] theorem fireSpit_held (p : Port) (q : Fin 8) (payload : List Byte) (noteA : PassNote) (noteB : PassNote) (s : State) : HeldMem (fireSpit p q payload noteA noteB s).2 s := by
  unfold HeldMem fireSpit
  (try simp) <;> (repeat' (first | intro _ | split)) <;> (try simp)

@[simp] theorem spitTimer_held (p : Port) (noteA : PassNote) (noteB : PassNote) (s : State) : HeldMem (spitTimer p noteA noteB s) s := by
  unfold HeldMem spitTimer
  (repeat' split) <;> simp

@[simp] theorem sheetSlot_held (p : Port) (before : List Nat) (dd : List (Nat × Nat)) (noteA : PassNote) (noteB : PassNote) (s : State) : HeldMem (sheetSlot p before dd noteA noteB s) s := by
  unfold HeldMem sheetSlot
  dsimp only
  (repeat' split) <;> simp

@[simp] theorem endMaint_held (s : State) : Held (endMaint s) s := by
  unfold Held endMaint
  simp

@[simp] theorem beginMaint_held (s : State) : Held (beginMaint s) s := by
  unfold Held beginMaint
  simp

@[simp] theorem releasePlanes_held (p : Port) (ld : Load) (w : EchoIn) (s : State) : Held (releasePlanes p ld w s) s := by
  unfold Held releasePlanes
  simp

@[simp] theorem measureWindow_held (p : Port) (ld : Load) (w : EchoIn) (win : List (Nat × Bool) × Nat) (s : State) : HeldMem (measureWindow p ld w win s) s := by
  unfold HeldMem measureWindow
  dsimp only
  (repeat' split) <;> simp

@[simp] theorem echoWindow_held (p : Port) (w : EchoIn) (s : State) : HeldMem (echoWindow p w s) s := by
  unfold HeldMem echoWindow
  dsimp only
  (repeat' split) <;> simp

@[simp] theorem modEnc_held (inp : Fin 2) (f : EncInput → EncInput) (s : State) : Held (modEnc inp f s) s := by
  unfold Held modEnc
  simp

@[simp] theorem loopErr_held (x : LoopId) (i : Nat) (s : State) : Held (loopErr x i s) s := by
  unfold Held loopErr
  simp

@[simp] theorem endIndex_held (inp : Fin 2) (s : State) : Held (endIndex inp s) s := by
  unfold Held endIndex
  simp

@[simp] theorem applyEnc_held (x : LoopId) (w : Word) (s : State) : Held (applyEnc x w s) s := by
  unfold Held applyEnc
  simp

@[simp] theorem applyIndex_held (x : LoopId) (w : BitVec 24) (s : State) : Held (applyIndex x w s) s := by
  unfold Held applyIndex
  simp

@[simp] theorem applyIdle_held (x : LoopId) (s : State) : Held (applyIdle x s) s := by
  unfold Held applyIdle
  simp

@[simp] theorem applyHeld_held (x : LoopId) (s : State) : Held (applyHeld x s) s := by
  unfold Held applyHeld
  (try simp) <;> (repeat' (first | intro _ | split)) <;> (try simp)

@[simp] theorem unlock_held (x : LoopId) (s : State) : Held (unlock x s) s := by
  unfold Held unlock
  simp

@[simp] theorem lock_held (x : LoopId) (s : State) : Held (lock x s) s := by
  unfold Held lock
  simp

@[simp] theorem judgeEdge_held (x : LoopId) (e : Int) (s : State) : Held (judgeEdge x e s) s := by
  unfold Held judgeEdge
  (try simp) <;> (repeat' (first | intro _ | split)) <;> (try simp)

@[simp] theorem countEdge_held (x : LoopId) (fwd : Bool) (k : Nat) (t : Nat) (s : State) : Held (countEdge x fwd k t s) s := by
  unfold Held countEdge
  simp

@[simp] theorem illegalEdge_held (x : LoopId) (t : Nat) (s : State)  :
    (illegalEdge x t s).pending = s.pending ∧ (illegalEdge x t s).pond.mem = s.pond.mem ∧ (illegalEdge x t s).sup.brakeA = s.sup.brakeA ∧ (illegalEdge x t s).sup.brakeB = s.sup.brakeB := by
  have a (l s) := modLoop_held x l s
  have b (s) := raise_held Src.encIllegal s
  have d (s) := countClass_held Cls.ftlEnc s
  have e (v s) := countEdge_held x v 2 t s
  refine ⟨(e _ _).1.trans ((d _).1.trans ((b _).1.trans (a _ _).1)), (e _ _).2.1.trans ((d _).2.1.trans ((b _).2.1.trans (a _ _).2.1)),
    (e _ _).2.2.1.trans ((d _).2.2.1.trans ((b _).2.2.1.trans (a _ _).2.2.1)), (e _ _).2.2.2.trans ((d _).2.2.2.trans ((b _).2.2.2.trans (a _ _).2.2.2))⟩

@[simp] theorem inputLevels_held (inp : Fin 2) (a : Bool) (b : Bool) (t : Nat) (s : State) : Held (inputLevels inp a b t s) s := by
  unfold Held inputLevels
  simp

@[simp] theorem encoderEdge_held (inp : Fin 2) (a : Bool) (b : Bool) (dt : Nat) (na : Nat) (nb : Nat) (s : State) : Held (encoderEdge inp a b dt na nb s) s := by
  unfold Held encoderEdge
  simp

@[simp] theorem indexOnLoop_held (x : LoopId) (check : Bool) (s : State) : Held (indexOnLoop x check s) s := by
  unfold Held indexOnLoop
  simp

@[simp] theorem indexRise_held (inp : Fin 2) (dt : Nat) (n : Nat) (s : State) : Held (indexRise inp dt n s) s := by
  unfold Held indexRise
  simp

@[simp] theorem markLoopDocs_held (x : LoopId) (s : State) : Held (markLoopDocs x s) s := by
  unfold Held markLoopDocs
  (repeat' split) <;> (try simp) <;> (repeat' (first | intro _ | apply And.intro | refine (foldl_pending _ _ _ (fun s a => ?_)).trans ?_ | refine (foldl_mem _ _ _ (fun s a => ?_)).trans ?_ | refine (foldl_brakeA _ _ _ (fun s a => ?_)).trans ?_ | refine (foldl_brakeB _ _ _ (fun s a => ?_)).trans ?_ | split)) <;> (try simp)

@[simp] theorem lineFault_held (inp : Fin 2) (sig : EncSig) (s : State) : Held (lineFault inp sig s) s := by
  unfold Held lineFault
  (repeat' split) <;> simp

@[simp] theorem lineFaultEnd_held (inp : Fin 2) (sig : EncSig) (a : Bool) (b : Bool) (s : State) : Held (lineFaultEnd inp sig a b s) s := by
  unfold Held lineFaultEnd
  simp

@[simp] theorem startCrawl_held (x : LoopId) (s : State) : Held (startCrawl x s) s := by
  unfold Held startCrawl
  simp

@[simp] theorem endCrawl_held (x : LoopId) (s : State) : Held (endCrawl x s) s := by
  unfold Held endCrawl
  simp

@[simp] theorem loopBoundary_held (x : LoopId) (s : State) : Held (loopBoundary x s) s := by
  unfold Held loopBoundary
  (try simp) <;> (repeat' (first | intro _ | split)) <;> (try simp)

@[simp] theorem writeEncCfg_held (x : LoopId) (w : Word) (s : State) : Held (writeEncCfg x w s) s := by
  unfold Held writeEncCfg
  simp

@[simp] theorem writeLoopCfg_held (x : LoopId) (w : Word) (s : State) : Held (writeLoopCfg x w s) s := by
  unfold Held writeLoopCfg
  simp

@[simp] theorem commitRatio_held (x : LoopId) (w : Word) (s : State) : Held (commitRatio x w s) s := by
  unfold Held commitRatio
  simp

@[simp] theorem holdRatio_held (x : LoopId) (w : Word) (s : State) : Held (holdRatio x w s) s := by
  unfold Held holdRatio
  simp

@[simp] theorem writeIndex_held (x : LoopId) (w : Word) (s : State) : Held (writeIndex x w s) s := by
  unfold Held writeIndex
  simp

@[simp] theorem startLoop_held (x : LoopId) (s : State) : Held (startLoop x s) s := by
  unfold Held startLoop
  simp

@[simp] theorem stopLoop_held (x : LoopId) (s : State) : Held (stopLoop x s) s := by
  unfold Held stopLoop
  simp

@[simp] theorem writeEnable_held (x : LoopId) (v : Bool) (s : State) : Held (writeEnable x v s) s := by
  unfold Held writeEnable
  simp

@[simp] theorem resetLoop_held (x : LoopId) (s : State) : Held (resetLoop x s) s := by
  unfold Held resetLoop
  simp

@[simp] theorem clearOvs_held (x : LoopId) (s : State) : Held (clearOvs x s) s := by
  unfold Held clearOvs
  simp

@[simp] theorem resumeLoops_held (s : State) : Held (resumeLoops s) s := by
  unfold Held resumeLoops
  simp

@[simp] theorem stopLoops_held (s : State) : Held (stopLoops s) s := by
  unfold Held stopLoops
  simp

@[simp] theorem modAxis_held (i : Fin 4) (f : Axis → Axis) (s : State) : Held (modAxis i f s) s := by
  unfold Held modAxis
  simp

@[simp] theorem forAxes_pending (f : Fin 4 → State → State) (s : State) (h0 : ∀ x0 u, (f x0 u).pending = u.pending) :
    (forAxes f s).pending = s.pending := by
  unfold forAxes
  first | (simp [h0]; done) | (repeat' split) <;> simp [h0]
@[simp] theorem forAxes_mem (f : Fin 4 → State → State) (s : State) (h0 : ∀ x0 u, (f x0 u).pond.mem = u.pond.mem) :
    (forAxes f s).pond.mem = s.pond.mem := by
  unfold forAxes
  first | (simp [h0]; done) | (repeat' split) <;> simp [h0]
@[simp] theorem forAxes_brakeA (f : Fin 4 → State → State) (s : State) (h0 : ∀ x0 u, (f x0 u).sup.brakeA = u.sup.brakeA) :
    (forAxes f s).sup.brakeA = s.sup.brakeA := by
  unfold forAxes
  first | (simp [h0]; done) | (repeat' split) <;> simp [h0]
@[simp] theorem forAxes_brakeB (f : Fin 4 → State → State) (s : State) (h0 : ∀ x0 u, (f x0 u).sup.brakeB = u.sup.brakeB) :
    (forAxes f s).sup.brakeB = s.sup.brakeB := by
  unfold forAxes
  first | (simp [h0]; done) | (repeat' split) <;> simp [h0]

@[simp] theorem axisErr_held (i : Fin 4) (b : Nat) (s : State) : Held (axisErr i b s) s := by
  unfold Held axisErr
  simp

@[simp] theorem legEnd_held (i : Fin 4) (s : State) : Held (legEnd i s) s := by
  unfold Held legEnd
  (try simp) <;> (repeat' (first | intro _ | split)) <;> (try simp)

@[simp] theorem axisPoint_held (i : Fin 4) (g : Leg) (s : State) : Held (axisPoint i g s) s := by
  unfold Held axisPoint
  (try simp) <;> (repeat' (first | intro _ | split)) <;> (try simp)

@[simp] theorem softStop_held (i : Fin 4) (s : State) : Held (softStop i s) s := by
  unfold Held softStop
  dsimp only
  (repeat' split) <;> simp

@[simp] theorem haltAxis_held (i : Fin 4) (s : State) : Held (haltAxis i s) s := by
  unfold Held haltAxis
  simp

@[simp] theorem stopAxis_held (i : Fin 4) (s : State) : Held (stopAxis i s) s := by
  unfold Held stopAxis
  (try simp) <;> (repeat' (first | intro _ | split)) <;> (try simp)

@[simp] theorem stopAll_held (s : State) : Held (stopAll s) s := by
  unfold Held stopAll
  simp

@[simp] theorem homeFails_held (i : Fin 4) (bit : Nat) (s : State) : Held (homeFails i bit s) s := by
  unfold Held homeFails
  simp

@[simp] theorem stallReference_held (i : Fin 4) (s : State) : HeldMem (stallReference i s) s := by
  unfold HeldMem stallReference
  simp

@[simp] theorem declareStall_held (i : Fin 4) (s : State) : HeldMem (declareStall i s) s := by
  unfold HeldMem declareStall
  (try simp) <;> (repeat' (first | intro _ | split)) <;> (try simp)

@[simp] theorem servoFinds_held (i : Fin 4) (run : Nat) (s : State) : HeldMem (servoFinds i run s) s := by
  unfold HeldMem servoFinds
  (repeat' split) <;> simp

@[simp] theorem servoAxis_held (i : Fin 4) (load : Nat) (s : State) : HeldMem (servoAxis i load s) s := by
  unfold HeldMem servoAxis
  (try simp) <;> (repeat' (first | intro _ | split)) <;> (try simp)

@[simp] theorem servoTick_held (rd : ServoIn) (s : State) : HeldMem (servoTick rd s) s := by
  unfold HeldMem servoTick
  simp

@[simp] theorem settleEnd_held (i : Fin 4) (s : State) : HeldMem (settleEnd i s) s := by
  unfold HeldMem settleEnd
  simp

@[simp] theorem holdEnd_held (i : Fin 4) (s : State) : Held (holdEnd i s) s := by
  unfold Held holdEnd
  (repeat' split) <;> simp

@[simp] theorem limitReference_held (i : Fin 4) (edge : BitVec 48) (s : State) : HeldMem (limitReference i edge s) s := by
  unfold HeldMem limitReference
  simp

@[simp] theorem limitTrips_held (i : Fin 4) (hi : Bool) (edge : BitVec 48) (s : State) : HeldMem (limitTrips i hi edge s) s := by
  unfold HeldMem limitTrips
  (try simp) <;> (repeat' (first | intro _ | split)) <;> (try simp)

@[simp] theorem limitChange_held (i : Fin 4) (hi : Bool) (level : Bool) (n : Nat) (s : State) : HeldMem (limitChange i hi level n s) s := by
  unfold HeldMem limitChange
  simp

@[simp] theorem motErr_held (b : Nat) (s : State) : Held (motErr b s) s := by
  unfold Held motErr
  simp

@[simp] theorem vmFault_held (flag : Nat) (perAxis : Bool) (s : State) : Held (vmFault flag perAxis s) s := by
  unfold Held vmFault
  simp

@[simp] theorem retainedFault_held (cause : BridgeCause) (s : State) : Held (retainedFault cause s) s := by
  unfold Held retainedFault
  (repeat' split) <;> simp

@[simp] theorem axisFault_held (i : Fin 4) (bit : Nat) (s : State) : Held (axisFault i bit s) s := by
  unfold Held axisFault
  simp

@[simp] theorem faultBridge_held (cause : BridgeCause) (s : State) : Held (faultBridge cause s) s := by
  unfold Held faultBridge
  (repeat' split) <;> simp

@[simp] theorem bridgeFault_held (cause : BridgeCause) (s : State) : Held (bridgeFault cause s) s := by
  unfold Held bridgeFault
  (repeat' split) <;> simp

@[simp] theorem vmIsGood_held (s : State) : Held (vmIsGood s) s := by
  unfold Held vmIsGood
  simp

@[simp] theorem axisCommand_pending (op : Nat) (i : Fin 4) (act : Fin 4 → State → State) (s : State) (h0 : ∀ x0 u, (act x0 u).pending = u.pending) :
    (axisCommand op i act s).pending = s.pending := by
  unfold axisCommand
  first | (simp [h0]; done) | (repeat' split) <;> simp [h0]
@[simp] theorem axisCommand_mem (op : Nat) (i : Fin 4) (act : Fin 4 → State → State) (s : State) (h0 : ∀ x0 u, (act x0 u).pond.mem = u.pond.mem) :
    (axisCommand op i act s).pond.mem = s.pond.mem := by
  unfold axisCommand
  first | (simp [h0]; done) | (repeat' split) <;> simp [h0]
@[simp] theorem axisCommand_brakeA (op : Nat) (i : Fin 4) (act : Fin 4 → State → State) (s : State) (h0 : ∀ x0 u, (act x0 u).sup.brakeA = u.sup.brakeA) :
    (axisCommand op i act s).sup.brakeA = s.sup.brakeA := by
  unfold axisCommand
  first | (simp [h0]; done) | (repeat' split) <;> simp [h0]
@[simp] theorem axisCommand_brakeB (op : Nat) (i : Fin 4) (act : Fin 4 → State → State) (s : State) (h0 : ∀ x0 u, (act x0 u).sup.brakeB = u.sup.brakeB) :
    (axisCommand op i act s).sup.brakeB = s.sup.brakeB := by
  unfold axisCommand
  first | (simp [h0]; done) | (repeat' split) <;> simp [h0]

@[simp] theorem moveAbs_held (i : Fin 4) (s : State) : Held (moveAbs i s) s := by
  unfold Held moveAbs
  simp

@[simp] theorem moveRel_held (i : Fin 4) (s : State) : Held (moveRel i s) s := by
  unfold Held moveRel
  simp

@[simp] theorem startHome_held (i : Fin 4) (s : State) : Held (startHome i s) s := by
  unfold Held startHome
  simp

@[simp] theorem energise_held (i : Fin 4) (s : State) : Held (energise i s) s := by
  unfold Held energise
  simp

@[simp] theorem disableAxis_held (i : Fin 4) (s : State) : Held (disableAxis i s) s := by
  unfold Held disableAxis
  simp

@[simp] theorem setPosition_held (i : Fin 4) (s : State) : Held (setPosition i s) s := by
  unfold Held setPosition
  simp

@[simp] theorem jogAxis_held (i : Fin 4) (s : State) : Held (jogAxis i s) s := by
  unfold Held jogAxis
  simp

@[simp] theorem softStopAll_held (s : State) : Held (softStopAll s) s := by
  unfold Held softStopAll
  simp

@[simp] theorem softStopMaint_held (s : State) : Held (softStopMaint s) s := by
  unfold Held softStopMaint
  simp

@[simp] theorem armUnit_held (i : Fin 8) (fromMgt : Bool) (s : State) : Held (armUnit i fromMgt s) s := by
  unfold Held armUnit
  simp

@[simp] theorem abortUnit_held (i : Fin 8) (s : State) : Held (abortUnit i s) s := by
  unfold Held abortUnit
  simp

@[simp] theorem scanEnds_held (i : Fin 8) (ext : List Byte) (errs : Upsets) (s : State) : HeldBrake (scanEnds i ext errs s) s := by
  unfold HeldBrake scanEnds
  simp

@[simp] theorem writeUnitCfg_held (i : Fin 8) (w : Word) (s : State) : Held (writeUnitCfg i w s) s := by
  unfold Held writeUnitCfg
  simp

@[simp] theorem pauseScans_held (s : State) : Held (pauseScans s) s := by
  unfold Held pauseScans
  simp

@[simp] theorem retireChannel_held (s : State) (ch : Chan) : Held (retireChannel s ch) s := by
  unfold Held retireChannel
  simp

@[simp] theorem fixedTest_held (ing : BitVec 20) (egr : BitVec 16) (s : State) : Held (fixedTest ing egr s) s := by
  unfold Held fixedTest
  simp

@[simp] theorem modThm_held (f : Thm → Thm) (s : State) : Held (modThm f s) s := by
  unfold Held modThm
  simp

@[simp] theorem thmErr_held (i : Nat) (s : State) : Held (thmErr i s) s := by
  unfold Held thmErr
  simp

@[simp] theorem logThermal_held (aux : Nat) (s : State) : Held (logThermal aux s) s := by
  unfold Held logThermal
  simp

@[simp] theorem sensorFails_held (s : State) : Held (sensorFails s) s := by
  unfold Held sensorFails
  simp

@[simp] theorem trimBoth_held (t : Int) (s : State) : Held (trimBoth t s) s := by
  unfold Held trimBoth
  simp

@[simp] theorem takeReading_held (rd : ThmIn) (s : State) : Held (takeReading rd s) s := by
  unfold Held takeReading
  simp

@[simp] theorem applyThresholds_held (s : State) : Held (applyThresholds s) s := by
  unfold Held applyThresholds
  simp

@[simp] theorem goQuiet_held (st : DevState) (s : State) : Held (goQuiet st s) s := by
  unfold Held goQuiet
  simp

@[simp] theorem modelHold_held (s : State) : Held (modelHold s) s := by
  unfold Held modelHold
  dsimp only
  (repeat' split) <;> simp

@[simp] theorem sensorRecovers_held (s : State) : Held (sensorRecovers s) s := by
  unfold Held sensorRecovers
  simp

@[simp] theorem calTrigger_held (full : Bool) (s : State) : Held (calTrigger full s) s := by
  unfold Held calTrigger
  simp

@[simp] theorem tempTrigger_held (s : State) : Held (tempTrigger s) s := by
  unfold Held tempTrigger
  dsimp only
  (repeat' split) <;> simp

@[simp] theorem thermalUpdate_held (rd : ThmIn) (s : State) : Held (thermalUpdate rd s) s := by
  unfold Held thermalUpdate
  simp

@[simp] theorem resumeSensor_held (s : State) : Held (resumeSensor s) s := by
  unfold Held resumeSensor
  simp

@[simp] theorem clearPeak_held (s : State) : Held (clearPeak s) s := by
  unfold Held clearPeak
  simp

@[simp] theorem rewriteThermal_held (s : State) : Held (rewriteThermal s) s := by
  unfold Held rewriteThermal
  simp

@[simp] theorem enterRest_held (s : State) : Held (enterRest s) s := by
  unfold Held enterRest
  simp

@[simp] theorem modCal_held (f : Cal → Cal) (s : State) : Held (modCal f s) s := by
  unfold Held modCal
  simp

@[simp] theorem postTrim_held (start : Bool) (i : Fin 64) (c : Int) (s : State) : Held (postTrim start i c s) s := by
  unfold Held postTrim
  simp

@[simp] theorem failItem_held (item : Nat) (s : State) : Held (failItem item s) s := by
  unfold Held failItem
  simp

@[simp] theorem takeCode_held (start : Bool) (s : State) (t : Fin 64 × Int) : Held (takeCode start s t) s := by
  unfold Held takeCode
  (repeat' split) <;> simp

@[simp] theorem takeInterp_held (l : List Nat) (s : State) : Held (takeInterp l s) s := by
  unfold Held takeInterp
  simp

@[simp] theorem logCal_held (full : Bool) (s : State) : Held (logCal full s) s := by
  unfold Held logCal
  simp

@[simp] theorem takeResults_held (start : Bool) (full : Bool) (rd : CalIn) (s : State) : Held (takeResults start full rd s) s := by
  unfold Held takeResults
  simp

@[simp] theorem freshBases_held (s : State) : Held (freshBases s) s := by
  unfold Held freshBases
  simp

@[simp] theorem finishCal_held (start : Bool) (full : Bool) (rd : CalIn) (s : State) : Held (finishCal start full rd s) s := by
  unfold Held finishCal
  simp

@[simp] theorem startCal_held (full : Bool) (s : State) : Held (startCal full s) s := by
  unfold Held startCal
  simp

@[simp] theorem calPeriod_held (s : State) : Held (calPeriod s) s := by
  unfold Held calPeriod
  simp

@[simp] theorem calDue_held (s : State) : Held (calDue s) s := by
  unfold Held calDue
  (repeat' split) <;> simp

@[simp] theorem trimStep_held (s : State) : Held (trimStep s) s := by
  unfold Held trimStep
  simp

@[simp] theorem giveUpCal_held (s : State) : Held (giveUpCal s) s := by
  unfold Held giveUpCal
  simp

@[simp] theorem modOtp_held (f : Otp → Otp) (s : State) : Held (modOtp f s) s := by
  unfold Held modOtp
  simp

@[simp] theorem otpErr_held (i : Nat) (s : State) : Held (otpErr i s) s := by
  unfold Held otpErr
  simp

@[simp] theorem burnWord_held (step : BurnStep) (w : Nat) (code : BitVec 79) (bits : List Nat) (done : Nat) (b : Burn) (s : State) : Held (burnWord step w code bits done b s) s := by
  unfold Held burnWord
  simp

@[simp] theorem burnVoid_held (step : BurnStep) (w : Nat) (b : Burn) (s : State) : Held (burnVoid step w b s) s := by
  unfold Held burnVoid
  simp

@[simp] theorem endBurn_held (result : Nat) (b : Burn) (s : State) : Held (endBurn result b s) s := by
  unfold Held endBurn
  simp

@[simp] theorem startSpare_held (from_ : Nat) (b : Burn) (s : State) : Held (startSpare from_ b s) s := by
  unfold Held startSpare
  (repeat' split) <;> simp

@[simp] theorem setCell_held (w : Nat) (bit : Nat) (s : State) : Held (setCell w bit s) s := by
  unfold Held setCell
  simp

@[simp] theorem looseCell_held (w : Nat) (bit : Nat) (s : State) : Held (looseCell w bit s) s := by
  unfold Held looseCell
  simp

@[simp] theorem setLock_held (f : Fin 6) (bit : Nat) (s : State) : Held (setLock f bit s) s := by
  unfold Held setLock
  simp

@[simp] theorem burnLock_held (step : BurnStep) (f : Fin 6) (b : Burn) (s : State) : Held (burnLock step f b s) s := by
  unfold Held burnLock
  simp

@[simp] theorem voidSpare_held (e : Nat) (b : Burn) (s : State) : Held (voidSpare e b s) s := by
  unfold Held voidSpare
  simp

@[simp] theorem readTime_held (b : Burn) (s : State) : Held (readTime b s) s := by
  unfold Held readTime
  split <;> simp

@[simp] theorem stepDone_held (b : Burn) (s : State) : Held (stepDone b s) s := by
  unfold Held stepDone
  (repeat' split) <;> simp

@[simp] theorem runBurn_held (n : Nat) (s : State) :
    (runBurn n s).pending = s.pending ∧ (runBurn n s).pond.mem = s.pond.mem ∧ (runBurn n s).sup.brakeA = s.sup.brakeA ∧ (runBurn n s).sup.brakeB = s.sup.brakeB := by
  induction n generalizing s with
  | zero => simp [runBurn]
  | succ n ih => unfold runBurn; (repeat' split) <;> simp [ih]

@[simp] theorem bitFails_held (b : Burn) (bit : Nat) (rest : List Nat) (s : State) : Held (bitFails b bit rest s) s := by
  unfold Held bitFails
  (repeat' split) <;> simp

@[simp] theorem bitVerified_held (b : Burn) (bit : Nat) (rest : List Nat) (s : State) : Held (bitVerified b bit rest s) s := by
  unfold Held bitVerified
  (try simp) <;> (repeat' (first | intro _ | split)) <;> (try simp)

@[simp] theorem bitPulse_held (verified : Bool) (s : State) : Held (bitPulse verified s) s := by
  unfold Held bitPulse
  (repeat' split) <;> simp

@[simp] theorem noteOtp_held (op : Nat) (w : BitVec 9) (result : Nat) (s : State) : Held (noteOtp op w result s) s := by
  unfold Held noteOtp
  simp

@[simp] theorem refuseOtp_held (op : Nat) (w : BitVec 9) (result : Nat) (s : State) : Held (refuseOtp op w result s) s := by
  unfold Held refuseOtp
  simp

@[simp] theorem afterJournal_held (s : State) : Held (afterJournal s) s := by
  unfold Held afterJournal
  simp

@[simp] theorem startBurn_held (op : Nat) (w : Nat) (s : State) : Held (startBurn op w s) s := by
  unfold Held startBurn
  (repeat' split) <;> simp

@[simp] theorem burnCommand_held (op : Nat) (w : BitVec 9) (s : State) : Held (burnCommand op w s) s := by
  unfold Held burnCommand
  (repeat' split) <;> simp

@[simp] theorem readFuse_held (w : BitVec 9) (level : BitVec 2) (s : State) : Held (readFuse w level s) s := by
  unfold Held readFuse
  simp

@[simp] theorem reportWeak_held (s : State) : Held (reportWeak s) s := by
  unfold Held reportWeak
  simp

@[simp] theorem rereadFuses_held (words : List FuseRead) (locks : List LockRead) (s : State) : Held (rereadFuses words locks s) s := by
  unfold Held rereadFuses
  simp

@[simp] theorem readFuses_held (words : List FuseRead) (locks : List LockRead) (s : State) : Held (readFuses words locks s).2 s := by
  unfold Held readFuses
  simp

@[simp] theorem loadFactory_held (s : State) : Held (loadFactory s) s := by
  unfold Held loadFactory
  simp

@[simp] theorem modTpt_held (f : Tpt → Tpt) (s : State) : Held (modTpt f s) s := by
  unfold Held modTpt
  simp

@[simp] theorem noteCmd_held (op : Nat) (outcome : Nat) (s : State) : Held (noteCmd op outcome s) s := by
  unfold Held noteCmd
  simp

@[simp] theorem refuseNotNow_held (op : Nat) (s : State) : Held (refuseNotNow op s) s := by
  unfold Held refuseNotNow
  simp

@[simp] theorem refuseBad_held (op : Nat) (s : State) : Held (refuseBad op s) s := by
  unfold Held refuseBad
  simp

@[simp] theorem deferCmd_held (op : Nat) (s : State) : Held (deferCmd op s) s := by
  unfold Held deferCmd
  simp

@[simp] theorem tpCommand_pending (op : Nat) (bad : Bool) (idle : Bool) (act : State → State) (s : State) (h0 : ∀ u, (act u).pending = u.pending) :
    (tpCommand op bad idle act s).pending = s.pending := by
  unfold tpCommand
  first | (simp [h0]; done) | (repeat' split) <;> simp [h0]
@[simp] theorem tpCommand_mem (op : Nat) (bad : Bool) (idle : Bool) (act : State → State) (s : State) (h0 : ∀ u, (act u).pond.mem = u.pond.mem) :
    (tpCommand op bad idle act s).pond.mem = s.pond.mem := by
  unfold tpCommand
  first | (simp [h0]; done) | (repeat' split) <;> simp [h0]
@[simp] theorem tpCommand_brakeA (op : Nat) (bad : Bool) (idle : Bool) (act : State → State) (s : State) (h0 : ∀ u, (act u).sup.brakeA = u.sup.brakeA) :
    (tpCommand op bad idle act s).sup.brakeA = s.sup.brakeA := by
  unfold tpCommand
  first | (simp [h0]; done) | (repeat' split) <;> simp [h0]
@[simp] theorem tpCommand_brakeB (op : Nat) (bad : Bool) (idle : Bool) (act : State → State) (s : State) (h0 : ∀ u, (act u).sup.brakeB = u.sup.brakeB) :
    (tpCommand op bad idle act s).sup.brakeB = s.sup.brakeB := by
  unfold tpCommand
  first | (simp [h0]; done) | (repeat' split) <;> simp [h0]

@[simp] theorem noteCancelled_held (s : State) : Held (noteCancelled s) s := by
  unfold Held noteCancelled
  simp

@[simp] theorem cancelStop_held (s : State) : Held (cancelStop s) s := by
  unfold Held cancelStop
  simp

@[simp] theorem restartGrace_held (s : State) : Held (restartGrace s) s := by
  unfold Held restartGrace
  simp

@[simp] theorem calGrace_held (s : State) : Held (calGrace s) s := by
  unfold Held calGrace
  (repeat' split) <;> simp

@[simp] theorem cancelCal_held (s : State) : Held (cancelCal s) s := by
  unfold Held cancelCal
  simp

@[simp] theorem cancelMaint_held (s : State) : Held (cancelMaint s) s := by
  unfold Held cancelMaint
  simp

@[simp] theorem cancelAll_held (s : State) : Held (cancelAll s) s := by
  unfold Held cancelAll
  simp

@[simp] theorem leaveMaint_held (s : State) : Held (leaveMaint s) s := by
  unfold Held leaveMaint
  simp

@[simp] theorem stopDevice_held (s : State) : Held (stopDevice s) s := by
  unfold Held stopDevice
  simp

@[simp] theorem cancelClass_held (s : State) : Held (cancelClass s) s := by
  unfold Held cancelClass
  (repeat' split) <;> simp

@[simp] theorem ackFault_held (s : State) : Held (ackFault s) s := by
  unfold Held ackFault
  simp

@[simp] theorem calRequest_held (full : Bool) (s : State) : Held (calRequest full s) s := by
  unfold Held calRequest
  (try simp) <;> (repeat' (first | intro _ | split)) <;> (try simp)

@[simp] theorem admitCommand_held (op : Nat) (v : Bool) (host : Option Bool) (s : State) : Held (admitCommand op v host s) s := by
  unfold Held admitCommand
  (repeat' split) <;> simp

@[simp] theorem noteDone_held (s : State) : Held (noteDone s) s := by
  unfold Held noteDone
  simp

@[simp] theorem runStop_held (s : State) : Held (runStop s) s := by
  unfold Held runStop
  (repeat' split) <;> simp

@[simp] theorem runCal_held (s : State) : Held (runCal s) s := by
  unfold Held runCal
  (repeat' split) <;> simp

@[simp] theorem runMaint_held (s : State) : Held (runMaint s) s := by
  unfold Held runMaint
  (repeat' split) <;> simp

@[simp] theorem runDeferred_held (s : State) : Held (runDeferred s) s := by
  unfold Held runDeferred
  simp

@[simp] theorem latchTrig_held (i : Fin 2) (t : Nat) (s : State) : Held (latchTrig i t s) s := by
  unfold Held latchTrig
  simp

@[simp] theorem orphanEdge_held (i : Fin 2) (s : State) : Held (orphanEdge i s) s := by
  unfold Held orphanEdge
  simp

@[simp] theorem takeEdge_held (i : Fin 2) (t : Nat) (d : Doc) (s : State) : Held (takeEdge i t d s) s := by
  unfold Held takeEdge
  (repeat' split) <;> simp

@[simp] theorem triggerEdge_held (i : Fin 2) (rise : Bool) (dt : Nat) (n : Nat) (s : State) : Held (triggerEdge i rise dt n s) s := by
  unfold Held triggerEdge
  (try simp) <;> (repeat' (first | intro _ | split)) <;> (try simp)

@[simp] theorem hostMail_held (i : Fin 8) (v : Half) (s : State) : Held (hostMail i v s) s := by
  unfold Held hostMail
  simp

@[simp] theorem tpIgnored_held (s : State) : Held (tpIgnored s) s := by
  unfold Held tpIgnored
  simp

@[simp] theorem tpMail_held (i : Fin 8) (v : Half) (s : State) : Held (tpMail i v s) s := by
  unfold Held tpMail
  simp

@[simp] theorem pulseFalls_held (s : State) : Held (pulseFalls s) s := by
  unfold Held pulseFalls
  simp

@[simp] theorem pulseRises_held (s : State) : Held (pulseRises s) s := by
  unfold Held pulseRises
  simp

end Sys2Proof.Machine
end

