-- ==== Sys2Proof/Laws/HeldManagement.lean ====
section
/-! SUPPORT. What the shared operations leave alone (the command queue, the pond's cells, the brake): power, the images, the management controller and the link. -/

set_option linter.all false

namespace Sys2Proof.Machine

@[simp] theorem modPwr_held (f : Pwr → Pwr) (s : State) : Held (modPwr f s) s := by
  unfold Held modPwr
  simp

@[simp] theorem pwrErr_held (i : Nat) (s : State) : Held (pwrErr i s) s := by
  unfold Held pwrErr
  simp

@[simp] theorem notePwr_held (op : Nat) (result : Nat) (s : State) : Held (notePwr op result s) s := by
  unfold Held notePwr
  simp

@[simp] theorem resetDies_held (s : State)  :
    (resetDies s).pending = s.pending := by
  unfold resetDies
  simp

@[simp] theorem resetBy_held (cause : Nat) (s : State)  :
    (resetBy cause s).pending = s.pending := by
  unfold resetBy
  simp

@[simp] theorem toStandby_held (s : State) : Held (toStandby s) s := by
  unfold Held toStandby
  simp

@[simp] theorem vaonRises_held (s : State)  :
    (vaonRises s).pending = s.pending := by
  unfold vaonRises
  simp

@[simp] theorem vaonFalls_held (s : State)  :
    (vaonFalls s).pending = s.pending := by
  unfold vaonFalls
  simp

@[simp] theorem mainRises_held (i : Fin 6) (s : State) : Held (mainRises i s) s := by
  unfold Held mainRises
  simp

@[simp] theorem mainFalls_held (i : Fin 6) (s : State)  :
    (mainFalls i s).pending = s.pending := by
  unfold mainFalls
  simp

@[simp] theorem perstFalls_held (s : State)  :
    (perstFalls s).pending = s.pending := by
  unfold perstFalls
  simp

@[simp] theorem xinFails_held (s : State)  :
    (xinFails s).pending = s.pending := by
  unfold xinFails
  simp

@[simp] theorem restoreAxes_held (s : State) : Held (restoreAxes s) s := by
  unfold Held restoreAxes
  simp

@[simp] theorem bank0Fails_held (s : State) : Held (bank0Fails s) s := by
  unfold Held bank0Fails
  simp

@[simp] theorem bank1Fails_held (s : State) : Held (bank1Fails s) s := by
  unfold Held bank1Fails
  simp

@[simp] theorem readBank0_held (flips : List (Nat × Byte)) (s : State) : Held (readBank0 flips s) s := by
  unfold Held readBank0
  simp

@[simp] theorem readBank1_held (flips : List (Nat × Byte)) (s : State) : Held (readBank1 flips s) s := by
  unfold Held readBank1
  simp

@[simp] theorem shutFlags_held (cause : TripCause) (s : State) : Held (shutFlags cause s) s := by
  unfold Held shutFlags
  (repeat' split) <;> simp

@[simp] theorem showHeld_held (p : Pwr) (s : State) : Held (showHeld p s) s := by
  unfold Held showHeld
  (repeat' split) <;> simp

@[simp] theorem beginStart_held (woken : Bool) (s : State) : Held (beginStart woken s) s := by
  unfold Held beginStart
  simp

@[simp] theorem releaseReset_held (ret0 : List (Nat × Byte)) (ret1 : List (Nat × Byte)) (s : State) : Held (releaseReset ret0 ret1 s) s := by
  unfold Held releaseReset
  simp

@[simp] theorem shutDown_held (cause : TripCause) (s : State)  :
    (shutDown cause s).pending = s.pending := by
  unfold shutDown
  simp

@[simp] theorem driveTrip_held (s : State)  :
    (driveTrip s).pending = s.pending := by
  unfold driveTrip
  simp

@[simp] theorem retestDiode_held (openShort : Bool) (t : Int) (s : State) : Held (retestDiode openShort t s) s := by
  unfold Held retestDiode
  (repeat' split) <;> simp

@[simp] theorem stageOk_held (n : Nat) (tenth : Nat) (s : State) : Held (stageOk n tenth s) s := by
  unfold Held stageOk
  simp

@[simp] theorem claimUnit_held (s : State) : Held (claimUnit s) s := by
  unfold Held claimUnit
  simp

@[simp] theorem claimForSlots_held (s : State) : Held (claimForSlots s) s := by
  unfold Held claimForSlots
  simp

@[simp] theorem logStart_held (stages : BitVec 8) (s : State) : Held (logStart stages s) s := by
  unfold Held logStart
  simp

@[simp] theorem stageFail_held (n : Nat) (s : State) : Held (stageFail n s) s := by
  unfold Held stageFail
  simp

@[simp] theorem retryStage_held (s : State) : Held (retryStage s) s := by
  unfold Held retryStage
  (repeat' split) <;> simp

@[simp] theorem configReady_held (s : State) : Held (configReady s) s := by
  unfold Held configReady
  simp

@[simp] theorem clocksDone_held (ok : Bool) (tenth : Nat) (s : State) : Held (clocksDone ok tenth s) s := by
  unfold Held clocksDone
  simp

@[simp] theorem fusesDone_held (words : List FuseRead) (locks : List LockRead) (tenth : Nat) (s : State) : Held (fusesDone words locks tenth s) s := by
  unfold Held fusesDone
  simp

@[simp] theorem enterSleep_held (s : State) : Held (enterSleep s) s := by
  unfold Held enterSleep
  simp

@[simp] theorem requestSleep_held (s : State) : Held (requestSleep s) s := by
  unfold Held requestSleep
  simp

@[simp] theorem leaveSleep_held (cause : Word) (s : State) : Held (leaveSleep cause s) s := by
  unfold Held leaveSleep
  simp

@[simp] theorem wakeBy_held (bit : Nat) (s : State) : Held (wakeBy bit s) s := by
  unfold Held wakeBy
  simp

@[simp] theorem requestWake_held (s : State) : Held (requestWake s) s := by
  unfold Held requestWake
  simp

@[simp] theorem startOnDemand_held (s : State) : Held (startOnDemand s) s := by
  unfold Held startOnDemand
  simp

@[simp] theorem stopOnDemand_held (s : State) : Held (stopOnDemand s) s := by
  unfold Held stopOnDemand
  simp

@[simp] theorem requestStandby_held (s : State) : Held (requestStandby s) s := by
  unfold Held requestStandby
  simp

@[simp] theorem cancelStandby_held (s : State) : Held (cancelStandby s) s := by
  unfold Held cancelStandby
  simp

@[simp] theorem raiseMain_held (bit : Nat) (s : State) : Held (raiseMain bit s) s := by
  unfold Held raiseMain
  simp

@[simp] theorem wakePinLow_held (s : State) : Held (wakePinLow s) s := by
  unfold Held wakePinLow
  simp

@[simp] theorem alarmRings_held (s : State) : Held (alarmRings s) s := by
  unfold Held alarmRings
  simp

@[simp] theorem searchEnds_held (s : State) : Held (searchEnds s) s := by
  unfold Held searchEnds
  simp

@[simp] theorem crystalStops_held (s : State) : Held (crystalStops s) s := by
  unfold Held crystalStops
  simp

@[simp] theorem armRtc_held (v : Word) (s : State) : Held (armRtc v s) s := by
  unfold Held armRtc
  simp

@[simp] theorem commitRtc_held (s : State) : Held (commitRtc s) s := by
  unfold Held commitRtc
  (repeat' split) <;> simp

@[simp] theorem rampEnds_held (s : State) : Held (rampEnds s) s := by
  unfold Held rampEnds
  (repeat' split) <;> simp

@[simp] theorem writePwrCfg_held (w : Word) (s : State) : Held (writePwrCfg w s) s := by
  unfold Held writePwrCfg
  simp

@[simp] theorem writeRetUser_held (i : Fin 7) (w : Word) (s : State) : Held (writeRetUser i w s) s := by
  unfold Held writeRetUser
  simp

@[simp] theorem trimRc_held (t : Int) (s : State) : Held (trimRc t s) s := by
  unfold Held trimRc
  simp

@[simp] theorem startImageScan_held (kolto : Bool) (slotB : Bool) (b : List Byte) (s : State) : Held (startImageScan kolto slotB b s) s := by
  unfold Held startImageScan
  simp

@[simp] theorem endImageScan_held (b : List Byte) (s : State) : Held (endImageScan b s) s := by
  unfold Held endImageScan
  simp

@[simp] theorem scanSlot_held (kolto : Bool) (slotB : Bool) (b : List Byte) (s : State) : Held (scanSlot kolto slotB b s) s := by
  unfold Held scanSlot
  simp

@[simp] theorem modMgt_held (f : Mgt → Mgt) (s : State) : Held (modMgt f s) s := by
  unfold Held modMgt
  simp

@[simp] theorem mgtErr_held (i : Nat) (s : State) : Held (mgtErr i s) s := by
  unfold Held mgtErr
  simp

@[simp] theorem startFlash_held (op : FlashOp) (s : State) : Held (startFlash op s) s := by
  unfold Held startFlash
  simp

@[simp] theorem startFlashes_held (l : List FlashOp) (s : State) : Held (startFlashes l s) s := by
  unfold Held startFlashes
  simp

@[simp] theorem letFlash_held (s : State) : Held (letFlash s) s := by
  unfold Held letFlash
  simp

@[simp] theorem flashResult_held (ok : Bool) (s : State) : Held (flashResult ok s) s := by
  unfold Held flashResult
  simp

@[simp] theorem placeRecord_held (r : LogRec) (s : State) : Held (placeRecord r s) s := by
  unfold Held placeRecord
  simp

@[simp] theorem tearPlace_held (r : LogRec) (s : State) : Held (tearPlace r s) s := by
  unfold Held tearPlace
  simp

@[simp] theorem compact_held (s : State) : Held (compact s) s := by
  unfold Held compact
  simp

@[simp] theorem writeRecord_held (ok : Bool) (s : State) : Held (writeRecord ok s) s := by
  unfold Held writeRecord
  (repeat' split) <;> simp

@[simp] theorem drainLog_held (s : State) : Held (drainLog s) s := by
  unfold Held drainLog
  simp

@[simp] theorem logUpdate_held (outcome : Nat) (s : State) : Held (logUpdate outcome s) s := by
  unfold Held logUpdate
  simp

@[simp] theorem releaseUnit_held (abort : Bool) (s : State) : Held (releaseUnit abort s) s := by
  unfold Held releaseUnit
  simp

@[simp] theorem dropAux_held (s : State) : Held (dropAux s) s := by
  unfold Held dropAux
  simp

@[simp] theorem failSession_held (s : State) : Held (failSession s) s := by
  unfold Held failSession
  simp

@[simp] theorem beginRestart_held (watchdog : Bool) (s : State) : Held (beginRestart watchdog s) s := by
  unfold Held beginRestart
  simp

@[simp] theorem tripWatchdog_held (s : State) : Held (tripWatchdog s) s := by
  unfold Held tripWatchdog
  simp

@[simp] theorem activated_held (s : State) : Held (activated s) s := by
  unfold Held activated
  simp

@[simp] theorem activationFails_held (s : State) : Held (activationFails s) s := by
  unfold Held activationFails
  simp

@[simp] theorem clearMagic_held (kolto : Bool) (slotB : Bool) (s : State) : Held (clearMagic kolto slotB s) s := by
  unfold Held clearMagic
  simp

@[simp] theorem fwTimeout_held (s : State) : Held (fwTimeout s) s := by
  unfold Held fwTimeout
  (repeat' split) <;> simp

@[simp] theorem storeAux_held (ch : Chan) (b : List Byte) (s : State) : HeldBrake (storeAux ch b s) s := by
  unfold HeldBrake storeAux
  simp

@[simp] theorem receiveUpdate_held (b : List Byte) (s : State) : Held (receiveUpdate b s) s := by
  unfold Held receiveUpdate
  simp

@[simp] theorem auxDelivered_held (ch : Chan) (b : List Byte) (s : State) : HeldBrake (auxDelivered ch b s) s := by
  unfold HeldBrake auxDelivered
  (try simp) <;> (repeat' (first | intro _ | split)) <;> (try simp)

@[simp] theorem auxConsumed_held (n : Nat) (errs : Upsets) (s : State) : HeldBrake (auxConsumed n errs s) s := by
  unfold HeldBrake auxConsumed
  simp

@[simp] theorem postWrites_held (n : Nat) (a : DWord) (m : Nat) (b : List Byte) (s : State) :
    (postWrites n a m b s).pending = s.pending ∧ (postWrites n a m b s).pond.mem = s.pond.mem ∧ (postWrites n a m b s).sup.brakeA = s.sup.brakeA ∧ (postWrites n a m b s).sup.brakeB = s.sup.brakeB := by
  induction n generalizing a b s with
  | zero => simp [postWrites]
  | succ n ih => unfold postWrites; split <;> simp [ih]

@[simp] theorem d2hRetire_held (ch : Chan) (c : CurDesc) (data : List Byte) (s : State) : Held (d2hRetire ch c data s) s := by
  unfold Held d2hRetire
  simp

@[simp] theorem uploadLog_held (c : CurDesc) (s : State) : Held (uploadLog c s) s := by
  unfold Held uploadLog
  (try simp) <;> (repeat' (first | intro _ | split)) <;> (try simp)

@[simp] theorem writeLogFrom_held (w : Word) (s : State) : Held (writeLogFrom w s) s := by
  unfold Held writeLogFrom
  simp

@[simp] theorem auxLost_held (ch : Chan) (s : State) : Held (auxLost ch s) s := by
  unfold Held auxLost
  simp

@[simp] theorem noteUpd_held (op : Nat) (kind : Bool) (slot : Bool) (result : Nat) (s : State) : Held (noteUpd op kind slot result s) s := by
  unfold Held noteUpd
  simp

@[simp] theorem openSession_held (kolto : Bool) (s : State) : Held (openSession kolto s) s := by
  unfold Held openSession
  simp

@[simp] theorem eraseDone_held (ok : Bool) (s : State) : Held (eraseDone ok s) s := by
  unfold Held eraseDone
  simp

@[simp] theorem beginVerify_held (s : State) : Held (beginVerify s) s := by
  unfold Held beginVerify
  simp

@[simp] theorem pageProgrammed_held (ok : Bool) (errs : Upsets) (s : State) : HeldBrake (pageProgrammed ok errs s) s := by
  unfold HeldBrake pageProgrammed
  simp

@[simp] theorem verifyDone_held (regOk : List (Nat × Word) → Bool) (image : List Byte) (errs : Upsets) (s : State) : HeldBrake (verifyDone regOk image errs s) s := by
  unfold HeldBrake verifyDone
  dsimp only
  (repeat' split) <;> simp

@[simp] theorem abortSession_held (s : State) : Held (abortSession s) s := by
  unfold Held abortSession
  simp

@[simp] theorem startSwap_held (i : Image) (s : State) : Held (startSwap i s) s := by
  unfold Held startSwap
  (repeat' split) <;> simp

@[simp] theorem activate_held (kolto : Bool) (slotB : Bool) (s : State) : Held (activate kolto slotB s) s := by
  unfold Held activate
  (try simp) <;> (repeat' (first | intro _ | split)) <;> (try simp)

@[simp] theorem activateSession_held (s : State) : Held (activateSession s) s := by
  unfold Held activateSession
  simp

@[simp] theorem invalidateSlot_held (kolto : Bool) (slotB : Bool) (s : State) : Held (invalidateSlot kolto slotB s) s := by
  unfold Held invalidateSlot
  simp

@[simp] theorem reloadSlot_held (kolto : Bool) (s : State) : Held (reloadSlot kolto s) s := by
  unfold Held reloadSlot
  (try simp) <;> (repeat' (first | intro _ | split)) <;> (try simp)

@[simp] theorem calActivation_held (s : State) : Held (calActivation s) s := by
  unfold Held calActivation
  (try simp) <;> (repeat' (first | intro _ | split)) <;> (try simp)

@[simp] theorem noteMbx_held (op : Nat) (result : Nat) (s : State) : Held (noteMbx op result s) s := by
  unfold Held noteMbx
  simp

@[simp] theorem mbxDone_held (op : Nat) (result : Nat) (s : State) : Held (mbxDone op result s) s := by
  unfold Held mbxDone
  simp

@[simp] theorem mailHeadWrite_held (s : State) : Held (mailHeadWrite s) s := by
  unfold Held mailHeadWrite
  (try simp) <;> (repeat' (first | intro _ | split)) <;> (try simp)

@[simp] theorem mailUserRead_held (s : State) : Held (mailUserRead s) s := by
  unfold Held mailUserRead
  simp

@[simp] theorem recoveryRestart_held (s : State) : Held (recoveryRestart s) s := by
  unfold Held recoveryRestart
  simp

@[simp] theorem recoverEnds_held (readBack : List Byte) (s : State) : Held (recoverEnds readBack s) s := by
  unfold Held recoverEnds
  dsimp only
  (repeat' split) <;> simp

@[simp] theorem recoverChunk_held (verified : Option (List Byte)) (s : State) : Held (recoverChunk verified s) s := by
  unfold Held recoverChunk
  (try simp) <;> (repeat' (first | intro _ | split)) <;> (try simp)

@[simp] theorem takeReadings_held (vm : Nat) (package : Nat) (r0 : RailRead) (r1 : RailRead) (r2 : RailRead) (r3 : RailRead) (supplies : List Nat) (s : State) : Held (takeReadings vm package r0 r1 r2 r3 supplies s) s := by
  unfold Held takeReadings
  simp

@[simp] theorem smbReply_held (status : Byte) (b : List Byte) (s : State) : Held (smbReply status b s) s := by
  unfold Held smbReply
  simp

@[simp] theorem smbAnswer_held (addr : BitVec 7) (code : Byte) (extra : List Byte) (pec : Bool) (data : Option (List Byte)) (s : State) : Held (smbAnswer addr code extra pec data s) s := by
  unfold Held smbAnswer
  (repeat' split) <;> simp

@[simp] theorem smbRead_held (addr : BitVec 7) (code : Byte) (extra : List Byte) (pec : Bool) (status : Half) (s : State) : Held (smbRead addr code extra pec status s) s := by
  unfold Held smbRead
  (repeat' split) <;> simp

@[simp] theorem smbBlock_held (addr : BitVec 7) (code : Byte) (extra : List Byte) (pec : Bool) (s : State) : Held (smbBlock addr code extra pec s) s := by
  unfold Held smbBlock
  simp

@[simp] theorem consoleReply_held (s : State) : Held (consoleReply s) s := by
  unfold Held consoleReply
  simp

@[simp] theorem modLink_held (f : Link → Link) (s : State) : Held (modLink f s) s := by
  unfold Held modLink
  simp

@[simp] theorem sendPending_held (v : Fin 128) (s : State) : Held (sendPending v s) s := by
  unfold Held sendPending
  simp

@[simp] theorem sendAllPending_held (s : State) : Held (sendAllPending s) s := by
  unfold Held sendAllPending
  simp

@[simp] theorem holdoffEnds_held (v : Fin 128) (s : State) : Held (holdoffEnds v s) s := by
  unfold Held holdoffEnds
  (repeat' split) <;> simp

@[simp] theorem setVecMask_held (v : Fin 128) (m : Bool) (s : State) : Held (setVecMask v m s) s := by
  unfold Held setVecMask
  simp

@[simp] theorem setFuncMask_held (m : Bool) (s : State) : Held (setFuncMask m s) s := by
  unfold Held setFuncMask
  simp

@[simp] theorem liftMask_held (v : Option (Fin 128)) (s : State) : Held (liftMask v s) s := by
  unfold Held liftMask
  (repeat' split) <;> simp

@[simp] theorem cfgWrite_held (off : Nat) (v : Word) (s : State) : Held (cfgWrite off v s) s := by
  unfold Held cfgWrite
  (repeat' split) <;> simp

@[simp] theorem answerConfig_held (write : Bool) (off : Nat) (v : Word) (s : State) : Held (answerConfig write off v s) s := by
  unfold Held answerConfig
  simp

@[simp] theorem enterL1_held (s : State) : Held (enterL1 s) s := by
  unfold Held enterL1
  simp

@[simp] theorem reportLtr_held (s : State) : Held (reportLtr s) s := by
  unfold Held reportLtr
  simp

@[simp] theorem killUnstopped_held (s : State) (ch : Chan) : Held (killUnstopped s ch) s := by
  unfold Held killUnstopped
  (repeat' split) <;> simp

@[simp] theorem enterD3hot_held (s : State) : Held (enterD3hot s) s := by
  unfold Held enterD3hot
  simp

@[simp] theorem returnD0_held (s : State) : Held (returnD0 s) s := by
  unfold Held returnD0
  simp

@[simp] theorem linkChanges_held (speed : BitVec 4) (width : BitVec 4) (dl : Bool) (rev : Bool) (s : State) : Held (linkChanges speed width dl rev s) s := by
  unfold Held linkChanges
  simp

@[simp] theorem aerCorrectable_held (bit : Fin 16) (s : State) : Held (aerCorrectable bit s) s := by
  unfold Held aerCorrectable
  simp

@[simp] theorem sendDump_held (c : CurDesc) (trace : List Byte) (s : State) : Held (sendDump c trace s) s := by
  unfold Held sendDump
  simp

@[simp] theorem d2hWritten_held (ch : Chan) (b : List Byte) (s : State) : Held (d2hWritten ch b s) s := by
  unfold Held d2hWritten
  (repeat' split) <;> simp

end Sys2Proof.Machine
end

