-- ==== Sys2Proof/Laws/HeldRegisters.lean ====
section
/-! SUPPORT. What the shared operations leave alone (the command queue, the pond's cells, the brake): register writes, the image load, the passes and the settling at the end of a command. -/

set_option linter.all false

namespace Sys2Proof.Machine

@[simp] theorem guarded_pending (f : State → State) (s : State) (h0 : ∀ u, (f u).pending = u.pending) :
    (guarded f s).pending = s.pending := by
  unfold guarded
  first | (simp [h0]; done) | (repeat' split) <;> simp [h0]
@[simp] theorem guarded_mem (f : State → State) (s : State) (h0 : ∀ u, (f u).pond.mem = u.pond.mem) :
    (guarded f s).pond.mem = s.pond.mem := by
  unfold guarded
  first | (simp [h0]; done) | (repeat' split) <;> simp [h0]
@[simp] theorem guarded_brakeA (f : State → State) (s : State) (h0 : ∀ u, (f u).sup.brakeA = u.sup.brakeA) :
    (guarded f s).sup.brakeA = s.sup.brakeA := by
  unfold guarded
  first | (simp [h0]; done) | (repeat' split) <;> simp [h0]
@[simp] theorem guarded_brakeB (f : State → State) (s : State) (h0 : ∀ u, (f u).sup.brakeB = u.sup.brakeB) :
    (guarded f s).sup.brakeB = s.sup.brakeB := by
  unfold guarded
  first | (simp [h0]; done) | (repeat' split) <;> simp [h0]

@[simp] theorem unlessLocked_pending (lock : Bool) (f : State → State) (s : State) (h0 : ∀ u, (f u).pending = u.pending) :
    (unlessLocked lock f s).pending = s.pending := by
  unfold unlessLocked
  first | (simp [h0]; done) | (repeat' split) <;> simp [h0]
@[simp] theorem unlessLocked_mem (lock : Bool) (f : State → State) (s : State) (h0 : ∀ u, (f u).pond.mem = u.pond.mem) :
    (unlessLocked lock f s).pond.mem = s.pond.mem := by
  unfold unlessLocked
  first | (simp [h0]; done) | (repeat' split) <;> simp [h0]
@[simp] theorem unlessLocked_brakeA (lock : Bool) (f : State → State) (s : State) (h0 : ∀ u, (f u).sup.brakeA = u.sup.brakeA) :
    (unlessLocked lock f s).sup.brakeA = s.sup.brakeA := by
  unfold unlessLocked
  first | (simp [h0]; done) | (repeat' split) <;> simp [h0]
@[simp] theorem unlessLocked_brakeB (lock : Bool) (f : State → State) (s : State) (h0 : ∀ u, (f u).sup.brakeB = u.sup.brakeB) :
    (unlessLocked lock f s).sup.brakeB = s.sup.brakeB := by
  unfold unlessLocked
  first | (simp [h0]; done) | (repeat' split) <;> simp [h0]

@[simp] theorem countWhen_held (c : Bool) (s : State) : Held (countWhen c s) s := by
  unfold Held countWhen
  simp

@[simp] theorem onBit_pending (w : Word) (i : Nat) (f : State → State) (s : State) (h0 : ∀ u, (f u).pending = u.pending) :
    (onBit w i f s).pending = s.pending := by
  unfold onBit
  first | (simp [h0]; done) | (repeat' split) <;> simp [h0]
@[simp] theorem onBit_mem (w : Word) (i : Nat) (f : State → State) (s : State) (h0 : ∀ u, (f u).pond.mem = u.pond.mem) :
    (onBit w i f s).pond.mem = s.pond.mem := by
  unfold onBit
  first | (simp [h0]; done) | (repeat' split) <;> simp [h0]
@[simp] theorem onBit_brakeA (w : Word) (i : Nat) (f : State → State) (s : State) (h0 : ∀ u, (f u).sup.brakeA = u.sup.brakeA) :
    (onBit w i f s).sup.brakeA = s.sup.brakeA := by
  unfold onBit
  first | (simp [h0]; done) | (repeat' split) <;> simp [h0]
@[simp] theorem onBit_brakeB (w : Word) (i : Nat) (f : State → State) (s : State) (h0 : ∀ u, (f u).sup.brakeB = u.sup.brakeB) :
    (onBit w i f s).sup.brakeB = s.sup.brakeB := by
  unfold onBit
  first | (simp [h0]; done) | (repeat' split) <;> simp [h0]

@[simp] theorem clearIgnored_held (s : State) : Held (clearIgnored s) s := by
  unfold Held clearIgnored
  simp

@[simp] theorem writeTop_held (off : Nat) (w : Word) (s : State) : Held (writeTop off w s) s := by
  unfold Held writeTop
  simp

@[simp] theorem clearLasting_held (w : Word) (s : State) : Held (clearLasting w s) s := by
  unfold Held clearLasting
  simp

@[simp] theorem clearTotals_held (s : State) : Held (clearTotals s) s := by
  unfold Held clearTotals
  simp

@[simp] theorem writeClassCfg_held (c : Fin 32) (w : Word) (s : State) : Held (writeClassCfg c w s) s := by
  unfold Held writeClassCfg
  simp

@[simp] theorem writeVecs_held (i : Fin 32) (w : Word) (s : State) : Held (writeVecs i w s) s := by
  unfold Held writeVecs
  simp

@[simp] theorem writeEvt_held (off : Nat) (w : Word) (s : State) : Held (writeEvt off w s) s := by
  unfold Held writeEvt
  (repeat' split) <;> simp

@[simp] theorem writePwrCmd_held (w : Word) (s : State) : Held (writePwrCmd w s) s := by
  unfold Held writePwrCmd
  (repeat' split) <;> simp

@[simp] theorem writePwr_held (off : Nat) (w : Word) (s : State) : Held (writePwr off w s) s := by
  unfold Held writePwr
  (repeat' split) <;> simp

@[simp] theorem writeModelCfg_held (w : Word) (s : State) : Held (writeModelCfg w s) s := by
  unfold Held writeModelCfg
  simp

@[simp] theorem writeThm_held (off : Nat) (w : Word) (s : State) : Held (writeThm off w s) s := by
  unfold Held writeThm
  (repeat' split) <;> simp

@[simp] theorem writeCal_held (off : Nat) (w : Word) (s : State) : Held (writeCal off w s) s := by
  unfold Held writeCal
  (repeat' split) <;> simp

@[simp] theorem writeOtpCmd_held (w : Word) (s : State) : Held (writeOtpCmd w s) s := by
  unfold Held writeOtpCmd
  (repeat' split) <;> simp

@[simp] theorem writeOtp_held (off : Nat) (w : Word) (s : State) : Held (writeOtp off w s) s := by
  unfold Held writeOtp
  (repeat' split) <;> simp

@[simp] theorem queueDump_held (s : State) : Held (queueDump s) s := by
  unfold Held queueDump
  simp

@[simp] theorem writeUpdCmd_held (w : Word) (s : State) : Held (writeUpdCmd w s) s := by
  unfold Held writeUpdCmd
  (repeat' split) <;> simp

@[simp] theorem writeMbxCmd_held (w : Word) (s : State) : Held (writeMbxCmd w s) s := by
  unfold Held writeMbxCmd
  (repeat' split) <;> simp

@[simp] theorem writeMgt_held (off : Nat) (w : Word) (s : State) : Held (writeMgt off w s) s := by
  unfold Held writeMgt
  (repeat' split) <;> simp

@[simp] theorem modDma_held (ch : Chan) (f : Dma → Dma) (s : State) : Held (modDma ch f s) s := by
  unfold Held modDma
  simp

@[simp] theorem killChannel_held (ch : Chan) (s : State) : Held (killChannel ch s) s := by
  unfold Held killChannel
  simp

@[simp] theorem resetChannel_held (ch : Chan) (s : State) : Held (resetChannel ch s) s := by
  unfold Held resetChannel
  simp

@[simp] theorem writeDmaCtl_held (ch : Chan) (w : Word) (s : State) : Held (writeDmaCtl ch w s) s := by
  unfold Held writeDmaCtl
  simp

@[simp] theorem writeRingSize_held (ch : Chan) (w : Word) (s : State) : Held (writeRingSize ch w s) s := by
  unfold Held writeRingSize
  simp

@[simp] theorem writeDma_held (ch : Chan) (off : Nat) (w : Word) (s : State) : Held (writeDma ch off w s) s := by
  unfold Held writeDma
  (repeat' split) <;> simp

@[simp] theorem resize_pending (f : State → State) (s : State) (h0 : ∀ u, (f u).pending = u.pending) :
    (resize f s).pending = s.pending := by
  unfold resize
  first | (simp [h0]; done) | (repeat' split) <;> simp [h0]
@[simp] theorem resize_mem (f : State → State) (s : State) (h0 : ∀ u, (f u).pond.mem = u.pond.mem) :
    (resize f s).pond.mem = s.pond.mem := by
  unfold resize
  first | (simp [h0]; done) | (repeat' split) <;> simp [h0]
@[simp] theorem resize_brakeA (f : State → State) (s : State) (h0 : ∀ u, (f u).sup.brakeA = u.sup.brakeA) :
    (resize f s).sup.brakeA = s.sup.brakeA := by
  unfold resize
  first | (simp [h0]; done) | (repeat' split) <;> simp [h0]
@[simp] theorem resize_brakeB (f : State → State) (s : State) (h0 : ∀ u, (f u).sup.brakeB = u.sup.brakeB) :
    (resize f s).sup.brakeB = s.sup.brakeB := by
  unfold resize
  first | (simp [h0]; done) | (repeat' split) <;> simp [h0]

@[simp] theorem writePartUnits_held (p : Port) (w : Word) (s : State) : Held (writePartUnits p w s) s := by
  unfold Held writePartUnits
  simp

@[simp] theorem writeAuxUnits_held (w : Word) (s : State) : Held (writeAuxUnits w s) s := by
  unfold Held writeAuxUnits
  simp

@[simp] theorem clearPond_held (s : State) : Held (clearPond s) s := by
  unfold Held clearPond
  simp

@[simp] theorem writeAdmitHold_held (v : Bool) (s : State) : Held (writeAdmitHold v s) s := by
  unfold Held writeAdmitHold
  simp

@[simp] theorem writePnd_held (off : Nat) (w : Word) (s : State) : Held (writePnd off w s) s := by
  unfold Held writePnd
  (repeat' split) <;> simp

@[simp] theorem writeChk_held (i : Fin 8) (off : Nat) (w : Word) (s : State) : Held (writeChk i off w s) s := by
  unfold Held writeChk
  (repeat' split) <;> simp

@[simp] theorem clearPersist_held (s : State) : Held (clearPersist s) s := by
  unfold Held clearPersist
  simp

@[simp] theorem clearErrPeak_held (x : LoopId) (s : State) : Held (clearErrPeak x s) s := by
  unfold Held clearErrPeak
  simp

@[simp] theorem writeFtlCtl_held (x : LoopId) (w : Word) (s : State) : Held (writeFtlCtl x w s) s := by
  unfold Held writeFtlCtl
  simp

@[simp] theorem writeFtl_held (x : LoopId) (off : Nat) (w : Word) (s : State) : Held (writeFtl x off w s) s := by
  unfold Held writeFtl
  (repeat' split) <;> simp

@[simp] theorem writeSupCmd_held (w : Word) (s : State) : HeldMem (writeSupCmd w s) s := by
  unfold HeldMem writeSupCmd
  (repeat' split) <;> simp

@[simp] theorem clearSup_held (s : State) : Held (clearSup s) s := by
  unfold Held clearSup
  simp

@[simp] theorem writeStage_held (i : Nat) (w : Word) (s : State) : Held (writeStage i w s) s := by
  unfold Held writeStage
  (repeat' split) <;> simp

@[simp] theorem writeSup_held (off : Nat) (w : Word) (s : State) : HeldMem (writeSup off w s) s := by
  unfold HeldMem writeSup
  (repeat' split) <;> simp

@[simp] theorem writeProfileWord_held (off : Nat) (w : Word) (s : State) : Held (writeProfileWord off w s) s := by
  unfold Held writeProfileWord
  (repeat' split) <;> simp

@[simp] theorem writeProfile_held (off : Nat) (w : Word) (s : State) : Held (writeProfile off w s) s := by
  unfold Held writeProfile
  simp

@[simp] theorem clearEngine_held (x : EngId) (s : State) : Held (clearEngine x s) s := by
  unfold Held clearEngine
  simp

@[simp] theorem writeEng_held (x : EngId) (off : Nat) (w : Word) (s : State) : Held (writeEng x off w s) s := by
  unfold Held writeEng
  (repeat' split) <;> simp

@[simp] theorem writeHpCtl_held (p : Port) (w : Word) (s : State) : Held (writeHpCtl p w s) s := by
  unfold Held writeHpCtl
  simp

@[simp] theorem writeRate_held (p : Port) (r : Half) (s : State) : Held (writeRate p r s) s := by
  unfold Held writeRate
  simp

@[simp] theorem writeHp_held (p : Port) (off : Nat) (w : Word) (s : State) : Held (writeHp p off w s) s := by
  unfold Held writeHp
  (repeat' split) <;> simp

@[simp] theorem writeVhsCtl_held (r : Fin 4) (w : Word) (s : State) : Held (writeVhsCtl r w s) s := by
  unfold Held writeVhsCtl
  simp

@[simp] theorem writeVhs_held (r : Fin 4) (off : Nat) (w : Word) (s : State) : Held (writeVhs r off w s) s := by
  unfold Held writeVhs
  (repeat' split) <;> simp

@[simp] theorem writeVtab_held (i : Fin 8) (w : Word) (s : State) : Held (writeVtab i w s) s := by
  unfold Held writeVtab
  simp

@[simp] theorem writeSense_held (p : Port) (w : Word) (s : State) : HeldMem (writeSense p w s) s := by
  unfold HeldMem writeSense
  simp

@[simp] theorem writeHdv_held (off : Nat) (w : Word) (s : State) : HeldMem (writeHdv off w s) s := by
  unfold HeldMem writeHdv
  (repeat' split) <;> simp

@[simp] theorem writeMapCmd_held (p : Port) (w : Word) (s : State) : Held (writeMapCmd p w s) s := by
  unfold Held writeMapCmd
  (try simp) <;> (repeat' (first | intro _ | split)) <;> (try simp)

@[simp] theorem clearSusp_held (p : Port) (s : State) : Held (clearSusp p s) s := by
  unfold Held clearSusp
  simp

@[simp] theorem clearNzh_held (p : Port) (s : State) : Held (clearNzh p s) s := by
  unfold Held clearNzh
  simp

@[simp] theorem writeCsCfg_held (p : Port) (w : Word) (s : State) : Held (writeCsCfg p w s) s := by
  unfold Held writeCsCfg
  simp

@[simp] theorem writeNzh_held (p : Port) (off : Nat) (w : Word) (s : State) : Held (writeNzh p off w s) s := by
  unfold Held writeNzh
  (repeat' split) <;> simp

@[simp] theorem axisOp_held (op : Nat) (i : Fin 4) (s : State) : Held (axisOp op i s) s := by
  unfold Held axisOp
  (repeat' split) <;> simp

@[simp] theorem axisValue_held (i : Fin 4) (ok : Bool) (f : Axis → Axis) (s : State) : Held (axisValue i ok f s) s := by
  unfold Held axisValue
  simp

@[simp] theorem writeAxis_held (i : Fin 4) (off : Nat) (w : Word) (s : State) : Held (writeAxis i off w s) s := by
  unfold Held writeAxis
  (repeat' split) <;> simp

@[simp] theorem writeMot_held (off : Nat) (w : Word) (s : State) : Held (writeMot off w s) s := by
  unfold Held writeMot
  (repeat' split) <;> simp

@[simp] theorem writeWord_held (off : Nat) (w : Word) (s : State)  :
    (writeWord off w s).pending = s.pending ∧ (writeWord off w s).pond.mem = s.pond.mem := by
  unfold writeWord
  by_cases h0 : off < 0x1000
  · simp only [if_pos h0]; first | (simp; done) | (split <;> simp; done) | (split <;> [simp; (split <;> simp)])
  simp only [if_neg h0]
  by_cases h1 : off < 0x2000
  · simp only [if_pos h1]; first | (simp; done) | (split <;> simp; done) | (split <;> [simp; (split <;> simp)])
  simp only [if_neg h1]
  by_cases h2 : off < 0x3000
  · simp only [if_pos h2]; first | (simp; done) | (split <;> simp; done) | (split <;> [simp; (split <;> simp)])
  simp only [if_neg h2]
  by_cases h3 : off < 0x4000
  · simp only [if_pos h3]; first | (simp; done) | (split <;> simp; done) | (split <;> [simp; (split <;> simp)])
  simp only [if_neg h3]
  by_cases h4 : off < 0x5000
  · simp only [if_pos h4]; first | (simp; done) | (split <;> simp; done) | (split <;> [simp; (split <;> simp)])
  simp only [if_neg h4]
  by_cases h5 : off < 0x6000
  · simp only [if_pos h5]; first | (simp; done) | (split <;> simp; done) | (split <;> [simp; (split <;> simp)])
  simp only [if_neg h5]
  by_cases h6 : off < 0x7000
  · simp only [if_pos h6]; first | (simp; done) | (split <;> simp; done) | (split <;> [simp; (split <;> simp)])
  simp only [if_neg h6]
  by_cases h7 : off < 0x8000
  · simp only [if_pos h7]; first | (simp; done) | (split <;> simp; done) | (split <;> [simp; (split <;> simp)])
  simp only [if_neg h7]
  by_cases h8 : off < 0xa000
  · simp only [if_pos h8]; first | (simp; done) | (split <;> simp; done) | (split <;> [simp; (split <;> simp)])
  simp only [if_neg h8]
  by_cases h9 : off < 0xb000
  · simp only [if_pos h9]; first | (simp; done) | (split <;> simp; done) | (split <;> [simp; (split <;> simp)])
  simp only [if_neg h9]
  by_cases h10 : off < 0xc000
  · simp only [if_pos h10]; first | (simp; done) | (split <;> simp; done) | (split <;> [simp; (split <;> simp)])
  simp only [if_neg h10]
  by_cases h11 : off < 0xc800
  · simp only [if_pos h11]; first | (simp; done) | (split <;> simp; done) | (split <;> [simp; (split <;> simp)])
  simp only [if_neg h11]
  by_cases h12 : off < 0xd000
  · simp only [if_pos h12]; first | (simp; done) | (split <;> simp; done) | (split <;> [simp; (split <;> simp)])
  simp only [if_neg h12]
  by_cases h13 : off < 0xe000
  · simp only [if_pos h13]; first | (simp; done) | (split <;> simp; done) | (split <;> [simp; (split <;> simp)])
  simp only [if_neg h13]
  by_cases h14 : off < 0xf000
  · simp only [if_pos h14]; first | (simp; done) | (split <;> simp; done) | (split <;> [simp; (split <;> simp)])
  simp only [if_neg h14]
  by_cases h15 : off < 0x10000
  · simp only [if_pos h15]; first | (simp; done) | (split <;> simp; done) | (split <;> [simp; (split <;> simp)])
  simp only [if_neg h15]
  by_cases h16 : off < 0x18000
  · simp only [if_pos h16]; first | (simp; done) | (split <;> simp; done) | (split <;> [simp; (split <;> simp)])
  simp only [if_neg h16]
  by_cases h17 : off < 0x20000
  · simp only [if_pos h17]; first | (simp; done) | (split <;> simp; done) | (split <;> [simp; (split <;> simp)])
  simp only [if_neg h17]
  by_cases h18 : off < 0x24000
  · simp only [if_pos h18]; first | (simp; done) | (split <;> simp; done) | (split <;> [simp; (split <;> simp)])
  simp only [if_neg h18]
  by_cases h19 : off < 0x28000
  · simp only [if_pos h19]; first | (simp; done) | (split <;> simp; done) | (split <;> [simp; (split <;> simp)])
  simp only [if_neg h19]
  split <;> simp

@[simp] theorem writeTable_held (off : Nat) (w : Word) (s : State) : Held (writeTable off w s) s := by
  unfold Held writeTable
  (repeat' split) <;> simp

@[simp] theorem tpOp_held (op : Nat) (s : State) : Held (tpOp op s) s := by
  unfold Held tpOp
  (repeat' split) <;> simp

@[simp] theorem writePort_held (a : Nat) (w : Half) (s : State) : Held (writePort a w s) s := by
  unfold Held writePort
  (repeat' split) <;> simp

@[simp] theorem writePart_pending (f : Nat → Word → State → State) (off : Nat) (w : Word) (be : BitVec 4) (s : State) (h0 : ∀ x0 x1 u, (f x0 x1 u).pending = u.pending) :
    (writePart f off w be s).pending = s.pending := by
  unfold writePart
  first | (simp [h0]; done) | (repeat' split) <;> simp [h0]
@[simp] theorem writePart_mem (f : Nat → Word → State → State) (off : Nat) (w : Word) (be : BitVec 4) (s : State) (h0 : ∀ x0 x1 u, (f x0 x1 u).pond.mem = u.pond.mem) :
    (writePart f off w be s).pond.mem = s.pond.mem := by
  unfold writePart
  first | (simp [h0]; done) | (repeat' split) <;> simp [h0]
@[simp] theorem writePart_brakeA (f : Nat → Word → State → State) (off : Nat) (w : Word) (be : BitVec 4) (s : State) (h0 : ∀ x0 x1 u, (f x0 x1 u).sup.brakeA = u.sup.brakeA) :
    (writePart f off w be s).sup.brakeA = s.sup.brakeA := by
  unfold writePart
  first | (simp [h0]; done) | (repeat' split) <;> simp [h0]
@[simp] theorem writePart_brakeB (f : Nat → Word → State → State) (off : Nat) (w : Word) (be : BitVec 4) (s : State) (h0 : ∀ x0 x1 u, (f x0 x1 u).sup.brakeB = u.sup.brakeB) :
    (writePart f off w be s).sup.brakeB = s.sup.brakeB := by
  unfold writePart
  first | (simp [h0]; done) | (repeat' split) <;> simp [h0]

@[simp] theorem writeAccess_pending (f : Nat → Word → State → State) (off : Nat) (val : DWord) (be : BitVec 8) (s : State) (h0 : ∀ x0 x1 u, (f x0 x1 u).pending = u.pending) :
    (writeAccess f off val be s).pending = s.pending := by
  unfold writeAccess
  first | (simp [h0]; done) | (repeat' split) <;> simp [h0]
@[simp] theorem writeAccess_mem (f : Nat → Word → State → State) (off : Nat) (val : DWord) (be : BitVec 8) (s : State) (h0 : ∀ x0 x1 u, (f x0 x1 u).pond.mem = u.pond.mem) :
    (writeAccess f off val be s).pond.mem = s.pond.mem := by
  unfold writeAccess
  first | (simp [h0]; done) | (repeat' split) <;> simp [h0]
@[simp] theorem writeAccess_brakeA (f : Nat → Word → State → State) (off : Nat) (val : DWord) (be : BitVec 8) (s : State) (h0 : ∀ x0 x1 u, (f x0 x1 u).sup.brakeA = u.sup.brakeA) :
    (writeAccess f off val be s).sup.brakeA = s.sup.brakeA := by
  unfold writeAccess
  first | (simp [h0]; done) | (repeat' split) <;> simp [h0]
@[simp] theorem writeAccess_brakeB (f : Nat → Word → State → State) (off : Nat) (val : DWord) (be : BitVec 8) (s : State) (h0 : ∀ x0 x1 u, (f x0 x1 u).sup.brakeB = u.sup.brakeB) :
    (writeAccess f off val be s).sup.brakeB = s.sup.brakeB := by
  unfold writeAccess
  first | (simp [h0]; done) | (repeat' split) <;> simp [h0]

@[simp] theorem writeBell_held (off : Nat) (val : DWord) (be : BitVec 8) (s : State) : Held (writeBell off val be s) s := by
  unfold Held writeBell
  (repeat' split) <;> simp

@[simp] theorem writeRegister_held (bus : Bus) (off : Nat) (val : DWord) (be : BitVec 8) (s : State) : HeldMem (writeRegister bus off val be s) s := by
  unfold HeldMem writeRegister
  (repeat' split) <;> simp

@[simp] theorem holdPort_held (s : State) : Held (holdPort s) s := by
  unfold Held holdPort
  simp

@[simp] theorem modCap_held (f : Captures → Captures) (s : State) : Held (modCap f s) s := by
  unfold Held modCap
  simp

@[simp] theorem captureRead_held (reg : LoReg) (s : State) : Held (captureRead reg s) s := by
  unfold Held captureRead
  (repeat' split) <;> simp

@[simp] theorem afterRead_held (off : Nat) (s : State) : Held (afterRead off s) s := by
  unfold Held afterRead
  (repeat' split) <;> simp

@[simp] theorem readWords_held (bus : Bus) (base n : Nat) (s : State) : Held (readWords bus base n s).2 s := by
  induction n generalizing base s with
  | zero => simp [Held, readWords]
  | succ n ih =>
    have h := ih (base + 4) (if bus = .bar0 then afterRead base s else s)
    have g : Held (if bus = .bar0 then afterRead base s else s) s := by split <;> simp [Held]
    exact ⟨h.1.trans g.1, h.2.1.trans g.2.1, h.2.2.1.trans g.2.2.1, h.2.2.2.trans g.2.2.2⟩

@[simp] theorem readAccess_held (bus : Bus) (off : Nat) (n : Nat) (s : State) : Held (readAccess bus off n s).2 s := by
  unfold Held readAccess
  (repeat' split) <;> simp

@[simp] theorem loadWord_held (off : Nat) (w : Word) (s : State) : HeldMem (loadWord off w s) s := by
  unfold HeldMem loadWord
  simp

@[simp] theorem clearArrayMarks_held (s : State) : Held (clearArrayMarks s) s := by
  unfold Held clearArrayMarks
  simp

@[simp] theorem clearMarks_held (s : State) : Held (clearMarks s) s := by
  unfold Held clearMarks
  simp

@[simp] theorem loadProfiles_held (i : Image) (s : State) : Held (loadProfiles i s) s := by
  unfold Held loadProfiles
  simp

@[simp] theorem loadEnergyWord_held (b : List Byte) (s : State) (t : Fin 8 × Fin 24) : Held (loadEnergyWord b s t) s := by
  unfold Held loadEnergyWord
  simp

@[simp] theorem loadEnergy_held (i : Image) (s : State) : Held (loadEnergy i s) s := by
  unfold Held loadEnergy
  (repeat' split) <;> simp

@[simp] theorem loadAll_held (l : List (Nat × Word)) (s : State) : HeldMem (loadAll l s) s := by
  unfold HeldMem loadAll
  simp

@[simp] theorem loadFlashWin_held (i : Image) (s : State) : Held (loadFlashWin i s) s := by
  unfold Held loadFlashWin
  simp

@[simp] theorem loadMgt_held (i : Image) (s : State) : Held (loadMgt i s) s := by
  unfold Held loadMgt
  simp

@[simp] theorem applyImage_held (slotB : Bool) (i : Image) (s : State) : HeldMem (applyImage slotB i s) s := by
  unfold HeldMem applyImage
  (repeat' split) <;> simp

@[simp] theorem rollBack_held (s : State) : Held (rollBack s) s := by
  unfold Held rollBack
  simp

@[simp] theorem forceKolto_held (slotB : Bool) (i : Image) (s : State) : Held (forceKolto slotB i s) s := by
  unfold Held forceKolto
  simp

@[simp] theorem reloadDone_held (image : List Byte) (s : State) : HeldMem (reloadDone image s) s := by
  unfold HeldMem reloadDone
  dsimp only
  (repeat' split) <;> simp

@[simp] theorem swapActivation_held (s : State) : Held (swapActivation s) s := by
  unfold Held swapActivation
  (try simp) <;> (repeat' (first | intro _ | split)) <;> (try simp)

@[simp] theorem slotFails_held (kolto : Bool) (b : List Byte) (slotB : Bool) (s : State) : Held (slotFails kolto b slotB s) s := by
  unfold Held slotFails
  simp

@[simp] theorem slotTried_held (kolto : Bool) (a : List Byte) (b : List Byte) (s : State) (slotB : Bool) : Held (slotTried kolto a b s slotB) s := by
  unfold Held slotTried
  simp

@[simp] theorem trySlots_held (kolto : Bool) (a : List Byte) (b : List Byte) (ok : List (Nat × Word) → Bool) (l : List Bool) (s : State) : Held (trySlots kolto a b ok l s).2 s := by
  unfold Held trySlots
  dsimp only
  (repeat' split) <;> simp

@[simp] theorem noteSlots_held (kolto : Bool) (a : List Byte) (b : List Byte) (ok : List (Nat × Word) → Bool) (s : State) : Held (noteSlots kolto a b ok s) s := by
  unfold Held noteSlots
  simp

@[simp] theorem passTenths_held (tenth : Nat) (s : State) : Held (passTenths tenth s) s := by
  unfold Held passTenths
  simp

@[simp] theorem firmwareDone_held (header : List Byte) (a : List Byte) (b : List Byte) (tenth : Nat) (s : State) : Held (firmwareDone header a b tenth s) s := by
  unfold Held firmwareDone
  (try simp) <;> (repeat' (first | intro _ | split)) <;> (try simp)

@[simp] theorem restartEnds_held (a : List Byte) (b : List Byte) (s : State) : Held (restartEnds a b s) s := by
  unfold Held restartEnds
  dsimp only
  (repeat' split) <;> simp

@[simp] theorem startDiscovery_held (s : State) : Held (startDiscovery s) s := by
  unfold Held startDiscovery
  simp

@[simp] theorem configDone_held (a : List Byte) (b : List Byte) (tenth : Nat) (s : State) : HeldMem (configDone a b tenth s) s := by
  unfold HeldMem configDone
  (try simp) <;> (repeat' (first | intro _ | split)) <;> (try simp)

@[simp] theorem startTest_held (x : EngId) (pass : Bool) (s : State) : Held (startTest x pass s) s := by
  unfold Held startTest
  simp

@[simp] theorem giveRoles_held (passA : Bool) (passB : Bool) (s : State) : HeldMem (giveRoles passA passB s).2 s := by
  unfold HeldMem giveRoles
  (repeat' split) <;> simp

@[simp] theorem selftestDone_held (passA : Bool) (passB : Bool) (ing : BitVec 20) (egr : BitVec 16) (tenth : Nat) (s : State) : HeldMem (selftestDone passA passB ing egr tenth s) s := by
  unfold HeldMem selftestDone
  simp

@[simp] theorem calActivated_held (s : State) : Held (calActivated s) s := by
  unfold Held calActivated
  (try simp) <;> (repeat' (first | intro _ | split)) <;> (try simp)

@[simp] theorem calibrated_held (rd : CalIn) (s : State) : Held (calibrated rd s) s := by
  unfold Held calibrated
  (repeat' split) <;> simp

@[simp] theorem resumeLog_held (l : List (List Byte)) (s : State) : Held (resumeLog l s) s := by
  unfold Held resumeLog
  (try simp) <;> (repeat' (first | intro _ | split)) <;> (try simp)

@[simp] theorem reapplySpare_held (s : State) (r : LogRec) : Held (reapplySpare s r) s := by
  unfold Held reapplySpare
  simp

@[simp] theorem repostSubst_held (s : State) (r : LogRec)  :
    (repostSubst s r).pending = s.pending ∧ (repostSubst s r).pond.mem = s.pond.mem ∧ (repostSubst s r).sup.brakeA = s.sup.brakeA ∧ (repostSubst s r).sup.brakeB = s.sup.brakeB := by
  unfold repostSubst
  generalize kindOf _ = k
  rcases k with _ | k
  · simp
  · cases k <;> simp

@[simp] theorem reapplyLog_held (s0 : State) : Held (reapplyLog s0) s0 := by
  unfold Held reapplyLog
  simp

@[simp] theorem markThermal_held (s : State) : Held (markThermal s) s := by
  unfold Held markThermal
  simp

@[simp] theorem readyEvents_held (s : State) : Held (readyEvents s) s := by
  unfold Held readyEvents
  simp

@[simp] theorem reachReady_held (s : State) : Held (reachReady s) s := by
  unfold Held reachReady
  simp

@[simp] theorem restoreDone_held (l : List (List Byte)) (tenth : Nat) (s : State) : Held (restoreDone l tenth s) s := by
  unfold Held restoreDone
  simp

@[simp] theorem endWork_held (s : State) : Held (endWork s) s := by
  unfold Held endWork
  simp

@[simp] theorem quiesceStandby_held (s : State) : Held (quiesceStandby s) s := by
  unfold Held quiesceStandby
  simp

@[simp] theorem enterStandby_held (s : State)  :
    (enterStandby s).pending = s.pending := by
  unfold enterStandby
  simp

@[simp] theorem deadRowError_held (s : State) (e : Nat × BitVec 79) : Held (deadRowError s e) s := by
  unfold Held deadRowError
  (repeat' split) <;> simp

@[simp] theorem noteOneBit_held (phys : Nat) (row : Nat) (s : State) : Held (noteOneBit phys row s) s := by
  unfold Held noteOneBit
  simp

@[simp] theorem rowErrors_held (phys : Nat) (row : Nat) (errs : Upsets) (s : State) : HeldBrake (rowErrors phys row errs s) s := by
  unfold HeldBrake rowErrors
  simp

@[simp] theorem nextScrub_held (s : State) : Held (nextScrub s) s := by
  unfold Held nextScrub
  simp

@[simp] theorem scrubNext_held (errs : Upsets) (s : State) : HeldBrake (scrubNext errs s) s := by
  unfold HeldBrake scrubNext
  (try simp) <;> (repeat' (first | intro _ | split)) <;> (try simp)

@[simp] theorem followScrub_held (s : State) : Held (followScrub s) s := by
  unfold Held followScrub
  simp

@[simp] theorem spareCopied_held (errs : Upsets) (s : State) : HeldBrake (spareCopied errs s) s := by
  unfold HeldBrake spareCopied
  (repeat' split) <;> simp

@[simp] theorem sluiceTick_held (s : State) : Held (sluiceTick s) s := by
  unfold Held sluiceTick
  simp

@[simp] theorem accrueOwed_held (s0 : State) (s : State) : Held (accrueOwed s0 s) s := by
  unfold Held accrueOwed
  simp

@[simp] theorem closeMeters_held (s : State) : Held (closeMeters s) s := by
  unfold Held closeMeters
  simp

@[simp] theorem rateTick_held (s0 : State) : Held (rateTick s0) s0 := by
  unfold Held rateTick
  simp

@[simp] theorem healthRecord_held (s : State) : Held (healthRecord s) s := by
  unfold Held healthRecord
  simp

@[simp] theorem quietActions_held (s : State) : HeldMem (quietActions s) s := by
  unfold HeldMem quietActions
  simp

@[simp] theorem followState_held (s : State) : Held (followState s) s := by
  unfold Held followState
  (repeat' split) <;> simp

@[simp] theorem dropDeferred_held (s : State) : Held (dropDeferred s) s := by
  unfold Held dropDeferred
  simp

@[simp] theorem axesFollow_held (old : DevState) (s : State) : Held (axesFollow old s) s := by
  unfold Held axesFollow
  (repeat' split) <;> simp

@[simp] theorem leftWork_held (old : DevState) (s : State) : Held (leftWork old s) s := by
  unfold Held leftWork
  (repeat' split) <;> simp

@[simp] theorem stateEffects_held (old : DevState) (s : State) : Held (stateEffects old s) s := by
  unfold Held stateEffects
  simp

@[simp] theorem recordDocs_held (s0 : State) (s : State) : Held (recordDocs s0 s) s := by
  unfold Held recordDocs
  simp

@[simp] theorem noteWait_held (s : State) : Held (noteWait s) s := by
  unfold Held noteWait
  simp

@[simp] theorem reportLost_held (s : State) : Held (reportLost s) s := by
  unfold Held reportLost
  simp

@[simp] theorem wakeLink_held (s0 : State) (s : State) : Held (wakeLink s0 s) s := by
  unfold Held wakeLink
  simp

@[simp] theorem sleepHolds_held (s0 : State) (s : State) : Held (sleepHolds s0 s) s := by
  unfold Held sleepHolds
  simp

@[simp] theorem settle_held (s0 : State) (s : State) : HeldMem (settle s0 s) s := by
  unfold HeldMem settle
  simp

@[simp] theorem onHost_pending (f : State → State) (s : State) (h0 : ∀ u, (f u).pending = u.pending) :
    (onHost f s).pending = s.pending := by
  unfold onHost
  first | (simp [h0]; done) | (repeat' split) <;> simp [h0]
@[simp] theorem onHost_mem (f : State → State) (s : State) (h0 : ∀ u, (f u).pond.mem = u.pond.mem) :
    (onHost f s).pond.mem = s.pond.mem := by
  unfold onHost
  first | (simp [h0]; done) | (repeat' split) <;> simp [h0]
@[simp] theorem onHost_brakeA (f : State → State) (s : State) (h0 : ∀ u, (f u).sup.brakeA = u.sup.brakeA) :
    (onHost f s).sup.brakeA = s.sup.brakeA := by
  unfold onHost
  first | (simp [h0]; done) | (repeat' split) <;> simp [h0]
@[simp] theorem onHost_brakeB (f : State → State) (s : State) (h0 : ∀ u, (f u).sup.brakeB = u.sup.brakeB) :
    (onHost f s).sup.brakeB = s.sup.brakeB := by
  unfold onHost
  first | (simp [h0]; done) | (repeat' split) <;> simp [h0]

@[simp] theorem live_pending (f : State → State) (s : State) (h0 : ∀ u, (f u).pending = u.pending) :
    (live f s).pending = s.pending := by
  unfold live
  first | (simp [h0]; done) | (repeat' split) <;> simp [h0]
@[simp] theorem live_mem (f : State → State) (s : State) (h0 : ∀ u, (f u).pond.mem = u.pond.mem) :
    (live f s).pond.mem = s.pond.mem := by
  unfold live
  first | (simp [h0]; done) | (repeat' split) <;> simp [h0]
@[simp] theorem live_brakeA (f : State → State) (s : State) (h0 : ∀ u, (f u).sup.brakeA = u.sup.brakeA) :
    (live f s).sup.brakeA = s.sup.brakeA := by
  unfold live
  first | (simp [h0]; done) | (repeat' split) <;> simp [h0]
@[simp] theorem live_brakeB (f : State → State) (s : State) (h0 : ∀ u, (f u).sup.brakeB = u.sup.brakeB) :
    (live f s).sup.brakeB = s.sup.brakeB := by
  unfold live
  first | (simp [h0]; done) | (repeat' split) <;> simp [h0]

@[simp] theorem dmaCtlBit_pending (ch : Chan) (f : State → State) (s : State) (h0 : ∀ u, (f u).pending = u.pending) :
    (dmaCtlBit ch f s).pending = s.pending := by
  unfold dmaCtlBit
  first | (simp [h0]; done) | (repeat' split) <;> simp [h0]
@[simp] theorem dmaCtlBit_mem (ch : Chan) (f : State → State) (s : State) (h0 : ∀ u, (f u).pond.mem = u.pond.mem) :
    (dmaCtlBit ch f s).pond.mem = s.pond.mem := by
  unfold dmaCtlBit
  first | (simp [h0]; done) | (repeat' split) <;> simp [h0]
@[simp] theorem dmaCtlBit_brakeA (ch : Chan) (f : State → State) (s : State) (h0 : ∀ u, (f u).sup.brakeA = u.sup.brakeA) :
    (dmaCtlBit ch f s).sup.brakeA = s.sup.brakeA := by
  unfold dmaCtlBit
  first | (simp [h0]; done) | (repeat' split) <;> simp [h0]
@[simp] theorem dmaCtlBit_brakeB (ch : Chan) (f : State → State) (s : State) (h0 : ∀ u, (f u).sup.brakeB = u.sup.brakeB) :
    (dmaCtlBit ch f s).sup.brakeB = s.sup.brakeB := by
  unfold dmaCtlBit
  first | (simp [h0]; done) | (repeat' split) <;> simp [h0]

@[simp] theorem onType_pending (types : List Nat) (bytes : List Byte) (f : State → State) (s : State) (h0 : ∀ u, (f u).pending = u.pending) :
    (onType types bytes f s).pending = s.pending := by
  unfold onType
  first | (simp [h0]; done) | (repeat' split) <;> simp [h0]
@[simp] theorem onType_mem (types : List Nat) (bytes : List Byte) (f : State → State) (s : State) (h0 : ∀ u, (f u).pond.mem = u.pond.mem) :
    (onType types bytes f s).pond.mem = s.pond.mem := by
  unfold onType
  first | (simp [h0]; done) | (repeat' split) <;> simp [h0]
@[simp] theorem onType_brakeA (types : List Nat) (bytes : List Byte) (f : State → State) (s : State) (h0 : ∀ u, (f u).sup.brakeA = u.sup.brakeA) :
    (onType types bytes f s).sup.brakeA = s.sup.brakeA := by
  unfold onType
  first | (simp [h0]; done) | (repeat' split) <;> simp [h0]
@[simp] theorem onType_brakeB (types : List Nat) (bytes : List Byte) (f : State → State) (s : State) (h0 : ∀ u, (f u).sup.brakeB = u.sup.brakeB) :
    (onType types bytes f s).sup.brakeB = s.sup.brakeB := by
  unfold onType
  first | (simp [h0]; done) | (repeat' split) <;> simp [h0]

@[simp] theorem clearPersistBeside_held (same : Bool) (s : State) : Held (clearPersistBeside same s) s := by
  unfold Held clearPersistBeside
  simp

@[simp] theorem plugged_held (p : Port) (s : State) : Held (plugged p s) s := by
  unfold Held plugged
  simp

@[simp] theorem mapCommand_pending (n : Port) (op : BitVec 4) (x : BitVec 11) (f : State → State) (s : State) (h0 : ∀ u, (f u).pending = u.pending) :
    (mapCommand n op x f s).pending = s.pending := by
  unfold mapCommand
  first | (simp [h0]; done) | (repeat' split) <;> simp [h0]
@[simp] theorem mapCommand_mem (n : Port) (op : BitVec 4) (x : BitVec 11) (f : State → State) (s : State) (h0 : ∀ u, (f u).pond.mem = u.pond.mem) :
    (mapCommand n op x f s).pond.mem = s.pond.mem := by
  unfold mapCommand
  first | (simp [h0]; done) | (repeat' split) <;> simp [h0]
@[simp] theorem mapCommand_brakeA (n : Port) (op : BitVec 4) (x : BitVec 11) (f : State → State) (s : State) (h0 : ∀ u, (f u).sup.brakeA = u.sup.brakeA) :
    (mapCommand n op x f s).sup.brakeA = s.sup.brakeA := by
  unfold mapCommand
  first | (simp [h0]; done) | (repeat' split) <;> simp [h0]
@[simp] theorem mapCommand_brakeB (n : Port) (op : BitVec 4) (x : BitVec 11) (f : State → State) (s : State) (h0 : ∀ u, (f u).sup.brakeB = u.sup.brakeB) :
    (mapCommand n op x f s).sup.brakeB = s.sup.brakeB := by
  unfold mapCommand
  first | (simp [h0]; done) | (repeat' split) <;> simp [h0]

end Sys2Proof.Machine
end

