-- ==== Sys2Proof/Laws/Memory.lean ====
section
/-! SUPPORT. Reading and writing the pond's cells: the canonical form is kept, and a read gives what was written last. -/

namespace Sys2Proof.Machine

/-- A list of cells in canonical form, all of them at addresses above `k`. -/
theorem wf_cons (c : Host.Cell) (l : List Host.Cell) :
    Memory.wf (c :: l) = (c.2 != pondBlank && l.head?.all (fun d => decide (c.1 < d.1)) && Memory.wf l) := by
  cases l <;> simp [Memory.wf]

theorem memWrite_head (m : List Host.Cell) (a k : Nat) (b : Byte) (hw : Memory.wf m = true) (ha : k < a)
    (hm : m.head?.all (fun d => decide (k < d.1)) = true) :
    (memWrite m a b).head?.all (fun d => decide (k < d.1)) = true := by
  cases m with
  | nil => unfold memWrite; split <;> simp [ha]
  | cons c l =>
    unfold memWrite
    simp at hm
    split
    · simpa using hm
    · split
      · split
        · cases l with
          | nil => simp
          | cons d l => simp [Memory.wf] at hw; simp; omega
        · simpa using ha
      · split
        · simpa using hm
        · simpa using ha

@[simp] theorem memWrite_wf (m : List Host.Cell) (a : Nat) (b : Byte) (h : Memory.wf m = true) :
    Memory.wf (memWrite m a b) = true := by
  induction m with
  | nil => unfold memWrite; split <;> simp [Memory.wf, *]
  | cons c l ih =>
    have hc := h
    rw [wf_cons] at hc
    simp only [Bool.and_eq_true] at hc
    obtain ⟨⟨h1, h2⟩, h3⟩ := hc
    unfold memWrite
    split
    · rw [wf_cons]
      simp only [Bool.and_eq_true]
      exact ⟨⟨h1, memWrite_head l a c.1 b h3 ‹_› h2⟩, ih h3⟩
    · split
      · split
        · exact h3
        · rename_i hc hb
          rw [wf_cons]; subst hc
          simp only [Bool.and_eq_true]
          exact ⟨⟨by simpa using hb, h2⟩, h3⟩
      · split
        · exact h
        · rename_i hlt hne hb
          rw [wf_cons]
          simp only [Bool.and_eq_true]
          refine ⟨⟨by simpa using hb, ?_⟩, h⟩
          simp; omega

/-- An address below every listed cell reads as the blank byte. -/
theorem memRead_below (l : List Host.Cell) (k : Nat) (h : Memory.wf l = true)
    (hk : l.head?.all (fun d => decide (k < d.1)) = true) : memRead l k = pondBlank := by
  induction l with
  | nil => rfl
  | cons c l ih =>
    rw [wf_cons] at h
    simp only [Bool.and_eq_true] at h
    simp at hk
    unfold memRead
    rw [if_neg (by omega)]
    refine ih h.2 ?_
    have := h.1.2
    cases l with
    | nil => rfl
    | cons d l => simp at this ⊢; omega

/-- A cell read after a write: the byte written, or what stood there. -/
theorem memRead_memWrite (m : List Host.Cell) (a x : Nat) (b : Byte) (h : Memory.wf m = true) :
    memRead (memWrite m a b) x = if x = a then b else memRead m x := by
  induction m with
  | nil =>
    by_cases hb : b = pondBlank
    · subst hb; simp [memWrite, memRead]
    · by_cases hx : x = a
      · simp [memWrite, memRead, hb, hx]
      · simp [memWrite, memRead, hb, hx, Ne.symm hx]
  | cons c l ih =>
    have hc := h
    rw [wf_cons] at hc
    simp only [Bool.and_eq_true] at hc
    obtain ⟨⟨h1, h2⟩, h3⟩ := hc
    have hb := memRead_below l c.1 h3 h2
    unfold memWrite
    by_cases h4 : c.1 < a
    · rw [if_pos h4]
      simp only [memRead]
      by_cases h5 : c.1 = x
      · rw [if_pos h5, if_pos h5, if_neg (by omega)]
      · rw [if_neg h5, if_neg h5]; exact ih h3
    · rw [if_neg h4]
      by_cases h5 : c.1 = a
      · subst h5
        rw [if_pos rfl]
        by_cases h6 : b = pondBlank
        · rw [if_pos h6]
          by_cases h7 : x = c.1
          · rw [if_pos h7, h7, hb, h6]
          · rw [if_neg h7, memRead, if_neg (Ne.symm h7)]
        · rw [if_neg h6]
          by_cases h7 : x = c.1
          · rw [if_pos h7, memRead, if_pos h7.symm]
          · rw [if_neg h7, memRead, if_neg (Ne.symm h7), memRead, if_neg (Ne.symm h7)]
      · rw [if_neg h5]
        by_cases h6 : b = pondBlank
        · rw [if_pos h6]
          by_cases h7 : x = a
          · rw [if_pos h7, h6]
            refine memRead_below (c :: l) x h ?_
            simp; omega
          · rw [if_neg h7]
        · rw [if_neg h6]
          by_cases h7 : x = a
          · rw [if_pos h7, memRead, if_pos h7.symm]
          · rw [if_neg h7, memRead, if_neg (Ne.symm h7)]

@[simp] theorem memWriteList_wf (m : List Host.Cell) (f : Nat → Nat) (i : Nat) (l : List Byte) (h : Memory.wf m = true) :
    Memory.wf (memWriteList m f i l) = true := by
  induction l generalizing m i with
  | nil => exact h
  | cons b l ih => exact ih _ _ (memWrite_wf m _ b h)

/-- A list of bytes leaves every other address as it was. -/
theorem memRead_memWriteList_of_ne (m : List Host.Cell) (f : Nat → Nat) (i x : Nat) (l : List Byte)
    (h : Memory.wf m = true) (hx : ∀ j, j < l.length → f (i + j) ≠ x) :
    memRead (memWriteList m f i l) x = memRead m x := by
  induction l generalizing m i with
  | nil => rfl
  | cons b l ih =>
    unfold memWriteList
    rw [ih _ _ (memWrite_wf m _ b h) (fun j hj => by
      have := hx (j + 1) (by simpa using hj)
      rwa [show i + (j + 1) = i + 1 + j by omega] at this), memRead_memWrite m _ _ _ h, if_neg]
    exact fun e => hx 0 (by simp) (by simpa using e.symm)

/-- A list of bytes written at addresses that do not repeat reads back. -/
theorem memRead_memWriteList (m : List Host.Cell) (f : Nat → Nat) (i j : Nat) (l : List Byte)
    (h : Memory.wf m = true) (hj : j < l.length) (hf : ∀ k, j < k → k < l.length → f (i + k) ≠ f (i + j)) :
    memRead (memWriteList m f i l) (f (i + j)) = l.getD j 0 := by
  induction l generalizing m i j with
  | nil => simp at hj
  | cons b l ih =>
    unfold memWriteList
    cases j with
    | zero =>
      rw [memRead_memWriteList_of_ne _ _ _ _ _ (memWrite_wf m _ b h) (fun k hk => by
        have := hf (k + 1) (by omega) (by simpa using hk)
        rwa [show i + (k + 1) = i + 1 + k by omega] at this), memRead_memWrite m _ _ _ h]
      simp
    | succ j =>
      have := ih (memWrite m (f i) b) (i + 1) j (memWrite_wf m _ b h) (by simpa using hj) (fun k h1 h2 => by
        have := hf (k + 1) (by omega) (by simpa using h2)
        rwa [show i + (k + 1) = i + 1 + k by omega, show i + (j + 1) = i + 1 + j by omega] at this)
      rw [show i + (j + 1) = i + 1 + j by omega, this]
      simp
end Sys2Proof.Machine
end

