-- ==== Sys2Proof/Laws/Sound.lean ====
section
/-! SUPPORT. Every operation keeps the canonical form of the pond's cells, and at most one engine holding the brake. -/

set_option linter.all false
namespace Sys2Proof.Machine
theorem foldl_wf {α : Type} (g : State → α → State) (l : List α) (s : State)
    (h : ∀ s a, Memory.wf s.pond.mem = true → Memory.wf (g s a).pond.mem = true) (hs : Memory.wf s.pond.mem = true) :
    Memory.wf (l.foldl g s).pond.mem = true := by
  induction l generalizing s with
  | nil => exact hs
  | cons a l ih => exact ih _ (h _ _ hs)
theorem foldl_brake {α : Type} (g : State → α → State) (l : List α) (s : State)
    (h : ∀ s a, (s.sup.brakeA && s.sup.brakeB) = false → ((g s a).sup.brakeA && (g s a).sup.brakeB) = false)
    (hs : (s.sup.brakeA && s.sup.brakeB) = false) : ((l.foldl g s).sup.brakeA && (l.foldl g s).sup.brakeB) = false := by
  induction l generalizing s with
  | nil => exact hs
  | cons a l ih => exact ih _ (h _ _ hs)
@[simp] theorem pondWrite_wf (f : Nat → Nat) (bytes : List Byte) (s : State)  (h : Memory.wf s.pond.mem = true) :
    Memory.wf (pondWrite f bytes s).pond.mem = true := by
  unfold pondWrite
  simp [-Bool.and_eq_false_imp, h]

@[simp] theorem storeLine_wf (p : Port) (doc : Word) (k : Nat) (isTest : Bool) (bytes : List Byte) (s : State)  (h : Memory.wf s.pond.mem = true) :
    Memory.wf (storeLine p doc k isTest bytes s).pond.mem = true := by
  unfold storeLine
  simp [-Bool.and_eq_false_imp, h]

@[simp] theorem wordLost_wf (word : Nat) (s : State)  (h : Memory.wf s.pond.mem = true) :
    Memory.wf (wordLost word s).pond.mem = true := by
  unfold wordLost
  (try simp [-Bool.and_eq_false_imp, h]) <;> (repeat' (first | intro _ | split)) <;> (try simp [-Bool.and_eq_false_imp, h])

@[simp] theorem writeBackWord_wf (word : Nat) (v : BitVec 64) (s : State)  (h : Memory.wf s.pond.mem = true) :
    Memory.wf (writeBackWord word v s).pond.mem = true := by
  unfold writeBackWord
  (repeat' split) <;> simp [-Bool.and_eq_false_imp, h]

@[simp] theorem readThrough_wf (s : State) (e : Nat × BitVec 79)  (h : Memory.wf s.pond.mem = true) :
    Memory.wf (readThrough s e).pond.mem = true := by
  unfold readThrough
  (try simp [-Bool.and_eq_false_imp, h]) <;> (repeat' (first | intro _ | split)) <;> (try simp [-Bool.and_eq_false_imp, h])

@[simp] theorem wordErrors_wf (errs : Upsets) (s : State)  (h : Memory.wf s.pond.mem = true) :
    Memory.wf (wordErrors errs s).pond.mem = true := by
  unfold wordErrors
  (repeat' split) <;> (try simp [-Bool.and_eq_false_imp, h]) <;> (repeat' (first | intro _ | (refine foldl_wf _ _ _ (fun s a h => ?_) ?_) | split)) <;> (try simp [-Bool.and_eq_false_imp, h])

@[simp] theorem readAux_wf (i : Fin 2) (keep : Nat) (n : Nat) (errs : Upsets) (s : State)  (h : Memory.wf s.pond.mem = true) :
    Memory.wf (readAux i keep n errs s).pond.mem = true := by
  unfold readAux
  simp [-Bool.and_eq_false_imp, h]

@[simp] theorem takeLine_wf (p : Port) (b : List Byte) (s : State)  (h : Memory.wf s.pond.mem = true) :
    Memory.wf (takeLine p b s).pond.mem = true := by
  unfold takeLine
  (try simp [-Bool.and_eq_false_imp, h]) <;> (repeat' (first | intro _ | split)) <;> (try simp [-Bool.and_eq_false_imp, h])

theorem routePacket_wf (p : Port) (b : List Byte) (s : State) (r : Nat × State) (h : routePacket p b s = some r)
    (hs : Memory.wf s.pond.mem = true) : Memory.wf r.2.pond.mem = true := by
  unfold routePacket at h
  dsimp only at h
  (repeat' split at h) <;> first | (cases h; simp [hs]; done) | (have := openPacket_held _ _ _ _ h; simp [this, hs]; done)

@[simp] theorem deliverPacket_wf (p : Port) (b : List Byte) (s : State)  (h : Memory.wf s.pond.mem = true) :
    Memory.wf (deliverPacket p b s).pond.mem = true := by
  unfold deliverPacket
  dsimp only
  split
  · simp [h]
  · split
    · simp [h]
    · split
      · simp [h]
      · split
        · split
          · simp [h]
          · next h' => have := routePacket_wf _ _ _ _ h' (by simpa using h); simpa using this
        · split
          · simp [h]
          · split <;> simp [h]

@[simp] theorem headerArrives_wf (p : Port) (b : List Byte) (s : State)  (h : Memory.wf s.pond.mem = true) :
    Memory.wf (headerArrives p b s).pond.mem = true := by
  unfold headerArrives
  (try simp [-Bool.and_eq_false_imp, h]) <;> (repeat' (first | intro _ | split)) <;> (try simp [-Bool.and_eq_false_imp, h])

@[simp] theorem tableFreed_wf (p : Port) (s : State)  (h : Memory.wf s.pond.mem = true) :
    Memory.wf (tableFreed p s).pond.mem = true := by
  unfold tableFreed
  (try simp [-Bool.and_eq_false_imp, h]) <;> (repeat' (first | intro _ | split)) <;> (try simp [-Bool.and_eq_false_imp, h])

@[simp] theorem keepRepeat_wf (p : Port) (d : Doc) (k : Nat) (b : List Byte) (s : State) (h : Memory.wf s.pond.mem = true) :
    Memory.wf (keepRepeat p d k b s).pond.mem = true := by
  unfold keepRepeat
  split
  · exact h
  · simp [h]

@[simp] theorem deliverLine_wf (p : Port) (d : Doc) (k : Nat) (s : State)  (h : Memory.wf s.pond.mem = true) :
    Memory.wf (deliverLine p d k s).2.pond.mem = true := by
  unfold deliverLine
  (try simp [-Bool.and_eq_false_imp, h]) <;> (repeat' (first | intro _ | split)) <;> (try simp [-Bool.and_eq_false_imp, h])

@[simp] theorem deliver_wf (p : Port) (d : Doc) (j : Nat) (blank : Bool) (s : State)  (h : Memory.wf s.pond.mem = true) :
    Memory.wf (deliver p d j blank s).2.pond.mem = true := by
  unfold deliver
  (repeat' split) <;> simp [-Bool.and_eq_false_imp, h]

@[simp] theorem aheadOf_wf (p : Port) (d : Doc) (s : State)  (h : Memory.wf s.pond.mem = true) :
    Memory.wf (aheadOf p d s).pond.mem = true := by
  unfold aheadOf
  (try simp [-Bool.and_eq_false_imp, h]) <;> (repeat' (first | intro _ | split)) <;> (try simp [-Bool.and_eq_false_imp, h])

@[simp] theorem reachAhead_wf (p : Port) (d : Doc) (ups : Upsets) (s : State)  (h : Memory.wf s.pond.mem = true) :
    Memory.wf (reachAhead p d ups s).pond.mem = true := by
  unfold reachAhead
  (repeat' split) <;> simp [-Bool.and_eq_false_imp, h]

@[simp] theorem lineAhead_wf (p : Port) (ups : Upsets) (s : State)  (h : Memory.wf s.pond.mem = true) :
    Memory.wf (lineAhead p ups s).pond.mem = true := by
  unfold lineAhead
  (try simp [-Bool.and_eq_false_imp, h]) <;> (repeat' (first | intro _ | split)) <;> (try simp [-Bool.and_eq_false_imp, h])

@[simp] theorem scanEnds_wf (i : Fin 8) (ext : List Byte) (errs : Upsets) (s : State)  (h : Memory.wf s.pond.mem = true) :
    Memory.wf (scanEnds i ext errs s).pond.mem = true := by
  unfold scanEnds
  (try simp [-Bool.and_eq_false_imp, h]) <;> (repeat' (first | intro _ | split)) <;> (try simp [-Bool.and_eq_false_imp, h])

@[simp] theorem resetDies_wf (s : State)  (h : Memory.wf s.pond.mem = true) :
    Memory.wf (resetDies s).pond.mem = true := by
  rfl

@[simp] theorem resetBy_wf (cause : Nat) (s : State)  (h : Memory.wf s.pond.mem = true) :
    Memory.wf (resetBy cause s).pond.mem = true := by
  unfold resetBy
  simp [-Bool.and_eq_false_imp, h]

@[simp] theorem vaonRises_wf (s : State)  (h : Memory.wf s.pond.mem = true) :
    Memory.wf (vaonRises s).pond.mem = true := by
  unfold vaonRises
  (repeat' split) <;> simp [-Bool.and_eq_false_imp, h]

@[simp] theorem vaonFalls_wf (s : State)  (h : Memory.wf s.pond.mem = true) :
    Memory.wf (vaonFalls s).pond.mem = true := by
  unfold vaonFalls
  simp [-Bool.and_eq_false_imp, h]

@[simp] theorem mainFalls_wf (i : Fin 6) (s : State)  (h : Memory.wf s.pond.mem = true) :
    Memory.wf (mainFalls i s).pond.mem = true := by
  unfold mainFalls
  (try simp [-Bool.and_eq_false_imp, h]) <;> (repeat' (first | intro _ | split)) <;> (try simp [-Bool.and_eq_false_imp, h])

@[simp] theorem perstFalls_wf (s : State)  (h : Memory.wf s.pond.mem = true) :
    Memory.wf (perstFalls s).pond.mem = true := by
  unfold perstFalls
  (try simp [-Bool.and_eq_false_imp, h]) <;> (repeat' (first | intro _ | split)) <;> (try simp [-Bool.and_eq_false_imp, h])

@[simp] theorem xinFails_wf (s : State)  (h : Memory.wf s.pond.mem = true) :
    Memory.wf (xinFails s).pond.mem = true := by
  unfold xinFails
  (repeat' split) <;> simp [-Bool.and_eq_false_imp, h]

@[simp] theorem shutDown_wf (cause : TripCause) (s : State)  (h : Memory.wf s.pond.mem = true) :
    Memory.wf (shutDown cause s).pond.mem = true := by
  unfold shutDown
  split
  · dsimp only
    split <;> simp [-Bool.and_eq_false_imp, h]
  · exact h

@[simp] theorem driveTrip_wf (s : State)  (h : Memory.wf s.pond.mem = true) :
    Memory.wf (driveTrip s).pond.mem = true := by
  unfold driveTrip
  (repeat' split) <;> simp [-Bool.and_eq_false_imp, h]

@[simp] theorem storeAux_wf (ch : Chan) (b : List Byte) (s : State)  (h : Memory.wf s.pond.mem = true) :
    Memory.wf (storeAux ch b s).pond.mem = true := by
  unfold storeAux
  simp [-Bool.and_eq_false_imp, h]

@[simp] theorem auxDelivered_wf (ch : Chan) (b : List Byte) (s : State)  (h : Memory.wf s.pond.mem = true) :
    Memory.wf (auxDelivered ch b s).pond.mem = true := by
  unfold auxDelivered
  (try simp [-Bool.and_eq_false_imp, h]) <;> (repeat' (first | intro _ | split)) <;> (try simp [-Bool.and_eq_false_imp, h])

@[simp] theorem auxConsumed_wf (n : Nat) (errs : Upsets) (s : State)  (h : Memory.wf s.pond.mem = true) :
    Memory.wf (auxConsumed n errs s).pond.mem = true := by
  unfold auxConsumed
  simp [-Bool.and_eq_false_imp, h]

@[simp] theorem verifyDone_wf (regOk : List (Nat × Word) → Bool) (image : List Byte) (errs : Upsets) (s : State)  (h : Memory.wf s.pond.mem = true) :
    Memory.wf (verifyDone regOk image errs s).pond.mem = true := by
  unfold verifyDone
  (try simp [-Bool.and_eq_false_imp, h]) <;> (repeat' (first | intro _ | split)) <;> (try simp [-Bool.and_eq_false_imp, h])

@[simp] theorem pageProgrammed_wf (ok : Bool) (errs : Upsets) (s : State)  (h : Memory.wf s.pond.mem = true) :
    Memory.wf (pageProgrammed ok errs s).pond.mem = true := by
  unfold pageProgrammed
  (try simp [-Bool.and_eq_false_imp, h]) <;> (repeat' (first | intro _ | split)) <;> (try simp [-Bool.and_eq_false_imp, h])

@[simp] theorem enterStandby_wf (s : State)  (h : Memory.wf s.pond.mem = true) :
    Memory.wf (enterStandby s).pond.mem = true := by
  unfold enterStandby
  (repeat' split) <;> simp [-Bool.and_eq_false_imp, h]

@[simp] theorem rowErrors_wf (phys : Nat) (row : Nat) (errs : Upsets) (s : State)  (h : Memory.wf s.pond.mem = true) :
    Memory.wf (rowErrors phys row errs s).pond.mem = true := by
  unfold rowErrors
  simp [-Bool.and_eq_false_imp, h]

@[simp] theorem scrubNext_wf (errs : Upsets) (s : State)  (h : Memory.wf s.pond.mem = true) :
    Memory.wf (scrubNext errs s).pond.mem = true := by
  unfold scrubNext
  (try simp [-Bool.and_eq_false_imp, h]) <;> (repeat' (first | intro _ | split)) <;> (try simp [-Bool.and_eq_false_imp, h])

@[simp] theorem spareCopied_wf (errs : Upsets) (s : State)  (h : Memory.wf s.pond.mem = true) :
    Memory.wf (spareCopied errs s).pond.mem = true := by
  unfold spareCopied
  (try simp [-Bool.and_eq_false_imp, h]) <;> (repeat' (first | intro _ | split)) <;> (try simp [-Bool.and_eq_false_imp, h])

@[simp] theorem giveBrake_brake (x : EngId) (s : State)  (h : (s.sup.brakeA && s.sup.brakeB) = false) :
    ((giveBrake x s).sup.brakeA && (giveBrake x s).sup.brakeB) = false := by
  cases x <;> rfl

@[simp] theorem clearBrake_brake (s : State)  (h : (s.sup.brakeA && s.sup.brakeB) = false) :
    ((clearBrake s).sup.brakeA && (clearBrake s).sup.brakeB) = false := by
  unfold clearBrake
  simp [-Bool.and_eq_false_imp, h]

@[simp] theorem leavePair_brake (x : EngId) (retire : Bool) (raises : Bool) (s : State)  (h : (s.sup.brakeA && s.sup.brakeB) = false) :
    ((leavePair x retire raises s).sup.brakeA && (leavePair x retire raises s).sup.brakeB) = false := by
  unfold leavePair
  (try simp [-Bool.and_eq_false_imp, h]) <;> (repeat' (first | intro _ | split)) <;> (try simp [-Bool.and_eq_false_imp, h])

@[simp] theorem soloLasting_brake (s : State)  (h : (s.sup.brakeA && s.sup.brakeB) = false) :
    ((soloLasting s).sup.brakeA && (soloLasting s).sup.brakeB) = false := by
  unfold soloLasting
  (try simp [-Bool.and_eq_false_imp, h]) <;> (repeat' (first | intro _ | split)) <;> (try simp [-Bool.and_eq_false_imp, h])

@[simp] theorem soloFault_brake (x : EngId) (kind : Nat) (p : Port) (doc : Word) (line : Nat) (s : State)  (h : (s.sup.brakeA && s.sup.brakeB) = false) :
    ((soloFault x kind p doc line s).sup.brakeA && (soloFault x kind p doc line s).sup.brakeB) = false := by
  unfold soloFault
  (try simp [-Bool.and_eq_false_imp, h]) <;> (repeat' (first | intro _ | split)) <;> (try simp [-Bool.and_eq_false_imp, h])

@[simp] theorem leadStays_brake (x : EngId) (retire : Bool) (s : State)  (h : (s.sup.brakeA && s.sup.brakeB) = false) :
    ((leadStays x retire s).sup.brakeA && (leadStays x retire s).sup.brakeB) = false := by
  unfold leadStays
  (try simp [-Bool.and_eq_false_imp, h]) <;> (repeat' (first | intro _ | split)) <;> (try simp [-Bool.and_eq_false_imp, h])

@[simp] theorem engineFault_brake (x : EngId) (kind : Nat) (retire : Bool) (p : Port) (doc : Word) (line : Nat) (s : State)  (h : (s.sup.brakeA && s.sup.brakeB) = false) :
    ((engineFault x kind retire p doc line s).sup.brakeA && (engineFault x kind retire p doc line s).sup.brakeB) = false := by
  unfold engineFault
  (try simp [-Bool.and_eq_false_imp, h]) <;> (repeat' (first | intro _ | split)) <;> (try simp [-Bool.and_eq_false_imp, h])

@[simp] theorem oneLeaves_brake (s : State)  (h : (s.sup.brakeA && s.sup.brakeB) = false) :
    ((oneLeaves s).sup.brakeA && (oneLeaves s).sup.brakeB) = false := by
  unfold oneLeaves
  (try simp [-Bool.and_eq_false_imp, h]) <;> (repeat' (first | intro _ | split)) <;> (try simp [-Bool.and_eq_false_imp, h])

@[simp] theorem bothFault_brake (kindA : Nat) (kindB : Nat) (p : Port) (doc : Word) (line : Nat) (s : State)  (h : (s.sup.brakeA && s.sup.brakeB) = false) :
    ((bothFault kindA kindB p doc line s).sup.brakeA && (bothFault kindA kindB p doc line s).sup.brakeB) = false := by
  unfold bothFault
  (repeat' split) <;> simp [-Bool.and_eq_false_imp, h]

@[simp] theorem mismatchVerdict_brake (p : Port) (doc : Word) (line : Nat) (s : State)  (h : (s.sup.brakeA && s.sup.brakeB) = false) :
    ((mismatchVerdict p doc line s).sup.brakeA && (mismatchVerdict p doc line s).sup.brakeB) = false := by
  unfold mismatchVerdict
  (try simp [-Bool.and_eq_false_imp, h]) <;> (repeat' (first | intro _ | split)) <;> (try simp [-Bool.and_eq_false_imp, h])

@[simp] theorem decideAll_brake (s : State)  (h : (s.sup.brakeA && s.sup.brakeB) = false) :
    ((decideAll s).sup.brakeA && (decideAll s).sup.brakeB) = false := by
  unfold decideAll
  (repeat' split) <;> simp [-Bool.and_eq_false_imp, h]

@[simp] theorem offerLoad_brake (p : Port) (ld : Load) (s : State)  (h : (s.sup.brakeA && s.sup.brakeB) = false) :
    ((offerLoad p ld s).sup.brakeA && (offerLoad p ld s).sup.brakeB) = false := by
  unfold offerLoad
  (try simp [-Bool.and_eq_false_imp, h]) <;> (repeat' (first | intro _ | split)) <;> (try simp [-Bool.and_eq_false_imp, h])

@[simp] theorem handOver_brake (s : State) (p : Port)  (h : (s.sup.brakeA && s.sup.brakeB) = false) :
    ((handOver s p).sup.brakeA && (handOver s p).sup.brakeB) = false := by
  unfold handOver
  (repeat' split) <;> (try simp [-Bool.and_eq_false_imp, h]) <;> (repeat' (first | intro _ | (refine foldl_brake _ _ _ (fun s a h => ?_) ?_) | split)) <;> (try simp [-Bool.and_eq_false_imp, h])

@[simp] theorem pairRound_brake (s : State)  (h : (s.sup.brakeA && s.sup.brakeB) = false) :
    ((pairRound s).sup.brakeA && (pairRound s).sup.brakeB) = false := by
  unfold pairRound
  exact foldl_brake _ _ _ (fun s p hs => handOver_brake s p hs) (decideAll_brake s h)

@[simp] theorem pairSettle_brake (s : State)  (h : (s.sup.brakeA && s.sup.brakeB) = false) :
    ((pairSettle s).sup.brakeA && (pairSettle s).sup.brakeB) = false := by
  unfold pairSettle
  exact pairRound_brake _ (pairRound_brake _ (pairRound_brake s h))

@[simp] theorem endDiagnosis_brake (p : Port) (a b : DiagNote) (s : State) (h : (s.sup.brakeA && s.sup.brakeB) = false) :
    ((endDiagnosis p a b s).sup.brakeA && (endDiagnosis p a b s).sup.brakeB) = false := by
  unfold endDiagnosis
  split
  · exact h
  · next ld _ =>
    have g : ∀ t, t = noteVerdict 150 (noteCorrected .b b.corrected (noteCorrected .a a.corrected (advanceTo ld.diagEnd s))) →
        (t.sup.brakeA && t.sup.brakeB) = false := by
      intro t ht; subst ht; simp [-Bool.and_eq_false_imp, h]
    dsimp only
    split
    · exact bothFault_brake _ _ _ _ _ _ (g _ rfl)
    · exact engineFault_brake _ _ _ _ _ _ _ (g _ rfl)
    · exact engineFault_brake _ _ _ _ _ _ _ (g _ rfl)
    · split
      · exact engineFault_brake _ _ _ _ _ _ _ (g _ rfl)
      · exact mismatchVerdict_brake _ _ _ _ (g _ rfl)

@[simp] theorem exchangeBlocks_brake (s : State)  (h : (s.sup.brakeA && s.sup.brakeB) = false) :
    ((exchangeBlocks s).sup.brakeA && (exchangeBlocks s).sup.brakeB) = false := by
  unfold exchangeBlocks
  simp [-Bool.and_eq_false_imp, h]

@[simp] theorem finishRejoin_brake (s : State)  (h : (s.sup.brakeA && s.sup.brakeB) = false) :
    ((finishRejoin s).sup.brakeA && (finishRejoin s).sup.brakeB) = false := by
  unfold finishRejoin
  dsimp only
  split <;> first | simp [-Bool.and_eq_false_imp, h] | exact h

@[simp] theorem fixCopy_brake (p : Port) (corrupt : Bool) (s : State)  (h : (s.sup.brakeA && s.sup.brakeB) = false) :
    ((fixCopy p corrupt s).sup.brakeA && (fixCopy p corrupt s).sup.brakeB) = false := by
  unfold fixCopy
  (try simp [-Bool.and_eq_false_imp, h]) <;> (repeat' (first | intro _ | split)) <;> (try simp [-Bool.and_eq_false_imp, h])

@[simp] theorem finishRestart_brake (a : Bool) (b : Bool) (s : State)  (h : (s.sup.brakeA && s.sup.brakeB) = false) :
    ((finishRestart a b s).sup.brakeA && (finishRestart a b s).sup.brakeB) = false := by
  unfold finishRestart
  (repeat' split) <;> simp [-Bool.and_eq_false_imp, h]

@[simp] theorem endSelftest_brake (x : EngId) (pass : Bool) (s : State)  (h : (s.sup.brakeA && s.sup.brakeB) = false) :
    ((endSelftest x pass s).sup.brakeA && (endSelftest x pass s).sup.brakeB) = false := by
  unfold endSelftest
  (try simp [-Bool.and_eq_false_imp, h]) <;> (repeat' (first | intro _ | split)) <;> (try simp [-Bool.and_eq_false_imp, h])

@[simp] theorem pairQuiet_brake (s : State)  (h : (s.sup.brakeA && s.sup.brakeB) = false) :
    ((pairQuiet s).sup.brakeA && (pairQuiet s).sup.brakeB) = false := by
  unfold pairQuiet
  (repeat' split) <;> simp [-Bool.and_eq_false_imp, h]

@[simp] theorem retireEngine_brake (x : EngId) (s : State)  (h : (s.sup.brakeA && s.sup.brakeB) = false) :
    ((retireEngine x s).sup.brakeA && (retireEngine x s).sup.brakeB) = false := by
  unfold retireEngine
  (try simp [-Bool.and_eq_false_imp, h]) <;> (repeat' (first | intro _ | split)) <;> (try simp [-Bool.and_eq_false_imp, h])

@[simp] theorem emitBuilt_brake (x : EngId) (p : Port) (ld : Load) (s : State)  (h : (s.sup.brakeA && s.sup.brakeB) = false) :
    ((emitBuilt x p ld s).sup.brakeA && (emitBuilt x p ld s).sup.brakeB) = false := by
  unfold emitBuilt
  simp [-Bool.and_eq_false_imp, h]

@[simp] theorem emitNext_brake (x : EngId) (p : Port) (s : State)  (h : (s.sup.brakeA && s.sup.brakeB) = false) :
    ((emitNext x p s).sup.brakeA && (emitNext x p s).sup.brakeB) = false := by
  unfold emitNext
  (try simp [-Bool.and_eq_false_imp, h]) <;> (repeat' (first | intro _ | split)) <;> (try simp [-Bool.and_eq_false_imp, h])

@[simp] theorem emitPort_brake (p : Port) (s : State)  (h : (s.sup.brakeA && s.sup.brakeB) = false) :
    ((emitPort p s).sup.brakeA && (emitPort p s).sup.brakeB) = false := by
  unfold emitPort
  (repeat' split) <;> (try simp [-Bool.and_eq_false_imp, h]) <;> (repeat' (first | intro _ | (refine foldl_brake _ _ _ (fun s a h => ?_) ?_) | split)) <;> (try simp [-Bool.and_eq_false_imp, h])

@[simp] theorem passEnds_brake (x : EngId) (p : Port) (ld : Load) (note : PassNote) (s : State)  (h : (s.sup.brakeA && s.sup.brakeB) = false) :
    ((passEnds x p ld note s).sup.brakeA && (passEnds x p ld note s).sup.brakeB) = false := by
  unfold passEnds
  simp [-Bool.and_eq_false_imp, h]

@[simp] theorem donePass_brake (x : EngId) (note : PassNote) (s : State)  (h : (s.sup.brakeA && s.sup.brakeB) = false) :
    ((donePass x note s).sup.brakeA && (donePass x note s).sup.brakeB) = false := by
  unfold donePass
  (try simp [-Bool.and_eq_false_imp, h]) <;> (repeat' (first | intro _ | split)) <;> (try simp [-Bool.and_eq_false_imp, h])

@[simp] theorem missDeadline_brake (x : EngId) (p : Port) (s : State)  (h : (s.sup.brakeA && s.sup.brakeB) = false) :
    ((missDeadline x p s).sup.brakeA && (missDeadline x p s).sup.brakeB) = false := by
  unfold missDeadline
  (try simp [-Bool.and_eq_false_imp, h]) <;> (repeat' (first | intro _ | split)) <;> (try simp [-Bool.and_eq_false_imp, h])

@[simp] theorem watchdogPass_brake (x : EngId) (s : State)  (h : (s.sup.brakeA && s.sup.brakeB) = false) :
    ((watchdogPass x s).sup.brakeA && (watchdogPass x s).sup.brakeB) = false := by
  unfold watchdogPass
  (repeat' split) <;> simp [-Bool.and_eq_false_imp, h]

@[simp] theorem queueLoad_brake (p : Port) (d : Doc) (j : Nat) (dv : Delivery) (blank overlap unplaced hot : Bool) (s : State)  (h : (s.sup.brakeA && s.sup.brakeB) = false) :
    ((queueLoad p d j dv blank overlap unplaced hot s).sup.brakeA && (queueLoad p d j dv blank overlap unplaced hot s).sup.brakeB) = false := by
  unfold queueLoad
  (try simp [-Bool.and_eq_false_imp, h]) <;> (repeat' (first | intro _ | split)) <;> (try simp [-Bool.and_eq_false_imp, h])

@[simp] theorem aheadOf_brake (p : Port) (d : Doc) (s : State)  (h : (s.sup.brakeA && s.sup.brakeB) = false) :
    ((aheadOf p d s).sup.brakeA && (aheadOf p d s).sup.brakeB) = false := by
  unfold aheadOf
  (try simp [-Bool.and_eq_false_imp, h]) <;> (repeat' (first | intro _ | split)) <;> (try simp [-Bool.and_eq_false_imp, h])

@[simp] theorem reachAhead_brake (p : Port) (d : Doc) (ups : Upsets) (s : State)  (h : (s.sup.brakeA && s.sup.brakeB) = false) :
    ((reachAhead p d ups s).sup.brakeA && (reachAhead p d ups s).sup.brakeB) = false := by
  unfold reachAhead
  (repeat' split) <;> simp [-Bool.and_eq_false_imp, h]

@[simp] theorem lineAhead_brake (p : Port) (ups : Upsets) (s : State)  (h : (s.sup.brakeA && s.sup.brakeB) = false) :
    ((lineAhead p ups s).sup.brakeA && (lineAhead p ups s).sup.brakeB) = false := by
  unfold lineAhead
  (try simp [-Bool.and_eq_false_imp, h]) <;> (repeat' (first | intro _ | split)) <;> (try simp [-Bool.and_eq_false_imp, h])

@[simp] theorem buildSpit_brake (p : Port) (x : EngId) (note : PassNote) (ld : Load) (s : State)  (h : (s.sup.brakeA && s.sup.brakeB) = false) :
    ((buildSpit p x note ld s).2.sup.brakeA && (buildSpit p x note ld s).2.sup.brakeB) = false := by
  unfold buildSpit
  (try simp [-Bool.and_eq_false_imp, h]) <;> (repeat' (first | intro _ | split)) <;> (try simp [-Bool.and_eq_false_imp, h])

@[simp] theorem spitFaults_brake (p : Port) (line : Nat) (a : Option Nat) (b : Option Nat) (s : State)  (h : (s.sup.brakeA && s.sup.brakeB) = false) :
    ((spitFaults p line a b s).sup.brakeA && (spitFaults p line a b s).sup.brakeB) = false := by
  unfold spitFaults
  (repeat' split) <;> simp [-Bool.and_eq_false_imp, h]

@[simp] theorem spitMismatch_brake (p : Port) (line : Nat) (s : State)  (h : (s.sup.brakeA && s.sup.brakeB) = false) :
    ((spitMismatch p line s).sup.brakeA && (spitMismatch p line s).sup.brakeB) = false := by
  unfold spitMismatch
  (repeat' split) <;> simp [-Bool.and_eq_false_imp, h]

@[simp] theorem judgeSpit_brake (p : Port) (line : Nat) (s : State) (h : (s.sup.brakeA && s.sup.brakeB) = false) :
    ((judgeSpit p line s).sup.brakeA && (judgeSpit p line s).sup.brakeB) = false := by
  have a := pairSettle_brake s h
  generalize hu : pairSettle s = u at a
  have b := spitMismatch_brake p line u a
  generalize hv : spitMismatch p line u = v at b
  have c := pairSettle_brake v b
  unfold judgeSpit
  rw [hu, hv]
  exact c

@[simp] theorem fireSpit_brake (p : Port) (q : Fin 8) (payload : List Byte) (noteA noteB : PassNote) (s : State)
    (h : (s.sup.brakeA && s.sup.brakeB) = false) :
    ((fireSpit p q payload noteA noteB s).2.sup.brakeA && (fireSpit p q payload noteA noteB s).2.sup.brakeB) = false := by
  have b : ∀ line t, (t.sup.brakeA && t.sup.brakeB) = false →
      ((judgeSpit p line (spitFaults p line (passFault noteA) (passFault noteB) t)).sup.brakeA &&
      (judgeSpit p line (spitFaults p line (passFault noteA) (passFault noteB) t)).sup.brakeB) = false :=
    fun line t ht => judgeSpit_brake p line _ (spitFaults_brake p line _ _ t ht)
  have c : ∀ line t u, (t.sup.brakeA && t.sup.brakeB) = false →
      u = judgeSpit p line (spitFaults p line (passFault noteA) (passFault noteB) t) → (u.sup.brakeA && u.sup.brakeB) = false := by
    intro line t u ht hu; rw [hu]; exact b line t ht
  unfold fireSpit
  split
  · exact h
  · dsimp only
    generalize hu : judgeSpit p _ _ = u
    have hb := c _ _ u (by simp [-Bool.and_eq_false_imp, h]) hu.symm
    simp [-Bool.and_eq_false_imp, hb]

@[simp] theorem spitTimer_brake (p : Port) (noteA : PassNote) (noteB : PassNote) (s : State)  (h : (s.sup.brakeA && s.sup.brakeB) = false) :
    ((spitTimer p noteA noteB s).sup.brakeA && (spitTimer p noteA noteB s).sup.brakeB) = false := by
  unfold spitTimer
  (repeat' split) <;> simp [-Bool.and_eq_false_imp, h]

@[simp] theorem sheetSlot_brake (p : Port) (before : List Nat) (dd : List (Nat × Nat)) (noteA : PassNote) (noteB : PassNote) (s : State)  (h : (s.sup.brakeA && s.sup.brakeB) = false) :
    ((sheetSlot p before dd noteA noteB s).sup.brakeA && (sheetSlot p before dd noteA noteB s).sup.brakeB) = false := by
  unfold sheetSlot
  (try simp [-Bool.and_eq_false_imp, h]) <;> (repeat' (first | intro _ | split)) <;> (try simp [-Bool.and_eq_false_imp, h])

@[simp] theorem measureWindow_brake (p : Port) (ld : Load) (w : EchoIn) (win : List (Nat × Bool) × Nat) (s : State)  (h : (s.sup.brakeA && s.sup.brakeB) = false) :
    ((measureWindow p ld w win s).sup.brakeA && (measureWindow p ld w win s).sup.brakeB) = false := by
  unfold measureWindow
  (try simp [-Bool.and_eq_false_imp, h]) <;> (repeat' (first | intro _ | split)) <;> (try simp [-Bool.and_eq_false_imp, h])

@[simp] theorem echoWindow_brake (p : Port) (w : EchoIn) (s : State)  (h : (s.sup.brakeA && s.sup.brakeB) = false) :
    ((echoWindow p w s).sup.brakeA && (echoWindow p w s).sup.brakeB) = false := by
  unfold echoWindow
  (try simp [-Bool.and_eq_false_imp, h]) <;> (repeat' (first | intro _ | split)) <;> (try simp [-Bool.and_eq_false_imp, h])

@[simp] theorem stallReference_brake (i : Fin 4) (s : State)  (h : (s.sup.brakeA && s.sup.brakeB) = false) :
    ((stallReference i s).sup.brakeA && (stallReference i s).sup.brakeB) = false := by
  unfold stallReference
  simp [-Bool.and_eq_false_imp, h]

@[simp] theorem declareStall_brake (i : Fin 4) (s : State)  (h : (s.sup.brakeA && s.sup.brakeB) = false) :
    ((declareStall i s).sup.brakeA && (declareStall i s).sup.brakeB) = false := by
  unfold declareStall
  (try simp [-Bool.and_eq_false_imp, h]) <;> (repeat' (first | intro _ | split)) <;> (try simp [-Bool.and_eq_false_imp, h])

@[simp] theorem servoFinds_brake (i : Fin 4) (run : Nat) (s : State)  (h : (s.sup.brakeA && s.sup.brakeB) = false) :
    ((servoFinds i run s).sup.brakeA && (servoFinds i run s).sup.brakeB) = false := by
  unfold servoFinds
  (repeat' split) <;> simp [-Bool.and_eq_false_imp, h]

@[simp] theorem servoAxis_brake (i : Fin 4) (load : Nat) (s : State)  (h : (s.sup.brakeA && s.sup.brakeB) = false) :
    ((servoAxis i load s).sup.brakeA && (servoAxis i load s).sup.brakeB) = false := by
  unfold servoAxis
  dsimp only
  refine servoFinds_brake _ _ _ ?_
  show ((_ : State).sup.brakeA && (_ : State).sup.brakeB) = false
  simp only [modAxis]
  split
  · exact h
  · (repeat' split) <;> simp [-Bool.and_eq_false_imp, h]

@[simp] theorem servoTick_brake (rd : ServoIn) (s : State)  (h : (s.sup.brakeA && s.sup.brakeB) = false) :
    ((servoTick rd s).sup.brakeA && (servoTick rd s).sup.brakeB) = false := by
  unfold servoTick
  exact servoAxis_brake _ _ _ (servoAxis_brake _ _ _ (servoAxis_brake _ _ _ (servoAxis_brake _ _ _ (by simp [-Bool.and_eq_false_imp, h]))))

@[simp] theorem settleEnd_brake (i : Fin 4) (s : State)  (h : (s.sup.brakeA && s.sup.brakeB) = false) :
    ((settleEnd i s).sup.brakeA && (settleEnd i s).sup.brakeB) = false := by
  unfold settleEnd
  simp [-Bool.and_eq_false_imp, h]

@[simp] theorem limitReference_brake (i : Fin 4) (edge : BitVec 48) (s : State)  (h : (s.sup.brakeA && s.sup.brakeB) = false) :
    ((limitReference i edge s).sup.brakeA && (limitReference i edge s).sup.brakeB) = false := by
  unfold limitReference
  (try simp [-Bool.and_eq_false_imp, h]) <;> (repeat' (first | intro _ | split)) <;> (try simp [-Bool.and_eq_false_imp, h])

@[simp] theorem limitTrips_brake (i : Fin 4) (hi : Bool) (edge : BitVec 48) (s : State)  (h : (s.sup.brakeA && s.sup.brakeB) = false) :
    ((limitTrips i hi edge s).sup.brakeA && (limitTrips i hi edge s).sup.brakeB) = false := by
  unfold limitTrips
  (try simp [-Bool.and_eq_false_imp, h]) <;> (repeat' (first | intro _ | split)) <;> (try simp [-Bool.and_eq_false_imp, h])

@[simp] theorem limitChange_brake (i : Fin 4) (hi : Bool) (level : Bool) (n : Nat) (s : State)  (h : (s.sup.brakeA && s.sup.brakeB) = false) :
    ((limitChange i hi level n s).sup.brakeA && (limitChange i hi level n s).sup.brakeB) = false := by
  unfold limitChange
  (try simp [-Bool.and_eq_false_imp, h]) <;> (repeat' (first | intro _ | split)) <;> (try simp [-Bool.and_eq_false_imp, h])

@[simp] theorem resetDies_brake (s : State)  (h : (s.sup.brakeA && s.sup.brakeB) = false) :
    ((resetDies s).sup.brakeA && (resetDies s).sup.brakeB) = false := by
  unfold resetDies
  simp [-Bool.and_eq_false_imp, h]

@[simp] theorem resetBy_brake (cause : Nat) (s : State)  (h : (s.sup.brakeA && s.sup.brakeB) = false) :
    ((resetBy cause s).sup.brakeA && (resetBy cause s).sup.brakeB) = false := by
  unfold resetBy
  simp [-Bool.and_eq_false_imp, h]

@[simp] theorem vaonRises_brake (s : State)  (h : (s.sup.brakeA && s.sup.brakeB) = false) :
    ((vaonRises s).sup.brakeA && (vaonRises s).sup.brakeB) = false := by
  unfold vaonRises
  (repeat' split) <;> simp [-Bool.and_eq_false_imp, h]

@[simp] theorem vaonFalls_brake (s : State)  (h : (s.sup.brakeA && s.sup.brakeB) = false) :
    ((vaonFalls s).sup.brakeA && (vaonFalls s).sup.brakeB) = false := by
  unfold vaonFalls
  simp [-Bool.and_eq_false_imp, h]

@[simp] theorem mainFalls_brake (i : Fin 6) (s : State)  (h : (s.sup.brakeA && s.sup.brakeB) = false) :
    ((mainFalls i s).sup.brakeA && (mainFalls i s).sup.brakeB) = false := by
  unfold mainFalls
  (try simp [-Bool.and_eq_false_imp, h]) <;> (repeat' (first | intro _ | split)) <;> (try simp [-Bool.and_eq_false_imp, h])

@[simp] theorem perstFalls_brake (s : State)  (h : (s.sup.brakeA && s.sup.brakeB) = false) :
    ((perstFalls s).sup.brakeA && (perstFalls s).sup.brakeB) = false := by
  unfold perstFalls
  (try simp [-Bool.and_eq_false_imp, h]) <;> (repeat' (first | intro _ | split)) <;> (try simp [-Bool.and_eq_false_imp, h])

@[simp] theorem xinFails_brake (s : State)  (h : (s.sup.brakeA && s.sup.brakeB) = false) :
    ((xinFails s).sup.brakeA && (xinFails s).sup.brakeB) = false := by
  unfold xinFails
  (repeat' split) <;> simp [-Bool.and_eq_false_imp, h]

@[simp] theorem shutDown_brake (cause : TripCause) (s : State)  (h : (s.sup.brakeA && s.sup.brakeB) = false) :
    ((shutDown cause s).sup.brakeA && (shutDown cause s).sup.brakeB) = false := by
  unfold shutDown
  split
  · dsimp only
    split <;> simp [-Bool.and_eq_false_imp, h]
  · exact h

@[simp] theorem driveTrip_brake (s : State)  (h : (s.sup.brakeA && s.sup.brakeB) = false) :
    ((driveTrip s).sup.brakeA && (driveTrip s).sup.brakeB) = false := by
  unfold driveTrip
  (repeat' split) <;> simp [-Bool.and_eq_false_imp, h]

@[simp] theorem writeSupCmd_brake (w : Word) (s : State)  (h : (s.sup.brakeA && s.sup.brakeB) = false) :
    ((writeSupCmd w s).sup.brakeA && (writeSupCmd w s).sup.brakeB) = false := by
  unfold writeSupCmd
  (repeat' split) <;> simp [-Bool.and_eq_false_imp, h]

@[simp] theorem writeSup_brake (off : Nat) (w : Word) (s : State)  (h : (s.sup.brakeA && s.sup.brakeB) = false) :
    ((writeSup off w s).sup.brakeA && (writeSup off w s).sup.brakeB) = false := by
  unfold writeSup
  (repeat' split) <;> simp [-Bool.and_eq_false_imp, h]

@[simp] theorem writeSense_brake (p : Port) (w : Word) (s : State)  (h : (s.sup.brakeA && s.sup.brakeB) = false) :
    ((writeSense p w s).sup.brakeA && (writeSense p w s).sup.brakeB) = false := by
  unfold writeSense
  simp [-Bool.and_eq_false_imp, h]

@[simp] theorem writeHdv_brake (off : Nat) (w : Word) (s : State)  (h : (s.sup.brakeA && s.sup.brakeB) = false) :
    ((writeHdv off w s).sup.brakeA && (writeHdv off w s).sup.brakeB) = false := by
  unfold writeHdv
  have e : ∀ (p : Port), ((guarded (writeSense p w) s).sup.brakeA && (guarded (writeSense p w) s).sup.brakeB) = false := by
    intro p; unfold guarded writeSense; split <;> simp [-Bool.and_eq_false_imp, h]
  dsimp only
  (repeat' split) <;> first | exact e _ | (simp [-Bool.and_eq_false_imp, h]; done) | (repeat' split) <;> simp [-Bool.and_eq_false_imp, h]

@[simp] theorem writeWord_brake (off : Nat) (w : Word) (s : State)  (h : (s.sup.brakeA && s.sup.brakeB) = false) :
    ((writeWord off w s).sup.brakeA && (writeWord off w s).sup.brakeB) = false := by
  unfold writeWord
  by_cases h0 : off < 0x1000
  · simp only [if_pos h0]; first | (simp [-Bool.and_eq_false_imp, h]; done) | (split <;> simp [-Bool.and_eq_false_imp, h]; done) | (split <;> [simp [-Bool.and_eq_false_imp, h]; (split <;> simp [-Bool.and_eq_false_imp, h])])
  simp only [if_neg h0]
  by_cases h1 : off < 0x2000
  · simp only [if_pos h1]; first | (simp [-Bool.and_eq_false_imp, h]; done) | (split <;> simp [-Bool.and_eq_false_imp, h]; done) | (split <;> [simp [-Bool.and_eq_false_imp, h]; (split <;> simp [-Bool.and_eq_false_imp, h])])
  simp only [if_neg h1]
  by_cases h2 : off < 0x3000
  · simp only [if_pos h2]; first | (simp [-Bool.and_eq_false_imp, h]; done) | (split <;> simp [-Bool.and_eq_false_imp, h]; done) | (split <;> [simp [-Bool.and_eq_false_imp, h]; (split <;> simp [-Bool.and_eq_false_imp, h])])
  simp only [if_neg h2]
  by_cases h3 : off < 0x4000
  · simp only [if_pos h3]; first | (simp [-Bool.and_eq_false_imp, h]; done) | (split <;> simp [-Bool.and_eq_false_imp, h]; done) | (split <;> [simp [-Bool.and_eq_false_imp, h]; (split <;> simp [-Bool.and_eq_false_imp, h])])
  simp only [if_neg h3]
  by_cases h4 : off < 0x5000
  · simp only [if_pos h4]; first | (simp [-Bool.and_eq_false_imp, h]; done) | (split <;> simp [-Bool.and_eq_false_imp, h]; done) | (split <;> [simp [-Bool.and_eq_false_imp, h]; (split <;> simp [-Bool.and_eq_false_imp, h])])
  simp only [if_neg h4]
  by_cases h5 : off < 0x6000
  · simp only [if_pos h5]; first | (simp [-Bool.and_eq_false_imp, h]; done) | (split <;> simp [-Bool.and_eq_false_imp, h]; done) | (split <;> [simp [-Bool.and_eq_false_imp, h]; (split <;> simp [-Bool.and_eq_false_imp, h])])
  simp only [if_neg h5]
  by_cases h6 : off < 0x7000
  · simp only [if_pos h6]; first | (simp [-Bool.and_eq_false_imp, h]; done) | (split <;> simp [-Bool.and_eq_false_imp, h]; done) | (split <;> [simp [-Bool.and_eq_false_imp, h]; (split <;> simp [-Bool.and_eq_false_imp, h])])
  simp only [if_neg h6]
  by_cases h7 : off < 0x8000
  · simp only [if_pos h7]; first | (simp [-Bool.and_eq_false_imp, h]; done) | (split <;> simp [-Bool.and_eq_false_imp, h]; done) | (split <;> [simp [-Bool.and_eq_false_imp, h]; (split <;> simp [-Bool.and_eq_false_imp, h])])
  simp only [if_neg h7]
  by_cases h8 : off < 0xA000
  · simp only [if_pos h8]; first | (simp [-Bool.and_eq_false_imp, h]; done) | (split <;> simp [-Bool.and_eq_false_imp, h]; done) | (split <;> [simp [-Bool.and_eq_false_imp, h]; (split <;> simp [-Bool.and_eq_false_imp, h])])
  simp only [if_neg h8]
  by_cases h9 : off < 0xB000
  · simp only [if_pos h9]; first | (simp [-Bool.and_eq_false_imp, h]; done) | (split <;> simp [-Bool.and_eq_false_imp, h]; done) | (split <;> [simp [-Bool.and_eq_false_imp, h]; (split <;> simp [-Bool.and_eq_false_imp, h])])
  simp only [if_neg h9]
  by_cases h10 : off < 0xC000
  · simp only [if_pos h10]; first | (simp [-Bool.and_eq_false_imp, h]; done) | (split <;> simp [-Bool.and_eq_false_imp, h]; done) | (split <;> [simp [-Bool.and_eq_false_imp, h]; (split <;> simp [-Bool.and_eq_false_imp, h])])
  simp only [if_neg h10]
  by_cases h11 : off < 0xC800
  · simp only [if_pos h11]; first | (simp [-Bool.and_eq_false_imp, h]; done) | (split <;> simp [-Bool.and_eq_false_imp, h]; done) | (split <;> [simp [-Bool.and_eq_false_imp, h]; (split <;> simp [-Bool.and_eq_false_imp, h])])
  simp only [if_neg h11]
  by_cases h12 : off < 0xD000
  · simp only [if_pos h12]; first | (simp [-Bool.and_eq_false_imp, h]; done) | (split <;> simp [-Bool.and_eq_false_imp, h]; done) | (split <;> [simp [-Bool.and_eq_false_imp, h]; (split <;> simp [-Bool.and_eq_false_imp, h])])
  simp only [if_neg h12]
  by_cases h13 : off < 0xE000
  · simp only [if_pos h13]; first | (simp [-Bool.and_eq_false_imp, h]; done) | (split <;> simp [-Bool.and_eq_false_imp, h]; done) | (split <;> [simp [-Bool.and_eq_false_imp, h]; (split <;> simp [-Bool.and_eq_false_imp, h])])
  simp only [if_neg h13]
  by_cases h14 : off < 0xF000
  · simp only [if_pos h14]; first | (simp [-Bool.and_eq_false_imp, h]; done) | (split <;> simp [-Bool.and_eq_false_imp, h]; done) | (split <;> [simp [-Bool.and_eq_false_imp, h]; (split <;> simp [-Bool.and_eq_false_imp, h])])
  simp only [if_neg h14]
  by_cases h15 : off < 0x10000
  · simp only [if_pos h15]; first | (simp [-Bool.and_eq_false_imp, h]; done) | (split <;> simp [-Bool.and_eq_false_imp, h]; done) | (split <;> [simp [-Bool.and_eq_false_imp, h]; (split <;> simp [-Bool.and_eq_false_imp, h])])
  simp only [if_neg h15]
  by_cases h16 : off < 0x18000
  · simp only [if_pos h16]; first | (simp [-Bool.and_eq_false_imp, h]; done) | (split <;> simp [-Bool.and_eq_false_imp, h]; done) | (split <;> [simp [-Bool.and_eq_false_imp, h]; (split <;> simp [-Bool.and_eq_false_imp, h])])
  simp only [if_neg h16]
  by_cases h17 : off < 0x20000
  · simp only [if_pos h17]; first | (simp [-Bool.and_eq_false_imp, h]; done) | (split <;> simp [-Bool.and_eq_false_imp, h]; done) | (split <;> [simp [-Bool.and_eq_false_imp, h]; (split <;> simp [-Bool.and_eq_false_imp, h])])
  simp only [if_neg h17]
  by_cases h18 : off < 0x24000
  · simp only [if_pos h18]; first | (simp [-Bool.and_eq_false_imp, h]; done) | (split <;> simp [-Bool.and_eq_false_imp, h]; done) | (split <;> [simp [-Bool.and_eq_false_imp, h]; (split <;> simp [-Bool.and_eq_false_imp, h])])
  simp only [if_neg h18]
  by_cases h19 : off < 0x28000
  · simp only [if_pos h19]; first | (simp [-Bool.and_eq_false_imp, h]; done) | (split <;> simp [-Bool.and_eq_false_imp, h]; done) | (split <;> [simp [-Bool.and_eq_false_imp, h]; (split <;> simp [-Bool.and_eq_false_imp, h])])
  simp only [if_neg h19]
  split <;> simp [-Bool.and_eq_false_imp, h]

@[simp] theorem writeRegister_brake (bus : Bus) (off : Nat) (val : DWord) (be : BitVec 8) (s : State)  (h : (s.sup.brakeA && s.sup.brakeB) = false) :
    ((writeRegister bus off val be s).sup.brakeA && (writeRegister bus off val be s).sup.brakeB) = false := by
  have e : ∀ off b e (u : State), (u.sup.brakeA && u.sup.brakeB) = false → ((writePart writeWord off b e u).sup.brakeA && (writePart writeWord off b e u).sup.brakeB) = false := by
    intro off b e u hu; unfold writePart; (repeat' split) <;> simp [-Bool.and_eq_false_imp, hu]
  unfold writeRegister writeAccess
  split
  · exact e _ _ _ _ (e _ _ _ _ (e _ _ _ _ h))
  · simp [-Bool.and_eq_false_imp, h]
  · simp [-Bool.and_eq_false_imp, h]
  · simp [-Bool.and_eq_false_imp, h]

@[simp] theorem loadWord_brake (off : Nat) (w : Word) (s : State)  (h : (s.sup.brakeA && s.sup.brakeB) = false) :
    ((loadWord off w s).sup.brakeA && (loadWord off w s).sup.brakeB) = false := by
  unfold loadWord
  (repeat' split) <;> simp [-Bool.and_eq_false_imp, h]

@[simp] theorem loadAll_brake (l : List (Nat × Word)) (s : State)  (h : (s.sup.brakeA && s.sup.brakeB) = false) :
    ((loadAll l s).sup.brakeA && (loadAll l s).sup.brakeB) = false := by
  unfold loadAll
  (repeat' split) <;> (try simp [-Bool.and_eq_false_imp, h]) <;> (repeat' (first | intro _ | (refine foldl_brake _ _ _ (fun s a h => ?_) ?_) | split)) <;> (try simp [-Bool.and_eq_false_imp, h])

@[simp] theorem applyImage_brake (slotB : Bool) (i : Image) (s : State)  (h : (s.sup.brakeA && s.sup.brakeB) = false) :
    ((applyImage slotB i s).sup.brakeA && (applyImage slotB i s).sup.brakeB) = false := by
  unfold applyImage
  dsimp only
  (repeat' split) <;> simp [-Bool.and_eq_false_imp, h]

@[simp] theorem reloadDone_brake (image : List Byte) (s : State)  (h : (s.sup.brakeA && s.sup.brakeB) = false) :
    ((reloadDone image s).sup.brakeA && (reloadDone image s).sup.brakeB) = false := by
  unfold reloadDone
  dsimp only
  (repeat' split) <;> simp [-Bool.and_eq_false_imp, h]

@[simp] theorem configDone_brake (a : List Byte) (b : List Byte) (tenth : Nat) (s : State)  (h : (s.sup.brakeA && s.sup.brakeB) = false) :
    ((configDone a b tenth s).sup.brakeA && (configDone a b tenth s).sup.brakeB) = false := by
  unfold configDone
  (try simp [-Bool.and_eq_false_imp, h]) <;> (repeat' (first | intro _ | split)) <;> (try simp [-Bool.and_eq_false_imp, h])

@[simp] theorem giveRoles_brake (passA : Bool) (passB : Bool) (s : State)  (h : (s.sup.brakeA && s.sup.brakeB) = false) :
    ((giveRoles passA passB s).2.sup.brakeA && (giveRoles passA passB s).2.sup.brakeB) = false := by
  unfold giveRoles
  (repeat' split) <;> simp [-Bool.and_eq_false_imp, h]

@[simp] theorem selftestDone_brake (passA : Bool) (passB : Bool) (ing : BitVec 20) (egr : BitVec 16) (tenth : Nat) (s : State)  (h : (s.sup.brakeA && s.sup.brakeB) = false) :
    ((selftestDone passA passB ing egr tenth s).sup.brakeA && (selftestDone passA passB ing egr tenth s).sup.brakeB) = false := by
  unfold selftestDone
  (repeat' split) <;> simp [-Bool.and_eq_false_imp, h]

@[simp] theorem enterStandby_brake (s : State)  (h : (s.sup.brakeA && s.sup.brakeB) = false) :
    ((enterStandby s).sup.brakeA && (enterStandby s).sup.brakeB) = false := by
  unfold enterStandby
  (repeat' split) <;> simp [-Bool.and_eq_false_imp, h]

@[simp] theorem quietActions_brake (s : State)  (h : (s.sup.brakeA && s.sup.brakeB) = false) :
    ((quietActions s).sup.brakeA && (quietActions s).sup.brakeB) = false := by
  unfold quietActions
  (repeat' split) <;> simp [-Bool.and_eq_false_imp, h]

@[simp] theorem settle_brake (s0 : State) (s : State)  (h : (s.sup.brakeA && s.sup.brakeB) = false) :
    ((settle s0 s).sup.brakeA && (settle s0 s).sup.brakeB) = false := by
  unfold settle
  simp [-Bool.and_eq_false_imp, h]

end Sys2Proof.Machine
end

