-- ==== Sys2Proof/Laws/State.lean ====
section
/-! SUPPORT. One lemma for each field of the state under each update of one part: the part changes as the update says, the rest does not. -/

namespace Sys2Proof.Machine

@[simp] theorem setDma_pending (ch : Chan) (d : Dma) (s : State) : (setDma ch d s).pending = s.pending := rfl
@[simp] theorem setDma_now (ch : Chan) (d : Dma) (s : State) : (setDma ch d s).now = s.now := rfl
@[simp] theorem setDma_free (ch : Chan) (d : Dma) (s : State) : (setDma ch d s).free = s.free := rfl
@[simp] theorem setDma_top (ch : Chan) (d : Dma) (s : State) : (setDma ch d s).top = s.top := rfl
@[simp] theorem setDma_evt (ch : Chan) (d : Dma) (s : State) : (setDma ch d s).evt = s.evt := rfl
@[simp] theorem setDma_link (ch : Chan) (d : Dma) (s : State) : (setDma ch d s).link = s.link := rfl
@[simp] theorem setDma_dma (ch : Chan) (d : Dma) (s : State) : (setDma ch d s).dma = s.dma.set ch.val d ch.isLt := rfl
@[simp] theorem setDma_pond (ch : Chan) (d : Dma) (s : State) : (setDma ch d s).pond = s.pond := rfl
@[simp] theorem setDma_docs (ch : Chan) (d : Dma) (s : State) : (setDma ch d s).docs = s.docs := rfl
@[simp] theorem setDma_chk (ch : Chan) (d : Dma) (s : State) : (setDma ch d s).chk = s.chk := rfl
@[simp] theorem setDma_enc (ch : Chan) (d : Dma) (s : State) : (setDma ch d s).enc = s.enc := rfl
@[simp] theorem setDma_ftl (ch : Chan) (d : Dma) (s : State) : (setDma ch d s).ftl = s.ftl := rfl
@[simp] theorem setDma_prof (ch : Chan) (d : Dma) (s : State) : (setDma ch d s).prof = s.prof := rfl
@[simp] theorem setDma_loads (ch : Chan) (d : Dma) (s : State) : (setDma ch d s).loads = s.loads := rfl
@[simp] theorem setDma_track (ch : Chan) (d : Dma) (s : State) : (setDma ch d s).track = s.track := rfl
@[simp] theorem setDma_engA (ch : Chan) (d : Dma) (s : State) : (setDma ch d s).engA = s.engA := rfl
@[simp] theorem setDma_engB (ch : Chan) (d : Dma) (s : State) : (setDma ch d s).engB = s.engB := rfl
@[simp] theorem setDma_sup (ch : Chan) (d : Dma) (s : State) : (setDma ch d s).sup = s.sup := rfl
@[simp] theorem setDma_hp (ch : Chan) (d : Dma) (s : State) : (setDma ch d s).hp = s.hp := rfl
@[simp] theorem setDma_hdv (ch : Chan) (d : Dma) (s : State) : (setDma ch d s).hdv = s.hdv := rfl
@[simp] theorem setDma_nzh (ch : Chan) (d : Dma) (s : State) : (setDma ch d s).nzh = s.nzh := rfl
@[simp] theorem setDma_thm (ch : Chan) (d : Dma) (s : State) : (setDma ch d s).thm = s.thm := rfl
@[simp] theorem setDma_mot (ch : Chan) (d : Dma) (s : State) : (setDma ch d s).mot = s.mot := rfl
@[simp] theorem setDma_cal (ch : Chan) (d : Dma) (s : State) : (setDma ch d s).cal = s.cal := rfl
@[simp] theorem setDma_otp (ch : Chan) (d : Dma) (s : State) : (setDma ch d s).otp = s.otp := rfl
@[simp] theorem setDma_tpt (ch : Chan) (d : Dma) (s : State) : (setDma ch d s).tpt = s.tpt := rfl
@[simp] theorem setDma_cap (ch : Chan) (d : Dma) (s : State) : (setDma ch d s).cap = s.cap := rfl
@[simp] theorem setDma_pwr (ch : Chan) (d : Dma) (s : State) : (setDma ch d s).pwr = s.pwr := rfl
@[simp] theorem setDma_mgt (ch : Chan) (d : Dma) (s : State) : (setDma ch d s).mgt = s.mgt := rfl
@[simp] theorem setDma_out (ch : Chan) (d : Dma) (s : State) : (setDma ch d s).out = s.out := rfl

@[simp] theorem setHp_pending (p : Port) (h : HeadPort) (s : State) : (setHp p h s).pending = s.pending := rfl
@[simp] theorem setHp_now (p : Port) (h : HeadPort) (s : State) : (setHp p h s).now = s.now := rfl
@[simp] theorem setHp_free (p : Port) (h : HeadPort) (s : State) : (setHp p h s).free = s.free := rfl
@[simp] theorem setHp_top (p : Port) (h : HeadPort) (s : State) : (setHp p h s).top = s.top := rfl
@[simp] theorem setHp_evt (p : Port) (h : HeadPort) (s : State) : (setHp p h s).evt = s.evt := rfl
@[simp] theorem setHp_link (p : Port) (h : HeadPort) (s : State) : (setHp p h s).link = s.link := rfl
@[simp] theorem setHp_dma (p : Port) (h : HeadPort) (s : State) : (setHp p h s).dma = s.dma := rfl
@[simp] theorem setHp_pond (p : Port) (h : HeadPort) (s : State) : (setHp p h s).pond = s.pond := rfl
@[simp] theorem setHp_docs (p : Port) (h : HeadPort) (s : State) : (setHp p h s).docs = s.docs := rfl
@[simp] theorem setHp_chk (p : Port) (h : HeadPort) (s : State) : (setHp p h s).chk = s.chk := rfl
@[simp] theorem setHp_enc (p : Port) (h : HeadPort) (s : State) : (setHp p h s).enc = s.enc := rfl
@[simp] theorem setHp_ftl (p : Port) (h : HeadPort) (s : State) : (setHp p h s).ftl = s.ftl := rfl
@[simp] theorem setHp_prof (p : Port) (h : HeadPort) (s : State) : (setHp p h s).prof = s.prof := rfl
@[simp] theorem setHp_loads (p : Port) (h : HeadPort) (s : State) : (setHp p h s).loads = s.loads := rfl
@[simp] theorem setHp_track (p : Port) (h : HeadPort) (s : State) : (setHp p h s).track = s.track := rfl
@[simp] theorem setHp_engA (p : Port) (h : HeadPort) (s : State) : (setHp p h s).engA = s.engA := rfl
@[simp] theorem setHp_engB (p : Port) (h : HeadPort) (s : State) : (setHp p h s).engB = s.engB := rfl
@[simp] theorem setHp_sup (p : Port) (h : HeadPort) (s : State) : (setHp p h s).sup = s.sup := rfl
@[simp] theorem setHp_hp (p : Port) (h : HeadPort) (s : State) : (setHp p h s).hp = s.hp.set p.val h p.isLt := rfl
@[simp] theorem setHp_hdv (p : Port) (h : HeadPort) (s : State) : (setHp p h s).hdv = s.hdv := rfl
@[simp] theorem setHp_nzh (p : Port) (h : HeadPort) (s : State) : (setHp p h s).nzh = s.nzh := rfl
@[simp] theorem setHp_thm (p : Port) (h : HeadPort) (s : State) : (setHp p h s).thm = s.thm := rfl
@[simp] theorem setHp_mot (p : Port) (h : HeadPort) (s : State) : (setHp p h s).mot = s.mot := rfl
@[simp] theorem setHp_cal (p : Port) (h : HeadPort) (s : State) : (setHp p h s).cal = s.cal := rfl
@[simp] theorem setHp_otp (p : Port) (h : HeadPort) (s : State) : (setHp p h s).otp = s.otp := rfl
@[simp] theorem setHp_tpt (p : Port) (h : HeadPort) (s : State) : (setHp p h s).tpt = s.tpt := rfl
@[simp] theorem setHp_cap (p : Port) (h : HeadPort) (s : State) : (setHp p h s).cap = s.cap := rfl
@[simp] theorem setHp_pwr (p : Port) (h : HeadPort) (s : State) : (setHp p h s).pwr = s.pwr := rfl
@[simp] theorem setHp_mgt (p : Port) (h : HeadPort) (s : State) : (setHp p h s).mgt = s.mgt := rfl
@[simp] theorem setHp_out (p : Port) (h : HeadPort) (s : State) : (setHp p h s).out = s.out := rfl

@[simp] theorem setStore_pending (p : Port) (t : PortStore) (s : State) : (setStore p t s).pending = s.pending := rfl
@[simp] theorem setStore_now (p : Port) (t : PortStore) (s : State) : (setStore p t s).now = s.now := rfl
@[simp] theorem setStore_free (p : Port) (t : PortStore) (s : State) : (setStore p t s).free = s.free := rfl
@[simp] theorem setStore_top (p : Port) (t : PortStore) (s : State) : (setStore p t s).top = s.top := rfl
@[simp] theorem setStore_evt (p : Port) (t : PortStore) (s : State) : (setStore p t s).evt = s.evt := rfl
@[simp] theorem setStore_link (p : Port) (t : PortStore) (s : State) : (setStore p t s).link = s.link := rfl
@[simp] theorem setStore_dma (p : Port) (t : PortStore) (s : State) : (setStore p t s).dma = s.dma := rfl
@[simp] theorem setStore_docs (p : Port) (t : PortStore) (s : State) : (setStore p t s).docs = s.docs := rfl
@[simp] theorem setStore_chk (p : Port) (t : PortStore) (s : State) : (setStore p t s).chk = s.chk := rfl
@[simp] theorem setStore_enc (p : Port) (t : PortStore) (s : State) : (setStore p t s).enc = s.enc := rfl
@[simp] theorem setStore_ftl (p : Port) (t : PortStore) (s : State) : (setStore p t s).ftl = s.ftl := rfl
@[simp] theorem setStore_prof (p : Port) (t : PortStore) (s : State) : (setStore p t s).prof = s.prof := rfl
@[simp] theorem setStore_loads (p : Port) (t : PortStore) (s : State) : (setStore p t s).loads = s.loads := rfl
@[simp] theorem setStore_track (p : Port) (t : PortStore) (s : State) : (setStore p t s).track = s.track := rfl
@[simp] theorem setStore_engA (p : Port) (t : PortStore) (s : State) : (setStore p t s).engA = s.engA := rfl
@[simp] theorem setStore_engB (p : Port) (t : PortStore) (s : State) : (setStore p t s).engB = s.engB := rfl
@[simp] theorem setStore_sup (p : Port) (t : PortStore) (s : State) : (setStore p t s).sup = s.sup := rfl
@[simp] theorem setStore_hp (p : Port) (t : PortStore) (s : State) : (setStore p t s).hp = s.hp := rfl
@[simp] theorem setStore_hdv (p : Port) (t : PortStore) (s : State) : (setStore p t s).hdv = s.hdv := rfl
@[simp] theorem setStore_nzh (p : Port) (t : PortStore) (s : State) : (setStore p t s).nzh = s.nzh := rfl
@[simp] theorem setStore_thm (p : Port) (t : PortStore) (s : State) : (setStore p t s).thm = s.thm := rfl
@[simp] theorem setStore_mot (p : Port) (t : PortStore) (s : State) : (setStore p t s).mot = s.mot := rfl
@[simp] theorem setStore_cal (p : Port) (t : PortStore) (s : State) : (setStore p t s).cal = s.cal := rfl
@[simp] theorem setStore_otp (p : Port) (t : PortStore) (s : State) : (setStore p t s).otp = s.otp := rfl
@[simp] theorem setStore_tpt (p : Port) (t : PortStore) (s : State) : (setStore p t s).tpt = s.tpt := rfl
@[simp] theorem setStore_cap (p : Port) (t : PortStore) (s : State) : (setStore p t s).cap = s.cap := rfl
@[simp] theorem setStore_pwr (p : Port) (t : PortStore) (s : State) : (setStore p t s).pwr = s.pwr := rfl
@[simp] theorem setStore_mgt (p : Port) (t : PortStore) (s : State) : (setStore p t s).mgt = s.mgt := rfl
@[simp] theorem setStore_out (p : Port) (t : PortStore) (s : State) : (setStore p t s).out = s.out := rfl

@[simp] theorem setTrack_pending (p : Port) (t : PortTrack) (s : State) : (setTrack p t s).pending = s.pending := rfl
@[simp] theorem setTrack_now (p : Port) (t : PortTrack) (s : State) : (setTrack p t s).now = s.now := rfl
@[simp] theorem setTrack_free (p : Port) (t : PortTrack) (s : State) : (setTrack p t s).free = s.free := rfl
@[simp] theorem setTrack_top (p : Port) (t : PortTrack) (s : State) : (setTrack p t s).top = s.top := rfl
@[simp] theorem setTrack_evt (p : Port) (t : PortTrack) (s : State) : (setTrack p t s).evt = s.evt := rfl
@[simp] theorem setTrack_link (p : Port) (t : PortTrack) (s : State) : (setTrack p t s).link = s.link := rfl
@[simp] theorem setTrack_dma (p : Port) (t : PortTrack) (s : State) : (setTrack p t s).dma = s.dma := rfl
@[simp] theorem setTrack_pond (p : Port) (t : PortTrack) (s : State) : (setTrack p t s).pond = s.pond := rfl
@[simp] theorem setTrack_docs (p : Port) (t : PortTrack) (s : State) : (setTrack p t s).docs = s.docs := rfl
@[simp] theorem setTrack_chk (p : Port) (t : PortTrack) (s : State) : (setTrack p t s).chk = s.chk := rfl
@[simp] theorem setTrack_enc (p : Port) (t : PortTrack) (s : State) : (setTrack p t s).enc = s.enc := rfl
@[simp] theorem setTrack_ftl (p : Port) (t : PortTrack) (s : State) : (setTrack p t s).ftl = s.ftl := rfl
@[simp] theorem setTrack_prof (p : Port) (t : PortTrack) (s : State) : (setTrack p t s).prof = s.prof := rfl
@[simp] theorem setTrack_loads (p : Port) (t : PortTrack) (s : State) : (setTrack p t s).loads = s.loads := rfl
@[simp] theorem setTrack_track (p : Port) (t : PortTrack) (s : State) : (setTrack p t s).track = s.track.set p.val t p.isLt := rfl
@[simp] theorem setTrack_engA (p : Port) (t : PortTrack) (s : State) : (setTrack p t s).engA = s.engA := rfl
@[simp] theorem setTrack_engB (p : Port) (t : PortTrack) (s : State) : (setTrack p t s).engB = s.engB := rfl
@[simp] theorem setTrack_sup (p : Port) (t : PortTrack) (s : State) : (setTrack p t s).sup = s.sup := rfl
@[simp] theorem setTrack_hp (p : Port) (t : PortTrack) (s : State) : (setTrack p t s).hp = s.hp := rfl
@[simp] theorem setTrack_hdv (p : Port) (t : PortTrack) (s : State) : (setTrack p t s).hdv = s.hdv := rfl
@[simp] theorem setTrack_nzh (p : Port) (t : PortTrack) (s : State) : (setTrack p t s).nzh = s.nzh := rfl
@[simp] theorem setTrack_thm (p : Port) (t : PortTrack) (s : State) : (setTrack p t s).thm = s.thm := rfl
@[simp] theorem setTrack_mot (p : Port) (t : PortTrack) (s : State) : (setTrack p t s).mot = s.mot := rfl
@[simp] theorem setTrack_cal (p : Port) (t : PortTrack) (s : State) : (setTrack p t s).cal = s.cal := rfl
@[simp] theorem setTrack_otp (p : Port) (t : PortTrack) (s : State) : (setTrack p t s).otp = s.otp := rfl
@[simp] theorem setTrack_tpt (p : Port) (t : PortTrack) (s : State) : (setTrack p t s).tpt = s.tpt := rfl
@[simp] theorem setTrack_cap (p : Port) (t : PortTrack) (s : State) : (setTrack p t s).cap = s.cap := rfl
@[simp] theorem setTrack_pwr (p : Port) (t : PortTrack) (s : State) : (setTrack p t s).pwr = s.pwr := rfl
@[simp] theorem setTrack_mgt (p : Port) (t : PortTrack) (s : State) : (setTrack p t s).mgt = s.mgt := rfl
@[simp] theorem setTrack_out (p : Port) (t : PortTrack) (s : State) : (setTrack p t s).out = s.out := rfl

@[simp] theorem setLoads_pending (p : Port) (l : List Load) (s : State) : (setLoads p l s).pending = s.pending := rfl
@[simp] theorem setLoads_now (p : Port) (l : List Load) (s : State) : (setLoads p l s).now = s.now := rfl
@[simp] theorem setLoads_free (p : Port) (l : List Load) (s : State) : (setLoads p l s).free = s.free := rfl
@[simp] theorem setLoads_top (p : Port) (l : List Load) (s : State) : (setLoads p l s).top = s.top := rfl
@[simp] theorem setLoads_evt (p : Port) (l : List Load) (s : State) : (setLoads p l s).evt = s.evt := rfl
@[simp] theorem setLoads_link (p : Port) (l : List Load) (s : State) : (setLoads p l s).link = s.link := rfl
@[simp] theorem setLoads_dma (p : Port) (l : List Load) (s : State) : (setLoads p l s).dma = s.dma := rfl
@[simp] theorem setLoads_pond (p : Port) (l : List Load) (s : State) : (setLoads p l s).pond = s.pond := rfl
@[simp] theorem setLoads_docs (p : Port) (l : List Load) (s : State) : (setLoads p l s).docs = s.docs := rfl
@[simp] theorem setLoads_chk (p : Port) (l : List Load) (s : State) : (setLoads p l s).chk = s.chk := rfl
@[simp] theorem setLoads_enc (p : Port) (l : List Load) (s : State) : (setLoads p l s).enc = s.enc := rfl
@[simp] theorem setLoads_ftl (p : Port) (l : List Load) (s : State) : (setLoads p l s).ftl = s.ftl := rfl
@[simp] theorem setLoads_prof (p : Port) (l : List Load) (s : State) : (setLoads p l s).prof = s.prof := rfl
@[simp] theorem setLoads_loads (p : Port) (l : List Load) (s : State) : (setLoads p l s).loads = s.loads.set p.val l p.isLt := rfl
@[simp] theorem setLoads_track (p : Port) (l : List Load) (s : State) : (setLoads p l s).track = s.track := rfl
@[simp] theorem setLoads_engA (p : Port) (l : List Load) (s : State) : (setLoads p l s).engA = s.engA := rfl
@[simp] theorem setLoads_engB (p : Port) (l : List Load) (s : State) : (setLoads p l s).engB = s.engB := rfl
@[simp] theorem setLoads_sup (p : Port) (l : List Load) (s : State) : (setLoads p l s).sup = s.sup := rfl
@[simp] theorem setLoads_hp (p : Port) (l : List Load) (s : State) : (setLoads p l s).hp = s.hp := rfl
@[simp] theorem setLoads_hdv (p : Port) (l : List Load) (s : State) : (setLoads p l s).hdv = s.hdv := rfl
@[simp] theorem setLoads_nzh (p : Port) (l : List Load) (s : State) : (setLoads p l s).nzh = s.nzh := rfl
@[simp] theorem setLoads_thm (p : Port) (l : List Load) (s : State) : (setLoads p l s).thm = s.thm := rfl
@[simp] theorem setLoads_mot (p : Port) (l : List Load) (s : State) : (setLoads p l s).mot = s.mot := rfl
@[simp] theorem setLoads_cal (p : Port) (l : List Load) (s : State) : (setLoads p l s).cal = s.cal := rfl
@[simp] theorem setLoads_otp (p : Port) (l : List Load) (s : State) : (setLoads p l s).otp = s.otp := rfl
@[simp] theorem setLoads_tpt (p : Port) (l : List Load) (s : State) : (setLoads p l s).tpt = s.tpt := rfl
@[simp] theorem setLoads_cap (p : Port) (l : List Load) (s : State) : (setLoads p l s).cap = s.cap := rfl
@[simp] theorem setLoads_pwr (p : Port) (l : List Load) (s : State) : (setLoads p l s).pwr = s.pwr := rfl
@[simp] theorem setLoads_mgt (p : Port) (l : List Load) (s : State) : (setLoads p l s).mgt = s.mgt := rfl
@[simp] theorem setLoads_out (p : Port) (l : List Load) (s : State) : (setLoads p l s).out = s.out := rfl

@[simp] theorem setNzh_pending (p : Port) (z : Nzh) (s : State) : (setNzh p z s).pending = s.pending := rfl
@[simp] theorem setNzh_now (p : Port) (z : Nzh) (s : State) : (setNzh p z s).now = s.now := rfl
@[simp] theorem setNzh_free (p : Port) (z : Nzh) (s : State) : (setNzh p z s).free = s.free := rfl
@[simp] theorem setNzh_top (p : Port) (z : Nzh) (s : State) : (setNzh p z s).top = s.top := rfl
@[simp] theorem setNzh_evt (p : Port) (z : Nzh) (s : State) : (setNzh p z s).evt = s.evt := rfl
@[simp] theorem setNzh_link (p : Port) (z : Nzh) (s : State) : (setNzh p z s).link = s.link := rfl
@[simp] theorem setNzh_dma (p : Port) (z : Nzh) (s : State) : (setNzh p z s).dma = s.dma := rfl
@[simp] theorem setNzh_pond (p : Port) (z : Nzh) (s : State) : (setNzh p z s).pond = s.pond := rfl
@[simp] theorem setNzh_docs (p : Port) (z : Nzh) (s : State) : (setNzh p z s).docs = s.docs := rfl
@[simp] theorem setNzh_chk (p : Port) (z : Nzh) (s : State) : (setNzh p z s).chk = s.chk := rfl
@[simp] theorem setNzh_enc (p : Port) (z : Nzh) (s : State) : (setNzh p z s).enc = s.enc := rfl
@[simp] theorem setNzh_ftl (p : Port) (z : Nzh) (s : State) : (setNzh p z s).ftl = s.ftl := rfl
@[simp] theorem setNzh_prof (p : Port) (z : Nzh) (s : State) : (setNzh p z s).prof = s.prof := rfl
@[simp] theorem setNzh_loads (p : Port) (z : Nzh) (s : State) : (setNzh p z s).loads = s.loads := rfl
@[simp] theorem setNzh_track (p : Port) (z : Nzh) (s : State) : (setNzh p z s).track = s.track := rfl
@[simp] theorem setNzh_engA (p : Port) (z : Nzh) (s : State) : (setNzh p z s).engA = s.engA := rfl
@[simp] theorem setNzh_engB (p : Port) (z : Nzh) (s : State) : (setNzh p z s).engB = s.engB := rfl
@[simp] theorem setNzh_sup (p : Port) (z : Nzh) (s : State) : (setNzh p z s).sup = s.sup := rfl
@[simp] theorem setNzh_hp (p : Port) (z : Nzh) (s : State) : (setNzh p z s).hp = s.hp := rfl
@[simp] theorem setNzh_hdv (p : Port) (z : Nzh) (s : State) : (setNzh p z s).hdv = s.hdv := rfl
@[simp] theorem setNzh_nzh (p : Port) (z : Nzh) (s : State) : (setNzh p z s).nzh = s.nzh.set p.val z p.isLt := rfl
@[simp] theorem setNzh_thm (p : Port) (z : Nzh) (s : State) : (setNzh p z s).thm = s.thm := rfl
@[simp] theorem setNzh_mot (p : Port) (z : Nzh) (s : State) : (setNzh p z s).mot = s.mot := rfl
@[simp] theorem setNzh_cal (p : Port) (z : Nzh) (s : State) : (setNzh p z s).cal = s.cal := rfl
@[simp] theorem setNzh_otp (p : Port) (z : Nzh) (s : State) : (setNzh p z s).otp = s.otp := rfl
@[simp] theorem setNzh_tpt (p : Port) (z : Nzh) (s : State) : (setNzh p z s).tpt = s.tpt := rfl
@[simp] theorem setNzh_cap (p : Port) (z : Nzh) (s : State) : (setNzh p z s).cap = s.cap := rfl
@[simp] theorem setNzh_pwr (p : Port) (z : Nzh) (s : State) : (setNzh p z s).pwr = s.pwr := rfl
@[simp] theorem setNzh_mgt (p : Port) (z : Nzh) (s : State) : (setNzh p z s).mgt = s.mgt := rfl
@[simp] theorem setNzh_out (p : Port) (z : Nzh) (s : State) : (setNzh p z s).out = s.out := rfl

@[simp] theorem setLoop_pending (x : LoopId) (l : Loop) (s : State) : (setLoop x l s).pending = s.pending := rfl
@[simp] theorem setLoop_now (x : LoopId) (l : Loop) (s : State) : (setLoop x l s).now = s.now := rfl
@[simp] theorem setLoop_free (x : LoopId) (l : Loop) (s : State) : (setLoop x l s).free = s.free := rfl
@[simp] theorem setLoop_top (x : LoopId) (l : Loop) (s : State) : (setLoop x l s).top = s.top := rfl
@[simp] theorem setLoop_evt (x : LoopId) (l : Loop) (s : State) : (setLoop x l s).evt = s.evt := rfl
@[simp] theorem setLoop_link (x : LoopId) (l : Loop) (s : State) : (setLoop x l s).link = s.link := rfl
@[simp] theorem setLoop_dma (x : LoopId) (l : Loop) (s : State) : (setLoop x l s).dma = s.dma := rfl
@[simp] theorem setLoop_pond (x : LoopId) (l : Loop) (s : State) : (setLoop x l s).pond = s.pond := rfl
@[simp] theorem setLoop_docs (x : LoopId) (l : Loop) (s : State) : (setLoop x l s).docs = s.docs := rfl
@[simp] theorem setLoop_chk (x : LoopId) (l : Loop) (s : State) : (setLoop x l s).chk = s.chk := rfl
@[simp] theorem setLoop_enc (x : LoopId) (l : Loop) (s : State) : (setLoop x l s).enc = s.enc := rfl
@[simp] theorem setLoop_ftl (x : LoopId) (l : Loop) (s : State) : (setLoop x l s).ftl = s.ftl.set (loopIx x).val l (loopIx x).isLt := rfl
@[simp] theorem setLoop_prof (x : LoopId) (l : Loop) (s : State) : (setLoop x l s).prof = s.prof := rfl
@[simp] theorem setLoop_loads (x : LoopId) (l : Loop) (s : State) : (setLoop x l s).loads = s.loads := rfl
@[simp] theorem setLoop_track (x : LoopId) (l : Loop) (s : State) : (setLoop x l s).track = s.track := rfl
@[simp] theorem setLoop_engA (x : LoopId) (l : Loop) (s : State) : (setLoop x l s).engA = s.engA := rfl
@[simp] theorem setLoop_engB (x : LoopId) (l : Loop) (s : State) : (setLoop x l s).engB = s.engB := rfl
@[simp] theorem setLoop_sup (x : LoopId) (l : Loop) (s : State) : (setLoop x l s).sup = s.sup := rfl
@[simp] theorem setLoop_hp (x : LoopId) (l : Loop) (s : State) : (setLoop x l s).hp = s.hp := rfl
@[simp] theorem setLoop_hdv (x : LoopId) (l : Loop) (s : State) : (setLoop x l s).hdv = s.hdv := rfl
@[simp] theorem setLoop_nzh (x : LoopId) (l : Loop) (s : State) : (setLoop x l s).nzh = s.nzh := rfl
@[simp] theorem setLoop_thm (x : LoopId) (l : Loop) (s : State) : (setLoop x l s).thm = s.thm := rfl
@[simp] theorem setLoop_mot (x : LoopId) (l : Loop) (s : State) : (setLoop x l s).mot = s.mot := rfl
@[simp] theorem setLoop_cal (x : LoopId) (l : Loop) (s : State) : (setLoop x l s).cal = s.cal := rfl
@[simp] theorem setLoop_otp (x : LoopId) (l : Loop) (s : State) : (setLoop x l s).otp = s.otp := rfl
@[simp] theorem setLoop_tpt (x : LoopId) (l : Loop) (s : State) : (setLoop x l s).tpt = s.tpt := rfl
@[simp] theorem setLoop_cap (x : LoopId) (l : Loop) (s : State) : (setLoop x l s).cap = s.cap := rfl
@[simp] theorem setLoop_pwr (x : LoopId) (l : Loop) (s : State) : (setLoop x l s).pwr = s.pwr := rfl
@[simp] theorem setLoop_mgt (x : LoopId) (l : Loop) (s : State) : (setLoop x l s).mgt = s.mgt := rfl
@[simp] theorem setLoop_out (x : LoopId) (l : Loop) (s : State) : (setLoop x l s).out = s.out := rfl

@[simp] theorem modEnc_pending (k : Fin 2) (f : EncInput → EncInput) (s : State) : (modEnc k f s).pending = s.pending := rfl
@[simp] theorem modEnc_now (k : Fin 2) (f : EncInput → EncInput) (s : State) : (modEnc k f s).now = s.now := rfl
@[simp] theorem modEnc_free (k : Fin 2) (f : EncInput → EncInput) (s : State) : (modEnc k f s).free = s.free := rfl
@[simp] theorem modEnc_top (k : Fin 2) (f : EncInput → EncInput) (s : State) : (modEnc k f s).top = s.top := rfl
@[simp] theorem modEnc_evt (k : Fin 2) (f : EncInput → EncInput) (s : State) : (modEnc k f s).evt = s.evt := rfl
@[simp] theorem modEnc_link (k : Fin 2) (f : EncInput → EncInput) (s : State) : (modEnc k f s).link = s.link := rfl
@[simp] theorem modEnc_dma (k : Fin 2) (f : EncInput → EncInput) (s : State) : (modEnc k f s).dma = s.dma := rfl
@[simp] theorem modEnc_pond (k : Fin 2) (f : EncInput → EncInput) (s : State) : (modEnc k f s).pond = s.pond := rfl
@[simp] theorem modEnc_docs (k : Fin 2) (f : EncInput → EncInput) (s : State) : (modEnc k f s).docs = s.docs := rfl
@[simp] theorem modEnc_chk (k : Fin 2) (f : EncInput → EncInput) (s : State) : (modEnc k f s).chk = s.chk := rfl
@[simp] theorem modEnc_enc (k : Fin 2) (f : EncInput → EncInput) (s : State) : (modEnc k f s).enc = s.enc.set k.val (f s.enc[k]) k.isLt := rfl
@[simp] theorem modEnc_ftl (k : Fin 2) (f : EncInput → EncInput) (s : State) : (modEnc k f s).ftl = s.ftl := rfl
@[simp] theorem modEnc_prof (k : Fin 2) (f : EncInput → EncInput) (s : State) : (modEnc k f s).prof = s.prof := rfl
@[simp] theorem modEnc_loads (k : Fin 2) (f : EncInput → EncInput) (s : State) : (modEnc k f s).loads = s.loads := rfl
@[simp] theorem modEnc_track (k : Fin 2) (f : EncInput → EncInput) (s : State) : (modEnc k f s).track = s.track := rfl
@[simp] theorem modEnc_engA (k : Fin 2) (f : EncInput → EncInput) (s : State) : (modEnc k f s).engA = s.engA := rfl
@[simp] theorem modEnc_engB (k : Fin 2) (f : EncInput → EncInput) (s : State) : (modEnc k f s).engB = s.engB := rfl
@[simp] theorem modEnc_sup (k : Fin 2) (f : EncInput → EncInput) (s : State) : (modEnc k f s).sup = s.sup := rfl
@[simp] theorem modEnc_hp (k : Fin 2) (f : EncInput → EncInput) (s : State) : (modEnc k f s).hp = s.hp := rfl
@[simp] theorem modEnc_hdv (k : Fin 2) (f : EncInput → EncInput) (s : State) : (modEnc k f s).hdv = s.hdv := rfl
@[simp] theorem modEnc_nzh (k : Fin 2) (f : EncInput → EncInput) (s : State) : (modEnc k f s).nzh = s.nzh := rfl
@[simp] theorem modEnc_thm (k : Fin 2) (f : EncInput → EncInput) (s : State) : (modEnc k f s).thm = s.thm := rfl
@[simp] theorem modEnc_mot (k : Fin 2) (f : EncInput → EncInput) (s : State) : (modEnc k f s).mot = s.mot := rfl
@[simp] theorem modEnc_cal (k : Fin 2) (f : EncInput → EncInput) (s : State) : (modEnc k f s).cal = s.cal := rfl
@[simp] theorem modEnc_otp (k : Fin 2) (f : EncInput → EncInput) (s : State) : (modEnc k f s).otp = s.otp := rfl
@[simp] theorem modEnc_tpt (k : Fin 2) (f : EncInput → EncInput) (s : State) : (modEnc k f s).tpt = s.tpt := rfl
@[simp] theorem modEnc_cap (k : Fin 2) (f : EncInput → EncInput) (s : State) : (modEnc k f s).cap = s.cap := rfl
@[simp] theorem modEnc_pwr (k : Fin 2) (f : EncInput → EncInput) (s : State) : (modEnc k f s).pwr = s.pwr := rfl
@[simp] theorem modEnc_mgt (k : Fin 2) (f : EncInput → EncInput) (s : State) : (modEnc k f s).mgt = s.mgt := rfl
@[simp] theorem modEnc_out (k : Fin 2) (f : EncInput → EncInput) (s : State) : (modEnc k f s).out = s.out := rfl

@[simp] theorem modLink_pending (f : Link → Link) (s : State) : (modLink f s).pending = s.pending := rfl
@[simp] theorem modLink_now (f : Link → Link) (s : State) : (modLink f s).now = s.now := rfl
@[simp] theorem modLink_free (f : Link → Link) (s : State) : (modLink f s).free = s.free := rfl
@[simp] theorem modLink_top (f : Link → Link) (s : State) : (modLink f s).top = s.top := rfl
@[simp] theorem modLink_evt (f : Link → Link) (s : State) : (modLink f s).evt = s.evt := rfl
@[simp] theorem modLink_link (f : Link → Link) (s : State) : (modLink f s).link = f s.link := rfl
@[simp] theorem modLink_dma (f : Link → Link) (s : State) : (modLink f s).dma = s.dma := rfl
@[simp] theorem modLink_pond (f : Link → Link) (s : State) : (modLink f s).pond = s.pond := rfl
@[simp] theorem modLink_docs (f : Link → Link) (s : State) : (modLink f s).docs = s.docs := rfl
@[simp] theorem modLink_chk (f : Link → Link) (s : State) : (modLink f s).chk = s.chk := rfl
@[simp] theorem modLink_enc (f : Link → Link) (s : State) : (modLink f s).enc = s.enc := rfl
@[simp] theorem modLink_ftl (f : Link → Link) (s : State) : (modLink f s).ftl = s.ftl := rfl
@[simp] theorem modLink_prof (f : Link → Link) (s : State) : (modLink f s).prof = s.prof := rfl
@[simp] theorem modLink_loads (f : Link → Link) (s : State) : (modLink f s).loads = s.loads := rfl
@[simp] theorem modLink_track (f : Link → Link) (s : State) : (modLink f s).track = s.track := rfl
@[simp] theorem modLink_engA (f : Link → Link) (s : State) : (modLink f s).engA = s.engA := rfl
@[simp] theorem modLink_engB (f : Link → Link) (s : State) : (modLink f s).engB = s.engB := rfl
@[simp] theorem modLink_sup (f : Link → Link) (s : State) : (modLink f s).sup = s.sup := rfl
@[simp] theorem modLink_hp (f : Link → Link) (s : State) : (modLink f s).hp = s.hp := rfl
@[simp] theorem modLink_hdv (f : Link → Link) (s : State) : (modLink f s).hdv = s.hdv := rfl
@[simp] theorem modLink_nzh (f : Link → Link) (s : State) : (modLink f s).nzh = s.nzh := rfl
@[simp] theorem modLink_thm (f : Link → Link) (s : State) : (modLink f s).thm = s.thm := rfl
@[simp] theorem modLink_mot (f : Link → Link) (s : State) : (modLink f s).mot = s.mot := rfl
@[simp] theorem modLink_cal (f : Link → Link) (s : State) : (modLink f s).cal = s.cal := rfl
@[simp] theorem modLink_otp (f : Link → Link) (s : State) : (modLink f s).otp = s.otp := rfl
@[simp] theorem modLink_tpt (f : Link → Link) (s : State) : (modLink f s).tpt = s.tpt := rfl
@[simp] theorem modLink_cap (f : Link → Link) (s : State) : (modLink f s).cap = s.cap := rfl
@[simp] theorem modLink_pwr (f : Link → Link) (s : State) : (modLink f s).pwr = s.pwr := rfl
@[simp] theorem modLink_mgt (f : Link → Link) (s : State) : (modLink f s).mgt = s.mgt := rfl
@[simp] theorem modLink_out (f : Link → Link) (s : State) : (modLink f s).out = s.out := rfl

@[simp] theorem modMgt_pending (f : Mgt → Mgt) (s : State) : (modMgt f s).pending = s.pending := rfl
@[simp] theorem modMgt_now (f : Mgt → Mgt) (s : State) : (modMgt f s).now = s.now := rfl
@[simp] theorem modMgt_free (f : Mgt → Mgt) (s : State) : (modMgt f s).free = s.free := rfl
@[simp] theorem modMgt_top (f : Mgt → Mgt) (s : State) : (modMgt f s).top = s.top := rfl
@[simp] theorem modMgt_evt (f : Mgt → Mgt) (s : State) : (modMgt f s).evt = s.evt := rfl
@[simp] theorem modMgt_link (f : Mgt → Mgt) (s : State) : (modMgt f s).link = s.link := rfl
@[simp] theorem modMgt_dma (f : Mgt → Mgt) (s : State) : (modMgt f s).dma = s.dma := rfl
@[simp] theorem modMgt_pond (f : Mgt → Mgt) (s : State) : (modMgt f s).pond = s.pond := rfl
@[simp] theorem modMgt_docs (f : Mgt → Mgt) (s : State) : (modMgt f s).docs = s.docs := rfl
@[simp] theorem modMgt_chk (f : Mgt → Mgt) (s : State) : (modMgt f s).chk = s.chk := rfl
@[simp] theorem modMgt_enc (f : Mgt → Mgt) (s : State) : (modMgt f s).enc = s.enc := rfl
@[simp] theorem modMgt_ftl (f : Mgt → Mgt) (s : State) : (modMgt f s).ftl = s.ftl := rfl
@[simp] theorem modMgt_prof (f : Mgt → Mgt) (s : State) : (modMgt f s).prof = s.prof := rfl
@[simp] theorem modMgt_loads (f : Mgt → Mgt) (s : State) : (modMgt f s).loads = s.loads := rfl
@[simp] theorem modMgt_track (f : Mgt → Mgt) (s : State) : (modMgt f s).track = s.track := rfl
@[simp] theorem modMgt_engA (f : Mgt → Mgt) (s : State) : (modMgt f s).engA = s.engA := rfl
@[simp] theorem modMgt_engB (f : Mgt → Mgt) (s : State) : (modMgt f s).engB = s.engB := rfl
@[simp] theorem modMgt_sup (f : Mgt → Mgt) (s : State) : (modMgt f s).sup = s.sup := rfl
@[simp] theorem modMgt_hp (f : Mgt → Mgt) (s : State) : (modMgt f s).hp = s.hp := rfl
@[simp] theorem modMgt_hdv (f : Mgt → Mgt) (s : State) : (modMgt f s).hdv = s.hdv := rfl
@[simp] theorem modMgt_nzh (f : Mgt → Mgt) (s : State) : (modMgt f s).nzh = s.nzh := rfl
@[simp] theorem modMgt_thm (f : Mgt → Mgt) (s : State) : (modMgt f s).thm = s.thm := rfl
@[simp] theorem modMgt_mot (f : Mgt → Mgt) (s : State) : (modMgt f s).mot = s.mot := rfl
@[simp] theorem modMgt_cal (f : Mgt → Mgt) (s : State) : (modMgt f s).cal = s.cal := rfl
@[simp] theorem modMgt_otp (f : Mgt → Mgt) (s : State) : (modMgt f s).otp = s.otp := rfl
@[simp] theorem modMgt_tpt (f : Mgt → Mgt) (s : State) : (modMgt f s).tpt = s.tpt := rfl
@[simp] theorem modMgt_cap (f : Mgt → Mgt) (s : State) : (modMgt f s).cap = s.cap := rfl
@[simp] theorem modMgt_pwr (f : Mgt → Mgt) (s : State) : (modMgt f s).pwr = s.pwr := rfl
@[simp] theorem modMgt_mgt (f : Mgt → Mgt) (s : State) : (modMgt f s).mgt = f s.mgt := rfl
@[simp] theorem modMgt_out (f : Mgt → Mgt) (s : State) : (modMgt f s).out = s.out := rfl

@[simp] theorem modTpt_pending (f : Tpt → Tpt) (s : State) : (modTpt f s).pending = s.pending := rfl
@[simp] theorem modTpt_now (f : Tpt → Tpt) (s : State) : (modTpt f s).now = s.now := rfl
@[simp] theorem modTpt_free (f : Tpt → Tpt) (s : State) : (modTpt f s).free = s.free := rfl
@[simp] theorem modTpt_top (f : Tpt → Tpt) (s : State) : (modTpt f s).top = s.top := rfl
@[simp] theorem modTpt_evt (f : Tpt → Tpt) (s : State) : (modTpt f s).evt = s.evt := rfl
@[simp] theorem modTpt_link (f : Tpt → Tpt) (s : State) : (modTpt f s).link = s.link := rfl
@[simp] theorem modTpt_dma (f : Tpt → Tpt) (s : State) : (modTpt f s).dma = s.dma := rfl
@[simp] theorem modTpt_pond (f : Tpt → Tpt) (s : State) : (modTpt f s).pond = s.pond := rfl
@[simp] theorem modTpt_docs (f : Tpt → Tpt) (s : State) : (modTpt f s).docs = s.docs := rfl
@[simp] theorem modTpt_chk (f : Tpt → Tpt) (s : State) : (modTpt f s).chk = s.chk := rfl
@[simp] theorem modTpt_enc (f : Tpt → Tpt) (s : State) : (modTpt f s).enc = s.enc := rfl
@[simp] theorem modTpt_ftl (f : Tpt → Tpt) (s : State) : (modTpt f s).ftl = s.ftl := rfl
@[simp] theorem modTpt_prof (f : Tpt → Tpt) (s : State) : (modTpt f s).prof = s.prof := rfl
@[simp] theorem modTpt_loads (f : Tpt → Tpt) (s : State) : (modTpt f s).loads = s.loads := rfl
@[simp] theorem modTpt_track (f : Tpt → Tpt) (s : State) : (modTpt f s).track = s.track := rfl
@[simp] theorem modTpt_engA (f : Tpt → Tpt) (s : State) : (modTpt f s).engA = s.engA := rfl
@[simp] theorem modTpt_engB (f : Tpt → Tpt) (s : State) : (modTpt f s).engB = s.engB := rfl
@[simp] theorem modTpt_sup (f : Tpt → Tpt) (s : State) : (modTpt f s).sup = s.sup := rfl
@[simp] theorem modTpt_hp (f : Tpt → Tpt) (s : State) : (modTpt f s).hp = s.hp := rfl
@[simp] theorem modTpt_hdv (f : Tpt → Tpt) (s : State) : (modTpt f s).hdv = s.hdv := rfl
@[simp] theorem modTpt_nzh (f : Tpt → Tpt) (s : State) : (modTpt f s).nzh = s.nzh := rfl
@[simp] theorem modTpt_thm (f : Tpt → Tpt) (s : State) : (modTpt f s).thm = s.thm := rfl
@[simp] theorem modTpt_mot (f : Tpt → Tpt) (s : State) : (modTpt f s).mot = s.mot := rfl
@[simp] theorem modTpt_cal (f : Tpt → Tpt) (s : State) : (modTpt f s).cal = s.cal := rfl
@[simp] theorem modTpt_otp (f : Tpt → Tpt) (s : State) : (modTpt f s).otp = s.otp := rfl
@[simp] theorem modTpt_tpt (f : Tpt → Tpt) (s : State) : (modTpt f s).tpt = f s.tpt := rfl
@[simp] theorem modTpt_cap (f : Tpt → Tpt) (s : State) : (modTpt f s).cap = s.cap := rfl
@[simp] theorem modTpt_pwr (f : Tpt → Tpt) (s : State) : (modTpt f s).pwr = s.pwr := rfl
@[simp] theorem modTpt_mgt (f : Tpt → Tpt) (s : State) : (modTpt f s).mgt = s.mgt := rfl
@[simp] theorem modTpt_out (f : Tpt → Tpt) (s : State) : (modTpt f s).out = s.out := rfl

@[simp] theorem modCal_pending (f : Cal → Cal) (s : State) : (modCal f s).pending = s.pending := rfl
@[simp] theorem modCal_now (f : Cal → Cal) (s : State) : (modCal f s).now = s.now := rfl
@[simp] theorem modCal_free (f : Cal → Cal) (s : State) : (modCal f s).free = s.free := rfl
@[simp] theorem modCal_top (f : Cal → Cal) (s : State) : (modCal f s).top = s.top := rfl
@[simp] theorem modCal_evt (f : Cal → Cal) (s : State) : (modCal f s).evt = s.evt := rfl
@[simp] theorem modCal_link (f : Cal → Cal) (s : State) : (modCal f s).link = s.link := rfl
@[simp] theorem modCal_dma (f : Cal → Cal) (s : State) : (modCal f s).dma = s.dma := rfl
@[simp] theorem modCal_pond (f : Cal → Cal) (s : State) : (modCal f s).pond = s.pond := rfl
@[simp] theorem modCal_docs (f : Cal → Cal) (s : State) : (modCal f s).docs = s.docs := rfl
@[simp] theorem modCal_chk (f : Cal → Cal) (s : State) : (modCal f s).chk = s.chk := rfl
@[simp] theorem modCal_enc (f : Cal → Cal) (s : State) : (modCal f s).enc = s.enc := rfl
@[simp] theorem modCal_ftl (f : Cal → Cal) (s : State) : (modCal f s).ftl = s.ftl := rfl
@[simp] theorem modCal_prof (f : Cal → Cal) (s : State) : (modCal f s).prof = s.prof := rfl
@[simp] theorem modCal_loads (f : Cal → Cal) (s : State) : (modCal f s).loads = s.loads := rfl
@[simp] theorem modCal_track (f : Cal → Cal) (s : State) : (modCal f s).track = s.track := rfl
@[simp] theorem modCal_engA (f : Cal → Cal) (s : State) : (modCal f s).engA = s.engA := rfl
@[simp] theorem modCal_engB (f : Cal → Cal) (s : State) : (modCal f s).engB = s.engB := rfl
@[simp] theorem modCal_sup (f : Cal → Cal) (s : State) : (modCal f s).sup = s.sup := rfl
@[simp] theorem modCal_hp (f : Cal → Cal) (s : State) : (modCal f s).hp = s.hp := rfl
@[simp] theorem modCal_hdv (f : Cal → Cal) (s : State) : (modCal f s).hdv = s.hdv := rfl
@[simp] theorem modCal_nzh (f : Cal → Cal) (s : State) : (modCal f s).nzh = s.nzh := rfl
@[simp] theorem modCal_thm (f : Cal → Cal) (s : State) : (modCal f s).thm = s.thm := rfl
@[simp] theorem modCal_mot (f : Cal → Cal) (s : State) : (modCal f s).mot = s.mot := rfl
@[simp] theorem modCal_cal (f : Cal → Cal) (s : State) : (modCal f s).cal = f s.cal := rfl
@[simp] theorem modCal_otp (f : Cal → Cal) (s : State) : (modCal f s).otp = s.otp := rfl
@[simp] theorem modCal_tpt (f : Cal → Cal) (s : State) : (modCal f s).tpt = s.tpt := rfl
@[simp] theorem modCal_cap (f : Cal → Cal) (s : State) : (modCal f s).cap = s.cap := rfl
@[simp] theorem modCal_pwr (f : Cal → Cal) (s : State) : (modCal f s).pwr = s.pwr := rfl
@[simp] theorem modCal_mgt (f : Cal → Cal) (s : State) : (modCal f s).mgt = s.mgt := rfl
@[simp] theorem modCal_out (f : Cal → Cal) (s : State) : (modCal f s).out = s.out := rfl

@[simp] theorem modOtp_pending (f : Otp → Otp) (s : State) : (modOtp f s).pending = s.pending := rfl
@[simp] theorem modOtp_now (f : Otp → Otp) (s : State) : (modOtp f s).now = s.now := rfl
@[simp] theorem modOtp_free (f : Otp → Otp) (s : State) : (modOtp f s).free = s.free := rfl
@[simp] theorem modOtp_top (f : Otp → Otp) (s : State) : (modOtp f s).top = s.top := rfl
@[simp] theorem modOtp_evt (f : Otp → Otp) (s : State) : (modOtp f s).evt = s.evt := rfl
@[simp] theorem modOtp_link (f : Otp → Otp) (s : State) : (modOtp f s).link = s.link := rfl
@[simp] theorem modOtp_dma (f : Otp → Otp) (s : State) : (modOtp f s).dma = s.dma := rfl
@[simp] theorem modOtp_pond (f : Otp → Otp) (s : State) : (modOtp f s).pond = s.pond := rfl
@[simp] theorem modOtp_docs (f : Otp → Otp) (s : State) : (modOtp f s).docs = s.docs := rfl
@[simp] theorem modOtp_chk (f : Otp → Otp) (s : State) : (modOtp f s).chk = s.chk := rfl
@[simp] theorem modOtp_enc (f : Otp → Otp) (s : State) : (modOtp f s).enc = s.enc := rfl
@[simp] theorem modOtp_ftl (f : Otp → Otp) (s : State) : (modOtp f s).ftl = s.ftl := rfl
@[simp] theorem modOtp_prof (f : Otp → Otp) (s : State) : (modOtp f s).prof = s.prof := rfl
@[simp] theorem modOtp_loads (f : Otp → Otp) (s : State) : (modOtp f s).loads = s.loads := rfl
@[simp] theorem modOtp_track (f : Otp → Otp) (s : State) : (modOtp f s).track = s.track := rfl
@[simp] theorem modOtp_engA (f : Otp → Otp) (s : State) : (modOtp f s).engA = s.engA := rfl
@[simp] theorem modOtp_engB (f : Otp → Otp) (s : State) : (modOtp f s).engB = s.engB := rfl
@[simp] theorem modOtp_sup (f : Otp → Otp) (s : State) : (modOtp f s).sup = s.sup := rfl
@[simp] theorem modOtp_hp (f : Otp → Otp) (s : State) : (modOtp f s).hp = s.hp := rfl
@[simp] theorem modOtp_hdv (f : Otp → Otp) (s : State) : (modOtp f s).hdv = s.hdv := rfl
@[simp] theorem modOtp_nzh (f : Otp → Otp) (s : State) : (modOtp f s).nzh = s.nzh := rfl
@[simp] theorem modOtp_thm (f : Otp → Otp) (s : State) : (modOtp f s).thm = s.thm := rfl
@[simp] theorem modOtp_mot (f : Otp → Otp) (s : State) : (modOtp f s).mot = s.mot := rfl
@[simp] theorem modOtp_cal (f : Otp → Otp) (s : State) : (modOtp f s).cal = s.cal := rfl
@[simp] theorem modOtp_otp (f : Otp → Otp) (s : State) : (modOtp f s).otp = f s.otp := rfl
@[simp] theorem modOtp_tpt (f : Otp → Otp) (s : State) : (modOtp f s).tpt = s.tpt := rfl
@[simp] theorem modOtp_cap (f : Otp → Otp) (s : State) : (modOtp f s).cap = s.cap := rfl
@[simp] theorem modOtp_pwr (f : Otp → Otp) (s : State) : (modOtp f s).pwr = s.pwr := rfl
@[simp] theorem modOtp_mgt (f : Otp → Otp) (s : State) : (modOtp f s).mgt = s.mgt := rfl
@[simp] theorem modOtp_out (f : Otp → Otp) (s : State) : (modOtp f s).out = s.out := rfl

@[simp] theorem modPwr_pending (f : Pwr → Pwr) (s : State) : (modPwr f s).pending = s.pending := rfl
@[simp] theorem modPwr_now (f : Pwr → Pwr) (s : State) : (modPwr f s).now = s.now := rfl
@[simp] theorem modPwr_free (f : Pwr → Pwr) (s : State) : (modPwr f s).free = s.free := rfl
@[simp] theorem modPwr_top (f : Pwr → Pwr) (s : State) : (modPwr f s).top = s.top := rfl
@[simp] theorem modPwr_evt (f : Pwr → Pwr) (s : State) : (modPwr f s).evt = s.evt := rfl
@[simp] theorem modPwr_link (f : Pwr → Pwr) (s : State) : (modPwr f s).link = s.link := rfl
@[simp] theorem modPwr_dma (f : Pwr → Pwr) (s : State) : (modPwr f s).dma = s.dma := rfl
@[simp] theorem modPwr_pond (f : Pwr → Pwr) (s : State) : (modPwr f s).pond = s.pond := rfl
@[simp] theorem modPwr_docs (f : Pwr → Pwr) (s : State) : (modPwr f s).docs = s.docs := rfl
@[simp] theorem modPwr_chk (f : Pwr → Pwr) (s : State) : (modPwr f s).chk = s.chk := rfl
@[simp] theorem modPwr_enc (f : Pwr → Pwr) (s : State) : (modPwr f s).enc = s.enc := rfl
@[simp] theorem modPwr_ftl (f : Pwr → Pwr) (s : State) : (modPwr f s).ftl = s.ftl := rfl
@[simp] theorem modPwr_prof (f : Pwr → Pwr) (s : State) : (modPwr f s).prof = s.prof := rfl
@[simp] theorem modPwr_loads (f : Pwr → Pwr) (s : State) : (modPwr f s).loads = s.loads := rfl
@[simp] theorem modPwr_track (f : Pwr → Pwr) (s : State) : (modPwr f s).track = s.track := rfl
@[simp] theorem modPwr_engA (f : Pwr → Pwr) (s : State) : (modPwr f s).engA = s.engA := rfl
@[simp] theorem modPwr_engB (f : Pwr → Pwr) (s : State) : (modPwr f s).engB = s.engB := rfl
@[simp] theorem modPwr_sup (f : Pwr → Pwr) (s : State) : (modPwr f s).sup = s.sup := rfl
@[simp] theorem modPwr_hp (f : Pwr → Pwr) (s : State) : (modPwr f s).hp = s.hp := rfl
@[simp] theorem modPwr_hdv (f : Pwr → Pwr) (s : State) : (modPwr f s).hdv = s.hdv := rfl
@[simp] theorem modPwr_nzh (f : Pwr → Pwr) (s : State) : (modPwr f s).nzh = s.nzh := rfl
@[simp] theorem modPwr_thm (f : Pwr → Pwr) (s : State) : (modPwr f s).thm = s.thm := rfl
@[simp] theorem modPwr_mot (f : Pwr → Pwr) (s : State) : (modPwr f s).mot = s.mot := rfl
@[simp] theorem modPwr_cal (f : Pwr → Pwr) (s : State) : (modPwr f s).cal = s.cal := rfl
@[simp] theorem modPwr_otp (f : Pwr → Pwr) (s : State) : (modPwr f s).otp = s.otp := rfl
@[simp] theorem modPwr_tpt (f : Pwr → Pwr) (s : State) : (modPwr f s).tpt = s.tpt := rfl
@[simp] theorem modPwr_cap (f : Pwr → Pwr) (s : State) : (modPwr f s).cap = s.cap := rfl
@[simp] theorem modPwr_pwr (f : Pwr → Pwr) (s : State) : (modPwr f s).pwr = f s.pwr := rfl
@[simp] theorem modPwr_mgt (f : Pwr → Pwr) (s : State) : (modPwr f s).mgt = s.mgt := rfl
@[simp] theorem modPwr_out (f : Pwr → Pwr) (s : State) : (modPwr f s).out = s.out := rfl

@[simp] theorem modCap_pending (f : Captures → Captures) (s : State) : (modCap f s).pending = s.pending := rfl
@[simp] theorem modCap_now (f : Captures → Captures) (s : State) : (modCap f s).now = s.now := rfl
@[simp] theorem modCap_free (f : Captures → Captures) (s : State) : (modCap f s).free = s.free := rfl
@[simp] theorem modCap_top (f : Captures → Captures) (s : State) : (modCap f s).top = s.top := rfl
@[simp] theorem modCap_evt (f : Captures → Captures) (s : State) : (modCap f s).evt = s.evt := rfl
@[simp] theorem modCap_link (f : Captures → Captures) (s : State) : (modCap f s).link = s.link := rfl
@[simp] theorem modCap_dma (f : Captures → Captures) (s : State) : (modCap f s).dma = s.dma := rfl
@[simp] theorem modCap_pond (f : Captures → Captures) (s : State) : (modCap f s).pond = s.pond := rfl
@[simp] theorem modCap_docs (f : Captures → Captures) (s : State) : (modCap f s).docs = s.docs := rfl
@[simp] theorem modCap_chk (f : Captures → Captures) (s : State) : (modCap f s).chk = s.chk := rfl
@[simp] theorem modCap_enc (f : Captures → Captures) (s : State) : (modCap f s).enc = s.enc := rfl
@[simp] theorem modCap_ftl (f : Captures → Captures) (s : State) : (modCap f s).ftl = s.ftl := rfl
@[simp] theorem modCap_prof (f : Captures → Captures) (s : State) : (modCap f s).prof = s.prof := rfl
@[simp] theorem modCap_loads (f : Captures → Captures) (s : State) : (modCap f s).loads = s.loads := rfl
@[simp] theorem modCap_track (f : Captures → Captures) (s : State) : (modCap f s).track = s.track := rfl
@[simp] theorem modCap_engA (f : Captures → Captures) (s : State) : (modCap f s).engA = s.engA := rfl
@[simp] theorem modCap_engB (f : Captures → Captures) (s : State) : (modCap f s).engB = s.engB := rfl
@[simp] theorem modCap_sup (f : Captures → Captures) (s : State) : (modCap f s).sup = s.sup := rfl
@[simp] theorem modCap_hp (f : Captures → Captures) (s : State) : (modCap f s).hp = s.hp := rfl
@[simp] theorem modCap_hdv (f : Captures → Captures) (s : State) : (modCap f s).hdv = s.hdv := rfl
@[simp] theorem modCap_nzh (f : Captures → Captures) (s : State) : (modCap f s).nzh = s.nzh := rfl
@[simp] theorem modCap_thm (f : Captures → Captures) (s : State) : (modCap f s).thm = s.thm := rfl
@[simp] theorem modCap_mot (f : Captures → Captures) (s : State) : (modCap f s).mot = s.mot := rfl
@[simp] theorem modCap_cal (f : Captures → Captures) (s : State) : (modCap f s).cal = s.cal := rfl
@[simp] theorem modCap_otp (f : Captures → Captures) (s : State) : (modCap f s).otp = s.otp := rfl
@[simp] theorem modCap_tpt (f : Captures → Captures) (s : State) : (modCap f s).tpt = s.tpt := rfl
@[simp] theorem modCap_cap (f : Captures → Captures) (s : State) : (modCap f s).cap = f s.cap := rfl
@[simp] theorem modCap_pwr (f : Captures → Captures) (s : State) : (modCap f s).pwr = s.pwr := rfl
@[simp] theorem modCap_mgt (f : Captures → Captures) (s : State) : (modCap f s).mgt = s.mgt := rfl
@[simp] theorem modCap_out (f : Captures → Captures) (s : State) : (modCap f s).out = s.out := rfl

@[simp] theorem modThm_pending (f : Thm → Thm) (s : State) : (modThm f s).pending = s.pending := rfl
@[simp] theorem modThm_now (f : Thm → Thm) (s : State) : (modThm f s).now = s.now := rfl
@[simp] theorem modThm_free (f : Thm → Thm) (s : State) : (modThm f s).free = s.free := rfl
@[simp] theorem modThm_top (f : Thm → Thm) (s : State) : (modThm f s).top = s.top := rfl
@[simp] theorem modThm_evt (f : Thm → Thm) (s : State) : (modThm f s).evt = s.evt := rfl
@[simp] theorem modThm_link (f : Thm → Thm) (s : State) : (modThm f s).link = s.link := rfl
@[simp] theorem modThm_dma (f : Thm → Thm) (s : State) : (modThm f s).dma = s.dma := rfl
@[simp] theorem modThm_pond (f : Thm → Thm) (s : State) : (modThm f s).pond = s.pond := rfl
@[simp] theorem modThm_docs (f : Thm → Thm) (s : State) : (modThm f s).docs = s.docs := rfl
@[simp] theorem modThm_chk (f : Thm → Thm) (s : State) : (modThm f s).chk = s.chk := rfl
@[simp] theorem modThm_enc (f : Thm → Thm) (s : State) : (modThm f s).enc = s.enc := rfl
@[simp] theorem modThm_ftl (f : Thm → Thm) (s : State) : (modThm f s).ftl = s.ftl := rfl
@[simp] theorem modThm_prof (f : Thm → Thm) (s : State) : (modThm f s).prof = s.prof := rfl
@[simp] theorem modThm_loads (f : Thm → Thm) (s : State) : (modThm f s).loads = s.loads := rfl
@[simp] theorem modThm_track (f : Thm → Thm) (s : State) : (modThm f s).track = s.track := rfl
@[simp] theorem modThm_engA (f : Thm → Thm) (s : State) : (modThm f s).engA = s.engA := rfl
@[simp] theorem modThm_engB (f : Thm → Thm) (s : State) : (modThm f s).engB = s.engB := rfl
@[simp] theorem modThm_sup (f : Thm → Thm) (s : State) : (modThm f s).sup = s.sup := rfl
@[simp] theorem modThm_hp (f : Thm → Thm) (s : State) : (modThm f s).hp = s.hp := rfl
@[simp] theorem modThm_hdv (f : Thm → Thm) (s : State) : (modThm f s).hdv = s.hdv := rfl
@[simp] theorem modThm_nzh (f : Thm → Thm) (s : State) : (modThm f s).nzh = s.nzh := rfl
@[simp] theorem modThm_thm (f : Thm → Thm) (s : State) : (modThm f s).thm = f s.thm := rfl
@[simp] theorem modThm_mot (f : Thm → Thm) (s : State) : (modThm f s).mot = s.mot := rfl
@[simp] theorem modThm_cal (f : Thm → Thm) (s : State) : (modThm f s).cal = s.cal := rfl
@[simp] theorem modThm_otp (f : Thm → Thm) (s : State) : (modThm f s).otp = s.otp := rfl
@[simp] theorem modThm_tpt (f : Thm → Thm) (s : State) : (modThm f s).tpt = s.tpt := rfl
@[simp] theorem modThm_cap (f : Thm → Thm) (s : State) : (modThm f s).cap = s.cap := rfl
@[simp] theorem modThm_pwr (f : Thm → Thm) (s : State) : (modThm f s).pwr = s.pwr := rfl
@[simp] theorem modThm_mgt (f : Thm → Thm) (s : State) : (modThm f s).mgt = s.mgt := rfl
@[simp] theorem modThm_out (f : Thm → Thm) (s : State) : (modThm f s).out = s.out := rfl

@[simp] theorem modRail_pending (r : Fin 4) (f : Rail → Rail) (s : State) : (modRail r f s).pending = s.pending := rfl
@[simp] theorem modRail_now (r : Fin 4) (f : Rail → Rail) (s : State) : (modRail r f s).now = s.now := rfl
@[simp] theorem modRail_free (r : Fin 4) (f : Rail → Rail) (s : State) : (modRail r f s).free = s.free := rfl
@[simp] theorem modRail_top (r : Fin 4) (f : Rail → Rail) (s : State) : (modRail r f s).top = s.top := rfl
@[simp] theorem modRail_evt (r : Fin 4) (f : Rail → Rail) (s : State) : (modRail r f s).evt = s.evt := rfl
@[simp] theorem modRail_link (r : Fin 4) (f : Rail → Rail) (s : State) : (modRail r f s).link = s.link := rfl
@[simp] theorem modRail_dma (r : Fin 4) (f : Rail → Rail) (s : State) : (modRail r f s).dma = s.dma := rfl
@[simp] theorem modRail_pond (r : Fin 4) (f : Rail → Rail) (s : State) : (modRail r f s).pond = s.pond := rfl
@[simp] theorem modRail_docs (r : Fin 4) (f : Rail → Rail) (s : State) : (modRail r f s).docs = s.docs := rfl
@[simp] theorem modRail_chk (r : Fin 4) (f : Rail → Rail) (s : State) : (modRail r f s).chk = s.chk := rfl
@[simp] theorem modRail_enc (r : Fin 4) (f : Rail → Rail) (s : State) : (modRail r f s).enc = s.enc := rfl
@[simp] theorem modRail_ftl (r : Fin 4) (f : Rail → Rail) (s : State) : (modRail r f s).ftl = s.ftl := rfl
@[simp] theorem modRail_prof (r : Fin 4) (f : Rail → Rail) (s : State) : (modRail r f s).prof = s.prof := rfl
@[simp] theorem modRail_loads (r : Fin 4) (f : Rail → Rail) (s : State) : (modRail r f s).loads = s.loads := rfl
@[simp] theorem modRail_track (r : Fin 4) (f : Rail → Rail) (s : State) : (modRail r f s).track = s.track := rfl
@[simp] theorem modRail_engA (r : Fin 4) (f : Rail → Rail) (s : State) : (modRail r f s).engA = s.engA := rfl
@[simp] theorem modRail_engB (r : Fin 4) (f : Rail → Rail) (s : State) : (modRail r f s).engB = s.engB := rfl
@[simp] theorem modRail_sup (r : Fin 4) (f : Rail → Rail) (s : State) : (modRail r f s).sup = s.sup := rfl
@[simp] theorem modRail_hp (r : Fin 4) (f : Rail → Rail) (s : State) : (modRail r f s).hp = s.hp := rfl
@[simp] theorem modRail_nzh (r : Fin 4) (f : Rail → Rail) (s : State) : (modRail r f s).nzh = s.nzh := rfl
@[simp] theorem modRail_thm (r : Fin 4) (f : Rail → Rail) (s : State) : (modRail r f s).thm = s.thm := rfl
@[simp] theorem modRail_mot (r : Fin 4) (f : Rail → Rail) (s : State) : (modRail r f s).mot = s.mot := rfl
@[simp] theorem modRail_cal (r : Fin 4) (f : Rail → Rail) (s : State) : (modRail r f s).cal = s.cal := rfl
@[simp] theorem modRail_otp (r : Fin 4) (f : Rail → Rail) (s : State) : (modRail r f s).otp = s.otp := rfl
@[simp] theorem modRail_tpt (r : Fin 4) (f : Rail → Rail) (s : State) : (modRail r f s).tpt = s.tpt := rfl
@[simp] theorem modRail_cap (r : Fin 4) (f : Rail → Rail) (s : State) : (modRail r f s).cap = s.cap := rfl
@[simp] theorem modRail_pwr (r : Fin 4) (f : Rail → Rail) (s : State) : (modRail r f s).pwr = s.pwr := rfl
@[simp] theorem modRail_mgt (r : Fin 4) (f : Rail → Rail) (s : State) : (modRail r f s).mgt = s.mgt := rfl
@[simp] theorem modRail_out (r : Fin 4) (f : Rail → Rail) (s : State) : (modRail r f s).out = s.out := rfl

@[simp] theorem modHdv_pending (p : Port) (f : HdvPort → HdvPort) (s : State) : (modHdv p f s).pending = s.pending := rfl
@[simp] theorem modHdv_now (p : Port) (f : HdvPort → HdvPort) (s : State) : (modHdv p f s).now = s.now := rfl
@[simp] theorem modHdv_free (p : Port) (f : HdvPort → HdvPort) (s : State) : (modHdv p f s).free = s.free := rfl
@[simp] theorem modHdv_top (p : Port) (f : HdvPort → HdvPort) (s : State) : (modHdv p f s).top = s.top := rfl
@[simp] theorem modHdv_evt (p : Port) (f : HdvPort → HdvPort) (s : State) : (modHdv p f s).evt = s.evt := rfl
@[simp] theorem modHdv_link (p : Port) (f : HdvPort → HdvPort) (s : State) : (modHdv p f s).link = s.link := rfl
@[simp] theorem modHdv_dma (p : Port) (f : HdvPort → HdvPort) (s : State) : (modHdv p f s).dma = s.dma := rfl
@[simp] theorem modHdv_pond (p : Port) (f : HdvPort → HdvPort) (s : State) : (modHdv p f s).pond = s.pond := rfl
@[simp] theorem modHdv_docs (p : Port) (f : HdvPort → HdvPort) (s : State) : (modHdv p f s).docs = s.docs := rfl
@[simp] theorem modHdv_chk (p : Port) (f : HdvPort → HdvPort) (s : State) : (modHdv p f s).chk = s.chk := rfl
@[simp] theorem modHdv_enc (p : Port) (f : HdvPort → HdvPort) (s : State) : (modHdv p f s).enc = s.enc := rfl
@[simp] theorem modHdv_ftl (p : Port) (f : HdvPort → HdvPort) (s : State) : (modHdv p f s).ftl = s.ftl := rfl
@[simp] theorem modHdv_prof (p : Port) (f : HdvPort → HdvPort) (s : State) : (modHdv p f s).prof = s.prof := rfl
@[simp] theorem modHdv_loads (p : Port) (f : HdvPort → HdvPort) (s : State) : (modHdv p f s).loads = s.loads := rfl
@[simp] theorem modHdv_track (p : Port) (f : HdvPort → HdvPort) (s : State) : (modHdv p f s).track = s.track := rfl
@[simp] theorem modHdv_engA (p : Port) (f : HdvPort → HdvPort) (s : State) : (modHdv p f s).engA = s.engA := rfl
@[simp] theorem modHdv_engB (p : Port) (f : HdvPort → HdvPort) (s : State) : (modHdv p f s).engB = s.engB := rfl
@[simp] theorem modHdv_sup (p : Port) (f : HdvPort → HdvPort) (s : State) : (modHdv p f s).sup = s.sup := rfl
@[simp] theorem modHdv_hp (p : Port) (f : HdvPort → HdvPort) (s : State) : (modHdv p f s).hp = s.hp := rfl
@[simp] theorem modHdv_nzh (p : Port) (f : HdvPort → HdvPort) (s : State) : (modHdv p f s).nzh = s.nzh := rfl
@[simp] theorem modHdv_thm (p : Port) (f : HdvPort → HdvPort) (s : State) : (modHdv p f s).thm = s.thm := rfl
@[simp] theorem modHdv_mot (p : Port) (f : HdvPort → HdvPort) (s : State) : (modHdv p f s).mot = s.mot := rfl
@[simp] theorem modHdv_cal (p : Port) (f : HdvPort → HdvPort) (s : State) : (modHdv p f s).cal = s.cal := rfl
@[simp] theorem modHdv_otp (p : Port) (f : HdvPort → HdvPort) (s : State) : (modHdv p f s).otp = s.otp := rfl
@[simp] theorem modHdv_tpt (p : Port) (f : HdvPort → HdvPort) (s : State) : (modHdv p f s).tpt = s.tpt := rfl
@[simp] theorem modHdv_cap (p : Port) (f : HdvPort → HdvPort) (s : State) : (modHdv p f s).cap = s.cap := rfl
@[simp] theorem modHdv_pwr (p : Port) (f : HdvPort → HdvPort) (s : State) : (modHdv p f s).pwr = s.pwr := rfl
@[simp] theorem modHdv_mgt (p : Port) (f : HdvPort → HdvPort) (s : State) : (modHdv p f s).mgt = s.mgt := rfl
@[simp] theorem modHdv_out (p : Port) (f : HdvPort → HdvPort) (s : State) : (modHdv p f s).out = s.out := rfl

@[simp] theorem modAxis_pending (k : Fin 4) (f : Axis → Axis) (s : State) : (modAxis k f s).pending = s.pending := rfl
@[simp] theorem modAxis_now (k : Fin 4) (f : Axis → Axis) (s : State) : (modAxis k f s).now = s.now := rfl
@[simp] theorem modAxis_free (k : Fin 4) (f : Axis → Axis) (s : State) : (modAxis k f s).free = s.free := rfl
@[simp] theorem modAxis_top (k : Fin 4) (f : Axis → Axis) (s : State) : (modAxis k f s).top = s.top := rfl
@[simp] theorem modAxis_evt (k : Fin 4) (f : Axis → Axis) (s : State) : (modAxis k f s).evt = s.evt := rfl
@[simp] theorem modAxis_link (k : Fin 4) (f : Axis → Axis) (s : State) : (modAxis k f s).link = s.link := rfl
@[simp] theorem modAxis_dma (k : Fin 4) (f : Axis → Axis) (s : State) : (modAxis k f s).dma = s.dma := rfl
@[simp] theorem modAxis_pond (k : Fin 4) (f : Axis → Axis) (s : State) : (modAxis k f s).pond = s.pond := rfl
@[simp] theorem modAxis_docs (k : Fin 4) (f : Axis → Axis) (s : State) : (modAxis k f s).docs = s.docs := rfl
@[simp] theorem modAxis_chk (k : Fin 4) (f : Axis → Axis) (s : State) : (modAxis k f s).chk = s.chk := rfl
@[simp] theorem modAxis_enc (k : Fin 4) (f : Axis → Axis) (s : State) : (modAxis k f s).enc = s.enc := rfl
@[simp] theorem modAxis_ftl (k : Fin 4) (f : Axis → Axis) (s : State) : (modAxis k f s).ftl = s.ftl := rfl
@[simp] theorem modAxis_prof (k : Fin 4) (f : Axis → Axis) (s : State) : (modAxis k f s).prof = s.prof := rfl
@[simp] theorem modAxis_loads (k : Fin 4) (f : Axis → Axis) (s : State) : (modAxis k f s).loads = s.loads := rfl
@[simp] theorem modAxis_track (k : Fin 4) (f : Axis → Axis) (s : State) : (modAxis k f s).track = s.track := rfl
@[simp] theorem modAxis_engA (k : Fin 4) (f : Axis → Axis) (s : State) : (modAxis k f s).engA = s.engA := rfl
@[simp] theorem modAxis_engB (k : Fin 4) (f : Axis → Axis) (s : State) : (modAxis k f s).engB = s.engB := rfl
@[simp] theorem modAxis_sup (k : Fin 4) (f : Axis → Axis) (s : State) : (modAxis k f s).sup = s.sup := rfl
@[simp] theorem modAxis_hp (k : Fin 4) (f : Axis → Axis) (s : State) : (modAxis k f s).hp = s.hp := rfl
@[simp] theorem modAxis_hdv (k : Fin 4) (f : Axis → Axis) (s : State) : (modAxis k f s).hdv = s.hdv := rfl
@[simp] theorem modAxis_nzh (k : Fin 4) (f : Axis → Axis) (s : State) : (modAxis k f s).nzh = s.nzh := rfl
@[simp] theorem modAxis_thm (k : Fin 4) (f : Axis → Axis) (s : State) : (modAxis k f s).thm = s.thm := rfl
@[simp] theorem modAxis_cal (k : Fin 4) (f : Axis → Axis) (s : State) : (modAxis k f s).cal = s.cal := rfl
@[simp] theorem modAxis_otp (k : Fin 4) (f : Axis → Axis) (s : State) : (modAxis k f s).otp = s.otp := rfl
@[simp] theorem modAxis_tpt (k : Fin 4) (f : Axis → Axis) (s : State) : (modAxis k f s).tpt = s.tpt := rfl
@[simp] theorem modAxis_cap (k : Fin 4) (f : Axis → Axis) (s : State) : (modAxis k f s).cap = s.cap := rfl
@[simp] theorem modAxis_pwr (k : Fin 4) (f : Axis → Axis) (s : State) : (modAxis k f s).pwr = s.pwr := rfl
@[simp] theorem modAxis_mgt (k : Fin 4) (f : Axis → Axis) (s : State) : (modAxis k f s).mgt = s.mgt := rfl
@[simp] theorem modAxis_out (k : Fin 4) (f : Axis → Axis) (s : State) : (modAxis k f s).out = s.out := rfl

@[simp] theorem setAdmitHold_pending (v : Bool) (s : State) : (setAdmitHold v s).pending = s.pending := rfl
@[simp] theorem setAdmitHold_now (v : Bool) (s : State) : (setAdmitHold v s).now = s.now := rfl
@[simp] theorem setAdmitHold_free (v : Bool) (s : State) : (setAdmitHold v s).free = s.free := rfl
@[simp] theorem setAdmitHold_top (v : Bool) (s : State) : (setAdmitHold v s).top = s.top := rfl
@[simp] theorem setAdmitHold_evt (v : Bool) (s : State) : (setAdmitHold v s).evt = s.evt := rfl
@[simp] theorem setAdmitHold_link (v : Bool) (s : State) : (setAdmitHold v s).link = s.link := rfl
@[simp] theorem setAdmitHold_dma (v : Bool) (s : State) : (setAdmitHold v s).dma = s.dma := rfl
@[simp] theorem setAdmitHold_docs (v : Bool) (s : State) : (setAdmitHold v s).docs = s.docs := rfl
@[simp] theorem setAdmitHold_chk (v : Bool) (s : State) : (setAdmitHold v s).chk = s.chk := rfl
@[simp] theorem setAdmitHold_enc (v : Bool) (s : State) : (setAdmitHold v s).enc = s.enc := rfl
@[simp] theorem setAdmitHold_ftl (v : Bool) (s : State) : (setAdmitHold v s).ftl = s.ftl := rfl
@[simp] theorem setAdmitHold_prof (v : Bool) (s : State) : (setAdmitHold v s).prof = s.prof := rfl
@[simp] theorem setAdmitHold_loads (v : Bool) (s : State) : (setAdmitHold v s).loads = s.loads := rfl
@[simp] theorem setAdmitHold_track (v : Bool) (s : State) : (setAdmitHold v s).track = s.track := rfl
@[simp] theorem setAdmitHold_engA (v : Bool) (s : State) : (setAdmitHold v s).engA = s.engA := rfl
@[simp] theorem setAdmitHold_engB (v : Bool) (s : State) : (setAdmitHold v s).engB = s.engB := rfl
@[simp] theorem setAdmitHold_sup (v : Bool) (s : State) : (setAdmitHold v s).sup = s.sup := rfl
@[simp] theorem setAdmitHold_hp (v : Bool) (s : State) : (setAdmitHold v s).hp = s.hp := rfl
@[simp] theorem setAdmitHold_hdv (v : Bool) (s : State) : (setAdmitHold v s).hdv = s.hdv := rfl
@[simp] theorem setAdmitHold_nzh (v : Bool) (s : State) : (setAdmitHold v s).nzh = s.nzh := rfl
@[simp] theorem setAdmitHold_thm (v : Bool) (s : State) : (setAdmitHold v s).thm = s.thm := rfl
@[simp] theorem setAdmitHold_mot (v : Bool) (s : State) : (setAdmitHold v s).mot = s.mot := rfl
@[simp] theorem setAdmitHold_cal (v : Bool) (s : State) : (setAdmitHold v s).cal = s.cal := rfl
@[simp] theorem setAdmitHold_otp (v : Bool) (s : State) : (setAdmitHold v s).otp = s.otp := rfl
@[simp] theorem setAdmitHold_tpt (v : Bool) (s : State) : (setAdmitHold v s).tpt = s.tpt := rfl
@[simp] theorem setAdmitHold_cap (v : Bool) (s : State) : (setAdmitHold v s).cap = s.cap := rfl
@[simp] theorem setAdmitHold_pwr (v : Bool) (s : State) : (setAdmitHold v s).pwr = s.pwr := rfl
@[simp] theorem setAdmitHold_mgt (v : Bool) (s : State) : (setAdmitHold v s).mgt = s.mgt := rfl
@[simp] theorem setAdmitHold_out (v : Bool) (s : State) : (setAdmitHold v s).out = s.out := rfl

@[simp] theorem modDoc_pending (id : Word) (f : Doc → Doc) (s : State) : (modDoc id f s).pending = s.pending := rfl
@[simp] theorem modDoc_now (id : Word) (f : Doc → Doc) (s : State) : (modDoc id f s).now = s.now := rfl
@[simp] theorem modDoc_free (id : Word) (f : Doc → Doc) (s : State) : (modDoc id f s).free = s.free := rfl
@[simp] theorem modDoc_top (id : Word) (f : Doc → Doc) (s : State) : (modDoc id f s).top = s.top := rfl
@[simp] theorem modDoc_evt (id : Word) (f : Doc → Doc) (s : State) : (modDoc id f s).evt = s.evt := rfl
@[simp] theorem modDoc_link (id : Word) (f : Doc → Doc) (s : State) : (modDoc id f s).link = s.link := rfl
@[simp] theorem modDoc_dma (id : Word) (f : Doc → Doc) (s : State) : (modDoc id f s).dma = s.dma := rfl
@[simp] theorem modDoc_pond (id : Word) (f : Doc → Doc) (s : State) : (modDoc id f s).pond = s.pond := rfl
@[simp] theorem modDoc_chk (id : Word) (f : Doc → Doc) (s : State) : (modDoc id f s).chk = s.chk := rfl
@[simp] theorem modDoc_enc (id : Word) (f : Doc → Doc) (s : State) : (modDoc id f s).enc = s.enc := rfl
@[simp] theorem modDoc_ftl (id : Word) (f : Doc → Doc) (s : State) : (modDoc id f s).ftl = s.ftl := rfl
@[simp] theorem modDoc_prof (id : Word) (f : Doc → Doc) (s : State) : (modDoc id f s).prof = s.prof := rfl
@[simp] theorem modDoc_loads (id : Word) (f : Doc → Doc) (s : State) : (modDoc id f s).loads = s.loads := rfl
@[simp] theorem modDoc_track (id : Word) (f : Doc → Doc) (s : State) : (modDoc id f s).track = s.track := rfl
@[simp] theorem modDoc_engA (id : Word) (f : Doc → Doc) (s : State) : (modDoc id f s).engA = s.engA := rfl
@[simp] theorem modDoc_engB (id : Word) (f : Doc → Doc) (s : State) : (modDoc id f s).engB = s.engB := rfl
@[simp] theorem modDoc_sup (id : Word) (f : Doc → Doc) (s : State) : (modDoc id f s).sup = s.sup := rfl
@[simp] theorem modDoc_hp (id : Word) (f : Doc → Doc) (s : State) : (modDoc id f s).hp = s.hp := rfl
@[simp] theorem modDoc_hdv (id : Word) (f : Doc → Doc) (s : State) : (modDoc id f s).hdv = s.hdv := rfl
@[simp] theorem modDoc_nzh (id : Word) (f : Doc → Doc) (s : State) : (modDoc id f s).nzh = s.nzh := rfl
@[simp] theorem modDoc_thm (id : Word) (f : Doc → Doc) (s : State) : (modDoc id f s).thm = s.thm := rfl
@[simp] theorem modDoc_mot (id : Word) (f : Doc → Doc) (s : State) : (modDoc id f s).mot = s.mot := rfl
@[simp] theorem modDoc_cal (id : Word) (f : Doc → Doc) (s : State) : (modDoc id f s).cal = s.cal := rfl
@[simp] theorem modDoc_otp (id : Word) (f : Doc → Doc) (s : State) : (modDoc id f s).otp = s.otp := rfl
@[simp] theorem modDoc_tpt (id : Word) (f : Doc → Doc) (s : State) : (modDoc id f s).tpt = s.tpt := rfl
@[simp] theorem modDoc_cap (id : Word) (f : Doc → Doc) (s : State) : (modDoc id f s).cap = s.cap := rfl
@[simp] theorem modDoc_pwr (id : Word) (f : Doc → Doc) (s : State) : (modDoc id f s).pwr = s.pwr := rfl
@[simp] theorem modDoc_mgt (id : Word) (f : Doc → Doc) (s : State) : (modDoc id f s).mgt = s.mgt := rfl
@[simp] theorem modDoc_out (id : Word) (f : Doc → Doc) (s : State) : (modDoc id f s).out = s.out := rfl

@[simp] theorem advanceTo_pending (t : Nat) (s : State) : (advanceTo t s).pending = s.pending := rfl
@[simp] theorem advanceTo_now (t : Nat) (s : State) : (advanceTo t s).now = max s.now t := rfl
@[simp] theorem advanceTo_free (t : Nat) (s : State) : (advanceTo t s).free = s.free := rfl
@[simp] theorem advanceTo_top (t : Nat) (s : State) : (advanceTo t s).top = s.top := rfl
@[simp] theorem advanceTo_evt (t : Nat) (s : State) : (advanceTo t s).evt = s.evt := rfl
@[simp] theorem advanceTo_link (t : Nat) (s : State) : (advanceTo t s).link = s.link := rfl
@[simp] theorem advanceTo_dma (t : Nat) (s : State) : (advanceTo t s).dma = s.dma := rfl
@[simp] theorem advanceTo_pond (t : Nat) (s : State) : (advanceTo t s).pond = s.pond := rfl
@[simp] theorem advanceTo_docs (t : Nat) (s : State) : (advanceTo t s).docs = s.docs := rfl
@[simp] theorem advanceTo_chk (t : Nat) (s : State) : (advanceTo t s).chk = s.chk := rfl
@[simp] theorem advanceTo_enc (t : Nat) (s : State) : (advanceTo t s).enc = s.enc := rfl
@[simp] theorem advanceTo_ftl (t : Nat) (s : State) : (advanceTo t s).ftl = s.ftl := rfl
@[simp] theorem advanceTo_prof (t : Nat) (s : State) : (advanceTo t s).prof = s.prof := rfl
@[simp] theorem advanceTo_loads (t : Nat) (s : State) : (advanceTo t s).loads = s.loads := rfl
@[simp] theorem advanceTo_track (t : Nat) (s : State) : (advanceTo t s).track = s.track := rfl
@[simp] theorem advanceTo_engA (t : Nat) (s : State) : (advanceTo t s).engA = s.engA := rfl
@[simp] theorem advanceTo_engB (t : Nat) (s : State) : (advanceTo t s).engB = s.engB := rfl
@[simp] theorem advanceTo_sup (t : Nat) (s : State) : (advanceTo t s).sup = s.sup := rfl
@[simp] theorem advanceTo_hp (t : Nat) (s : State) : (advanceTo t s).hp = s.hp := rfl
@[simp] theorem advanceTo_hdv (t : Nat) (s : State) : (advanceTo t s).hdv = s.hdv := rfl
@[simp] theorem advanceTo_nzh (t : Nat) (s : State) : (advanceTo t s).nzh = s.nzh := rfl
@[simp] theorem advanceTo_thm (t : Nat) (s : State) : (advanceTo t s).thm = s.thm := rfl
@[simp] theorem advanceTo_mot (t : Nat) (s : State) : (advanceTo t s).mot = s.mot := rfl
@[simp] theorem advanceTo_cal (t : Nat) (s : State) : (advanceTo t s).cal = s.cal := rfl
@[simp] theorem advanceTo_otp (t : Nat) (s : State) : (advanceTo t s).otp = s.otp := rfl
@[simp] theorem advanceTo_tpt (t : Nat) (s : State) : (advanceTo t s).tpt = s.tpt := rfl
@[simp] theorem advanceTo_cap (t : Nat) (s : State) : (advanceTo t s).cap = s.cap := rfl
@[simp] theorem advanceTo_pwr (t : Nat) (s : State) : (advanceTo t s).pwr = s.pwr := rfl
@[simp] theorem advanceTo_mgt (t : Nat) (s : State) : (advanceTo t s).mgt = s.mgt := rfl
@[simp] theorem advanceTo_out (t : Nat) (s : State) : (advanceTo t s).out = s.out := rfl

@[simp] theorem modHp_pending (p : Port) (f : HeadPort → HeadPort) (s : State) : (modHp p f s).pending = s.pending := rfl
@[simp] theorem modHp_now (p : Port) (f : HeadPort → HeadPort) (s : State) : (modHp p f s).now = s.now := rfl
@[simp] theorem modHp_free (p : Port) (f : HeadPort → HeadPort) (s : State) : (modHp p f s).free = s.free := rfl
@[simp] theorem modHp_top (p : Port) (f : HeadPort → HeadPort) (s : State) : (modHp p f s).top = s.top := rfl
@[simp] theorem modHp_evt (p : Port) (f : HeadPort → HeadPort) (s : State) : (modHp p f s).evt = s.evt := rfl
@[simp] theorem modHp_link (p : Port) (f : HeadPort → HeadPort) (s : State) : (modHp p f s).link = s.link := rfl
@[simp] theorem modHp_dma (p : Port) (f : HeadPort → HeadPort) (s : State) : (modHp p f s).dma = s.dma := rfl
@[simp] theorem modHp_pond (p : Port) (f : HeadPort → HeadPort) (s : State) : (modHp p f s).pond = s.pond := rfl
@[simp] theorem modHp_docs (p : Port) (f : HeadPort → HeadPort) (s : State) : (modHp p f s).docs = s.docs := rfl
@[simp] theorem modHp_chk (p : Port) (f : HeadPort → HeadPort) (s : State) : (modHp p f s).chk = s.chk := rfl
@[simp] theorem modHp_enc (p : Port) (f : HeadPort → HeadPort) (s : State) : (modHp p f s).enc = s.enc := rfl
@[simp] theorem modHp_ftl (p : Port) (f : HeadPort → HeadPort) (s : State) : (modHp p f s).ftl = s.ftl := rfl
@[simp] theorem modHp_prof (p : Port) (f : HeadPort → HeadPort) (s : State) : (modHp p f s).prof = s.prof := rfl
@[simp] theorem modHp_loads (p : Port) (f : HeadPort → HeadPort) (s : State) : (modHp p f s).loads = s.loads := rfl
@[simp] theorem modHp_track (p : Port) (f : HeadPort → HeadPort) (s : State) : (modHp p f s).track = s.track := rfl
@[simp] theorem modHp_engA (p : Port) (f : HeadPort → HeadPort) (s : State) : (modHp p f s).engA = s.engA := rfl
@[simp] theorem modHp_engB (p : Port) (f : HeadPort → HeadPort) (s : State) : (modHp p f s).engB = s.engB := rfl
@[simp] theorem modHp_sup (p : Port) (f : HeadPort → HeadPort) (s : State) : (modHp p f s).sup = s.sup := rfl
@[simp] theorem modHp_hp (p : Port) (f : HeadPort → HeadPort) (s : State) : (modHp p f s).hp = s.hp.set p.val (f s.hp[p]) p.isLt := rfl
@[simp] theorem modHp_hdv (p : Port) (f : HeadPort → HeadPort) (s : State) : (modHp p f s).hdv = s.hdv := rfl
@[simp] theorem modHp_nzh (p : Port) (f : HeadPort → HeadPort) (s : State) : (modHp p f s).nzh = s.nzh := rfl
@[simp] theorem modHp_thm (p : Port) (f : HeadPort → HeadPort) (s : State) : (modHp p f s).thm = s.thm := rfl
@[simp] theorem modHp_mot (p : Port) (f : HeadPort → HeadPort) (s : State) : (modHp p f s).mot = s.mot := rfl
@[simp] theorem modHp_cal (p : Port) (f : HeadPort → HeadPort) (s : State) : (modHp p f s).cal = s.cal := rfl
@[simp] theorem modHp_otp (p : Port) (f : HeadPort → HeadPort) (s : State) : (modHp p f s).otp = s.otp := rfl
@[simp] theorem modHp_tpt (p : Port) (f : HeadPort → HeadPort) (s : State) : (modHp p f s).tpt = s.tpt := rfl
@[simp] theorem modHp_cap (p : Port) (f : HeadPort → HeadPort) (s : State) : (modHp p f s).cap = s.cap := rfl
@[simp] theorem modHp_pwr (p : Port) (f : HeadPort → HeadPort) (s : State) : (modHp p f s).pwr = s.pwr := rfl
@[simp] theorem modHp_mgt (p : Port) (f : HeadPort → HeadPort) (s : State) : (modHp p f s).mgt = s.mgt := rfl
@[simp] theorem modHp_out (p : Port) (f : HeadPort → HeadPort) (s : State) : (modHp p f s).out = s.out := rfl

@[simp] theorem setEng_pending (x : EngId) (e : Engine) (s : State) : (setEng x e s).pending = s.pending := by cases x <;> rfl
@[simp] theorem setEng_now (x : EngId) (e : Engine) (s : State) : (setEng x e s).now = s.now := by cases x <;> rfl
@[simp] theorem setEng_free (x : EngId) (e : Engine) (s : State) : (setEng x e s).free = s.free := by cases x <;> rfl
@[simp] theorem setEng_top (x : EngId) (e : Engine) (s : State) : (setEng x e s).top = s.top := by cases x <;> rfl
@[simp] theorem setEng_evt (x : EngId) (e : Engine) (s : State) : (setEng x e s).evt = s.evt := by cases x <;> rfl
@[simp] theorem setEng_link (x : EngId) (e : Engine) (s : State) : (setEng x e s).link = s.link := by cases x <;> rfl
@[simp] theorem setEng_dma (x : EngId) (e : Engine) (s : State) : (setEng x e s).dma = s.dma := by cases x <;> rfl
@[simp] theorem setEng_pond (x : EngId) (e : Engine) (s : State) : (setEng x e s).pond = s.pond := by cases x <;> rfl
@[simp] theorem setEng_docs (x : EngId) (e : Engine) (s : State) : (setEng x e s).docs = s.docs := by cases x <;> rfl
@[simp] theorem setEng_chk (x : EngId) (e : Engine) (s : State) : (setEng x e s).chk = s.chk := by cases x <;> rfl
@[simp] theorem setEng_enc (x : EngId) (e : Engine) (s : State) : (setEng x e s).enc = s.enc := by cases x <;> rfl
@[simp] theorem setEng_ftl (x : EngId) (e : Engine) (s : State) : (setEng x e s).ftl = s.ftl := by cases x <;> rfl
@[simp] theorem setEng_prof (x : EngId) (e : Engine) (s : State) : (setEng x e s).prof = s.prof := by cases x <;> rfl
@[simp] theorem setEng_loads (x : EngId) (e : Engine) (s : State) : (setEng x e s).loads = s.loads := by cases x <;> rfl
@[simp] theorem setEng_track (x : EngId) (e : Engine) (s : State) : (setEng x e s).track = s.track := by cases x <;> rfl
@[simp] theorem setEng_sup (x : EngId) (e : Engine) (s : State) : (setEng x e s).sup = s.sup := by cases x <;> rfl
@[simp] theorem setEng_hp (x : EngId) (e : Engine) (s : State) : (setEng x e s).hp = s.hp := by cases x <;> rfl
@[simp] theorem setEng_hdv (x : EngId) (e : Engine) (s : State) : (setEng x e s).hdv = s.hdv := by cases x <;> rfl
@[simp] theorem setEng_nzh (x : EngId) (e : Engine) (s : State) : (setEng x e s).nzh = s.nzh := by cases x <;> rfl
@[simp] theorem setEng_thm (x : EngId) (e : Engine) (s : State) : (setEng x e s).thm = s.thm := by cases x <;> rfl
@[simp] theorem setEng_mot (x : EngId) (e : Engine) (s : State) : (setEng x e s).mot = s.mot := by cases x <;> rfl
@[simp] theorem setEng_cal (x : EngId) (e : Engine) (s : State) : (setEng x e s).cal = s.cal := by cases x <;> rfl
@[simp] theorem setEng_otp (x : EngId) (e : Engine) (s : State) : (setEng x e s).otp = s.otp := by cases x <;> rfl
@[simp] theorem setEng_tpt (x : EngId) (e : Engine) (s : State) : (setEng x e s).tpt = s.tpt := by cases x <;> rfl
@[simp] theorem setEng_cap (x : EngId) (e : Engine) (s : State) : (setEng x e s).cap = s.cap := by cases x <;> rfl
@[simp] theorem setEng_pwr (x : EngId) (e : Engine) (s : State) : (setEng x e s).pwr = s.pwr := by cases x <;> rfl
@[simp] theorem setEng_mgt (x : EngId) (e : Engine) (s : State) : (setEng x e s).mgt = s.mgt := by cases x <;> rfl
@[simp] theorem setEng_out (x : EngId) (e : Engine) (s : State) : (setEng x e s).out = s.out := by cases x <;> rfl

@[simp] theorem setEng_a_engA (e : Engine) (s : State) : (setEng .a e s).engA = e := rfl
@[simp] theorem setEng_a_engB (e : Engine) (s : State) : (setEng .a e s).engB = s.engB := rfl
@[simp] theorem setEng_b_engA (e : Engine) (s : State) : (setEng .b e s).engA = s.engA := rfl
@[simp] theorem setEng_b_engB (e : Engine) (s : State) : (setEng .b e s).engB = e := rfl

@[simp] theorem idle_pending (s : State) : (idle s).pending = s.pending := rfl
@[simp] theorem idle_now (s : State) : (idle s).now = s.now + 16 := rfl
@[simp] theorem idle_free (s : State) : (idle s).free = s.free := rfl
@[simp] theorem idle_top (s : State) : (idle s).top = s.top := rfl
@[simp] theorem idle_evt (s : State) : (idle s).evt = s.evt := rfl
@[simp] theorem idle_link (s : State) : (idle s).link = s.link := rfl
@[simp] theorem idle_dma (s : State) : (idle s).dma = s.dma := rfl
@[simp] theorem idle_pond (s : State) : (idle s).pond = s.pond := rfl
@[simp] theorem idle_docs (s : State) : (idle s).docs = s.docs := rfl
@[simp] theorem idle_chk (s : State) : (idle s).chk = s.chk := rfl
@[simp] theorem idle_enc (s : State) : (idle s).enc = s.enc := rfl
@[simp] theorem idle_ftl (s : State) : (idle s).ftl = s.ftl := rfl
@[simp] theorem idle_prof (s : State) : (idle s).prof = s.prof := rfl
@[simp] theorem idle_loads (s : State) : (idle s).loads = s.loads := rfl
@[simp] theorem idle_track (s : State) : (idle s).track = s.track := rfl
@[simp] theorem idle_engA (s : State) : (idle s).engA = s.engA := rfl
@[simp] theorem idle_engB (s : State) : (idle s).engB = s.engB := rfl
@[simp] theorem idle_sup (s : State) : (idle s).sup = s.sup := rfl
@[simp] theorem idle_hp (s : State) : (idle s).hp = s.hp := rfl
@[simp] theorem idle_hdv (s : State) : (idle s).hdv = s.hdv := rfl
@[simp] theorem idle_nzh (s : State) : (idle s).nzh = s.nzh := rfl
@[simp] theorem idle_thm (s : State) : (idle s).thm = s.thm := rfl
@[simp] theorem idle_mot (s : State) : (idle s).mot = s.mot := rfl
@[simp] theorem idle_cal (s : State) : (idle s).cal = s.cal := rfl
@[simp] theorem idle_otp (s : State) : (idle s).otp = s.otp := rfl
@[simp] theorem idle_tpt (s : State) : (idle s).tpt = s.tpt := rfl
@[simp] theorem idle_cap (s : State) : (idle s).cap = s.cap := rfl
@[simp] theorem idle_pwr (s : State) : (idle s).pwr = s.pwr := rfl
@[simp] theorem idle_mgt (s : State) : (idle s).mgt = s.mgt := rfl
@[simp] theorem idle_out (s : State) : (idle s).out = s.out := rfl

@[simp] theorem touchLink_pending (s : State) : (touchLink s).pending = s.pending := rfl
@[simp] theorem touchLink_now (s : State) : (touchLink s).now = s.now := rfl
@[simp] theorem touchLink_free (s : State) : (touchLink s).free = s.free := rfl
@[simp] theorem touchLink_top (s : State) : (touchLink s).top = s.top := rfl
@[simp] theorem touchLink_evt (s : State) : (touchLink s).evt = s.evt := rfl
@[simp] theorem touchLink_link (s : State) : (touchLink s).link = { s.link with l1 := false, traffic := s.now } := rfl
@[simp] theorem touchLink_dma (s : State) : (touchLink s).dma = s.dma := rfl
@[simp] theorem touchLink_pond (s : State) : (touchLink s).pond = s.pond := rfl
@[simp] theorem touchLink_docs (s : State) : (touchLink s).docs = s.docs := rfl
@[simp] theorem touchLink_chk (s : State) : (touchLink s).chk = s.chk := rfl
@[simp] theorem touchLink_enc (s : State) : (touchLink s).enc = s.enc := rfl
@[simp] theorem touchLink_ftl (s : State) : (touchLink s).ftl = s.ftl := rfl
@[simp] theorem touchLink_prof (s : State) : (touchLink s).prof = s.prof := rfl
@[simp] theorem touchLink_loads (s : State) : (touchLink s).loads = s.loads := rfl
@[simp] theorem touchLink_track (s : State) : (touchLink s).track = s.track := rfl
@[simp] theorem touchLink_engA (s : State) : (touchLink s).engA = s.engA := rfl
@[simp] theorem touchLink_engB (s : State) : (touchLink s).engB = s.engB := rfl
@[simp] theorem touchLink_sup (s : State) : (touchLink s).sup = s.sup := rfl
@[simp] theorem touchLink_hp (s : State) : (touchLink s).hp = s.hp := rfl
@[simp] theorem touchLink_hdv (s : State) : (touchLink s).hdv = s.hdv := rfl
@[simp] theorem touchLink_nzh (s : State) : (touchLink s).nzh = s.nzh := rfl
@[simp] theorem touchLink_thm (s : State) : (touchLink s).thm = s.thm := rfl
@[simp] theorem touchLink_mot (s : State) : (touchLink s).mot = s.mot := rfl
@[simp] theorem touchLink_cal (s : State) : (touchLink s).cal = s.cal := rfl
@[simp] theorem touchLink_otp (s : State) : (touchLink s).otp = s.otp := rfl
@[simp] theorem touchLink_tpt (s : State) : (touchLink s).tpt = s.tpt := rfl
@[simp] theorem touchLink_cap (s : State) : (touchLink s).cap = s.cap := rfl
@[simp] theorem touchLink_pwr (s : State) : (touchLink s).pwr = s.pwr := rfl
@[simp] theorem touchLink_mgt (s : State) : (touchLink s).mgt = s.mgt := rfl
@[simp] theorem touchLink_out (s : State) : (touchLink s).out = s.out := rfl
@[simp] theorem touchLink_docInProgress (s : State) : docInProgress (touchLink s) = docInProgress s := rfl

@[simp] theorem countIgnored_pending (s : State) : (countIgnored s).pending = s.pending := rfl
@[simp] theorem countIgnored_now (s : State) : (countIgnored s).now = s.now := rfl
@[simp] theorem countIgnored_free (s : State) : (countIgnored s).free = s.free := rfl
@[simp] theorem countIgnored_top (s : State) : (countIgnored s).top = { s.top with ignored := satInc s.top.ignored } := rfl
@[simp] theorem countIgnored_evt (s : State) : (countIgnored s).evt = s.evt := rfl
@[simp] theorem countIgnored_link (s : State) : (countIgnored s).link = s.link := rfl
@[simp] theorem countIgnored_dma (s : State) : (countIgnored s).dma = s.dma := rfl
@[simp] theorem countIgnored_pond (s : State) : (countIgnored s).pond = s.pond := rfl
@[simp] theorem countIgnored_docs (s : State) : (countIgnored s).docs = s.docs := rfl
@[simp] theorem countIgnored_chk (s : State) : (countIgnored s).chk = s.chk := rfl
@[simp] theorem countIgnored_enc (s : State) : (countIgnored s).enc = s.enc := rfl
@[simp] theorem countIgnored_ftl (s : State) : (countIgnored s).ftl = s.ftl := rfl
@[simp] theorem countIgnored_prof (s : State) : (countIgnored s).prof = s.prof := rfl
@[simp] theorem countIgnored_loads (s : State) : (countIgnored s).loads = s.loads := rfl
@[simp] theorem countIgnored_track (s : State) : (countIgnored s).track = s.track := rfl
@[simp] theorem countIgnored_engA (s : State) : (countIgnored s).engA = s.engA := rfl
@[simp] theorem countIgnored_engB (s : State) : (countIgnored s).engB = s.engB := rfl
@[simp] theorem countIgnored_sup (s : State) : (countIgnored s).sup = s.sup := rfl
@[simp] theorem countIgnored_hp (s : State) : (countIgnored s).hp = s.hp := rfl
@[simp] theorem countIgnored_hdv (s : State) : (countIgnored s).hdv = s.hdv := rfl
@[simp] theorem countIgnored_nzh (s : State) : (countIgnored s).nzh = s.nzh := rfl
@[simp] theorem countIgnored_thm (s : State) : (countIgnored s).thm = s.thm := rfl
@[simp] theorem countIgnored_mot (s : State) : (countIgnored s).mot = s.mot := rfl
@[simp] theorem countIgnored_cal (s : State) : (countIgnored s).cal = s.cal := rfl
@[simp] theorem countIgnored_otp (s : State) : (countIgnored s).otp = s.otp := rfl
@[simp] theorem countIgnored_tpt (s : State) : (countIgnored s).tpt = s.tpt := rfl
@[simp] theorem countIgnored_cap (s : State) : (countIgnored s).cap = s.cap := rfl
@[simp] theorem countIgnored_pwr (s : State) : (countIgnored s).pwr = s.pwr := rfl
@[simp] theorem countIgnored_mgt (s : State) : (countIgnored s).mgt = s.mgt := rfl
@[simp] theorem countIgnored_out (s : State) : (countIgnored s).out = s.out := rfl
@[simp] theorem countIgnored_docInProgress (s : State) : docInProgress (countIgnored s) = docInProgress s := rfl

@[simp] theorem countWhen_pending (c : Bool) (s : State) : (countWhen c s).pending = s.pending := by cases c <;> rfl
@[simp] theorem countWhen_now (c : Bool) (s : State) : (countWhen c s).now = s.now := by cases c <;> rfl
@[simp] theorem countWhen_free (c : Bool) (s : State) : (countWhen c s).free = s.free := by cases c <;> rfl
@[simp] theorem countWhen_top (c : Bool) (s : State) :
    (countWhen c s).top = if c then { s.top with ignored := satInc s.top.ignored } else s.top := by cases c <;> rfl
@[simp] theorem countWhen_evt (c : Bool) (s : State) : (countWhen c s).evt = s.evt := by cases c <;> rfl
@[simp] theorem countWhen_link (c : Bool) (s : State) : (countWhen c s).link = s.link := by cases c <;> rfl
@[simp] theorem countWhen_dma (c : Bool) (s : State) : (countWhen c s).dma = s.dma := by cases c <;> rfl
@[simp] theorem countWhen_pond (c : Bool) (s : State) : (countWhen c s).pond = s.pond := by cases c <;> rfl
@[simp] theorem countWhen_docs (c : Bool) (s : State) : (countWhen c s).docs = s.docs := by cases c <;> rfl
@[simp] theorem countWhen_chk (c : Bool) (s : State) : (countWhen c s).chk = s.chk := by cases c <;> rfl
@[simp] theorem countWhen_enc (c : Bool) (s : State) : (countWhen c s).enc = s.enc := by cases c <;> rfl
@[simp] theorem countWhen_ftl (c : Bool) (s : State) : (countWhen c s).ftl = s.ftl := by cases c <;> rfl
@[simp] theorem countWhen_prof (c : Bool) (s : State) : (countWhen c s).prof = s.prof := by cases c <;> rfl
@[simp] theorem countWhen_loads (c : Bool) (s : State) : (countWhen c s).loads = s.loads := by cases c <;> rfl
@[simp] theorem countWhen_track (c : Bool) (s : State) : (countWhen c s).track = s.track := by cases c <;> rfl
@[simp] theorem countWhen_engA (c : Bool) (s : State) : (countWhen c s).engA = s.engA := by cases c <;> rfl
@[simp] theorem countWhen_engB (c : Bool) (s : State) : (countWhen c s).engB = s.engB := by cases c <;> rfl
@[simp] theorem countWhen_sup (c : Bool) (s : State) : (countWhen c s).sup = s.sup := by cases c <;> rfl
@[simp] theorem countWhen_hp (c : Bool) (s : State) : (countWhen c s).hp = s.hp := by cases c <;> rfl
@[simp] theorem countWhen_hdv (c : Bool) (s : State) : (countWhen c s).hdv = s.hdv := by cases c <;> rfl
@[simp] theorem countWhen_nzh (c : Bool) (s : State) : (countWhen c s).nzh = s.nzh := by cases c <;> rfl
@[simp] theorem countWhen_thm (c : Bool) (s : State) : (countWhen c s).thm = s.thm := by cases c <;> rfl
@[simp] theorem countWhen_mot (c : Bool) (s : State) : (countWhen c s).mot = s.mot := by cases c <;> rfl
@[simp] theorem countWhen_cal (c : Bool) (s : State) : (countWhen c s).cal = s.cal := by cases c <;> rfl
@[simp] theorem countWhen_otp (c : Bool) (s : State) : (countWhen c s).otp = s.otp := by cases c <;> rfl
@[simp] theorem countWhen_tpt (c : Bool) (s : State) : (countWhen c s).tpt = s.tpt := by cases c <;> rfl
@[simp] theorem countWhen_cap (c : Bool) (s : State) : (countWhen c s).cap = s.cap := by cases c <;> rfl
@[simp] theorem countWhen_pwr (c : Bool) (s : State) : (countWhen c s).pwr = s.pwr := by cases c <;> rfl
@[simp] theorem countWhen_mgt (c : Bool) (s : State) : (countWhen c s).mgt = s.mgt := by cases c <;> rfl
@[simp] theorem countWhen_out (c : Bool) (s : State) : (countWhen c s).out = s.out := by cases c <;> rfl
@[simp] theorem countWhen_docInProgress (c : Bool) (s : State) : docInProgress (countWhen c s) = docInProgress s := by cases c <;> rfl

end Sys2Proof.Machine
end

