-- ==== Sys2Proof/Laws/Steady.lean ====
section
/-! SUPPORT. What the settling at the end of a command leaves alone. -/

set_option linter.all false
namespace Sys2Proof.Machine

@[simp] theorem ite_unwindowed (c : Prop) [Decidable c] (a b : Thm) : (ite c a b).unwindowed = ite c a.unwindowed b.unwindowed := by
  split <;> rfl

@[simp] theorem Thm.unwindowed_low (t : Thm) (v : Int) : ({ t with flashLow := v } : Thm).unwindowed = t.unwindowed := rfl

@[simp] theorem Thm.unwindowed_high (t : Thm) (v : Int) : ({ t with flashHigh := v } : Thm).unwindowed = t.unwindowed := rfl

@[simp] theorem ite_unfaulted (c : Prop) [Decidable c] (a b : Captures) : (ite c a b).unfaulted = ite c a.unfaulted b.unfaulted := by
  split <;> rfl

@[simp] theorem Captures.unfaulted_fault (c : Captures) (d t l : Half) :
    ({ c with faultDoc := d, faultTag := t, faultLine := l } : Captures).unfaulted = c.unfaulted := rfl

/-- The parts of the state that settling never writes are the same in both states. -/
abbrev Steady (a b : State) : Prop :=
  a.now = b.now ∧ a.free = b.free ∧ a.dma = b.dma ∧ a.enc = b.enc ∧ a.ftl = b.ftl ∧ a.prof = b.prof ∧ a.thm.unwindowed = b.thm.unwindowed ∧ a.cap.unfaulted = b.cap.unfaulted ∧ a.otp = b.otp ∧ a.link.cfgReady = b.link.cfgReady ∧ a.link.d3hot = b.link.d3hot ∧ a.pwr.released = b.pwr.released ∧ a.pwr.cfg = b.pwr.cfg ∧ a.top.ignored = b.top.ignored ∧ a.top.scratch = b.top.scratch ∧ a.evt.table = b.evt.table ∧ a.evt.cfg = b.evt.cfg

@[simp] theorem ite_now (c : Prop) [Decidable c] (a b : State) : (ite c a b).now = ite c a.now b.now := by split <;> rfl
@[simp] theorem ite_free (c : Prop) [Decidable c] (a b : State) : (ite c a b).free = ite c a.free b.free := by split <;> rfl
@[simp] theorem ite_dma (c : Prop) [Decidable c] (a b : State) : (ite c a b).dma = ite c a.dma b.dma := by split <;> rfl
@[simp] theorem ite_enc (c : Prop) [Decidable c] (a b : State) : (ite c a b).enc = ite c a.enc b.enc := by split <;> rfl
@[simp] theorem ite_ftl (c : Prop) [Decidable c] (a b : State) : (ite c a b).ftl = ite c a.ftl b.ftl := by split <;> rfl
@[simp] theorem ite_prof (c : Prop) [Decidable c] (a b : State) : (ite c a b).prof = ite c a.prof b.prof := by split <;> rfl
@[simp] theorem ite_thm (c : Prop) [Decidable c] (a b : State) : (ite c a b).thm = ite c a.thm b.thm := by split <;> rfl
@[simp] theorem ite_otp (c : Prop) [Decidable c] (a b : State) : (ite c a b).otp = ite c a.otp b.otp := by split <;> rfl
@[simp] theorem ite_cap (c : Prop) [Decidable c] (a b : State) : (ite c a b).cap = ite c a.cap b.cap := by split <;> rfl
@[simp] theorem ite_link (c : Prop) [Decidable c] (a b : State) : (ite c a b).link = ite c a.link b.link := by split <;> rfl
@[simp] theorem ite_pwr (c : Prop) [Decidable c] (a b : State) : (ite c a b).pwr = ite c a.pwr b.pwr := by split <;> rfl
@[simp] theorem ite_top (c : Prop) [Decidable c] (a b : State) : (ite c a b).top = ite c a.top b.top := by split <;> rfl
@[simp] theorem ite_evt (c : Prop) [Decidable c] (a b : State) : (ite c a b).evt = ite c a.evt b.evt := by split <;> rfl

theorem Steady.trans {a b c : State} (h1 : Steady a b) (h2 : Steady b c) : Steady a c := by
  simp only [Steady] at *; simp [h1, h2]

theorem foldl_steady {α : Type} (g : State → α → State) (l : List α) (s : State) (h : ∀ s a, Steady (g s a) s) :
    Steady (l.foldl g s) s := by
  induction l generalizing s with
  | nil => simp [Steady]
  | cons a l ih => exact (ih (g s a)).trans (h s a)

theorem forAxes_steady (f : Fin 4 → State → State) (s : State) (h : ∀ i s, Steady (f i s) s) : Steady (forAxes f s) s :=
  foldl_steady _ _ _ fun s i => h i s

@[simp] theorem noteRegion_steady (src : Nat) (lo : Nat) (hi : Nat) (s : State) : Steady (noteRegion src lo hi s) s := by
  unfold Steady noteRegion
  simp

@[simp] theorem flashOp_steady (op : FlashOp) (s : State) : Steady (flashOp op s) s := by
  unfold Steady flashOp
  simp

@[simp] theorem raise_steady (src : Nat) (s : State) : Steady (raise src s) s := by
  unfold Steady raise
  simp

@[simp] theorem tpFlag_steady (i : Nat) (s : State) : Steady (tpFlag i s) s := by
  unfold Steady tpFlag
  simp

@[simp] theorem pushLog_steady (type : BitVec 8) (aux : BitVec 8) (payload : List Byte) (s : State) : Steady (pushLog type aux payload s) s := by
  unfold Steady pushLog
  simp

@[simp] theorem setAdmitHold_steady (v : Bool) (s : State) : Steady (setAdmitHold v s) s := by
  unfold Steady setAdmitHold
  simp

@[simp] theorem escalate_steady (c : Fin 32) (s : State) : Steady (escalate c s) s := by
  unfold Steady escalate
  (repeat' split) <;> simp

@[simp] theorem countClass_steady (c : Fin 32) (s : State) : Steady (countClass c s) s := by
  unfold Steady countClass
  (try simp) <;> (repeat' (first | intro _ | split)) <;> (try simp)

@[simp] theorem sendMsi_steady (v : Fin 128) (s : State) : Steady (sendMsi v s) s := by
  unfold Steady sendMsi
  simp

@[simp] theorem requestMsi_steady (v : Fin 128) (s : State) : Steady (requestMsi v s) s := by
  unfold Steady requestMsi
  (repeat' split) <;> simp

@[simp] theorem logEvent_steady (src : Fin 128) (s : State) : Steady (logEvent src s) s := by
  unfold Steady logEvent
  (try simp) <;> (repeat' (first | intro _ | split)) <;> (try simp)

@[simp] theorem routeOne_steady (src : Fin 128) (s : State) : Steady (routeOne src s) s := by
  unfold Steady routeOne
  (try simp) <;> (repeat' (first | intro _ | split)) <;> (try simp)

@[simp] theorem routeAll_steady (s : State) : Steady (routeAll s) s := by
  unfold routeAll
  split
  · simp [Steady]
  · have h := foldl_steady (fun (s : State) (src : Fin 128) => if s.evt.raised.getLsbD src.val then routeOne src s else s)
      (List.finRange 128) s fun s a => by split <;> [exact routeOne_steady _ _; simp [Steady]]
    exact Steady.trans (by simp [Steady]) h

@[simp] theorem setState_steady (st : DevState) (s : State) : Steady (setState st s) s := by
  unfold Steady setState
  (repeat' split) <;> simp

@[simp] theorem setEng_steady (x : EngId) (e : Engine) (s : State) : Steady (setEng x e s) s := by
  unfold Steady setEng
  (repeat' split) <;> simp

@[simp] theorem setHp_steady (p : Port) (h : HeadPort) (s : State) : Steady (setHp p h s) s := by
  unfold Steady setHp
  simp

@[simp] theorem setStore_steady (p : Port) (t : PortStore) (s : State) : Steady (setStore p t s) s := by
  unfold Steady setStore
  simp

@[simp] theorem setTrack_steady (p : Port) (t : PortTrack) (s : State) : Steady (setTrack p t s) s := by
  unfold Steady setTrack
  simp

@[simp] theorem setLoads_steady (p : Port) (l : List Load) (s : State) : Steady (setLoads p l s) s := by
  unfold Steady setLoads
  simp

@[simp] theorem modUnit_steady (i : Fin 8) (f : ChkUnit → ChkUnit) (s : State) : Steady (modUnit i f s) s := by
  unfold Steady modUnit
  simp

@[simp] theorem finishUnit_steady (i : Fin 8) (s : State) : Steady (finishUnit i s) s := by
  unfold Steady finishUnit
  (try simp) <;> (repeat' (first | intro _ | split)) <;> (try simp)

@[simp] theorem takeRecord_steady (tap : Nat) (b : List Byte) (i : Fin 8) (s : State) : Steady (takeRecord tap b i s) s := by
  unfold takeRecord
  exact (fun u => by split <;> simp [Steady] : ∀ u : ChkUnit,
    Steady (if u.records ≠ 0 ∧ u.recsLeft = 0 then finishUnit i (modUnit i (fun _ => u) s) else modUnit i (fun _ => u) s) s) _

@[simp] theorem snoopUnit_steady (tap : Nat) (b : List Byte) (s : State) (i : Fin 8) : Steady (snoopUnit tap b s i) s := by
  unfold Steady snoopUnit
  (try simp) <;> (repeat' (first | intro _ | split)) <;> (try simp)

@[simp] theorem snoopRecord_steady (tap : Nat) (b : List Byte) (s : State) : Steady (snoopRecord tap b s) s := by
  unfold snoopRecord
  exact foldl_steady _ _ _ fun s i => snoopUnit_steady tap b s i

@[simp] theorem tapCut_steady (tap : Nat) (s : State) : Steady (tapCut tap s) s := by
  unfold Steady tapCut
  simp

@[simp] theorem releaseLines_steady (p : Port) (f : Stored → Bool) (s : State) : Steady (releaseLines p f s) s := by
  unfold Steady releaseLines
  simp

@[simp] theorem releaseDoc_steady (id : Word) (s : State) : Steady (releaseDoc id s) s := by
  exact foldl_steady _ _ _ fun s p => releaseLines_steady _ _ s

@[simp] theorem reviewRelease_steady (s : State) : Steady (reviewRelease s) s := by
  exact foldl_steady _ _ _ fun s p => releaseLines_steady _ _ s

@[simp] theorem modDoc_steady (id : Word) (f : Doc → Doc) (s : State) : Steady (modDoc id f s) s := by
  unfold Steady modDoc
  simp

@[simp] theorem modDocPort_steady (id : Word) (p : Port) (f : DocPort → DocPort) (s : State) : Steady (modDocPort id p f s) s := by
  unfold Steady modDocPort
  simp

@[simp] theorem captureFault_steady (s : State) : Steady (captureFault s) s := by
  unfold Steady captureFault
  simp

@[simp] theorem pushFault_steady (id : Word) (tag : Word) (reason : Nat) (port : Nat) (line : Nat) (s : State) : Steady (pushFault id tag reason port line s) s := by
  unfold Steady pushFault
  (try simp) <;> (repeat' (first | intro _ | split)) <;> (try simp)

@[simp] theorem markDoc_steady (id : Word) (reason : Nat) (port : Nat) (line : Nat) (s : State) : Steady (markDoc id reason port line s) s := by
  unfold Steady markDoc
  (repeat' split) <;> simp

@[simp] theorem docDone_steady (id : Word) (s : State) : Steady (docDone id s) s := by
  unfold Steady docDone
  (repeat' split) <;> simp

@[simp] theorem setSpeed_steady (v : Nat) (s : State) : Steady (setSpeed v s) s := by
  unfold Steady setSpeed
  (repeat' split) <;> simp

@[simp] theorem recomputeSpeed_steady (s : State) : Steady (recomputeSpeed s) s := by
  unfold Steady recomputeSpeed
  simp

@[simp] theorem refreshSpeed_steady (s0 s : State) : Steady (refreshSpeed s0 s) s := by
  unfold Steady refreshSpeed
  (try simp) <;> (repeat' (first | intro _ | split)) <;> (try simp)

@[simp] theorem refreshHold_steady (s : State) : Steady (refreshHold s) s := by
  unfold Steady refreshHold
  (try simp) <;> (repeat' (first | intro _ | split)) <;> (try simp)

@[simp] theorem touchLink_steady (s : State) : Steady (touchLink s) s := by
  unfold Steady touchLink
  simp

@[simp] theorem setNzh_steady (p : Port) (z : Nzh) (s : State) : Steady (setNzh p z s) s := by
  unfold Steady setNzh
  simp

@[simp] theorem abortSheet_steady (p : Port) (s : State) : Steady (abortSheet p s) s := by
  unfold Steady abortSheet
  (repeat' split) <;> simp

@[simp] theorem modLoad_steady (p : Port) (doc : Word) (line : Nat) (f : Load → Load) (s : State) : Steady (modLoad p doc line f s) s := by
  unfold Steady modLoad
  simp

@[simp] theorem mapLoads_steady (f : Load → Load) (s : State) : Steady (mapLoads f s) s := by
  unfold Steady mapLoads
  simp

@[simp] theorem supErr_steady (i : Nat) (s : State) : Steady (supErr i s) s := by
  unfold Steady supErr
  simp

@[simp] theorem giveBrake_steady (x : EngId) (s : State) : Steady (giveBrake x s) s := by
  unfold Steady giveBrake
  simp

@[simp] theorem clearBrake_steady (s : State) : Steady (clearBrake s) s := by
  unfold Steady clearBrake
  simp

@[simp] theorem logEngines_steady (periodic : Bool) (s : State) : Steady (logEngines periodic s) s := by
  unfold Steady logEngines
  simp

@[simp] theorem noteSolo_steady (s : State) : Steady (noteSolo s) s := by
  unfold Steady noteSolo
  simp

@[simp] theorem setRoles_steady (a : Role) (b : Role) (s : State) : Steady (setRoles a b s) s := by
  unfold Steady setRoles
  (repeat' split) <;> simp

@[simp] theorem rolesFor_steady (x : EngId) (r : Role) (other : Role) (s : State) : Steady (rolesFor x r other s) s := by
  unfold Steady rolesFor
  (repeat' split) <;> simp

@[simp] theorem startSelftest_steady (x : EngId) (s : State) : Steady (startSelftest x s) s := by
  unfold Steady startSelftest
  simp

@[simp] theorem withdraw_steady (x : EngId) (s : State) : Steady (withdraw x s) s := by
  unfold Steady withdraw
  simp

@[simp] theorem cutCopies_steady (gone : BitVec 16) (s : State) : Steady (cutCopies gone s) s := by
  unfold Steady cutCopies
  simp

@[simp] theorem dropCopies_steady (s : State) : Steady (dropCopies s) s := by
  unfold Steady dropCopies
  simp

@[simp] theorem reloadBlocks_steady (x : EngId) (s : State) : Steady (reloadBlocks x s) s := by
  unfold Steady reloadBlocks
  simp

@[simp] theorem endSwap_steady (failed : Bool) (s : State) : Steady (endSwap failed s) s := by
  unfold Steady endSwap
  (repeat' split) <;> simp

@[simp] theorem noteFault_steady (x : EngId) (kind : Nat) (p : Nat) (line : Nat) (s : State) : Steady (noteFault x kind p line s) s := by
  unfold Steady noteFault
  (repeat' split) <;> simp

@[simp] theorem markMismatched_steady (x : EngId) (s : State) : Steady (markMismatched x s) s := by
  unfold markMismatched
  exact foldl_steady _ _ _ fun s p => foldl_steady _ _ _ fun s l => markDoc_steady _ _ _ _ s

@[simp] theorem leavePair_steady (x : EngId) (retire : Bool) (raises : Bool) (s : State) : Steady (leavePair x retire raises s) s := by
  unfold Steady leavePair
  (try simp) <;> (repeat' (first | intro _ | split)) <;> (try simp)

@[simp] theorem markStopped_steady (s : State) : Steady (markStopped s) s := by
  exact foldl_steady _ _ _ fun s d => by split <;> [exact markDoc_steady _ _ _ _ s; simp [Steady]]

@[simp] theorem soloLasting_steady (s : State) : Steady (soloLasting s) s := by
  unfold Steady soloLasting
  (try simp) <;> (repeat' (first | intro _ | split)) <;> (try simp)

@[simp] theorem soloFault_steady (x : EngId) (kind : Nat) (p : Port) (doc : Word) (line : Nat) (s : State) : Steady (soloFault x kind p doc line s) s := by
  unfold Steady soloFault
  (try simp) <;> (repeat' (first | intro _ | split)) <;> (try simp)

@[simp] theorem stopSelftest_steady (x : EngId) (s : State) : Steady (stopSelftest x s) s := by
  unfold Steady stopSelftest
  simp

@[simp] theorem leadStays_steady (x : EngId) (retire : Bool) (s : State) : Steady (leadStays x retire s) s := by
  unfold leadStays
  refine (raise_steady _ _).trans ?_
  have h : ∀ t, ∀ u : Sup, Steady (giveBrake x.other (rolesFor x (leaveRole retire s) .solo (withdraw x (stopSelftest x.other { t with sup := u })))) t :=
    fun t u => (giveBrake_steady _ _).trans ((rolesFor_steady _ _ _ _).trans ((withdraw_steady _ _).trans ((stopSelftest_steady _ _).trans (by simp [Steady]))))
  split
  · exact (startSelftest_steady _ _).trans (h s _)
  · exact h s _

@[simp] theorem engineFault_steady (x : EngId) (kind : Nat) (retire : Bool) (p : Port) (doc : Word) (line : Nat) (s : State) : Steady (engineFault x kind retire p doc line s) s := by
  unfold Steady engineFault
  (try simp) <;> (repeat' (first | intro _ | split)) <;> (try simp)

@[simp] theorem noteVerdict_steady (units : Nat) (s : State) : Steady (noteVerdict units s) s := by
  unfold Steady noteVerdict
  simp

@[simp] theorem decideLoad_steady (p : Port) (s : State) (key : Word × Nat) : Steady (decideLoad p s key) s := by
  unfold Steady decideLoad
  (repeat' split) <;> simp

theorem decideLoads_steady (t : State) :
    Steady ((List.finRange 16).foldl (fun s p => (s.loads[p].map fun l => (l.docId, l.line)).foldl (decideLoad p) s) t) t :=
  foldl_steady _ _ _ fun s p => foldl_steady (decideLoad p) _ s (decideLoad_steady p)

theorem failover_steady (x : EngId) (c : Nat) (b : Bool) (p : Port) (d : Word) (k : Nat) (s : State) :
    Steady (engineFault x c b p d k { s with sup := { s.sup with testPending := false } }) s := by
  unfold Steady; simp

@[simp] theorem decideAll_steady (s : State) : Steady (decideAll s) s := by
  have h1 := decideLoads_steady s
  cases hf : failoverDue s with
  | none =>
    simp only [decideAll, hf]
    with_reducible exact h1
  | some k =>
    have h := failover_steady (mainEng s) 8 false k.1 k.2.docId k.2.line s
    have h2 := decideLoads_steady (engineFault (mainEng s) 8 false k.1 k.2.docId k.2.line { s with sup := { s.sup with testPending := false } })
    have h3 := h2.trans h
    simp only [decideAll, hf]
    with_reducible exact h3

@[simp] theorem noteEgress_steady (p : Port) (doc : Word) (line : Word) (b : List Byte) (s : State) : Steady (noteEgress p doc line b s) s := by
  unfold Steady noteEgress
  simp

@[simp] theorem takeOver_steady (x : EngId) (p : Port) (ld : Load) (s : State) : Steady (takeOver x p ld s) s := by
  unfold Steady takeOver
  simp

@[simp] theorem presented_steady (x : EngId) (p : Port) (ld : Load) (s : State) : Steady (presented x p ld s) s := by
  unfold Steady presented
  simp

@[simp] theorem offerLoad_steady (p : Port) (ld : Load) (s : State) : Steady (offerLoad p ld s) s := by
  unfold Steady offerLoad
  (try simp) <;> (repeat' (first | intro _ | split)) <;> (try simp)

@[simp] theorem handOver_steady (s : State) (p : Port) : Steady (handOver s p) s := by
  refine foldl_steady _ _ _ fun s key => ?_
  (repeat' split) <;> first | exact offerLoad_steady _ _ s | simp [Steady]

@[simp] theorem pairRound_steady (s : State) : Steady (pairRound s) s := by
  have h := (foldl_steady handOver (List.finRange 16) (decideAll s) handOver_steady).trans (decideAll_steady s)
  unfold pairRound
  with_reducible exact h

@[simp] theorem pairSettle_steady (s : State) : Steady (pairSettle s) s := by
  have h := (pairRound_steady (pairRound (pairRound s))).trans ((pairRound_steady (pairRound s)).trans (pairRound_steady s))
  unfold pairSettle
  with_reducible exact h

@[simp] theorem checkDone_steady (id : Word) (s : State) : Steady (checkDone id s) s := by
  unfold Steady checkDone
  (repeat' split) <;> simp

@[simp] theorem finishLoad_steady (p : Port) (ld : Load) (s : State) : Steady (finishLoad p ld s) s := by
  unfold Steady finishLoad
  simp

@[simp] theorem setGuardOk_steady (p : Port) (v : Bool) (s : State) : Steady (setGuardOk p v s) s := by
  unfold Steady setGuardOk
  simp

@[simp] theorem passLoad_steady (p : Port) (ld : Load) (s : State) : Steady (passLoad p ld s) s := by
  unfold Steady passLoad
  simp

@[simp] theorem countFires_steady (p : Port) (k : Nat) (s : State) : Steady (countFires p k s) s := by
  unfold Steady countFires
  simp

@[simp] theorem closeStrobes_steady (p : Port) (ld : Load) (t : Nat) (s : State) : Steady (closeStrobes p ld t s) s := by
  unfold Steady closeStrobes
  (repeat' split) <;> simp

@[simp] theorem cutLoad_steady (p : Port) (ld : Load) (s : State) : Steady (cutLoad p ld s) s := by
  unfold Steady cutLoad
  simp

@[simp] theorem portLost_steady (p : Port) (s : State) : Steady (portLost p s) s := by
  unfold portLost
  dsimp only
  refine Steady.trans (setTrack_steady _ _ _) (Steady.trans (foldl_steady _ _ _ fun s l => cutLoad_steady _ l s)
    (foldl_steady _ _ _ fun s d => (markDoc_steady _ _ _ _ _).trans (modDocPort_steady _ _ _ s)))

@[simp] theorem modRail_steady (r : Fin 4) (f : Rail → Rail) (s : State) : Steady (modRail r f s) s := by
  unfold Steady modRail
  simp

@[simp] theorem modHdv_steady (p : Port) (f : HdvPort → HdvPort) (s : State) : Steady (modHdv p f s) s := by
  unfold Steady modHdv
  simp

@[simp] theorem modHp_steady (p : Port) (f : HeadPort → HeadPort) (s : State) : Steady (modHp p f s) s := by
  unfold Steady modHp
  simp

@[simp] theorem hpErr_steady (p : Port) (i : Nat) (s : State) : Steady (hpErr p i s) s := by
  unfold Steady hpErr
  simp

@[simp] theorem releaseGate_steady (p : Port) (s : State) : Steady (releaseGate p s) s := by
  unfold Steady releaseGate
  (try simp) <;> (repeat' (first | intro _ | split)) <;> (try simp)

@[simp] theorem refusePower_steady (p : Port) (s : State) : Steady (refusePower p s) s := by
  unfold Steady refusePower
  simp

@[simp] theorem closeSwitch_steady (p : Port) (s : State) : Steady (closeSwitch p s) s := by
  unfold Steady closeSwitch
  simp

@[simp] theorem requestPower_steady (p : Port) (s : State) : Steady (requestPower p s) s := by
  unfold Steady requestPower
  (try simp) <;> (repeat' (first | intro _ | split)) <;> (try simp)

@[simp] theorem reevaluate_steady (p : Port) (s : State) : Steady (reevaluate p s) s := by
  unfold Steady reevaluate
  (repeat' split) <;> simp

@[simp] theorem dropPower_steady (p : Port) (s : State) : Steady (dropPower p s) s := by
  unfold Steady dropPower
  simp

@[simp] theorem reviewPort_steady (p : Port) (s : State) : Steady (reviewPort p s) s := by
  unfold Steady reviewPort
  (try simp) <;> (repeat' (first | intro _ | split)) <;> (try simp)

@[simp] theorem reviewPorts_steady (s : State) : Steady (reviewPorts s) s := by
  unfold reviewPorts
  exact foldl_steady _ _ _ fun s p => reviewPort_steady p s

@[simp] theorem modAxis_steady (i : Fin 4) (f : Axis → Axis) (s : State) : Steady (modAxis i f s) s := by
  unfold Steady modAxis
  simp

@[simp] theorem legEnd_steady (i : Fin 4) (s : State) : Steady (legEnd i s) s := by
  unfold legEnd
  dsimp only
  split <;> first | exact modAxis_steady _ _ _ | exact (raise_steady _ _).trans (modAxis_steady _ _ _)

@[simp] theorem axisPoint_steady (i : Fin 4) (g : Leg) (s : State) : Steady (axisPoint i g s) s := by
  unfold axisPoint
  dsimp only
  split
  · exact (legEnd_steady _ _).trans (modAxis_steady _ _ _)
  · exact modAxis_steady _ _ _

@[simp] theorem softStop_steady (i : Fin 4) (s : State) : Steady (softStop i s) s := by
  unfold softStop
  dsimp only
  (repeat' split) <;> first | exact axisPoint_steady _ _ _ | exact modAxis_steady _ _ _ | simp [Steady]

@[simp] theorem softStopAll_steady (s : State) : Steady (softStopAll s) s := by
  exact forAxes_steady softStop s softStop_steady

@[simp] theorem softStopMaint_steady (s : State) : Steady (softStopMaint s) s := by
  refine forAxes_steady _ s fun i s => ?_
  unfold Steady
  split <;> simp

@[simp] theorem rewriteThermal_steady (s : State) : Steady (rewriteThermal s) s := by
  unfold Steady rewriteThermal
  simp

@[simp] theorem goQuiet_steady (st : DevState) (s : State) : Steady (goQuiet st s) s := by
  unfold Steady goQuiet
  (repeat' split) <;> simp

@[simp] theorem enterRest_steady (s : State) : Steady (enterRest s) s := by
  unfold Steady enterRest
  simp

@[simp] theorem modCal_steady (f : Cal → Cal) (s : State) : Steady (modCal f s) s := by
  unfold Steady modCal
  simp

@[simp] theorem modTpt_steady (f : Tpt → Tpt) (s : State) : Steady (modTpt f s) s := by
  unfold Steady modTpt
  simp

@[simp] theorem noteCancelled_steady (s : State) : Steady (noteCancelled s) s := by
  unfold Steady noteCancelled
  simp

@[simp] theorem cancelStop_steady (s : State) : Steady (cancelStop s) s := by
  unfold Steady cancelStop
  (repeat' split) <;> simp

@[simp] theorem restartGrace_steady (s : State) : Steady (restartGrace s) s := by
  unfold Steady restartGrace
  simp

@[simp] theorem cancelCal_steady (s : State) : Steady (cancelCal s) s := by
  unfold Steady cancelCal
  (repeat' split) <;> simp

@[simp] theorem cancelMaint_steady (s : State) : Steady (cancelMaint s) s := by
  unfold Steady cancelMaint
  (repeat' split) <;> simp

@[simp] theorem modMgt_steady (f : Mgt → Mgt) (s : State) : Steady (modMgt f s) s := by
  unfold Steady modMgt
  simp

@[simp] theorem mgtErr_steady (i : Nat) (s : State) : Steady (mgtErr i s) s := by
  unfold Steady mgtErr
  simp

@[simp] theorem logUpdate_steady (outcome : Nat) (s : State) : Steady (logUpdate outcome s) s := by
  unfold Steady logUpdate
  simp

@[simp] theorem activated_steady (s : State) : Steady (activated s) s := by
  unfold Steady activated
  simp

@[simp] theorem activationFails_steady (s : State) : Steady (activationFails s) s := by
  unfold Steady activationFails
  simp

@[simp] theorem startFlash_steady (op : FlashOp) (s : State) : Steady (startFlash op s) s := by
  unfold Steady startFlash
  (repeat' split) <;> simp

@[simp] theorem clearMagic_steady (kolto : Bool) (slotB : Bool) (s : State) : Steady (clearMagic kolto slotB s) s := by
  unfold Steady clearMagic
  simp

@[simp] theorem reportLtr_steady (s : State) : Steady (reportLtr s) s := by
  unfold Steady reportLtr
  simp

@[simp] theorem holdPort_steady (s : State) : Steady (holdPort s) s := by
  unfold Steady holdPort
  simp

@[simp] theorem rollBack_steady (s : State) : Steady (rollBack s) s := by
  unfold Steady rollBack
  simp

@[simp] theorem loadFlashWin_steady (i : Image) (s : State) : Steady (loadFlashWin i s) s := by
  exact ⟨rfl, rfl, rfl, rfl, rfl, rfl, rfl, rfl, rfl, rfl, rfl, rfl, rfl, rfl, rfl, rfl, rfl⟩

@[simp] theorem forceKolto_steady (slotB : Bool) (i : Image) (s : State) : Steady (forceKolto slotB i s) s := by
  unfold Steady forceKolto
  simp

@[simp] theorem swapActivation_steady (s : State) : Steady (swapActivation s) s := by
  unfold Steady swapActivation
  (try simp) <;> (repeat' (first | intro _ | split)) <;> (try simp)

@[simp] theorem followScrub_steady (s : State) : Steady (followScrub s) s := by
  unfold Steady followScrub
  simp

@[simp] theorem accrueOwed_steady (s0 : State) (s : State) : Steady (accrueOwed s0 s) s := by
  unfold Steady accrueOwed
  simp

@[simp] theorem followState_steady (s : State) : Steady (followState s) s := by
  unfold Steady followState
  (repeat' split) <;> simp

@[simp] theorem dropDeferred_steady (s : State) : Steady (dropDeferred s) s := by
  unfold Steady dropDeferred
  (try simp) <;> (repeat' (first | intro _ | split)) <;> (try simp)

@[simp] theorem axesFollow_steady (old : DevState) (s : State) : Steady (axesFollow old s) s := by
  unfold Steady axesFollow
  (repeat' split) <;> simp

@[simp] theorem abortSheets_steady (s : State) : Steady (abortSheets s) s := by
  unfold abortSheets
  exact foldl_steady _ _ _ fun s p => by unfold abortSheet; split <;> simp [Steady]

@[simp] theorem endMaint_steady (s : State) : Steady (endMaint s) s := by
  unfold Steady endMaint
  simp

@[simp] theorem giveUpCal_steady (s : State) : Steady (giveUpCal s) s := by
  unfold Steady giveUpCal
  simp

@[simp] theorem leftWork_steady (old : DevState) (s : State) : Steady (leftWork old s) s := by
  unfold Steady leftWork
  (repeat' split) <;> simp

@[simp] theorem stateEffects_steady (old : DevState) (s : State) : Steady (stateEffects old s) s := by
  unfold Steady stateEffects
  (repeat' split) <;> simp

@[simp] theorem recordDocs_steady (s0 : State) (s : State) : Steady (recordDocs s0 s) s := by
  unfold Steady recordDocs
  (repeat' split) <;> simp

@[simp] theorem letFlash_steady (s : State) : Steady (letFlash s) s := by
  unfold Steady letFlash
  split
  · exact (foldl_steady _ _ _ fun s op => flashOp_steady op s).trans (by simp [Steady])
  · simp

@[simp] theorem noteWait_steady (s : State) : Steady (noteWait s) s := by
  unfold Steady noteWait
  (try simp) <;> (repeat' (first | intro _ | split)) <;> (try simp)

@[simp] theorem reportLost_steady (s : State) : Steady (reportLost s) s := by
  unfold Steady reportLost
  (repeat' split) <;> simp

@[simp] theorem wakeLink_steady (s0 : State) (s : State) : Steady (wakeLink s0 s) s := by
  unfold Steady wakeLink
  (repeat' split) <;> simp [modLink]

@[simp] theorem sleepHolds_steady (s0 : State) (s : State) : Steady (sleepHolds s0 s) s := by
  unfold Steady sleepHolds
  (repeat' split) <;> simp

/-- What settling leaves alone: of the channels, all but the read requests that go out. -/
abbrev Settled (a b : State) : Prop :=
  a.now = b.now ∧ a.free = b.free ∧ a.enc = b.enc ∧ a.ftl = b.ftl ∧ a.prof = b.prof ∧ a.thm.unwindowed = b.thm.unwindowed ∧ a.cap.unfaulted = b.cap.unfaulted ∧ a.otp = b.otp ∧
    a.link.cfgReady = b.link.cfgReady ∧ a.link.d3hot = b.link.d3hot ∧ a.pwr.released = b.pwr.released ∧ a.pwr.cfg = b.pwr.cfg ∧
    a.top.ignored = b.top.ignored ∧ a.top.scratch = b.top.scratch ∧ a.evt.table = b.evt.table ∧ a.evt.cfg = b.evt.cfg ∧
    a.dma.map Dma.unasked = b.dma.map Dma.unasked

theorem Settled.trans {a b c : State} (h1 : Settled a b) (h2 : Settled b c) : Settled a c := by
  simp only [Settled] at *; simp [h1, h2]

theorem Settled.of_steady {a b : State} (h : Steady a b) : Settled a b := by
  simp only [Settled, Steady] at *; simp [h]

theorem foldl_settled {α : Type} (g : State → α → State) (l : List α) (s : State) (h : ∀ s a, Settled (g s a) s) :
    Settled (l.foldl g s) s := by
  induction l generalizing s with
  | nil => simp [Settled]
  | cons a l ih => exact (ih (g s a)).trans (h s a)

theorem setDma_settled (ch : Chan) (d : Dma) (s : State) (h : d.unasked = s.dma[ch].unasked) : Settled (setDma ch d s) s := by
  refine ⟨rfl, rfl, rfl, rfl, rfl, rfl, rfl, rfl, rfl, rfl, rfl, rfl, rfl, rfl, rfl, rfl, ?_⟩
  simp only [setDma]
  apply Vector.ext
  intro i hi
  simp only [Vector.getElem_map, Vector.getElem_set]
  split
  · next e => subst e; exact h
  · rfl

theorem issueReq_settled (ch : Chan) (kind : ReqKind) (off len : Nat) (s : State) : Settled (issueReq ch kind off len s) s :=
  (Settled.of_steady (touchLink_steady _)).trans (setDma_settled ch _ s rfl)

theorem issueBuffer_settled (ch : Chan) (s : State) : Settled (issueBuffer ch s) s := by
  unfold issueBuffer
  dsimp only
  split
  · simp [Settled]
  · next c hc =>
    split
    · exact (issueReq_settled _ _ _ _ _).trans (setDma_settled _ _ _ (by simp only [Dma.unasked, hc, Option.map_some]))
    · simp [Settled]

theorem issueSlot_settled (ch : Chan) (s : State) : Settled (issueSlot ch s) s := by
  unfold issueSlot
  dsimp only
  split
  · exact issueReq_settled _ _ _ _ _
  · simp [Settled]

theorem fetchDesc_settled (ch : Chan) (s : State) : Settled (fetchDesc ch s) s := by
  unfold fetchDesc
  dsimp only
  split
  · exact issueReq_settled _ _ _ _ _
  · simp [Settled]

theorem issueOwed_settled (ch : Chan) (s : State) : Settled (issueOwed ch s) s := by
  unfold issueOwed
  split
  · exact (fetchDesc_settled _ _).trans ((issueBuffer_settled _ _).trans ((issueBuffer_settled _ _).trans ((issueBuffer_settled _ _).trans
      ((issueBuffer_settled _ _).trans (issueSlot_settled _ _)))))
  · simp [Settled]

/-- Issuing the requests that the channels owe changes nothing but the requests and the link's traffic. -/
theorem issueAll_settled (s : State) : Settled (issueAll s) s := by
  unfold issueAll
  split
  · exact foldl_settled _ _ _ fun s ch => by split <;> [exact issueOwed_settled _ _; simp [Settled]]
  · simp [Settled]

/-- Everything that follows from a command in its clock leaves these parts of the state alone. -/
theorem settle_settled (s0 s : State) : Settled (settle s0 s) s := by
  have a : ∀ t, Settled (sleepHolds s0 (wakeLink s0 (routeAll (reportLtr (followScrub (issueAll (reportLost t))))))) t := fun t =>
    (Settled.of_steady (sleepHolds_steady _ _)).trans ((Settled.of_steady (wakeLink_steady _ _)).trans
      ((Settled.of_steady (routeAll_steady _)).trans ((Settled.of_steady (reportLtr_steady _)).trans
        ((Settled.of_steady (followScrub_steady _)).trans ((issueAll_settled _).trans (Settled.of_steady (reportLost_steady _)))))))
  have b : ∀ t, Steady (refreshHold (refreshSpeed s0 (noteWait (letFlash (recordDocs s0 (accrueOwed s0 t)))))) t := fun t => by unfold Steady; simp
  have c : ∀ t, Steady (swapActivation (stateEffects s0.top.state (followState (pairSettle t)))) t := fun t => by unfold Steady; simp
  unfold settle
  dsimp only
  with_reducible refine (a _).trans ?_
  with_reducible refine (Settled.of_steady (b _)).trans ?_
  with_reducible exact Settled.of_steady (c _)

end Sys2Proof.Machine
end

