-- ==== Sys2Proof/Machine/Pins.lean ====
section
/-! DEFINITION. The levels of the output balls that follow from the state alone: true is high. Pulses and transfers, which a command sends out,
stand in `Out`. -/

namespace Sys2Proof.Machine

/-- READY (R326, R339). -/
def readyPin (s : State) : Bool :=
  portOpen s && match s.top.state with
    | .ready | .gap | .print | .maint | .calib | .thermalHold => true
    | _ => false

/-- DOCHOLD (R139, R326, R339). -/
def docholdPin (s : State) : Bool := !portOpen s || s.pond.dochold

/-- DOCFAULT_N (R326, R341). -/
def docfaultPin (s : State) : Bool := !portOpen s || !s.tpt.pulseLow

/-- TP_EVT_N (R326, R330). -/
def tpEvtPin (s : State) : Bool := !portOpen s || s.tpt.events &&& s.tpt.mask == 0

/-- MAIN_EN, an output of the always-on domain (R419, R430). -/
def mainEnPin (s : State) : Bool := s.pwr.mainEn

/-- HPn_PWR_EN is driven: the port's switch is on (R265, R274). -/
def pwrEnDriven (p : Port) (s : State) : Bool := s.hdv.ports[p].gate

/-- HPn_D0 to HPn_D3, HPn_CLK, HPn_LAT, HPn_FIRE_A and HPn_FIRE_B are held low (R483). -/
def lanesHeldLow (p : Port) (s : State) : Bool := !lanesMayMove p s

/-- HPn_SCL and HPn_SDA are released: no head-memory transfer runs on the port (R240, R483). -/
def i2cReleased (p : Port) (s : State) : Bool :=
  let h := s.hp[p]
  !(s.pwr.released && (readsRecord h || (match h.write with | .page _ => !h.writeHeld | .readback => true | _ => false)))

/-- Before the port is open the balls of the transport port stand as R326 says. -/
theorem pins_before_open (s : State) (g : portOpen s = false) :
    readyPin s = false ∧ docholdPin s = true ∧ docfaultPin s = true ∧ tpEvtPin s = true := by
  simp [readyPin, docholdPin, docfaultPin, tpEvtPin, g]

end Sys2Proof.Machine
end

