-- ==== Sys2Proof/WellFormed.lean ====
section
/-! DEFINITION. Operands that the outside world can hand over: offsets inside their window, byte strings of the length their source has,
word and cell numbers of their memory. The machine is total on every operand; claims that need a bound name these checks. -/

namespace Sys2Proof

/-- Bytes of a register window (R10, R13, R16). -/
def busSize : Bus → Nat
  | .bar0 => 0x40000
  | .bar2 => 0x1000
  | .bar4 => 0x2000
  | .tp => 0x100

/-- A window offset can be accessed (R8, R10): the transport port by word number, a BAR on a 32-bit boundary. -/
def offsetOk (bus : Bus) (off : Nat) : Bool :=
  decide (off < busSize bus) && (bus == .tp || off % 4 == 0)

/-- The reads of words and locks name words of the array, each at most once (R396). -/
def readsOk (words : List FuseRead) (locks : List LockRead) : Bool :=
  (words.all fun w => decide (w.word < 512)) && decide ((words.map fun w => w.word).Nodup) &&
    decide ((locks.map fun l => l.fuse).Nodup)

/-- A copy of a head record has its 128 bytes (R242); a copy that was not read has none. -/
def copyOk : Option (List Byte) → Bool
  | some l => l.length == 128
  | none => true

/-- Upsets name pond words, each at most once (R118). -/
def errsOk (errs : Upsets) : Bool := decide ((errs.map fun e => e.1).Nodup)

/-- A command whose operands the outside world can hand over. -/
def Instr.wf : Instr → Bool
  | .registerWrite bus off _ _ => offsetOk bus off
  | .configRequest _ off _ => decide (off < 4096) && off % 4 == 0
  | .descriptorArrival _ _ bytes => bytes.length == 32
  | .packetHeaderArrival _ bytes => bytes.length == 32
  | .docOpen _ bytes => decide (32 ≤ bytes.length) && bytes.length % 32 == 0
  | .linePacket _ bytes => decide (32 ≤ bytes.length) && bytes.length % 32 == 0
  | .testLine _ bytes => decide (32 ≤ bytes.length) && bytes.length % 32 == 0
  | .docClose _ bytes => decide (32 ≤ bytes.length) && bytes.length % 32 == 0
  | .filler _ bytes => decide (32 ≤ bytes.length) && bytes.length % 32 == 0
  | .scrubRow errs => errsOk errs
  | .chkScanDone _ _ errs => errsOk errs
  | .lineAheadEvent _ errs => errsOk errs
  | .updPageProgrammed _ errs => errsOk errs
  | .spareRowCopyDone errs => errsOk errs
  | .auxDataConsumed _ errs => errsOk errs
  | .profileWrite off _ => off % 4 == 0
  | .recordReadDone _ c0 c1 => copyOk c0 && copyOk c1
  | .otpReread words locks => readsOk words locks
  | .fusesStageDone words locks _ => readsOk words locks
  | .firmwareStageDone h a b _ => h.length == 4096 && decide (a.length ≤ 1048576) && decide (b.length ≤ 1048576)
  | .mgtRestartDone a b => decide (a.length ≤ 1048576) && decide (b.length ≤ 1048576)
  | .configStageDone a b _ => decide (a.length ≤ 2097152) && decide (b.length ≤ 2097152)
  | .updVerifyDone image errs => decide (image.length ≤ 2097152) && errsOk errs
  | .koltoReloadDone image => decide (image.length ≤ 2097152)
  | .calibrationDone rd => decide ((rd.codes.map fun c => c.1).Nodup) && rd.interp.length == 16
  | .restoreStageDone records _ => records.all fun r => r.length == 32
  | _ => true

end Sys2Proof
end

