-- ==== Sys2Proof/Tests/Slice0.lean ====
section
/-! SUPPORT. Tests of the model: operands that WellFormed refuses, values that the spec prints, small steps, and for every statement of
Certificates/Slice0/Obligations.lean a witness that its hypotheses can be met, clause by clause. -/

namespace Sys2Proof.Tests

-- One theorem at a time: each kernel evaluation would otherwise wait in a thread of its own.
set_option Elab.async false

open Machine

/-! ## Operands that WellFormed refuses -/

/-- BAR0 has 256 KiB (R10). -/
theorem test_wf_offset : (Instr.registerWrite .bar0 0x40000 0 0x0F).wf = false ∧ (Instr.registerWrite .bar0 0x3FFFC 0 0x0F).wf = true := by decide

/-- A BAR is accessed on 32-bit boundaries, the transport port by word number. -/
theorem test_wf_boundary : (Instr.registerWrite .bar0 2 0 0x0F).wf = false ∧ (Instr.registerWrite .tp 1 0 3).wf = true := by decide

/-- Configuration space has 4,096 bytes. -/
theorem test_wf_config : (Instr.configRequest false 4096 0).wf = false ∧ (Instr.configRequest false 2 0).wf = false := by decide

/-- A descriptor and a packet header have 32 bytes. -/
theorem test_wf_descriptor :
    (Instr.descriptorArrival 0 0 (List.replicate 31 0)).wf = false ∧ (Instr.packetHeaderArrival 0 (List.replicate 33 0)).wf = false := by decide

/-- A packet has a multiple of 32 bytes (R46). -/
theorem test_wf_packet :
    (Instr.docOpen 0 []).wf = false ∧ (Instr.linePacket 0 (List.replicate 33 0)).wf = false ∧ (Instr.testLine 0 []).wf = false ∧
      (Instr.docClose 0 (List.replicate 31 0)).wf = false ∧ (Instr.filler 0 []).wf = false := by decide

/-- A word is in error once. -/
theorem test_wf_errors :
    (Instr.scrubRow [(3, 1), (3, 3)]).wf = false ∧ (Instr.chkScanDone 0 [] [(3, 1), (3, 3)]).wf = false ∧
      (Instr.lineAheadEvent 0 [(3, 1), (3, 3)]).wf = false ∧ (Instr.updPageProgrammed true [(3, 1), (3, 3)]).wf = false ∧
      (Instr.auxDataConsumed 0 [(3, 1), (3, 3)]).wf = false := by decide

/-- An image has at most the bytes of its slot (R445). -/
theorem test_wf_images :
    (Instr.updVerifyDone (List.replicate 2097153 0) []).wf = false ∧ (Instr.koltoReloadDone (List.replicate 2097153 0)).wf = false ∧
      (Instr.firmwareStageDone (List.replicate 4096 0) (List.replicate 1048577 0) [] 0).wf = false ∧ (Instr.configStageDone [] (List.replicate 2097153 0) 0).wf = false := by
  simp only [Instr.wf, List.length_replicate]
  decide +kernel

/-- The PROFILE window is written by words. -/
theorem test_wf_profile : (Instr.profileWrite 2 0).wf = false := by decide

/-- A copy of a head record has 128 bytes (R242). -/
theorem test_wf_record : (Instr.recordReadDone 0 (some []) none).wf = false := by decide

/-- The fuse array has 512 words, each read once (R396). -/
theorem test_wf_fuses :
    (Instr.otpReread [⟨512, 0, 0, 0⟩] []).wf = false ∧ (Instr.fusesStageDone [] [⟨1, 0, 0, 0⟩, ⟨1, 7, 7, 7⟩] 0).wf = false := by decide

/-- A trim is measured once, and INTERP has 16 delays. -/
theorem test_wf_calibration :
    (Instr.calibrationDone ⟨[(1, 0), (1, 5)], List.replicate 16 0, 0, 0⟩).wf = false ∧ (Instr.calibrationDone ⟨[], [], 0, 0⟩).wf = false := by decide

/-- A log record has 32 bytes (R452). -/
theorem test_wf_records : (Instr.restoreStageDone [[]] 0).wf = false := by decide

/-! ## Values that the spec prints -/

/-- The check string of R42. -/
theorem test_crc_digits : crc32c [0x31, 0x32, 0x33, 0x34, 0x35, 0x36, 0x37, 0x38, 0x39] = 0xE3069283 := by decide +kernel

/-- The other rows of R42's table: 32 bytes of 0x00 and of 0xFF. -/
theorem test_crc_constant : crc32c (List.replicate 32 0x00) = 0x8A9136AA ∧ crc32c (List.replicate 32 0xFF) = 0x62A8AB43 := by decide +kernel

/-- 32 bytes that rise and that fall. -/
theorem test_crc_counting :
    crc32c ((List.range 32).map (BitVec.ofNat 8)) = 0x46DD794E ∧ crc32c (((List.range 32).map (BitVec.ofNat 8)).reverse) = 0x113FDB5C := by
  decide +kernel

/-- The payload of the example under R42 decodes to its line. -/
theorem test_zero_run : decodeLine [0xA7, 3, 0x3C, 0x7E, 0x7E, 0x3C, 0xD3] 128 =
    some (List.replicate 40 0 ++ [0x3C, 0x7E, 0x7E, 0x3C] ++ List.replicate 84 0) := by decide +kernel

/-- The fold block of that example. -/
theorem test_fold : foldBlock 0 0x31C40 17 = [0, 0, 0, 0, 0x40, 0x1C, 3, 0, 0x11, 0, 0, 0, 2, 0, 0, 0] := by decide

/-- The ring of the example under R86: 16 entries, HEAD 14, TAIL 3. -/
theorem test_pending : pendingDescs { entries := 16, head := 14, tail := 3 } = 5 := by decide

/-- The cheque head's column distance of 211.7 µm at 240 dpi (R246). -/
theorem test_derived_delay : derivedDelta 2117 105833000 = 512 := by decide

/-- The passport line's drive die: 3.0 W at 2.0 °C/W lie 6.0 °C above the logic die. -/
theorem test_drive_rise : riseOf 20 3000000 = 96 := by decide +kernel

/-- The default settings of the error classes 0 and 31 (R474). -/
theorem test_class_defaults : classDefaults[0] = classDefault 1000 16 0 ∧ classDefaults[31] = classDefault 3600000 3 0 := by decide

/-! ## States -/

/-- The device in READY with nothing in progress. -/
def up : State :=
  { State.reset with
    top := { state := .ready, prev := .boot }
    pwr := { released := true, readySeen := true, stage := 15, fireLock := true, coreLock := true, xinOk := true, supply := 0x7F }
    link := { cfgReady := true, readyGate := false }
    mgt := { running := true } }

/-- The same in another device state. -/
def inState (st : DevState) : State := { up with top := { state := st } }

/-- A document on no port. -/
def aDoc : Doc :=
  { id := 1, payload := [], profile := 0, stream := true, trigger := 0, mask := 1, lineCount := 2, startOff := 0, hostTag := 0, opened := 1
    offered := true, admitted := true, trigged := some 0 }

/-- The device printing that document. -/
def printing : State := { up with top := { state := .print }, docs := [aDoc] }

/-- Channel 0 as given. -/
def chan (d : Dma) : State := { up with dma := up.dma.set 0 d }

/-- Channel 19 as given. -/
def aux (d : Dma) : State := { up with dma := up.dma.set 19 d }

/-- A descriptor of 32 bytes. -/
def cur : CurDesc := { desc := ⟨0, 32, 0, 0⟩ }

/-- Loop A as given. -/
def loopA (l : Loop) : State := { up with ftl := up.ftl.set 0 l }

/-- A load of line 0. -/
def aLoad : Load := { docId := 1, line := 0, kind := .print }

/-- One load on port 0 of the document in progress. -/
def loaded (l : Load) : State := { printing with loads := printing.loads.set 0 [l] }

/-- Port 0 as given. -/
def port (h : HeadPort) : State := { up with hp := up.hp.set 0 h }

/-- Supply of port 0 as given. -/
def supply (h : HdvPort) : State := { up with hdv := { up.hdv with ports := up.hdv.ports.set 0 h } }

/-- Rail 0 as given. -/
def rail (r : Rail) : State := { up with hdv := { up.hdv with rails := up.hdv.rails.set 0 r } }

/-- Axis 0 as given. -/
def axis (a : Axis) : State := { up with mot := { up.mot with axes := up.mot.axes.set 0 a } }

/-- Check unit 0 as given. -/
def unit (u : ChkUnit) : State := { up with chk := { up.chk with units := up.chk.units.set 0 u } }

/-- Nozzle health of port 0 as given. -/
def health (z : Nzh) : State := { up with nzh := up.nzh.set 0 z }

/-- A packet of port 0 without a payload: its type, tags, document and line, checked against `exp`. -/
def packet (ty tags : Byte) (doc line : Word) (exp : Word × Word) : List Byte :=
  let h : List Byte := [0xA7, ty, tags, 0x20] ++ toLe 4 doc.toNat ++ toLe 4 line.toNat ++ [0, 0, 0, 0]
  h ++ toLe 4 (crc32c (foldBlock 0 exp.1 exp.2 ++ h)).toNat ++ List.replicate 12 0

/-- A valid record of a head with 4 nozzles (R242). -/
def aRecord : List Byte :=
  [0x52, 0xA5, 1, 0, 0, 0, 0, 0] ++ toLe 8 1 ++ [2, 0, 1, 4, 4, 0, 1, 1, 0, 0, 0, 0, 100, 60] ++ toLe 2 1000 ++ toLe 2 3435 ++ [0, 0] ++
    List.replicate 32 0xFF ++ List.replicate 58 0 ++ toLe 2 41448

/-- A print profile of port 0 for heads of 4 nozzles, with the loop's settings in force. -/
def aProfile : Profile := ⟨.a, ⟨16, 1, 500, 6⟩, 8, 0, 0, 105833000, false, (Vector.replicate 16 none).set 0 (some ⟨false, 1, 1, 4, 4, 0, 0, 0, false⟩)⟩

/-- The framing that a channel in IDLE expects. -/
def idleTag : Word × Word := (0, BitVec.allOnes 32)

/-- Channel 0 running with a current descriptor of 32 bytes. -/
def reading : Dma := { enable := true, state := .running, cur := some cur, entries := 16, tail := 1 }

/-- Channel 0 with document 1 open. -/
def openChan : Dma := { reading with frame := .opened, openDoc := 1, lineCount := 2 }

/-! ## Small steps -/

/-- R29. -/
theorem test_ignored_same_clock : (clearIgnored (countIgnored up)).top.ignored = 0 ∧ (countIgnored (clearIgnored up)).top.ignored = 1 := by decide

/-- READY rises with the state and DOCHOLD stands high at reset (R326, R339, R139). -/
theorem test_pins : readyPin { up with now := 8000 } = true ∧ readyPin { up with now := 7999 } = false ∧ readyPin State.reset = false ∧ docholdPin State.reset = true ∧ mainEnPin State.reset = true := by decide

/-- The front of the queue is carried out and leaves it. -/
theorem test_step_front :
    (match step { State.reset with pending := [.vaonGood] } with | .next t => t.pending | _ => [.vaonGood]) = [] := by decide +kernel

/-- A clipped scan (R157), as in the example before R168: partition 3 has 2,490,368 bytes, and 90,368 of them are left to scan. -/
theorem test_clipped_scan :
    (scanRange { cfg := 0x000401A0, start := 2400000, length := 100000 } up).map (fun t => t.2 - t.1) = some 90368 := by decide +kernel

/-- The state after a command. -/
def ran (c : Instr) (s : State) : State := match exec c s with | .next t => t | _ => State.reset

/-- SCRATCH takes a word, and keeps it where one byte is not enabled (R8). -/
theorem test_scratch :
    (ran (.registerWrite .bar0 0x18 0x12345678 0x0F) up).top.scratch = 0x12345678 ∧
      (ran (.registerWrite .bar0 0x18 0x12345678 0x07) up).top.scratch = 0 := by decide +kernel

/-- STOP in READY sets ADMIT_HOLD and answers ACCEPTED (R332). -/
theorem test_stop : (ran .stop up).pond.admitHold = true ∧ (ran .stop up).tpt.resOp = 3 ∧ (ran .stop up).tpt.resOutcome = 0 := by decide +kernel

/-- RING_SIZE takes 65,536 and flags 17 (R87). -/
theorem test_ring_size :
    (ran (.ringSizeWrite 0 65536) up).dma[0].entries = 65536 ∧ (ran (.ringSizeWrite 0 17) up).dma[0].entries = 16 ∧
      (ran (.ringSizeWrite 0 17) up).dma[0].err = 2 := by decide +kernel

/-- A rising edge of A with B low moves a loop by NUM / DEN (R178), forward (log entry 19). -/
theorem test_edge : (ran (.encEdge 0 true false 1 8 8) (loopA { enable := true, state := .acquire, encCfg := 0x800 })).ftl[0].pos = 16 := by
  decide +kernel

/-! ## Witnesses: the queue, registers and the link -/

/-- Clause by clause: an empty queue; a step from it. -/
theorem witness_QueueSteps : up.pending = [] ∧ completes (step up) = true := by decide +kernel

/-- A command that leads to a next state. -/
theorem witness_CommandsKeepQueue : completes (exec .vaonGood State.reset) = true := by decide +kernel

/-- A sound state and its step. -/
theorem witness_StepKeepsSound :
    Memory.wf up.pond.mem = true ∧ up.brakeOk = true ∧ completes (step { up with pending := [.vaonGood] }) = true := by
  decide +kernel

/-- The host windows answer; both byte enables, one that covers neither word, a part of the low half; an aligned and an unaligned offset;
an access that begins in a doorbell's high half; the first undecoded doorbell; the transport port before READY and in it. -/
theorem witness_RegisterWrites :
    up.link.cfgReady = true ∧ up.pwr.released = true ∧ 0x3FFFC % 4 = 0 ∧ 0x3FFFD % 4 ≠ 0 ∧ (0x77 : BitVec 8).setWidth 4 ≠ (15 : BitVec 4) ∧
      ((0x77 : BitVec 8) >>> 4).setWidth 4 ≠ (15 : BitVec 4) ∧ 0xA0 ≤ 0xA0 ∧ notReady up.top.state = false ∧
      0 < (1 : Chan).val ∧ ((0xF0 : BitVec 8) >>> 4).setWidth 4 = (15 : BitVec 4) ∧ 0 % 8 ≠ 4 ∧ 4 % 8 ≠ 0 := by decide +kernel

/-- A TEST word; the first and the last offset of each range without a block; a document in progress and none; a channel that is enabled and
one that is not, and a CTL word without actions. -/
theorem witness_RegisterWrites_types :
    (3 : Word).getLsbD 1 = true ∧ (1 : Word).getLsbD 1 = false ∧
    (∀ off ∈ [0, 0x10, 0x7000, 0x73BC, 0x9400, 0x9FFC, 0xD000, 0xDFFC, 0x30000],
      off < 0x14 ∨ (0x7000 ≤ off ∧ off < 0x73C0) ∨ (0x9400 ≤ off ∧ off < 0xA000) ∨ (0xD000 ≤ off ∧ off < 0xE000) ∨ 0x30000 ≤ off) ∧
    docInProgress printing = true ∧ printing.link.cfgReady = true ∧ docInProgress up = false ∧ up.dma[0].enable = false ∧
    (chan reading).dma[0].enable = true ∧ (0x20 : Word) &&& 0x1F = 0 := by decide +kernel

/-- As RegisterWrites. -/
theorem witness_IgnoredWritesClear : up.link.cfgReady = true := by decide +kernel

/-- A document in progress that uses loop A and port 0. -/
theorem witness_GuardedWritesIgnored :
    printing.link.cfgReady = true ∧ docInProgress printing = true ∧ loopInUse .a printing = true ∧ portInDoc 0 printing = true := by decide +kernel

/-- Reset: nothing answers and nothing runs. -/
theorem witness_GatesHold : State.reset.link.cfgReady = false ∧ State.reset.pwr.released = false := by decide +kernel

/-- READY with nothing pending, before configuration readiness too; a speed that differs; a fault record, a pending document, and a channel
that works. -/
theorem witness_LinkAndCaptures :
    (up.link.cfgReady = true ∧ up.pwr.released = true ∧ docInProgress up = false ∧ workPending up = false ∧ up.pwr.cfg.getLsbD 0 = false ∧
      (1 : BitVec 4) ≠ up.link.speed) ∧
    (let s : State := { State.reset with pwr := { released := true } }; s.pwr.released = true ∧ s.link.cfgReady = false) ∧
    (let r : FaultRec := ⟨1, 0, 2, 0, 0, 0, 0⟩; ({ fifo := [r] } : Tpt).fifo = r :: []) ∧
    (let d := { aDoc with trigged := none }
     let s : State := { up with docs := [d] }
     holdDoc s = some d) ∧ works (chan reading).dma[0] = true := by decide +kernel

/-- The bounds of the offsets without a block; the last byte of a word; a port that is open, before and in SLEEP, at a register that answers
there and one that does not. -/
theorem witness_LinkAndCaptures_reads :
    (∀ off ∈ [0xD000, 0xDFFC, 0x30000], (0xD000 ≤ off ∧ off < 0xE000) ∨ 0x30000 ≤ off) ∧ 0x18 % 4 = 0 ∧ 0 < 1 ∧ 3 + 1 ≤ 4 ∧
    portOpen { up with now := 8000 } = true ∧ up.pwr.readySeen = true ∧ (∀ a ∈ [6, 255], tpAlways a up = none ∧ tpAlways a (inState .sleep) = none) ∧
    (inState .sleep).top.state = .sleep ∧ up.top.state ≠ .sleep ∧ tpOwn 255 = false := by decide +kernel

/-! ## Witnesses: DMA channels and packets -/

/-- Values above the low half and below it; each state of the gate, the device and the channel; the largest value that fits and the smallest
that does not; a channel with and without a current descriptor. -/
theorem witness_Doorbells :
    (let s : State := { up with link := { cfgReady := true } }; s.link.readyGate = true ∧ s.top.state ≠ .sleep) ∧
    (let s : State := { inState .sleep with link := { cfgReady := true }, pwr := { released := true, cfg := 0x1000 } }
     s.link.cfgReady = true ∧ s.link.readyGate = true ∧ s.top.state = .sleep ∧ s.pwr.cfg.getLsbD 12 = true) ∧
    (∀ s ∈ [chan { state := .killed }, chan { state := .resetting }, chan { enable := true, state := .stopped }],
      s.link.cfgReady = true ∧ s.link.readyGate = false ∧ s.top.state ≠ .sleep) ∧
    (chan { state := .killed }).dma[0].state = .killed ∧ (chan { state := .resetting }).dma[0].state = .resetting ∧
    (let d := (chan { enable := true, state := .stopped }).dma[0]
     d.state ≠ .killed ∧ d.state ≠ .resetting ∧ d.state ≠ .running ∧ badBell d (bellValue 15 true) = false ∧ badBell d (bellValue 16 true) = true) ∧
    hasCurrent (chan reading).dma[0] = true ∧ badBell (chan reading).dma[0] (bellValue 1 false) = false ∧
    (let d : Dma := { reading with cur := none }; d.stopReq = false ∧ d.ahead = none ∧ badBell d (bellValue 0 false) = false) := by decide +kernel

/-- One state per clause. -/
theorem witness_ChannelControl :
    (up.link.cfgReady = true ∧ up.pwr.released = true) ∧
    (abandoned reading).isEmpty = true ∧
    (abandoned { reading with reqs := [{ id := 5, kind := .next, off := 0, len := 32, reissues := 0 }] }).isEmpty = false ∧
    ({ reading with state := .stopping } : Dma).state = .stopping ∧
    (∀ b ∈ [true, false], let s := chan { stopReq := b }
      s.dma[0].state = .disabled ∧ checkerOut 0 s = false ∧ hasCurrent s.dma[0] = false ∧ s.dma[0].ahead = none ∧ s.dma[0].stopReq = b) ∧
    hasCurrent ({ reading with cur := none } : Dma) = false ∧ reading.state = .running ∧ hasCurrent reading = true ∧
    (let d : Dma := { reading with state := .stopping, stopReq := true, ahead := some ⟨cur.desc, 0⟩ }
     d.state = .stopping ∧ d.state ≠ .disabled ∧ d.state ≠ .running ∧ hasCurrent d = true) ∧
    (let d : Dma := { state := .stopped }; d.state = .stopped ∧ d.ahead = none) ∧
    (up.dma.set 16 { state := .halted })[16].state = .halted ∧ 16 ≤ (16 : Chan).val ∧ channelDocs 0 (chan reading) = [] ∧
    (chan { state := .killed }).dma[0].state = .killed ∧ (chan { state := .resetting }).dma[0].state = .resetting := by
  decide +kernel

/-- A disabled and an enabled channel. -/
theorem witness_RingSize :
    up.link.cfgReady = true ∧ (chan {}).dma[0].enable = false ∧ (chan reading).dma[0].enable = true := by decide +kernel

/-- The smallest and the largest size. -/
theorem witness_RingSize_sizes : (16 : Word).toNat % 131072 = 16 * 2 ^ 0 ∧ (65536 : Word).toNat % 131072 = 16 * 2 ^ 12 := by decide +kernel

/-- A value that is no size. -/
theorem witness_RingSize_others : ∀ k < 13, (17 : Word).toNat % 131072 ≠ 16 * 2 ^ k := by
  intro k hk
  interval_cases k <;> decide

/-- A read of a descriptor: the next one, or the slot at HEAD again. -/
def descRead (k : ReqKind) : ReadReq := { id := 5, kind := k, off := 0, len := 32, reissues := 1 }

/-- The descriptor of 32 bytes at address 0. -/
def desc32 : List Byte := [0, 0, 0, 0, 0, 0, 0, 0, 32] ++ List.replicate 23 0

/-- A descriptor that arrives with nothing current, with one current, and as the slot's second read; a read that was abandoned. -/
theorem witness_Descriptors :
    up.pwr.released = true ∧ desc32.length = 32 ∧
    (∀ k ∈ [ReqKind.next, .slot],
      (({ reading with reqs := [descRead k] } : Dma).reqs.find? fun q => q.id == 5 && q.backoff.isNone && q.kind != .buffer) = some (descRead k)) ∧
    (let d : Dma := { reading with cur := none, reqs := [descRead .next] }
     let c := parseDesc desc32
     d.state = .running ∧ hasCurrent d = false ∧ d.ahead = none ∧ 0 < pendingDescs d ∧ c.len ≠ 0 ∧ c.flags &&& 0xF8#8 = 0 ∧
       c.addr.toNat % 32 = 0 ∧ c.len ≤ 0xFFFFE0 ∧ c.len ≤ lineCapacity 0 (chan d) ∧ c.len ≤ lineFree 0 (chan d)) ∧
    (let d : Dma := { reading with tail := 2 }; hasCurrent d = true ∧ d.ahead = none ∧ inFlight d < pendingDescs d) ∧
    ({ reading with cur := none, refetching := some (1, 2, 3) } : Dma).refetching = some (1, 2, 3) ∧
    (let d : Dma := { reading with dropped := [5] }; (d.reqs.any fun q => q.id == 5) = false ∧ d.dropped.contains 5 = true) ∧
    (let d : Dma := { reading with state := .stopping, cur := none, dropped := [5] }
     d.state = .stopping ∧ hasCurrent d = false ∧ d.dropped.filter (fun i => i != 5) = []) := by decide +kernel

/-- A header that passes and one that fails; auxiliary data of both directions; the log; a wait for space and one for a table entry. -/
theorem witness_Descriptors_delivery :
    (let c := { cur with asked := 32, goal := 32 }
     let s := chan { reading with cur := some c }
     s.dma[chanOf 0].cur = some c ∧ takesData s.dma[chanOf 0] c = true ∧ c.header = [] ∧ c.asked = 32 ∧ (packet 4 0 0 0 idleTag).length = 32 ∧
       headFails c.desc.len (packet 4 0 0 0 idleTag) = false ∧ headFails c.desc.len (List.replicate 32 0) = true ∧
       s.dma[chanOf 0].frame ≠ .discard ∧ c.refetch = false) ∧
    (let c := { cur with asked := 32, goal := 32 }
     let s := aux { reading with cur := some c }
     s.dma[19].cur = some c ∧ isH2d 19 c.desc = true ∧ takesAux s.dma[19] c = true ∧ isH2d 19 ⟨0, 32, 8, 0⟩ = false) ∧
    (let c := { cur with asked := 32, goal := 32 }
     let s : State := { up with dma := up.dma.set 18 { reading with cur := some c }, mgt := { running := true, updState := .receiving, updLen := 32 } }
     s.dma[18].cur = some c ∧ takesAux s.dma[18] c = true ∧ s.mgt.updState = .receiving ∧ fwRuns s = true ∧
       s.mgt.received.length + 32 ≤ s.mgt.updLen.toNat) ∧
    (∀ st ∈ [UpdState.receiving, .verifying], let c := { cur with asked := 32, goal := 32 }
     let s : State := { up with dma := up.dma.set 18 { reading with cur := some c }, mgt := { running := true, updState := st, updLen := 31 } }
     s.dma[18].cur = some c ∧ takesAux s.dma[18] c = true ∧ (s.mgt.updState = .receiving ∨ s.mgt.updState = .verifying) ∧ fwRuns s = true ∧
       s.mgt.updLen.toNat < s.mgt.received.length + 32) ∧
    (let r : LogRec := ⟨0, 0, 5, 0, []⟩
     let s : State := { up with mgt := { running := true, dumps := 1, ring := [(0, r)] } }
     fwRuns s = true ∧ 0 < s.mgt.dumps ∧ ((logAfter s.mgt.logNext s.mgt).take (32 / 32)).getLast? = some r) ∧
    (let s := chan { reading with cur := some { cur with waitSpace := true } }
     s.dma[0].cur = some { cur with waitSpace := true } ∧ cur.desc.len ≤ chanFree 0 s) ∧
    (let c : CurDesc := { cur with waitTable := some (packet 2 0 1 0 idleTag) }
     let s : State := { chan { reading with cur := some c } with docs := List.replicate 63 aDoc }
     s.dma[chanOf 0].cur = some c ∧ c.waitTable = some (packet 2 0 1 0 idleTag) ∧ s.docs.length < 64) ∧
    (let s : State := { up with docs := List.replicate 64 aDoc }
     s.docs.length = 64 ∧ findDoc (pktDoc (packet 2 0 1 0 idleTag)) s ≠ none) := by decide +kernel

/-- A request with its last re-issue left, and one with none; an abandoned one; a backoff and a refetch that are due. -/
theorem witness_ReadFailures :
    (∀ n ∈ [(2 : Nat), 3], let r : ReadReq := { id := 5, kind := .buffer, off := 0, len := 32, reissues := n }
      let s := chan { reading with reqs := [r], nextReq := 6 }
      s.pwr.released = true ∧ 5 < s.dma[0].nextReq ∧ s.dma[0].reqs.find? (fun q => q.id == 5) = some r ∧ r.backoff = none ∧
        (if n = 2 then r.reissues < s.dma[0].retryLimit.toNat else s.dma[0].retryLimit.toNat ≤ r.reissues)) ∧
    (let d : Dma := { reading with dropped := [5], nextReq := 6 }
     d.reqs.find? (fun q => q.id == 5) = none ∧ d.dropped.contains 5 = true) ∧
    (let r : ReadReq := { id := 5, kind := .buffer, off := 0, len := 32, backoff := some 8000 }
     (chan { reading with reqs := [r] }).dma[0].reqs.find? (fun q => q.id == 5) = some r ∧ r.backoff = some 8000) ∧
    (let c : CurDesc := { cur with refetchAt := some 16000, first := some (1, 2) }
     let s := chan { reading with cur := some c }
     s.dma[chanOf 0].cur = some c ∧ works s.dma[chanOf 0] = true ∧ c.refetchAt = some 16000 ∧ c.first = some (1, 2)) := by decide +kernel

/-- A packet of port 0 with payload `pl`, padded to a multiple of 32 bytes. -/
def packetWith (ty tags : Byte) (doc line : Word) (pl : List Byte) (exp : Word × Word) : List Byte :=
  let h : List Byte := [0xA7, ty, tags, 0x20] ++ toLe 4 doc.toNat ++ toLe 4 line.toNat ++ toLe 2 pl.length ++ [0, 0] ++ pl
  let b := h ++ toLe 4 (crc32c (foldBlock 0 exp.1 exp.2 ++ h)).toNat
  b ++ List.replicate ((32 - b.length % 32) % 32) 0

/-- The descriptor of `n` bytes, all requested and its header arrived, on channel 0 with framing `f`. -/
def arrived (b : List Byte) (f : Frame) (k : Nat) : State :=
  { up with
    prof := up.prof.set 0 (some aProfile)
    dma := up.dma.set 0 { reading with
      cur := some { cur with desc := ⟨0, b.length, 0, 0⟩, asked := b.length, goal := b.length, header := b.take 32 }
      frame := f, openDoc := (if f = .idle then 0 else 1), lineCount := (if f = .idle then 0 else 2), k := k } }

/-- The packet of `b` meets what every clause asks of one that passed its check. -/
def passes (b : List Byte) (s : State) : Bool :=
  match s.dma[chanOf 0].cur with
  | some c => takesData s.dma[chanOf 0] c && wholePacket s.dma[chanOf 0] c b && c.header ++ b.drop c.header.length == b &&
      (checkPacket 0 s.dma[chanOf 0] c.desc.len b).1 && !c.refetch && s.dma[chanOf 0].ahead.isNone && s.pwr.released
  | none => false

/-- A packet of each type that passes its check and is routed. -/
theorem witness_Packets :
    (∀ ty ∈ [(0 : Byte), 1, 255], let b := packet ty 0 0 0 idleTag; pktType b ≠ 2 ∧ pktType b ≠ 3 ∧ pktType b ≠ 4 ∧ pktType b ≠ 5) ∧
    (∀ ty ∈ [(1 : Byte), 2, 3, 4, 5], let b := packet ty 0 0 0xFFFFFFFF idleTag
      passes b (arrived b .idle 0) = true ∧ (routePacket 0 b (arrived b .idle 0)).isSome = true ∧ pktType b = ty) ∧
    (let d := (arrived (packet 4 0 0 0 idleTag) .idle 0).dma[chanOf 0]
     fillerOk 0 d (packet 4 0 0 0xFFFFFFFF idleTag) = true ∧ fillerOk 0 d (packet 1 0 0 0xFFFFFFFF idleTag) = false ∧ d.frame = .idle ∧
       pktType (packet 1 0 0 0xFFFFFFFF idleTag) ≠ 2 ∧ pktType (packet 1 0 0 0xFFFFFFFF idleTag) ≠ 5) ∧
    (let b := packet 1 0 1 0 (1, 0)
     let d := (arrived b .discard 0).dma[chanOf 0]
     fillerOk 0 d b = false ∧ d.frame = .discard) := by
  decide +kernel

/-- A packet of each type whose check fails on the first fetch. -/
theorem witness_Packets_failing :
    ∀ ty ∈ [(1 : Byte), 2, 3, 4, 5], let b := packet ty 0 0 0xFFFFFFFF (7, 7)
     let s := arrived b .idle 0
     ∃ c, s.dma[chanOf 0].cur = some c ∧ takesData s.dma[chanOf 0] c = true ∧ wholePacket s.dma[chanOf 0] c b = true ∧
       c.header ++ b.drop c.header.length = b ∧ (checkPacket 0 s.dma[chanOf 0] c.desc.len b).1 = false ∧ c.refetch = false ∧
       s.dma[chanOf 0].frame ≠ .discard ∧ pktType b = ty ∧ headFails c.desc.len (List.replicate 32 0) = true := by
  intro ty hty b s
  refine ⟨{ cur with desc := ⟨0, b.length, 0, 0⟩, asked := b.length, goal := b.length, header := b.take 32 }, ?_⟩
  revert ty
  decide +kernel

/-- The payload of a doc-open for port 0 with 2 lines. -/
def openPl : List Byte := [0, 1, 0, 0] ++ toLe 2 1 ++ [0, 0] ++ toLe 4 2 ++ toLe 4 0 ++ toLe 4 9 ++ List.replicate 12 0

/-- The doc-open of document 1. -/
def opening : List Byte := packetWith 2 0 1 0xFFFFFFFF openPl idleTag

/-- A doc-open of a new document, of one that another channel has opened, one that finds the table full, and one that has waited for it. -/
theorem witness_Packets_open :
    (let s := arrived opening .idle 0
     passes opening s = true ∧ pktType opening = 2 ∧ s.dma[chanOf 0].frame = .idle ∧ openOk 0 s.dma[chanOf 0] opening s = true ∧
       findDoc (pktDoc opening) s = none ∧ s.docs.length < 64) ∧
    (let d := { newDoc 1 (openPayload opening) with opened := 2 }
     let s : State := { arrived opening .idle 0 with docs := [d] }
     findDoc (pktDoc opening) s = some d ∧ d.barred = false ∧ d.admitted = false ∧ d.opened.getLsbD 0 = false ∧ d.payload = openPayload opening ∧
       openOk 0 s.dma[chanOf 0] opening s = true) ∧
    (let s : State := { arrived opening .idle 0 with docs := List.replicate 64 { aDoc with id := 2 } }
     findDoc (pktDoc opening) s = none ∧ 64 ≤ s.docs.length ∧ openOk 0 s.dma[chanOf 0] opening s = true) ∧
    (let c : CurDesc := { cur with waitTable := some opening }
     let s := arrived opening .idle 0
     let d' : Dma := { s.dma[chanOf 0] with cur := s.dma[chanOf 0].cur.map fun q => { q with waitTable := none } }
     c.waitTable = some opening ∧ passes opening { s with dma := s.dma.set 0 d' } = true ∧ pktType opening = 2 ∧ d'.frame = .idle ∧
       openOk 0 d' opening s = true ∧ s.docs.length < 64 ∧ findDoc (pktDoc opening) s = none) := by decide +kernel

/-- A line and a test line of the open document, its doc-close, a filler, and a test line outside a document in MAINT. -/
theorem witness_Packets_lines :
    (let b := packet 1 2 1 0 (1, 0)
     let s := arrived b .opened 0
     passes b s = true ∧ fillerOk 0 s.dma[chanOf 0] b = false ∧ s.dma[chanOf 0].frame = .opened ∧ lineOk 0 s.dma[chanOf 0] b s = true ∧ pktType b = 1) ∧
    (let b := packetWith 5 1 1 1 [0, 1, 0, 0, 0, 0, 0, 0] (1, 1)
     let s := arrived b .opened 1
     passes b s = true ∧ s.dma[chanOf 0].frame = .opened ∧ lineOk 0 s.dma[chanOf 0] b s = true ∧ pktType b = 5) ∧
    (let b := packet 3 0 1 2 (1, 2)
     let s := arrived b .ended 2
     let d := s.dma[chanOf 0]
     passes b s = true ∧ fillerOk 0 d b = false ∧ d.frame = .ended ∧ pktType b = 3 ∧ headerOk 0 b = true ∧ pktTags b = 0 ∧ pktDoc b = d.openDoc ∧
       pktLine b = BitVec.ofNat 32 d.lineCount ∧ pktPlen b = 0) ∧
    (let b := packet 4 0 0 0xFFFFFFFF idleTag
     let d := (arrived b .idle 0).dma[chanOf 0]
     passes b (arrived b .idle 0) = true ∧ pktType b = 4 ∧ headerOk 0 b = true ∧ pktTags b = 0 ∧ pktDoc b = (expected d).1 ∧
       pktLine b = (expected d).2) := by decide +kernel

/-- A test line outside a document, on a port whose head matches the profile. -/
theorem witness_Packets_spit :
    let b := packetWith 5 0 0 0xFFFFFFFF [0, 1, 0, 0, 0, 0, 1, 0] idleTag
    let s : State := { arrived b .idle 0 with top := { state := .maint }, hp := up.hp.set 0 { pstate := .active, record := aRecord } }
    passes b s = true ∧ pktType b = 5 ∧ s.dma[chanOf 0].frame = .idle ∧ s.top.state = .maint ∧ spitProfile 0 s = some 0 ∧ headerOk 0 b = true ∧
      pktTags b &&& 0xFE#8 = 0 ∧ pktPlen b = 8 ∧ pktDoc b = s.dma[chanOf 0].lastDoc ∧ pktLine b = BitVec.allOnes 32 ∧
      testOk (pktPayload b) (ebBpn (energyOf 0 s)) (recNozzles s.hp[0].record) false = true := by decide +kernel

/-! ## Witnesses: the mill pond and the check units -/

/-- The scrubber at rest and running, at both ends of a pass, with upsets of one, two and three bits in its row; a copy that is running. -/
theorem witness_PondUpkeep :
    up.pwr.released = true ∧ up.pond.scrubRuns = false ∧
    (let s : State := { up with pond := { scrubRuns := true, scrubRow := 41470 } }
     s.pond.scrubRuns = true ∧ (∀ e ∈ [(128 * 41471, (1 : BitVec 79)), (128 * 41470 - 1, 3)], e.1 / 128 ≠ s.pond.scrubRow) ∧ s.pond.scrubRow + 1 < 41472) ∧
    (let s : State := { up with pond := { scrubRuns := true, scrubRow := 41471 } }
     (∀ e ∈ ([] : Upsets), e.1 / 128 ≠ s.pond.scrubRow) ∧ s.pond.scrubRow = 41471) ∧
    (let s : State := { up with pond := { scrubRuns := true, scrubRow := 40959 } }
     s.pond.scrubRow < 40960 ∧ spareOf s.pond.scrubRow s = none ∧ 5242879 / 128 = s.pond.scrubRow ∧ popCount (1 : BitVec 79) = 1 ∧
       popCount (3 : BitVec 79) = 2 ∧ popCount (7 : BitVec 79) = 3) ∧
    (let s : State := { up with pond := { copying := [7] } }
     s.pond.copying = 7 :: [] ∧ ∀ t ∈ s.pond.spares, t.2 ≠ 0) := by decide +kernel

/-- The last spare row is free and every lower one taken. -/
theorem witness_PondUpkeep_lastSpare :
    let sp := (List.range 511).map fun k => (k, k)
    511 < 512 ∧ (∀ t ∈ sp, t.2 ≠ 511) ∧ ∀ j < 511, ∃ t ∈ sp, t.2 = j := by
  intro sp
  refine ⟨by decide, fun t ht => ?_, fun j hj => ⟨(j, j), List.mem_map.2 ⟨j, List.mem_range.2 hj, rfl⟩, rfl⟩⟩
  obtain ⟨k, hk, rfl⟩ := List.mem_map.1 ht
  have := List.mem_range.1 hk
  simp only [ne_eq]
  omega

/-- Sizes that just fit and just do not, and a partition that is not free. -/
theorem witness_PartitionSizes :
    let total (u : State) : Nat := ((List.finRange 16).map fun q : Port => u.pond.ports[q].units.toNat).sum + u.pond.auxUnits.toNat
    up.link.cfgReady = true ∧ docInProgress up = false ∧ (∀ q : Port, up.pond.ports[q].lines = []) ∧ up.pond.aux[0] = [] ∧ up.pond.aux[1] = [] ∧
    (∀ c : Chan, up.dma[c].state = .disabled ∨ up.dma[c].state = .stopped) ∧
    (let at_ (v : Word) : State := setStore 0 { up.pond.ports[0] with units := v.setWidth 14, next := 0, repBuf := none } up
     total (at_ 608) = 10240 ∧ total (at_ 609) = 10241) ∧
    (let at_ (v : Word) : State := { up with pond := { up.pond with auxUnits := v.setWidth 14 } }
     total (at_ 512) = 10240 ∧ total (at_ 513) = 10241) ∧
    ({ up with pond := { aux := up.pond.aux.set 0 [(0, 32)] } } : State).pond.aux[0] ≠ [] := by decide +kernel

/-- An offered document that is not admitted, on no port. -/
def offered : Doc := { aDoc with mask := 0, admitted := false, trigged := none }

/-- A profile with the loop's settings in force. -/
def sameSet : Profile := ⟨.a, ⟨16, 1, 500, 6⟩, 0, 0, 0, 0, false, Vector.replicate 16 none⟩

/-- READY with that profile and that document. -/
def sluice : State := { up with docs := [offered], prof := up.prof.set 0 (some sameSet) }

/-- The document is offered and open; a state that holds it; a document that meets every condition; one that waits behind another. -/
theorem witness_PondControls :
    (up.link.cfgReady = true ∧ up.pwr.released = true ∧ fwRuns up = true) ∧
    (∀ s ∈ [sluice, { sluice with top := { state := .maint } }],
      findDoc offered.id s = some offered ∧ offered.offered = true ∧ offered.admitted = false ∧ offered.barred = false ∧ offered.stream = true) ∧
    cond1 { sluice with top := { state := .maint } } ≠ 0 ∧
    orderHeld { offered with mask := 1, offerNo := 1 } { sluice with docs := [{ offered with id := 2, mask := 1 }] } = true ∧
    firstCause offered sluice = (0, 0) ∧ docProfile offered sluice = some sameSet ∧
    (fantailClash offered sameSet sluice || (loopOf sameSet.loop sluice).set == sameSet.set || (loopOf sameSet.loop sluice).pendSet == some sameSet.set) = true ∧
    docProfile offered { sluice with prof := up.prof } = none ∧
    3 ≤ (firstCause offered { sluice with docs := [{ offered with id := 2, mask := 1 }, { offered with mask := 1 }], prof := up.prof }).1 := by
  decide +kernel

/-- The fantail's settings need no change. -/
theorem witness_PondControls_fantail : loadFantail offered sluice = sluice := by
  have h := witness_PondControls
  rw [loadFantail, h.2.2.2.2.2.1]
  exact if_pos h.2.2.2.2.2.2.1

/-- Empty memory, and a line that fills the port's capacity. -/
theorem witness_PondStorage : Memory.wf up.pond.mem = true ∧ (List.replicate 32 (0 : Byte)).length ≤ 32 * lineGranules 0 up := by decide +kernel

/-- Two ports with units. -/
theorem witness_PartitionsDisjoint : (0 : Port) ≠ 15 ∧ 0 < up.pond.ports[0].units.toNat ∧ 0 < up.pond.ports[15].units.toNat := by decide +kernel

/-- A good and a bad configuration, a scan with and without its fold, a running unit, a locked one; the widths at the bounds. -/
theorem witness_CheckUnits :
    up.pwr.released = true ∧ up.link.cfgReady = true ∧
    (∀ m ∈ [true, false], up.chk.units[0].state ≠ .running ∧ armBad 0 m up.chk.units[0] = false ∧ unitFold up.chk.units[0] ≠ 1 ∧
      armBad 0 m { cfg := 0x000007A0 } = true ∧
      (let u : ChkUnit := { cfg := 0x000009A0 }; armBad 0 m u = false ∧ unitFeed u = 0 ∧ unitFold u = 1)) ∧
    (let u : ChkUnit := { cfg := 0x004003A0 }; unitFeed u = 1 ∧ unitSrc u = tapCopy ∧ armBad 0 true u = false) ∧
    (unit { state := .running }).chk.units[0].state = .running ∧ unitLocked 0 { arm := true } = true ∧ unitLocked 0 {} = false ∧
    1 ≤ (1 : Word).toNat % 128 ∧ (64 : Word).toNat % 128 ≤ 64 ∧ (128 : Word).toNat % 128 = 0 ∧ 64 < (65 : Word).toNat % 128 := by decide +kernel

/-- A scan of 16 bytes of the pond that compares; a unit that listens at the flash's tap, at once and from the next record on. -/
theorem witness_CheckRuns :
    (let u : ChkUnit := { state := .running, arm := true, cfg := 0x000061A0, length := 16 }
     up.pwr.released = true ∧ scanning u = true ∧ u.paused = false ∧ u.raced = false ∧ scanRange u (unit u) = some (0, 16) ∧
       scanClipped u (unit u) = false ∧ unitDoneEvt u = true ∧ unitCompare u = true) ∧
    (BitVec.ofNat 8 tapFlash).toNat = tapFlash ∧ (3 : BitVec 8).toNat ≠ tapFlash ∧
    (∀ i : Fin 8, up.chk.units[i].state ≠ .running ∨ unitFeed up.chk.units[i] ≠ 1 ∨ unitSrc up.chk.units[i] ≠ (3 : BitVec 8).toNat) ∧
    (∀ b ∈ [true, false], let u : ChkUnit := { state := .running, arm := true, cfg := 0x000303A0, records := 0, skip := b }
     (∀ j : Fin 8, j ≠ 0 → (unit u).chk.units[j].state ≠ .running) ∧ u.state = .running ∧ unitFeed u = 1 ∧ unitSrc u = (3 : BitVec 8).toNat ∧
       unitFold u = 0 ∧ u.records = 0 ∧ u.skip = b) := by decide +kernel

/-! ## Witnesses: encoders, loops and line timing -/

/-- Loop A in ACQUIRE on input 0. -/
def acq : Loop := { enable := true, state := .acquire, encCfg := 0x804, indexEdges := 10 }

/-- A loop that follows, one that does not; filters met and not met; levels that change one by one and together, in each order; an index at the
bounds of its count, with IDX_EN and without; a single-ended and a differential input. -/
theorem witness_EncoderInputs :
    (up.pwr.released = true ∧ up.top.state ≠ .sleep ∧ follows .a 1 up = false ∧ (loopOf .b up).state = .off ∧
      up.enc[0].a = false ∧ up.enc[0].b = false ∧ filterOf 0 up = 8 ∧ filterOf 0 up ≤ 8 ∧ 7 < filterOf 0 up) ∧
    (let s := loopA acq
     follows .a 0 s = true ∧ (∀ y, y ≠ LoopId.a → follows y 0 s = false) ∧ countsEdges .a s = true ∧ filterOf 0 s ≤ 8 ∧ 8 < 9 ∧
       true ≠ s.enc[0].a ∧ false = s.enc[0].b ∧ true ≠ s.enc[0].b ∧ false = s.enc[0].a ∧
       (loopOf .a s).state ≠ .off ∧ s.enc[0].faultI = false ∧ indexOn 0 s = true) ∧
    indexOn 0 (loopA { acq with encCfg := 0x800 }) = false ∧
    ({ acq with indexRef := false } : Loop).indexRef = false ∧
    (∀ n ∈ [(9 : Nat), 11], n ≤ acq.indexEdges.toNat + 1 ∧ acq.indexEdges.toNat ≤ n + 1) ∧ acq.indexEdges.toNat + 1 < 12 ∧
    8 + 1 < acq.indexEdges.toNat ∧
    (inputCfg 0 (loopA { acq with encCfg := 0x802 })).getLsbD 1 = true ∧ (inputCfg 0 (loopA acq)).getLsbD 1 = false := by
  refine ⟨by decide +kernel, ⟨by decide +kernel, fun y h => ?_, by decide +kernel⟩, by decide +kernel⟩
  cases y with
  | a => exact absurd rfl h
  | b => decide +kernel

/-- Nothing held and held settings, for EdgeMovesPosition. -/
theorem witness_EdgeMovesPosition : acq.pendSet = none ∧ acq.pendEnc = none := by decide +kernel

/-- A loop that is off, one in use, one in CRAWL; a speed above 210 Hz and none; nothing held for a boundary. -/
theorem witness_LoopControl :
    up.pwr.released = true ∧ up.link.cfgReady = true ∧ docInProgress up = false ∧ (loopOf .a up).state = .off ∧ (loopOf .a (loopA acq)).state ≠ .off ∧
      acq.pendSet = none ∧ acq.pendEnc = none ∧ acq.pendIndex = none ∧ acq.crawl = false ∧ ({ acq with crawl := true } : Loop).crawl = true ∧
      21000 ≤ lineRate { acq with estV := 1073741824, lastEdge := some 0 } 0 ∧ lineRate acq 0 < 21000 := by decide +kernel

/-- Ratios on both sides of their bound, the bounds of BW, TOL and the filter, a locked loop, in CRAWL and not. -/
theorem witness_LoopSettings :
    ratioOk acq.heldNum.toNat ((65 : Word).toNat % 16777216) = false ∧ ratioOk acq.heldNum.toNat ((64 : Word).toNat % 16777216) = true ∧
    (up.link.cfgReady = true ∧ docInProgress up = false ∧ up.pwr.released = true) ∧
    (∀ b ∈ [true, false], let l := loopOf .a (loopA { acq with state := .locked, crawl := b })
     l.state = .locked ∧ l.crawl = b) ∧ acq.state ≠ .locked ∧ (loopOf .a up).state = .off ∧
    (20 ≤ (20 : Word).toNat % 8192 ∧ (0xC1388 : Word).toNat % 8192 ≤ 5000 ∧ ((0xC1388 : Word).toNat / 65536) % 16 ≤ 12) ∧
    ((19 : Word).toNat % 8192 < 20 ∧ 5000 < (5001 : Word).toNat % 8192 ∧ ((5001 : Word).toNat / 65536) % 16 ≤ 12) ∧
    (2 ≤ ((0x204 : Word).toNat / 256) % 32 ∧ ((0x1E20 : Word).toNat / 256) % 32 ≤ 30 ∧ ((0x1E20 : Word).toNat / 16) % 4 ≠ 3 ∧
      (0x204 : Word).getLsbD 2 = true) := by
  decide +kernel

/-- The next boundary has been reached, with and without held settings, and has not. -/
theorem witness_LoopSettings_boundary :
    (let s := loopA { acq with pos := 256, pendSet := some ⟨1, 4, 20, 12⟩ }
     let l := loopOf .a s
     let target := (l.bound.toNat + 256) % posMod
     l.state ≠ .off ∧ reachTime l target s.now = some s.now ∧ loopPorts .a s = 0 ∧ posAbove target (loopPos l s.now) = false ∧
       l.pendSet = some ⟨1, 4, 20, 12⟩ ∧ l.pendEnc = none ∧ l.pendIndex = none) ∧
    (let s := loopA { acq with pos := 255 }
     let l := loopOf .a s
     reachTime l ((l.bound.toNat + 256) % posMod) s.now = none) := by decide +kernel

/-- A trigger that does not stand or has the other polarity, before and after READY, for an admitted document, one that is not, and none. -/
theorem witness_LineTiming_trigger :
    up.pwr.released = true ∧ 7 < 8 ∧ 8 ≤ 8 ∧ false = up.tpt.pol.getLsbD (0 : Fin 2).val ∧ true ≠ up.tpt.pol.getLsbD (0 : Fin 2).val ∧
    ({ up with pwr := { released := true } } : State).pwr.readySeen = false ∧ notReady DevState.sleep = true ∧
    up.pwr.readySeen = true ∧ notReady up.top.state = false ∧ trigTarget 0 up = none ∧
    (∀ a ∈ [true, false], let d := { aDoc with trigged := none, admitted := a }
      trigTarget 0 { up with docs := [d] } = some d ∧ d.admitted = a) := by decide +kernel

/-- A line whose point has been reached, and one whose has not; no document, and a rejoining engine. -/
theorem witness_LineTiming_ahead :
    nextAheadDoc 0 up = none ∧ ({ up with sup := { rejoining := true } } : State).sup.rejoining = true ∧
    (let s : State := { printing with ftl := up.ftl.set 0 { acq with state := .locked, hadLock := true } }
     let l := loopOf aDoc.loop s
     s.sup.rejoining = false ∧ nextAheadDoc 0 s = some aDoc ∧ reachTime l (aheadPos aDoc 0 s) s.now = some s.now ∧
       posAbove (aheadPos aDoc 0 s) (loopPos l s.now) = false) ∧
    (let d := { aDoc with origin := 1280 }
     let s : State := { printing with docs := [d], ftl := up.ftl.set 0 { acq with hadLock := true } }
     nextAheadDoc 0 s = some d ∧ reachTime (loopOf d.loop s) (aheadPos d 0 s) s.now = none) := by decide +kernel

/-- The lead tick of an unplaced load, of a loop without lock, and of a locked one. -/
theorem witness_LineTiming_tick : ∀ st ∈ [LoopState.acquire, .locked], ∀ u ∈ [true, false],
    let ld := { aLoad with unplaced := u }
    let s : State := { loaded ld with ftl := up.ftl.set 0 { acq with state := st, hadLock := true } }
    let l := loopOf aDoc.loop s
    s.pwr.released = true ∧ s.loads[0].find? (fun q => !q.ticked) = some ld ∧ findDoc ld.docId s = some aDoc ∧ l.state = st ∧
      l.reverse = false ∧ l.hadLock = true ∧ ld.unplaced = u ∧ l.crawl = false ∧ reachTime l (leadPos aDoc 0 ld.line s) s.now = some s.now ∧
      fireTime l (leadPos aDoc 0 ld.line s) s.now = some 0 := by decide +kernel

/-- A load that is in time. -/
theorem witness_LineTiming_start :
    let s : State := { loaded aLoad with ftl := up.ftl.set 0 { acq with state := .locked, hadLock := true } }
    let f := lineRate (loopOf aDoc.loop s) s.now
    let delay := earliestStart 0 aLoad (linePeriod f) s - s.now
    aDoc.ports[0].lost = false ∧ aLoad.overlap = false ∧ earlierFires aDoc 0 s = false ∧ s.track[0].dropping = false ∧
      f ≤ tolLimit aDoc 0 s ∧ 8 * delay ≤ linePeriod f ∧ aLoad.kind ≠ .drop := by decide +kernel

/-- The lag tick of a locked loop and of one without lock. -/
theorem witness_LineTiming_lag : ∀ st ∈ [LoopState.acquire, .locked],
    let ld := { aLoad with ticked := true, phi := 5 }
    let s : State := { loaded ld with ftl := up.ftl.set 0 { acq with state := st, hadLock := true, pos := 5 } }
    let l := loopOf aDoc.loop s
    let lagTarget := (leadPos aDoc 0 ld.line s + ld.phi) % posMod
    s.loads[0].find? (fun q => q.ticked && !q.lagTicked && q.phi != 0) = some ld ∧ l.state = st ∧ l.crawl = false ∧
      reachTime l lagTarget s.now = some s.now ∧ fireTime l lagTarget s.now = some 0 := by decide +kernel

/-! ## Witnesses: engines and egress -/

/-- A load that engine A computes, and with `b` engine B too. -/
def computed (b : Bool) : Load := { aLoad with workA := { part := true, left := 1 }, workB := { part := b } }

/-- Engine A's pass on port 0 runs. -/
def passing (b : Bool) : State := { loaded (computed b) with engA := { role := .lead, running := some (0, 1, 0) } }

/-- An engine at rest with a queued pass and without, a retired one, a running pass at its longest and one clock over; a load with a packet
whose check fails; what the other engine reports; a document in progress and none. -/
theorem witness_Engines :
    (up.pwr.released = true ∧ computes (eng .a up).role = true ∧ (eng .a up).running = none ∧ computes Role.retired = false ∧
      (eng .a (passing false)).running ≠ none ∧ nextPass .a up = none) ∧
    nextPass .a (loaded (computed false)) = some (0, 1, 0) ∧
    (let s := passing true
     let e := eng .a s
     let s1 := setEng .a { e with
       running := none, passes := e.passes + 1,
       busy := (s.now, 400) :: e.busy.filter fun t => decide (s.now < t.1 + 8000000),
       health := { e.health with corrected := satAdd e.health.corrected 0 } } s
     s.pwr.released = true ∧ e.running = some (0, (computed true).docId, (computed true).line) ∧ nextToEmit .a 0 s1 = some (computed true) ∧
       (computed true).pkt = [] ∧ (workOf .a (computed true)).badRead = false ∧ isPair s = true) ∧
    PassNote.clean.other = none ∧ ({ PassNote.clean with other := some 2 } : PassNote).other = some 2 ∧
    (let n : PassNote := { PassNote.clean with clocks := 400 }; n.memUe = false ∧ n.sequence = false ∧ n.clocks ≤ 400 ∧ n.readFail = false) ∧
    ({ PassNote.clean with memUe := true } : PassNote).memUe = true ∧ ({ PassNote.clean with sequence := true } : PassNote).sequence = true ∧
    400 < ({ PassNote.clean with clocks := 401 } : PassNote).clocks ∧ ({ PassNote.clean with readFail := true } : PassNote).readFail = true ∧
    readChecks 0 { aLoad with pkt := List.replicate 32 0 } = false ∧
    (up.link.cfgReady = true ∧ docInProgress up = false ∧ swapOpenNow up = false ∧ (23 : Fin 24) ≠ 7 ∧ docInProgress printing = true) := by
  decide +kernel

/-- A dropped load, and one without a deadline; one that only engine A computes, and one that both do, with a moving loop; no pass and a running
one; the loads of the cut-off. -/
theorem witness_Deadlines :
    (∀ b ∈ [true, false],
      let s : State := { passing b with ftl := up.ftl.set 0 { estV := 1073741824, lastEdge := some 0 } }
      s.pwr.released = true ∧ nextToEmit .a 0 s = some (computed b) ∧ (computed b).kind ≠ .drop ∧ (computed b).verdict = .waiting ∧
        (deadlineOf 0 (computed b) s).isSome = true ∧ deadlineOf 0 (computed b) { s with docs := [] } = none ∧
        (computed b).workB.part = b ∧ (computed b).workB.pkt = none ∧ ((computed false).workB.part && (computed false).workB.pkt.isNone) = false) ∧
    (let ld := { computed false with kind := .drop }
     nextToEmit .a 0 (loaded ld) = some ld ∧ ld.kind = .drop ∧ (eng .a (loaded ld)).running = none) ∧
    (eng .a (passing true)).running = some (0, (computed true).docId, (computed true).line) ∧
    (∀ h ∈ [true, false], let ld := { aLoad with handed := h }
      (loaded ld).loads[0].find? (fun l => !l.ticked) = some ld ∧ ld.kind ≠ .drop ∧ ld.failed = false ∧ ld.handed = h) := by decide +kernel

/-- Nothing to shift and a plane to shift; a load before its tick, one with a plane ready, and one after the last, with and without a lag
column; a spit rate that waits. -/
theorem witness_Planes :
    shiftLoad 0 up = none ∧
    (let ld := { aLoad with handed := true, used := some .a, workA := { pkt := some [0, 0, 0, 1] } }
     shiftLoad 0 (loaded ld) = some ld) ∧
    (loaded aLoad).pwr.released = true ∧ (loaded aLoad).loads[0] = aLoad :: [] ∧ aLoad.ticked = false ∧ aLoad.latched = 0 ∧
    (let ld := { aLoad with ticked := true, shifted := 2, latched := 1 }
     (loaded ld).loads[0] = ld :: [] ∧ ld.ticked = true ∧ ld.latched < ld.shifted) ∧
    (let ld := { aLoad with ticked := true, shifted := 1, latched := 1, used := some .a, workA := { pkt := some [0, 0, 0, 1] } }
     (loaded ld).loads[0] = ld :: [] ∧ ld.ticked = true ∧ 0 < ld.latched ∧ ld.latched = usedPlanes ld ∧ ld.phi = 0 ∧
       ({ ld with phi := 1, lagTicked := true } : Load).lagTicked = true ∧ ({ ld with phi := 1 } : Load).lagTicked = false) ∧
    (port { pendRate := some 1000 }).hp[0].pendRate = some 1000 := by decide +kernel

/-! ## Witnesses: head ports, supplies and nozzle health -/

/-- The bytes the record's check is taken over. -/
def checked : List Byte := slice aRecord 8 8 ++ slice aRecord 0 126

/-- The check over the first 64 bytes. -/
theorem checked_first : (checked.take 64).foldl crc16Byte 0xFFFF#16 = 8002#16 := by decide +kernel

/-- The check over the rest. -/
theorem checked_rest : (checked.drop 64).foldl crc16Byte 8002#16 = 41448#16 := by decide +kernel

/-- The check of the record (R243). -/
theorem record_crc : recordCrc aRecord = 41448#16 := by
  show checked.foldl crc16Byte 0xFFFF#16 = 41448#16
  rw [← List.take_append_drop 64 checked, List.foldl_append, checked_first, checked_rest]

/-- The record passes every condition of R242. -/
theorem record_valid : recordValid aRecord = true := by
  simp only [recordValid, record_crc]
  decide +kernel

/-- The record is chosen where the other copy cannot be read (R244). -/
theorem record_chosen : chooseCopy (some aRecord) none = some (false, aRecord) := by
  have h : Option.filter recordValid (some aRecord) = some aRecord := by rw [Option.filter_some, if_pos record_valid]
  rw [chooseCopy, h]
  rfl

/-- An absent head before and after stage 5, an attached one; a reading with and without a valid copy, at the last tries, with a copy given up,
and one of a SHORTED port. -/
theorem witness_HeadRecords :
    ({ up with pwr := { released := true, stage := 4 } } : State).pwr.stage.toNat < 5 ∧
    (let s : State := { up with pwr := { released := true, stage := 5 } }
     s.pwr.released = true ∧ 5 ≤ s.pwr.stage.toNat ∧ s.hp[0].pstate = .absent) ∧
    (port { pstate := .reading }).hp[0].pstate ≠ .absent ∧
    (∀ n ∈ [2, 3], let s := port { pstate := .reading, tries0 := n }
      s.pwr.released = true ∧ readsRecord s.hp[0] = true ∧ s.hp[0].got0 ≠ some none ∧ s.hp[0].got1 ≠ some none ∧ 0 < s.hp[0].tries0 ∧
        s.hp[0].tries0 = n ∧ s.hp[0].tries1 < 3) ∧
    (let h := (port { pstate := .shorted, reread := true, tries0 := 4, got0 := some none }).hp[0]; readsRecord h = true ∧ h.got0 = some none) ∧
    chooseCopy none none = none ∧ chooseCopy (some aRecord) none = some (false, aRecord) :=
  ⟨by decide +kernel, by decide +kernel, by decide +kernel, by decide +kernel, by decide +kernel, by decide +kernel, record_chosen⟩

/-- Port states of each clause. -/
theorem witness_HeadPower :
    up.link.cfgReady = true ∧ docInProgress up = false ∧ up.hp[0].pstate ≠ .shorted ∧ up.hp[0].pstate = .absent ∧
    (let h := (port { pstate := .shorted, pwrOff := true }).hp[0]; h.pstate = .shorted ∧ h.pwrOff = true) ∧
    (port { pstate := .unpowered }).hp[0].pstate ≠ .absent ∧
    (∀ h ∈ [({ pstate := .active, record := aRecord } : HeadPort), { pstate := .active, enable := true }],
      (port h).hp[0].pstate = .active ∧ powerOk 0 (port h) = false) ∧
    (let s := port { pstate := .unpowered, enable := true, record := aRecord }; s.hp[0].pstate = .unpowered ∧ powerOk 0 s = true) ∧
    (let s := port { pstate := .powering, enable := true, record := aRecord }; s.hp[0].pstate = .powering ∧ powerOk 0 s = true) := by decide +kernel

/-- No record; a conversion in range where the whole bias voltage gives 4,096; the third bad conversion in a row; spits in MAINT and elsewhere,
with an active port, one without power, and one whose checker is out of service. -/
theorem witness_HeadTemperature (full : Config.thermFull = 4096) :
    (up.pwr.released = true ∧ up.hp[0].record = []) ∧
    (0 < 2048 ∧ 2048 < Config.thermFull ∧ 0 < recR25 aRecord ∧ 0 < recBeta aRecord ∧ 1000 * 2048 = (Config.thermFull - 2048) * recR25 aRecord) ∧
    headTemp 2048 aRecord = some 400 ∧ headTemp 0 aRecord = none ∧ tempValid none = none ∧
    (-320 : Int) ≤ 400 ∧ (400 : Int) ≤ 2000 ∧ tempValid (some (-321)) = none ∧ tempValid (some 2001) = none ∧
    (∀ n ∈ [1, 2], let h := (port { pstate := .active, record := aRecord, badConv := n }).hp[0]
      h.record ≠ [] ∧ h.badConv = n ∧ h.sensorFail = false) ∧
    portInDoc 0 printing = true ∧
    (∀ st ∈ [DevState.maint, .ready], let s : State := { inState st with track := up.track.set 0 { spits := [(7, [0], 1)] }, pwr := up.pwr }
      s.pwr.released = true ∧ s.track[0].spits = (7, [0], 1) :: [] ∧ s.top.state = st) ∧
    up.track[0].spits = [] ∧ up.hp[0].pstate ≠ .active ∧ ({ fixedEgr := 1 } : ChkBlk).fixedEgr.getLsbD (0 : Port).val = true := by
  refine ⟨by decide +kernel, ?_, ?_, ?_, by decide +kernel⟩
  · rw [full]; decide +kernel
  · simp only [headTemp, full]; decide +kernel
  · simp only [headTemp, full]; decide +kernel

/-- A write in each of its states, at the ends of the temperature window; `record_valid` is the rest of the readback's clause. -/
theorem witness_RecordWrites :
    (∀ t ∈ [(0 : Int), 1360], writeWindow { up with thm := { tCtl := t } } = true) ∧ writeWindow { up with thm := { tCtl := 1361 } } = false ∧
    (let h := (port { pstate := .unpowered, mailWrite := some aRecord }).hp[0]
     up.pwr.released = true ∧ canWrite h = true ∧ h.write = .idle ∧ h.mailWrite = some aRecord) ∧
    canWrite up.hp[0] = false ∧ canWrite (port { pstate := .shorted }).hp[0] = false ∧
    (let h := (port { pstate := .active, write := .page 0, writeHeld := true }).hp[0]; canWrite h = true ∧ h.write = .page 0 ∧ h.writeHeld = true) ∧
    (∀ st ∈ [PState.active, .shorted], let h := (port { pstate := st, write := .page 14 }).hp[0]
     h.write = .page 14 ∧ h.writeHeld = false ∧ 14 < 15 ∧ canWrite h = (st == .active)) ∧
    (let h := (port { pstate := .active, write := .page 15 }).hp[0]; h.write = .page 15 ∧ h.writeHeld = false) ∧
    (∀ n ∈ [2, 3], ∀ m ∈ [true, false], let h := (port { pstate := .active, write := .readback, writeTries := n, mailRuns := m }).hp[0]
     h.write = .readback ∧ h.mailRuns = m ∧ (n = 2 → h.writeTries < 3) ∧ (n = 3 → h.writeTries = 3)) ∧
    recordValid aRecord = true ∧ recordValid [] = false ∧
    (∀ st ∈ [PState.active, .invalid], let h := (port { pstate := st, write := .retryWait }).hp[0]
     h.write = .retryWait ∧ canWrite h = (st == .active)) ∧
    (let h := (port { pstate := .active, usagePend := 1 }).hp[0]
     up.link.cfgReady = true ∧ h.usagePend ≠ 0 ∧ h.writeOver = false ∧ canWrite h = true ∧ h.write = .idle ∧ h.mailWrite = none) := by
  refine ⟨by decide +kernel, by decide +kernel, by decide +kernel, by decide +kernel, by decide +kernel, by decide +kernel, by decide +kernel,
    by decide +kernel, by decide +kernel, record_valid, by decide +kernel, by decide +kernel, by decide +kernel⟩

/-- Rails in each state; the codes next to the target; the table's values at the bound. -/
theorem witness_Rails :
    (up.pwr.released = true ∧ up.link.cfgReady = true ∧ docInProgress up = false ∧ isLasting Cls.hdvRail up = false) ∧
    (∀ st ∈ [RailState.softstart, .good, .fault, .latched, .slewing], (rail { state := st }).hdv.rails[0].state = st) ∧
    railIdle 0 (rail { state := .good }) = true ∧
    (let step (l : Rail) := if l.code.toNat < l.target.toNat then l.code + 1 else if l.target.toNat < l.code.toNat then l.code - 1 else l.code
     (let l : Rail := { state := .slewing, code := 5, target := 7 }; step l ≠ l.target) ∧
     (let l : Rail := { state := .slewing, code := 5, target := 6 }; step l = l.target)) ∧
    (∀ c ∈ [RailCause.ov, .uvDrv], faultable c (rail { state := .good }).hdv.rails[0] = true ∧ faultable c up.hdv.rails[0] = false) ∧
    (let s := rail { state := .softstart, rank := some 0, code := 5 }
     s.hdv.rails[0].state = .softstart ∧ s.hdv.rails[0].rank = some 0 ∧ setPoint 0 0 s ≠ s.hdv.rails[0].code) ∧
    (let s := rail { state := .softstart, rank := some 0, code := setPoint 0 0 up }; setPoint 0 0 s = s.hdv.rails[0].code) ∧
    RailCause.ov ≠ .uvDrv ∧ ((4095 : Word).toNat % 65536 ≤ 4095 ∧ 4095 < (4096 : Word).toNat % 65536) := by decide +kernel

/-- A load that engine A's packet fired: one plane, one strobe of both columns. -/
def fired : Load :=
  { aLoad with ticked := true, latched := 1, used := some .a, workA := { pkt := some ([0, 0, 0, 1] ++ List.replicate 14 0 ++ [1, 0] ++ toLe 2 100 ++ List.replicate 40 0) } }

/-- A powering port with and without its gate; a class T port that senses and one that does not; a load that fired, and a cut one; a first, a
later and no new baseline; a window with fewer than two plateau samples. -/
theorem witness_PortSupply :
    (∀ g ∈ [true, false], let s : State := { supply { gate := g } with hp := up.hp.set 0 { pstate := .powering, record := aRecord } }
      s.pwr.released = true ∧ s.hp[0].pstate = .powering ∧ s.hdv.ports[0].gate = g ∧ s.hdv.ports[0].echoEn = true ∧
        recClassL s.hp[0].record = false) ∧
    (supply { echoEn := false }).hdv.ports[0].echoEn = false ∧ heldPlanes 0 ⟨1, 0, 0, 0, [], []⟩ up = none ∧
    (∀ c ∈ [true, false], let ld := { fired with cut := c }
      let s : State := { supply { gate := true } with track := up.track.set 0 { firing := some ld }, hp := up.hp.set 0 { record := aRecord } }
      let w : EchoIn := ⟨1, 0, 0, 0, [0, 0], List.replicate 16 0⟩
      heldPlanes 0 w s = some ld ∧ (planeWindows ld w.plane)[w.number]? = some ([(0, false), (0, true)], 1600) ∧
        (planeWindows ld w.plane)[1]? = none ∧ ld.cut = c ∧ s.hdv.ports[0].echoEn = true ∧ recClassL s.hp[0].record = false ∧
        s.hdv.ports[0].gate = true ∧ newBase s.hdv.ports[0] (List.replicate 15 0) = none ∧ (newBase s.hdv.ports[0] w.guard).isSome = true ∧
        (plateau s.hdv.ports[0].settle.toNat 1600 w.samples).length < 2 ∧
        sampleShort { s.hdv.ports[0] with scale := ld.scale } (sumOf ([(0, false), (0, true)].map fun t =>
          pktExpect (usedPacket ld) w.plane t.1 (b2n t.2))) (plateau s.hdv.ports[0].settle.toNat 1600 w.samples) = false) := by decide +kernel

/-- The planes of a load that has passed, and those of one that has not begun. -/
theorem witness_PortSupply_held :
    (let s : State := { up with track := up.track.set 0 { firing := some aLoad, fired := some fired } }
     heldPlanes 0 ⟨1, 0, 0, 0, [], []⟩ s = some fired) ∧
    (let s : State := { up with track := up.track.set 0 { firing := some { fired with latched := 0 } } }
     heldPlanes 0 ⟨1, 0, 0, 0, [], []⟩ s = none) := by decide +kernel

/-- A map of `n` entries of the host. -/
def mapOf (n : Nat) (k : MapKind) : Nzh := { map := Vector.ofFn fun i => if i.val < n then some { kind := k, nozzle := i.val } else none }

/-- Maps with 63 and 64 entries, and a full one; a configuration in range and one out of it. -/
theorem witness_NozzleMaps :
    up.link.cfgReady = true ∧ docInProgress up = false ∧
    (let z := (health (mapOf 64 .host)).nzh[0]
     activeMissing z (63 : BitVec 11).toNat = true ∧ 64 ≤ activeCount z ∧ activeMissing z (64 : BitVec 11).toNat = false) ∧
    (let z := (health (mapOf 63 .host)).nzh[0]
     activeMissing z (63 : BitVec 11).toNat = false ∧ activeCount z < 64 ∧ freePlace z ≠ none) ∧
    freePlace (mapOf 128 .incoming) = none ∧ csCfgOk 0x78834078 = true ∧ csCfgOk 0 = false := by decide +kernel

/-- A contact sheet that may start, one that may not, and one that runs; the last drop of a nozzle and the one before. -/
theorem witness_ContactSheets :
    (let s : State := { inState .maint with hp := up.hp.set 0 { pstate := .active } }
     s.link.cfgReady = true ∧ s.top.state = .maint ∧ s.hp[0].pstate = .active ∧ sheetRuns s = false) ∧
    up.top.state ≠ .maint ∧
    (let z := (health { csState := .running }).nzh[0]
     up.pwr.released = true ∧ z.csState = .running ∧ z.csNozzle = 0 ∧ z.csDrops = 0) ∧
    (health { csState := .running, csDrops := 1 }).nzh[0].csDrops ≠ 0 ∧ up.nzh[0].csState ≠ .running ∧
    (∀ k ∈ [2, 3], let z : Nzh := { csState := .running, csDrops := k, csNozzle := 2 }
      (k = 2 → z.csDrops + 1 < csDropsOf z) ∧ (k = 3 → csDropsOf z ≤ z.csDrops + 1)) ∧
    2 + 1 < recNozzles (port { record := aRecord }).hp[0].record ∧
    [(1199 : Nat)].any (beamBlocked up.nzh[0].csCfg) = true ∧ [(1200 : Nat)].any (beamBlocked up.nzh[0].csCfg) = false ∧
    (∀ ns ∈ [8000, 30000], dropSeen up.nzh[0].csCfg [(ns, 1199)] = true) ∧ (∀ ns ∈ [7999, 30001], dropSeen up.nzh[0].csCfg [(ns, 1199)] = false) ∧
    (judgeDrop 0 true (health { csState := .running })).nzh[0].csState = .running := by decide +kernel

/-! ## Witnesses: the pair of engines and the transport port -/

/-- A load in diagnosis, with a test failover waiting and without, and the findings of an engine; a queued copy, and one of two still to come in
a rejoin. -/
theorem witness_PairFaults :
    (let ld := { aLoad with verdict := .diagnosing }
     up.pwr.released = true ∧ ((loaded ld).loads[0].find? fun l => l.verdict == .diagnosing) = some ld) ∧
    findingKind ⟨true, false, 0⟩ = some 4 ∧ findingKind ⟨false, true, 0⟩ = some 5 ∧ findingKind ⟨false, false, 0⟩ = none ∧
    up.sup.testPending = false ∧ ({ up with sup := { testPending := true } } : State).sup.testPending = true ∧ isPair up = true ∧
    (∀ l ∈ up.loads[0], l.verdict ≠ .diagnosing) ∧
    ({ up with sup := { copyQueue := [0] } } : State).sup.copyQueue = 0 :: [] ∧ up.sup.copyQueue = [] ∧ up.sup.latent[0] = none ∧
    (let s : State := { up with sup := { latent := up.sup.latent.set 0 (some {}), rejoining := true, rejoinDue := 3 } }
     s.sup.latent[0] = some {} ∧ s.sup.rejoining = true ∧
       clearBit (fixSegment (mainEng s).other 0 {} { s with sup := { s.sup with latent := s.sup.latent.set 0 none } }).sup.rejoinDue (0 : Port).val ≠ 0) := by
  decide +kernel

/-- The lead's copy for line 1, in the latch of a pair whose other engine stands at line `k`. -/
def latched (k : Nat) : State :=
  { up with sup := { latent := up.sup.latent.set 0 (some { line := 1 }) }, engB := { role := .shadow, seg := up.engB.seg.set 0 { line := BitVec.ofNat 32 k } } }

/-- A copy that comes early, one in time and one that is stale. -/
theorem witness_PairFaults_copy :
    ∀ k ∈ [0, 1, 2],
      (latched k).sup.latent[0] = some { line := 1 } ∧ (latched k).sup.rejoining = false ∧
        copyStale (eng .b (latched k)).seg[0] { line := 1 } (latched k) = decide (k = 2) ∧
        copyEarly (eng .b (latched k)).seg[0] { line := 1 } (latched k) = decide (k = 0) ∧ (mainEng (latched k)).other = .b := by decide +kernel

/-- A copy in time that agrees: the segments are equal. -/
theorem witness_PairFaults_agree :
    let s : State := { up with sup := { latent := up.sup.latent.set 0 (some {}) } }
    let own := (eng (mainEng s).other s).seg[0]
    s.sup.latent[0] = some {} ∧ s.sup.rejoining = false ∧ copyStale own {} s = false ∧ copyEarly own {} s = false ∧ segCheck 0 own = segCheck 0 {} := by
  refine ⟨by decide +kernel, by decide +kernel, by decide +kernel, by decide +kernel, ?_⟩
  exact congrArg (segCheck 0) (show _ = ({} : Segment) by decide +kernel)

/-- Engine B rejoining with its self test running, staging a swap with one, and with none; quiet points with each thing waiting. -/
theorem witness_SelftestsAndQuietPoints :
    (up.pwr.released = true ∧ (eng .b up).selftest = false) ∧
    (let s : State := { up with engA := { role := .solo }, engB := { role := .rejoining, selftest := true } }
     (eng .b s).selftest = true ∧ s.sup.restarting = false ∧ s.sup.swap = .closed ∧ roleOf .b s = .rejoining) ∧
    (let s : State := { up with engA := { role := .solo }, engB := { role := .rejoining, selftest := true }, sup := { swap := .armed } }
     (eng .b s).selftest = true ∧ s.sup.restarting = false ∧ s.sup.swap = .armed ∧ s.sup.staging = .b) ∧
    docInProgress printing = true ∧ (inState .maint).top.state ≠ .ready ∧ (inState .maint).top.state ≠ .gap ∧
    (let s : State := { up with mgt := {}, sup := { switchPending := true } }
     docInProgress s = false ∧ s.top.state = .ready ∧ s.sup.safePending = false ∧ s.sup.switchPending = true ∧ fwRuns s = false) ∧
    (let s : State := { inState .gap with mgt := {}, sup := { safePending := true } }
     docInProgress s = false ∧ s.top.state = .gap ∧ s.sup.safePending = true ∧ fwRuns s = false) ∧
    (let s : State := { up with mgt := {}, sup := { rejoinWait := true } }
     docInProgress s = false ∧ s.top.state = .ready ∧ s.sup.safePending = false ∧ s.sup.switchPending = false ∧ s.sup.swap = .closed ∧
       s.sup.rejoinWait = true ∧ s.sup.rejoining = false ∧ fwRuns s = false) := by decide +kernel

/-- After the start's SELFTEST a pair, a SOLO engine beside a retired and beside a rejoining one, and SAFE_HOLD; a swap in each state; before the
SELFTEST, and in the clock of a fault report. -/
theorem witness_PairCommands :
    (let s : State := { up with sup := { started := true } }
     s.link.cfgReady = true ∧ supReady (touchLink s) = true ∧ isPair s = true ∧ s.sup.swap = .closed ∧ s.sup.engSafeHold = false ∧
       swapOpenNow s = false ∧ roleOf .a s ≠ .retired ∧ s.pwr.released = true ∧ fwRuns s = true) ∧
    supReady up = false ∧ supReady { up with sup := { started := true, faultAt := some 0 } } = false ∧ fwRuns State.reset = false ∧
    (∀ r ∈ [Role.retired, .rejoining], let s : State := { up with engA := { role := .solo }, engB := { role := r }, sup := { started := true } }
     supReady s = true ∧ roleOf .a s = .solo ∧ roleOf .b s = r ∧ isPair s = false ∧ s.sup.swap = .closed) ∧
    (let s : State := { up with sup := { started := true, engSafeHold := true } }; supReady s = true ∧ s.sup.engSafeHold = true) ∧
    (let s : State := { up with sup := { started := true, swap := .staging } }
     supReady s = true ∧ s.sup.swap = .staging ∧ s.sup.swap ≠ .closed ∧ swapOpenNow s = true) := by
  decide +kernel

/-- A staged window with its check value, and with another. -/
theorem witness_PairCommands_crc (v : Word) :
    let s : State := { up with sup := { started := true, swap := .staging, stageCrc := v } }
    let s5 := supCmd 5 (cmdEngine s) false s
    (v = crc32c (stageBytes up) → crc32c (stageBytes s5) = s5.sup.stageCrc) ∧ (v = crc32c (stageBytes up) + 1 → crc32c (stageBytes s5) ≠ s5.sup.stageCrc) := by
  have h : ∀ x : Word, x ≠ x + 1 := by
    intro x hx
    have := congrArg BitVec.toNat hx
    simp at this
    omega
  exact ⟨fun e => e.symm, fun e => e ▸ h _⟩

/-- The states of each clause, before configuration readiness too; the operands at the bound of CANCEL. -/
theorem witness_PortCommands :
    (notReady (inState .sleep).top.state = true ∧ up.pwr.released = true ∧ notReady up.top.state = false ∧ up.link.cfgReady = true) ∧
    ({ up with link := {} } : State).link.cfgReady = false ∧
    (up.tpt.deferStop = false ∧ up.top.state ≠ .calib ∧ (inState .calib).top.state = .calib) ∧
    (let s : State := { printing with tpt := { arg0 := 1 } }
     argDoc s.tpt ≠ 0 ∧ argDoc s.tpt ≠ BitVec.allOnes 32 ∧ docLive (argDoc s.tpt) s = true ∧ s.tpt.deferStop = false) ∧
    argDoc up.tpt = 0 ∧ up.tpt.fifo = [] ∧
    (let r : FaultRec := ⟨1, 0, 2, 0, 0, 0, 0⟩; ({ fifo := [r, r] } : Tpt).fifo = r :: [r] ∧ ({ fifo := [r] } : Tpt).fifo = r :: []) ∧ 2 < ({ arg0 := 3 } : Tpt).arg0.toNat ∧
    (let t : Tpt := { deferStop := true }; t.arg0.toNat = 0 ∧ t.deferStop = true) := by decide +kernel

/-- The states of each clause; deferred commands that are due and that are not. -/
theorem witness_PortModes :
    (∀ st ∈ [DevState.ready, .gap, .print, .thermalHold, .safeHold, .maint, .calib], let s : State := { inState st with pwr := up.pwr }
      s.pwr.released = true ∧ s.tpt.deferCal = none ∧ s.tpt.deferMaint = false ∧ s.tpt.deferStop = false ∧ s.top.state = st ∧
        notReady s.top.state = false) ∧
    (let s : State := { up with tpt := { arg0 := 2, deferStop := true, deferCal := some false, deferMaint := true } }
     s.tpt.arg0 = 2 ∧ s.tpt.deferStop = true ∧ s.tpt.deferCal ≠ none ∧ s.tpt.deferMaint = true ∧ notReady s.top.state = false) ∧
    ({ arg0 := 1 } : Tpt).arg0 = 1 ∧ up.tpt.arg0 = 0 := by decide +kernel

/-- A deferred STOP that is due and one that waits in CALIB; a deferred calibration and a deferred MAINT_ENTER in every state, with every load
passed, with one handed over that has not, and without firmware. -/
theorem witness_PortModes_deferred :
    (let s : State := { printing with tpt := { deferStop := true, deferCal := some true, deferMaint := true } }
     s.tpt.deferStop = true ∧ notReady s.top.state = false ∧ s.top.state ≠ .calib) ∧
    (let s : State := { inState .calib with tpt := { deferStop := true } }
     s.tpt.deferStop = true ∧ s.top.state = .calib ∧ s.tpt.deferCal = none) ∧
    (∀ st ∈ [DevState.ready, .gap, .print, .maint, .thermalHold, .calib, .safeHold],
      let s : State := { inState st with tpt := { deferCal := some true } }
      s.pwr.released = true ∧ s.tpt.deferStop = false ∧ s.tpt.deferCal = some true ∧ s.tpt.deferMaint = false ∧ s.top.state = st ∧
        loadsPassed s = true ∧ fwRuns s = true) ∧
    (∀ st ∈ [DevState.ready, .gap, .print, .calib, .thermalHold, .maint, .safeHold],
      let s : State := { inState st with tpt := { deferMaint := true } }
      s.tpt.deferStop = false ∧ s.tpt.deferCal = none ∧ s.tpt.deferMaint = true ∧ s.top.state = st) ∧
    loadsPassed (loaded { aLoad with handed := true }) = false ∧ fwRuns { up with mgt := {} } = false := by decide +kernel

/-- A word below the last and the last; a pulse that waits and one that runs. -/
theorem witness_PortMailAndPulse :
    up.link.cfgReady = true ∧ up.pwr.released = true ∧ (6 : Fin 8) ≠ 7 ∧ notReady (inState .sleep).top.state = true ∧ notReady up.top.state = false ∧
    (let t : Tpt := { pulses := 1 }; 0 < t.pulses ∧ t.pulseLow = false) ∧ ({ pulseLow := true } : Tpt).pulseLow = true := by decide +kernel

/-! ## Witnesses: the axes and the temperature -/

/-- An axis for every reason of R364, and one that moves. -/
theorem witness_AxisCommands :
    up.link.cfgReady = true ∧
    motionState (maintOnly { cfg := 6 }) .ready = false ∧ motionState (maintOnly { cfg := 4 }) .ready = true ∧
    ({ motion := .moving } : Axis).motion ≠ .idle ∧
    (let a : Axis := { cfg := 4, posState := 1 }; a.motion = .idle ∧ a.posState.toNat < 2 ∧ a.bridge = .off ∧ a.chatter = false ∧ a.hiNow = false ∧ a.loNow = false) ∧
    ({ chatter := true } : Axis).chatter = true ∧ ({ stoppedAt := some 8 } : Axis).stoppedAt = some 8 ∧ ({ stoppedAt := some 8 } : Axis).stoppedAt ≠ some 9 ∧
    (let a : Axis := { cfg := 4, posState := 2, bridge := .hold }; 2 ≤ a.posState.toNat ∧ a.bridge ≠ .off) ∧
    stopState .calib = true ∧ bridgeState .safeHold = true := by decide +kernel

/-- Axes at rest, settling and holding. -/
theorem witness_AxisTiming :
    up.pwr.released = true ∧ up.mot.axes[0].leg = none ∧ (axis { home := .settle }).mot.axes[0].home = .settle ∧ up.mot.axes[0].home ≠ .settle ∧
      (axis { holdAt := some 8 }).mot.axes[0].holdAt = some 8 ∧ up.mot.axes[0].holdAt = none := by decide +kernel

/-- An axis with both limit inputs enabled and 0.1 ms of debounce, which travels upwards. -/
def limited : Axis := { limCfg := 0x30101, leg := some ⟨0, true, none, 1, 2, 0, 1, 0, 1, 0, 0⟩ }

/-- A level that an input's polarity makes tripped and not, at the debounce time and below it, one that the input shows already, and one of a
disabled input; the eighth change in 100 ms and the seventh; an axis that travels towards the input, away from it, backs off and seeks; an
open coil at its bounds; STANDBY and another state without power. -/
theorem witness_AxisFaults :
    up.pwr.released = true ∧
    (∀ hi ∈ [true, false], limitQualifies hi true 10 limited = false ∧ limitQualifies hi false 10 limited = true ∧
      limitQualifies hi false 9 limited = false ∧ limitQualifies hi false 10 { limited with hiNow := true, loNow := true } = false ∧
      limitQualifies hi true 10 { limited with hiNow := true, loNow := true } = true ∧ limitQualifies hi false 10 {} = false ∧
      limited.home = .none ∧ travels hi limited = hi) ∧
    (∀ n ∈ [6, 7], let a : Axis := { limited with hiTimes := List.replicate n 0 }
      let recent := (0 :: a.hiTimes).filter fun t => decide (0 < t + 800000000)
      recent.length = n + 1 ∧ a.chatter = false ∧ limitQualifies true false 10 a = true) ∧
    ({ limited with home := .backoff } : Axis).home = .backoff ∧ ({ limited with home := .seek } : Axis).home = .seek ∧
    (let x : Axis := { limited with bridge := .run, iSet := 12800, speed := 9, stall := 10 }
     x.bridge ≠ .off ∧ 12800 ≤ x.iSet ∧ x.speed.natAbs < x.stall.toNat % 65536) ∧
    (∀ x ∈ [({ } : Axis), { bridge := .run, iSet := 12799, stall := 10 }, { bridge := .run, iSet := 12800, speed := 10, stall := 10 }],
      x.bridge = .off ∨ x.iSet < 12800 ∨ x.stall.toNat % 65536 ≤ x.speed.natAbs) ∧
    (let s : State := { inState .standby with pwr := {} }; s.pwr.released = false ∧ s.top.state = .standby) ∧
    (let s : State := { inState .off with pwr := {} }; s.pwr.released = false ∧ s.top.state ≠ .standby) := by decide +kernel

/-- Chatter that has not been declared when the eighth change is taken. -/
theorem witness_AxisFaults_chatter :
    let s := axis { limited with limCfg := 0x70101, hiTimes := List.replicate 7 0 }
    let x := s.mot.axes[0]
    limitQualifies true false 10 x = true ∧ levelTrips true false x = true ∧
      (limitTrips 0 true (edgePosition 10 x s) (modAxis 0 (fun x => { x with hiNow := true, hiTimes := List.replicate 8 0 }) s)).mot.axes[0].chatter = false := by
  decide +kernel

/-- Readings of a plausible and an implausible diode; trips, and the re-test at its limit. -/
theorem witness_ThermalBlock :
    (up.pwr.released = true ∧ up.link.cfgReady = true ∧ docInProgress printing = true ∧ docInProgress up = false ∧ up.thm.sensorFail = false ∧
      up.thm.modelActive = false ∧ up.thm.tripped = none) ∧
    plausible ⟨2000, 2399, 2399, 0, 0, 0⟩ = true ∧ plausible ⟨1999, 2399, 2399, 0, 0, 0⟩ = false ∧
    ({ failRun := 2 } : Thm).failRun = 2 ∧ (inState .standby).top.state = .standby ∧
    (let t : Thm := { sensorFail := true, passRun := 1000, tCtl := 2160 }; t.sensorFail = true ∧ 1000 ≤ t.passRun ∧ t.tCtl ≤ 2160) ∧
    (let s : State := { up with thm := { tripped := some .comparator }, pwr := { supply := 0x7F } }
     s.thm.tripped = some .comparator ∧ (2080 : Int) < 2081 ∧ (2080 : Int) ≤ 2080 ∧ s.pwr.perst = true ∧ s.pwr.supply = 0x7F ∧ s.pwr.released = false) ∧
    (∀ st ∈ [DevState.ready, .safeHold], let s : State := { inState st with thm := { failRun := 2 } }
     s.thm.failRun = 2 ∧ s.thm.sensorFail = false ∧ (s.top.state = .safeHold ↔ st = .safeHold)) ∧
    up.pwr.supply.getLsbD 0 = true ∧ State.reset.pwr.supply.getLsbD 0 = false ∧ up.top.state ≠ .standby ∧
    (let s : State := { inState .standby with pwr := { supply := 1 } }; s.pwr.released = false ∧ s.pwr.supply.getLsbD 0 = true ∧ s.thm.tripped = none) := by
  decide +kernel

/-- The drive die stays below its trip at that reading, whatever the filter's free rounding. -/
theorem witness_ThermalBlock_drive :
    2399 + riseOf (thetaDd up.thm) (filterStep (tauDd up.thm * 100) up.thm.driveAvg ((0 + 0) * 1000)) < 2400 := by
  have h : ∀ tau, filterStep tau 0 0 = 0 := fun tau => by simp [filterStep]
  have d : up.thm.driveAvg = 0 := by decide +kernel
  rw [d, h]
  decide +kernel

/-! ## Witnesses: calibration, fuses and power -/

/-- Triggers that are due, requests in each state, codes at the limit, and a trim that moves. -/
theorem witness_Calibration :
    (up.pwr.released = true ∧ up.link.cfgReady = true ∧ up.cal.cfg.getLsbD 24 = true ∧ up.cal.running = none ∧ up.cal.dueFull = none ∧
      ({ cfg := 0 } : Cal).cfg.getLsbD 24 = false ∧ docInProgress up = false ∧ docInProgress printing = true ∧ fwRuns up = true ∧ up.tpt.deferCal = none ∧
      ({ deferCal := some false } : Tpt).deferCal ≠ none ∧ printing.top.state = .print ∧ up.top.state = .ready) ∧
    ({ exitFull := true } : Cal).exitFull = true ∧ ({ running := some false } : Cal).running = some false ∧
    ({ dueFull := some 8 } : Cal).dueFull = some 8 ∧ legality 5 up.top.state ≠ .refused ∧ legality 5 printing.top.state ≠ .refused ∧
    legality 5 (inState .safeHold).top.state = .refused ∧
    (let s : State := { inState .calib with cal := { running := some false } }; s.cal.running = some false ∧ s.top.state = .calib) ∧
    irefFails (codesOf true ⟨[(0, 2305)], [], 0, 0⟩ up) up = true ∧ codeOk up.cal.factory[0] 2304 = true ∧ codeOk up.cal.factory[0] 1792 = true ∧
    trimsMove { up with cal := { trim := up.cal.trim.set 0 { now := 2047 } } } = true ∧ trimsMove up = false := by decide +kernel

/-- A burn with two bits left, inside the window. -/
def burning : Burn := { op := 2, target := 100, value := 1, word := 100, step := .word true, code := 3, bits := [0, 1], tries := 2 }

/-- No burn and a running one. -/
theorem witness_Fuses :
    (up.link.cfgReady = true ∧ up.pwr.released = true ∧ up.otp.burn = none) ∧
    (let s : State := { up with otp := { burn := some burning } }
     s.otp.burn = some burning ∧ s.otp.burn ≠ none ∧ burning.bits ≠ [] ∧ burning.bits = 0 :: 1 :: [] ∧ burning.step = .word true ∧ ctlInWindow s = true ∧
       burning.tries < 3) ∧
    (∀ i ∈ [0, 78], let o : Otp := { cells := [⟨100, 2 ^ 78 + 1, 2 ^ 78 + 1, 2 ^ 78 + 1⟩] }
     let c := cellsOf 100 o.cells
     c.normal.getLsbD i = true ∧ c.low.getLsbD i = true ∧ c.high.getLsbD i = true) := by decide +kernel

/-- Supplies and resets of each clause. -/
theorem witness_SuppliesAndResets :
    State.reset.pwr.supply.getLsbD 0 = false ∧ up.pwr.supply.getLsbD 0 = true ∧ up.pwr.released = true ∧ up.top.state ≠ .off ∧
    State.reset.pwr.released = false ∧ State.reset.pwr.supply ≠ 0x7F ∧
    (∀ st ∈ [DevState.standby, .resetHold], (let s : State := { inState st with pwr := { supply := 0x7F } }
      s.pwr.released = false ∧ s.top.state ≠ .off ∧ s.top.state = st)) ∧
    ({ tripped := some .comparator } : Thm).tripped ≠ none ∧
    (∀ st ∈ [DevState.off, .standby], ∀ c ∈ [none, some TripCause.comparator],
      let s : State := { inState st with pwr := { supply := 0x7F, orderly := true, heldShut := c } }
      s.pwr.supply = 0x7F ∧ s.thm.tripped = none ∧ s.pwr.released = false ∧ s.top.state = st ∧ s.pwr.orderly = true ∧ s.pwr.heldShut = c ∧
        s.pwr.heldVm = 0) := by
  decide +kernel

/-- A bank 0 that one changed cell spoils, and one whose change takes nothing away. -/
theorem witness_SuppliesAndResets_bank :
    let s : State := { inState .standby with pwr := { supply := 0x7F, orderly := true } }
    bankGood (flipBytes (bank0Bytes (readBank1 [] s).pwr) [(4, 1)]) = false ∧ bankGood (flipBytes (bank0Bytes s.pwr) [(4, 0)]) = true := by
  decide +kernel

/-- BOOT at stage `n`. -/
def atStage (n : Nat) : State := { State.reset with pwr := { released := true, stage := BitVec.ofNat 4 n } }

/-- Every stage; a failure before; a retry that is due. -/
theorem witness_StartStages :
    (∀ n ∈ [1, 2, 3, 4, 5, 6, 7], inStage n (atStage n) = true) ∧ slotBFirst [] [] false = false ∧ slotBFirst [] [] true = false ∧
    (atStage 1).pwr.failedSet.getLsbD 1 = false ∧ ({ failedSet := 2 } : Pwr).failedSet.getLsbD 1 = true ∧
    (let s : State := { inState .resetHold with pwr := { released := true, retryAt := some 9 } }
     s.pwr.released = true ∧ s.pwr.retryAt = some 9 ∧ s.top.state = .resetHold) ∧
    (∀ b ∈ [none, some burning], ({ atStage 2 with otp := { burn := b } } : State).otp.burn = b) ∧
    (∀ r ∈ [List.replicate 32 (0xFF : Byte)], parseRecord r = none) := by decide +kernel

/-- An image of either kind with one section, unsigned. -/
def goodImage (kolto : Bool) : List Byte :=
  let body := toLe 2 (if kolto then 7 else 0x80) ++ [0, 0] ++ toLe 4 272 ++ toLe 4 4 ++ toLe 4 (crc32c [1, 2, 3, 4]).toNat ++ [1, 2, 3, 4]
  let h := toLe 4 (magicOf kolto) ++ [1, 0, 1, 0] ++ toLe 4 276 ++ toLe 4 5 ++ toLe 4 0 ++ [255, 0, 0, 85] ++ List.replicate 8 0 ++
    toLe 4 (crc32c body).toNat ++ List.replicate 216 0
  h ++ toLe 4 (crc32c h).toNat ++ body

set_option maxRecDepth 4000 in
/-- The firmware image is valid for the fuses of a new device. -/
theorem goodImage_firmware : (parseImage false (goodImage false) rangeOnly State.reset.otp).isSome = true := by decide +kernel

set_option maxRecDepth 4000 in
/-- The Kolto image is too. -/
theorem goodImage_kolto : (parseImage true (goodImage true) (loadsAccepted (atStage 4)) (atStage 4).otp).isSome = true := by decide +kernel

set_option maxRecDepth 4000 in
/-- Slot A is tried first where it alone holds an image. -/
theorem goodImage_first : slotBFirst (goodImage false) [] false = false ∧ slotBFirst (goodImage true) [] true = false := by decide +kernel

/-- Slots of which one holds a valid image or none does, in each stage. -/
theorem witness_StartStages_images :
    (parseImage false (goodImage false) rangeOnly (atStage 3).otp).isSome = true ∧ parseImage false [] rangeOnly (atStage 3).otp = none ∧
    (parseImage true (goodImage true) (loadsAccepted (atStage 4)) (atStage 4).otp).isSome = true ∧
    parseImage true [] (loadsAccepted (atStage 4)) (atStage 4).otp = none :=
  ⟨goodImage_firmware, by decide +kernel, goodImage_kolto, by decide +kernel⟩

/-- SLEEP, STANDBY and the always-on domain, clause by clause. -/
theorem witness_SleepAndStandby :
    (up.link.cfgReady = true ∧ up.top.state = .ready ∧ up.pwr.cfg.getLsbD 0 = false ∧ (inState .sleep).top.state = .sleep ∧
      ({ cfg := 1 } : Pwr).cfg.getLsbD 0 = true ∧ up.link.d3hot = false ∧ ({ d3hot := true } : Link).d3hot = true ∧ (inState .maint).top.state ≠ .ready ∧ (inState .maint).top.state ≠ .gap ∧ up.top.state ≠ .sleep ∧ up.top.state ≠ .off ∧
      up.pwr.released = true ∧ docInProgress up = false ∧ docInProgress printing = true ∧ writesRun up = false ∧ axesStill up = true ∧
      up.pwr.wakeSeen ≠ some up.now ∧ ({ wakeSeen := some 8 } : Pwr).wakeSeen = some 8 ∧ (inState .sleep).pwr.sleptAt ≠ some 0) ∧
    (let s : State := { inState .sleep with pwr := { cfg := 0x1C00, sleptAt := some 0 } }
     s.top.state = .sleep ∧ s.pwr.sleptAt = some s.now ∧ ∀ bit ∈ [10, 11, 12], s.pwr.cfg.getLsbD bit = true) ∧
    (let s : State := { inState .maint with pwr := { released := true, standbyPend := true } }
     s.pwr.standbyPend = true ∧ s.pwr.standbyAxes = false ∧ docInProgress s = false ∧ writesRun s = false ∧ s.top.state = .maint) ∧
    (∀ s ∈ [{ up with otp := { burn := some burning } }, { up with mgt := { running := true, updState := .erasing } },
      { up with hp := up.hp.set 0 { write := .page 3 } }], writesRun s = true) ∧
    (let s : State := { up with pwr := { released := true, standbyPend := true } }; s.pwr.standbyPend = true ∧ s.pwr.standbyAxes = false) ∧
    ({ standbyAxes := true } : Pwr).standbyAxes = true ∧ ({ coreOnDemand := true } : Pwr).coreOnDemand = true ∧
    (let s : State := { inState .standby with pwr := { mainEn := false, aonCfg := 0x300, alarmHi := 0x80000000 } }
     s.top.state = .standby ∧ s.pwr.mainEn = false ∧ s.pwr.aonCfg.getLsbD 8 = true ∧ s.pwr.aonCfg.getLsbD 9 = true ∧ s.pwr.alarmHi.getLsbD 31 = true) ∧
    up.pwr.aonCfg.getLsbD 8 = false ∧ up.pwr.alarmHi.getLsbD 31 = false ∧ ({ aonSearch := true } : Pwr).aonSearch = true ∧ up.pwr.aonRc = false ∧
    ({ aonRc := true } : Pwr).aonRc = true ∧ ({ rtcArmed := some 0xFFFFFFFFFFFF } : Pwr).rtcArmed = some 0xFFFFFFFFFFFF ∧ up.pwr.rtcArmed = none ∧
    ({ spreadRamp := some 5 } : Pwr).spreadRamp = some 5 := by decide +kernel

/-! ## Witnesses: management and events -/

/-- A parsed image without sections. -/
def anImage : Image := ⟨1, 1, 0, 0, 0, []⟩

/-- The firmware running, restarting and absent; a record at the end of the ring; the mailbox of each clause. -/
theorem witness_Management :
    (up.link.cfgReady = true ∧ up.pwr.released = true ∧ up.mgt.running = true ∧ sessionRuns up.mgt = false ∧ State.reset.mgt.running = false ∧
      fwRuns up = true ∧ fwRuns { up with mgt := {} } = false ∧ up.mgt.recovery = false ∧ sessionRuns { running := true, updState := .erasing } = true) ∧
    (let m : Mgt := { running := true, restarting := true }
     m.restarting = true ∧ m.activation ≠ .firmware ∧ m.trying = none) ∧
    ({ trying := some true } : Mgt).trying ≠ none ∧
    (let s : State := { up with mgt := { running := true, fifo := [⟨0, 0, 5, 0, []⟩], place := 65407, logReady := true } }
     logWrites s = true ∧ s.mgt.fifo = ⟨0, 0, 5, 0, []⟩ :: [] ∧ compacts s.mgt = false) ∧
    (let s : State := { up with mgt := { running := true, fifo := [⟨0, 0, 5, 0, []⟩], place := 127, logReady := true, torn := [128, 127] } }
     logWrites s = true ∧ compacts s.mgt = true) ∧ logWrites up = false ∧ up.mgt.fifo = [] ∧
    (let s : State := { up with mgt := { running := true, mbxLen := 2048, user := List.replicate 2048 0 } }
     s.mgt.recovery = false ∧ mbxBusy s = false ∧ mbxLenOk s.mgt = true ∧ 2048 * s.mgt.mbxArg.toNat + s.mgt.mbxLen.toNat ≤ s.mgt.user.length) ∧
    mbxBusy { up with mgt := {} } = true ∧
    (let m : Mgt := { recovery := true, mbxLen := 1, mbxArg := 1, recImage := List.replicate 2048 0 }
     m.recovery = true ∧ mbxLenOk m = true ∧ 0 < m.mbxArg.toNat ∧ 2048 * m.mbxArg.toNat = m.recImage.length ∧
       recWhole (m.recImage ++ mbxBytes m.mbxLen.toNat m) = true) ∧
    (let m : Mgt := { recovery := true, mbxLen := 1, mbxArg := 1, recImage := List.replicate 8 0 ++ [0, 16, 0, 0] ++ List.replicate 2036 0 }
     2048 * m.mbxArg.toNat = m.recImage.length ∧ recWhole (m.recImage ++ mbxBytes m.mbxLen.toNat m) = false) ∧
    (let m : Mgt := { recovery := true, mbxLen := 1, mbxArg := 2, recImage := List.replicate 2048 0 }
     mbxLenOk m = true ∧ 2048 * m.mbxArg.toNat ≠ m.recImage.length) ∧ (0x5D : BitVec 7) ≠ up.mgt.smbAddr ∧
    (smbWord (10 : BitVec 8).toNat (tpStatus up) up).isSome = true ∧ smbWord (11 : BitVec 8).toNat (tpStatus up) up = none := by decide +kernel

/-- The mailbox holds the record of the head on port 15. -/
def mailing : State :=
  { up with
    mgt := { running := true, mbxArg := 15, mbxLen := 128, mbx := (List.range 128).map fun i => (i, aRecord.getD i 0) }
    hp := up.hp.set 15 { pstate := .unpowered, record := aRecord } }

/-- Its bytes are the record's. -/
theorem mailing_bytes : mbxBytes 128 mailing.mgt = aRecord := by decide +kernel

/-- A legal HEAD_WRITE. -/
theorem witness_Management_headWrite :
    (mailing.link.cfgReady = true ∧ mailing.mgt.mbxArg.toNat = (15 : Port).val ∧ mailing.mgt.recovery = false ∧ mbxBusy mailing = false ∧
      mbxLenOk mailing.mgt = true ∧ mailing.hp[15].record ≠ [] ∧ canWrite mailing.hp[15] = true ∧ mailing.hp[15].write = .idle) ∧
    recordValid (mbxBytes 128 mailing.mgt) = true ∧ recSerial (mbxBytes 128 mailing.mgt) = recSerial mailing.hp[15].record := by
  refine ⟨by decide +kernel, ?_, ?_⟩ <;> rw [mailing_bytes]
  · exact record_valid
  · decide +kernel

/-- Slot bytes of the restart, the one in force and the other one, in either place. -/
theorem witness_Management_slots :
    (∀ slot : Bool, (parseImage false (slotBytes (goodImage false) (goodImage false) slot) rangeOnly up.otp).isSome = true) ∧
    (parseImage false (slotBytes (goodImage false) [] false) rangeOnly up.otp).isSome = true ∧
    parseImage false (slotBytes (goodImage false) [] true) rangeOnly up.otp = none := by
  refine ⟨fun slot => ?_, goodImage_firmware, by decide +kernel⟩
  cases slot <;> exact goodImage_firmware

set_option maxRecDepth 4000 in
/-- What a verification reads back: a good image, and nothing. -/
theorem witness_Updates_verify :
    (parseImage false ((goodImage false).take 256 ++ (goodImage false).drop 256) loadsInRange up.otp).isSome = true ∧
    parseImage false ((goodImage false).take 256 ++ ([] : List Byte).drop 256) loadsInRange up.otp = none := by decide +kernel

/-- A session in each of its states; lengths at the bounds of each kind. -/
theorem witness_Updates :
    (up.link.cfgReady = true ∧ up.pwr.released = true ∧ fwRuns up = true ∧ up.mgt.updState = .idle ∧ fwRuns { up with mgt := {} } = false ∧
      flashWindow up = true ∧ reloadDue up = false ∧ sessionRuns { running := true, updState := .receiving } = true ∧ up.mgt.updState ≠ .committed) ∧
    (512 ≤ (512 : BitVec 22).toNat ∧ (1048576 : BitVec 22).toNat ≤ slotSize false ∧ (2097152 : BitVec 22).toNat ≤ slotSize true) ∧
    (let m : Mgt := { running := true, updState := .receiving, updLen := 513, received := List.replicate 512 0 }
     pageReady { up with mgt := m } = true ∧ (nextPage m).2 ≠ m.updLen.toNat) ∧
    (let m : Mgt := { running := true, updState := .receiving, updLen := 512, received := List.replicate 512 0 }
     pageReady { up with mgt := m } = true ∧ (nextPage m).2 = m.updLen.toNat) ∧ pageReady up = false ∧
    up.chk.units[7].state ≠ .running ∧
    (∀ l ∈ [[], [FlashOp.erase 0 4096]], let m : Mgt := { updState := .erasing, flashWait := l }; m.updState = .erasing ∧ m.flashWait = l) ∧
    (let s : State := { up with mgt := { running := true, updState := .verifying, received := (goodImage false).take 256 } }
     verifyEnds s = true) ∧
    (let m : Mgt := { updState := .committed }; m.updState = .committed ∧ m.sesKind = false) ∧
    (let m : Mgt := { trying := some true, restarting := true }; m.trying.isSome = true ∧ m.restarting = true) ∧
    reloadDue { up with mgt := { running := true, updState := .pending, activation := .reload } } = true := by decide +kernel

/-- No slot valid, this one, the other, and both; no firmware, and a session. -/
theorem witness_InvalidateAndReload :
    (up.link.cfgReady = true ∧ fwRuns up = true ∧ up.mgt.updState = .idle) ∧ up.mgt.slots[slotIx true true] = none ∧
      (up.mgt.slots.set 3 (some anImage))[slotIx true true].isSome = true ∧ (up.mgt.slots.set 3 (some anImage))[slotIx true false] = none ∧
      (let v := (up.mgt.slots.set 2 (some anImage)).set 3 (some anImage); v[slotIx true false] = some anImage ∧ v[slotIx true true] = some anImage) ∧
      fwRuns State.reset = false ∧ ({ updState := .committed } : Mgt).updState ≠ .idle := by
  decide +kernel

/-- Vectors whose holdoff ends, and pending ones, where messages are enabled. -/
theorem witness_EventCommands :
    (let s : State := { up with
       link := { cfgReady := true, msixEn := true, busMaster := true }
       evt := { up.evt with holdEnd := up.evt.holdEnd.set 127 (some 8), held := 1 <<< 127, pba := 1, table := up.evt.table.set 127 { masked := false } } }
     s.pwr.released = true ∧ s.evt.holdEnd[127] = some 8 ∧ s.evt.held.getLsbD 127 = true ∧ vecOpen 127 s = true ∧ s.evt.holdEnd[0] = none ∧
       s.link.cfgReady = true ∧ s.evt.pba.getLsbD 1 = false ∧ s.evt.pba.getLsbD 0 = true ∧ s.link.msixEn = true ∧ s.link.busMaster = true ∧
       s.link.funcMask = false) ∧
    (0 : Word).getLsbD 31 = false ∧ (0x80000000 : Word).getLsbD 31 = true ∧
    (let s : State := { up with evt := { up.evt with
       cfg := up.evt.cfg.set 31 { up.evt.cfg[31] with threshold := 2, window := 60000 }
       classes := up.evt.classes.set 31 { up.evt.classes[31] with cleared := some (0, true, [0]) } } }
     clearedNow 31 s = some (true, [0]) ∧ isLasting 31 s = false ∧
       s.evt.cfg[31].threshold.toNat ≤ inWindow ((usNow s :: [0]).take s.evt.cfg[31].threshold.toNat) (usNow s) (s.evt.cfg[31].window.toNat * 1000)) := by
  decide +kernel

end Sys2Proof.Tests
end

/-! ## The gates of a command: guarded writes (O10) -/

namespace Sys2Proof.Machine

/-! ### The gates a command passes, and the access types (R2, R5) -/

/-- From configuration readiness on a host access reaches its register, and is traffic on the link (R77, R80). -/
theorem onHost_of_ready {f : State → State} {s : State} (h : s.link.cfgReady = true) : onHost f s = f (touchLink s) := if_pos h

/-- What happens in the dies happens while they are out of reset (R421). -/
theorem live_of_released {f : State → State} {s : State} (h : s.pwr.released = true) : live f s = f s := if_pos h

theorem guarded_of_busy {f : State → State} {s : State} (h : docInProgress s = true) : guarded f s = countIgnored s := if_pos h

theorem guarded_of_free {f : State → State} {s : State} (h : docInProgress s = false) : guarded f s = f s := by
  simp [guarded, h]

theorem unlessLocked_of_locked {l : Bool} {f : State → State} {s : State} (h : l = true) : unlessLocked l f s = countIgnored s := if_pos h

theorem unlessLocked_of_open {l : Bool} {f : State → State} {s : State} (h : l = false) : unlessLocked l f s = f s := by
  simp [unlessLocked, h]

theorem onBit_of_clear {w : Word} {i : Nat} {f : State → State} {s : State} (h : w.getLsbD i = false) : onBit w i f s = s := by
  simp [onBit, h]

/-- A guarded host write is counted and does nothing else while a document is in progress. -/
theorem onHost_guarded_of_busy {f : State → State} {s : State} (hc : s.link.cfgReady = true) (hd : docInProgress s = true) :
    onHost (guarded f) s = countIgnored (touchLink s) :=
  (onHost_of_ready hc).trans (guarded_of_busy hd)

/-! ### O10 -/

/-- Settles O10: every one of these commands is a guarded host write, and FTL_RESET and HEAD_REREAD are ignored as such a write is where
the document uses the loop or names the port. -/
theorem guardedWritesIgnored : Obligations.GuardedWritesIgnored := by
  unfold Obligations.GuardedWritesIgnored
  intro s hc hd ign
  have ignored {t : State} (h : t = countIgnored (touchLink s)) : after s t = ign := congrArg (after s) h
  have guardedIgnored (f : State → State) : after s (onHost (guarded f) s) = ign := ignored (onHost_guarded_of_busy hc hd)
  refine ⟨fun _ _ => guardedIgnored _, fun _ => guardedIgnored _, fun _ _ => guardedIgnored _, fun _ _ => guardedIgnored _,
    fun _ _ => guardedIgnored _, fun _ _ => guardedIgnored _, fun _ _ => guardedIgnored _, fun _ _ => guardedIgnored _,
    fun _ _ => guardedIgnored _, fun _ _ => guardedIgnored _, fun _ _ => guardedIgnored _, fun _ _ => guardedIgnored _,
    fun _ => guardedIgnored _, fun _ => guardedIgnored _, fun _ _ => guardedIgnored _, fun x hx => ?_, fun p hp => ?_⟩
  · exact ignored ((onHost_of_ready hc).trans (by simp [countWhen, hd, show loopInUse x (touchLink s) = true from hx]))
  · exact ignored ((onHost_of_ready hc).trans (by simp [countWhen, hd, show portInDoc p (touchLink s) = true from hp]))

end Sys2Proof.Machine

/-! ## Register writes (O8) -/

namespace Sys2Proof.Machine

/-! ### Finding a sub-block or an array entry from an offset (R13) -/

/-- The offset of entry `i` finds entry `i`. -/
theorem entryAt_mul {n : Nat} (base : Nat) {step : Nat} (i : Fin n) (h : 0 < step) : entryAt (base + step * i.val) base step n = some i := by
  simp [entryAt, Nat.mul_div_cancel_left _ h, i.isLt]

theorem entryAt_of_lt {off base step n : Nat} (h : off < base) : entryAt off base step n = none :=
  dif_neg fun ⟨hb, _⟩ => by omega

theorem entryAt_of_mod {off base step n : Nat} (h : (off - base) % step ≠ 0) : entryAt off base step n = none :=
  dif_neg fun ⟨_, hm, _⟩ => h hm

theorem entryAt_of_end_le {off base step n : Nat} (hs : 0 < step) (h : base + step * n ≤ off) : entryAt off base step n = none :=
  dif_neg fun ⟨_, _, hq⟩ => by
    have := (Nat.div_lt_iff_lt_mul hs).1 hq
    rw [Nat.mul_comm] at this
    omega

/-- Offset `o` of sub-block `i` finds that sub-block and offset. -/
theorem instanceAt_mul {n : Nat} (base : Nat) {step o : Nat} (i : Fin n) (h : o < step) :
    instanceAt (base + step * i.val + o) base step n = some (i, o) := by
  have hq : (step * i.val + o) / step = i.val := by
    rw [Nat.mul_add_div (by omega), Nat.div_eq_of_lt h, Nat.add_zero]
  simp [instanceAt, Nat.add_assoc, hq, Nat.mod_eq_of_lt h, i.isLt]

theorem instanceAt_of_end_le {off base step n : Nat} (hs : 0 < step) (h : base + step * n ≤ off) : instanceAt off base step n = none :=
  dif_neg fun ⟨_, hq⟩ => by
    have := (Nat.div_lt_iff_lt_mul hs).1 hq
    rw [Nat.mul_comm] at this
    omega

/-! ### Write accesses as writes of words (R8) -/

theorem writePart_of_ne {be : BitVec 4} (h : be ≠ 15) (f : Nat → Word → State → State) (off : Nat) (w : Word) (s : State) :
    writePart f off w be s = s := if_neg h

/-- An access that begins at a word reaches that word and the next one, the lower first. -/
theorem writeAccess_aligned {off : Nat} (h : off % 4 = 0) (f : Nat → Word → State → State) (val : DWord) (be : BitVec 8) (s : State) :
    writeAccess f off val be s =
      writePart f (off + 4) ((val >>> 32).setWidth 32) ((be >>> 4).setWidth 4) (writePart f off (val.setWidth 32) (be.setWidth 4) s) := by
  have base : off / 4 * 4 = off := by omega
  have third : (be.setWidth 12 >>> 8).setWidth 4 ≠ (15 : BitVec 4) := by
    intro e
    have := congrArg (BitVec.getLsbD · 0) e
    simp at this
  have second : (be.setWidth 12 >>> 4).setWidth 4 = (be >>> 4).setWidth 4 := by bv_omega
  have upper : (val.setWidth 96 >>> 32).setWidth 32 = (val >>> 32).setWidth 32 := by bv_omega
  simp only [writeAccess, h, base, Nat.mul_zero, BitVec.shiftLeft_zero, second, upper]
  rw [writePart_of_ne third]
  congr 2

/-- Four bytes at a word write the word. -/
theorem writeAccess_word {off : Nat} (h : off % 4 = 0) (f : Nat → Word → State → State) (val : DWord) (s : State) :
    writeAccess f off val 0x0F s = f off (val.setWidth 32) s :=
  writeAccess_aligned h f val 0x0F s

/-- Eight bytes at a word write it and then the next. -/
theorem writeAccess_twoWords {off : Nat} (h : off % 4 = 0) (f : Nat → Word → State → State) (val : DWord) (s : State) :
    writeAccess f off val 0xFF s = f (off + 4) ((val >>> 32).setWidth 32) (f off (val.setWidth 32) s) :=
  writeAccess_aligned h f val 0xFF s

/-- Words without all four byte enables are not written. -/
theorem writeAccess_partial {off : Nat} {be : BitVec 8} (h : off % 4 = 0) (hl : be.setWidth 4 ≠ (15 : BitVec 4))
    (hh : (be >>> 4).setWidth 4 ≠ (15 : BitVec 4)) (f : Nat → Word → State → State) (val : DWord) (s : State) :
    writeAccess f off val be s = s := by
  rw [writeAccess_aligned h, writePart_of_ne hh, writePart_of_ne hl]

/-- Four bytes that begin inside a word fill none. -/
theorem writeAccess_unaligned {off : Nat} (h : off % 4 ≠ 0) (f : Nat → Word → State → State) (val : DWord) (s : State) :
    writeAccess f off val 0x0F s = s := by
  have inside : off % 4 = 1 ∨ off % 4 = 2 ∨ off % 4 = 3 := by omega
  unfold writeAccess
  rcases inside with e | e | e <;> simp [e, writePart]

/-! ### Host and port writes as commands -/

/-- A host write is answered from configuration readiness on: it is traffic, and reaches its window. -/
theorem exec_bar0_write {s : State} (hc : s.link.cfgReady = true) (off : Nat) (val : DWord) (be : BitVec 8) :
    exec (.registerWrite .bar0 off val be) s = .next (settle s (writeAccess writeWord off val be (touchLink s))) :=
  congrArg (after s) (onHost_of_ready hc)

theorem exec_bar2_write {s : State} (hc : s.link.cfgReady = true) (off : Nat) (val : DWord) (be : BitVec 8) :
    exec (.registerWrite .bar2 off val be) s = .next (settle s (writeBell off val be (touchLink s))) :=
  congrArg (after s) (onHost_of_ready hc)

theorem exec_bar4_write {s : State} (hc : s.link.cfgReady = true) (off : Nat) (val : DWord) (be : BitVec 8) :
    exec (.registerWrite .bar4 off val be) s = .next (settle s (writeAccess writeTable off val be (touchLink s))) :=
  congrArg (after s) (onHost_of_ready hc)

/-- A transport-port write reaches the port from reset release on. -/
theorem exec_tp_write {s : State} (hr : s.pwr.released = true) (off : Nat) (val : DWord) (be : BitVec 8) :
    exec (.registerWrite .tp off val be) s = .next (settle s (writePort off (val.setWidth 16) s)) :=
  congrArg (after s) (live_of_released hr)

/-- A 32-bit BAR0 write of a whole word. -/
theorem exec_bar0_word {s : State} {off : Nat} (hc : s.link.cfgReady = true) (h : off % 4 = 0) (w : Word) :
    exec (.registerWrite .bar0 off (w.setWidth 64) 0x0F) s = .next (settle s (writeWord off w (touchLink s))) := by
  rw [exec_bar0_write hc, writeAccess_word h]
  simp

/-- A doorbell is a host access that may wake the device (R88, R426). -/
theorem exec_doorbell {s : State} (hc : s.link.cfgReady = true) (ch : Chan) (val : DWord) (hi : Bool) :
    exec (.doorbell ch val true hi) s = .next (settle s (wakeBy 12 (doorbell ch (bellValue val hi) (touchLink s)))) :=
  congrArg (after s) ((if_pos rfl).trans (onHost_of_ready hc))

/-! ### Doorbell writes on BAR2 (R16, R88) -/

/-- The byte enables of a low half act on the doorbell at the offset; those of the high half say whether it is written too. -/
theorem writeBell_low (ch : Chan) {be : BitVec 8} (h : be.setWidth 4 = (15 : BitVec 4)) (val : DWord) (s : State) :
    writeBell (8 * ch.val) val be s = wakeBy 12 (doorbell ch (bellValue val ((be >>> 4).setWidth 4 == (15 : BitVec 4))) s) := by
  have found : entryAt (8 * ch.val) 0 8 20 = some ch := by simpa using entryAt_mul 0 ch (step := 8) (by decide)
  simp [writeBell, found, h]

/-- An access that begins in a high half rings the doorbell after it with its second word. -/
theorem writeBell_next {ch : Chan} (hch : 0 < ch.val) {be : BitVec 8} (h : (be >>> 4).setWidth 4 = (15 : BitVec 4)) (val : DWord) (s : State) :
    writeBell (8 * ch.val - 4) val be s = wakeBy 12 (doorbell ch (bellValue (val >>> 32) false) s) := by
  have here : entryAt (8 * ch.val - 4) 0 8 20 = none := entryAt_of_mod (by omega)
  have next : entryAt (8 * ch.val - 4 + 4) 0 8 20 = some ch := by
    rw [show 8 * ch.val - 4 + 4 = 0 + 8 * ch.val by omega]
    exact entryAt_mul 0 ch (by decide)
  simp [writeBell, here, next, h]

/-- Outside a high half, an access without the whole low half rings nothing. -/
theorem writeBell_lowPartial {off : Nat} {be : BitVec 8} (hoff : off % 8 ≠ 4) (h : be.setWidth 4 ≠ (15 : BitVec 4)) (val : DWord) (s : State) :
    writeBell off val be s = s := by
  have next : entryAt (off + 4) 0 8 20 = none := entryAt_of_mod (by omega)
  cases here : entryAt off 0 8 20 with
  | none => simp [writeBell, here, next]
  | some ch => simpa [writeBell, here] using fun e => absurd e h

/-- Outside the start of a doorbell, an access without its whole second word rings nothing. -/
theorem writeBell_highPartial {off : Nat} {be : BitVec 8} (hoff : off % 8 ≠ 0) (h : (be >>> 4).setWidth 4 ≠ (15 : BitVec 4)) (val : DWord)
    (s : State) : writeBell off val be s = s := by
  have here : entryAt off 0 8 20 = none := entryAt_of_mod (by omega)
  cases next : entryAt (off + 4) 0 8 20 with
  | none => simp [writeBell, here, next]
  | some ch => simpa [writeBell, here, next] using fun e => absurd e h

/-- The offsets from 0x0A0 up hold no doorbell. -/
theorem writeBell_beyond {off : Nat} (hoff : 0xA0 ≤ off) (val : DWord) (be : BitVec 8) (s : State) : writeBell off val be s = s := by
  have here : entryAt off 0 8 20 = none := entryAt_of_end_le (by decide) (by omega)
  have next : entryAt (off + 4) 0 8 20 = none := entryAt_of_end_le (by decide) (by omega)
  simp [writeBell, here, next]

/-! ### The MSI-X table on BAR4 (R16) -/

/-- Replace an entry of the MSI-X table. -/
def setVector (v : Fin 128) (e : MsixEntry) (s : State) : State :=
  { s with evt := { s.evt with table := s.evt.table.set v.val e v.isLt } }

theorem instanceAt_vector (v : Fin 128) {o : Nat} (h : o < 16) : instanceAt (16 * v.val + o) 0 16 128 = some (v, o) := by
  simpa using instanceAt_mul 0 v h

theorem writeTable_addrLo (v : Fin 128) (w : Word) (s : State) :
    writeTable (16 * v.val) w s = setVector v { s.evt.table[v] with addrLo := w } s := by
  have found : instanceAt (16 * v.val) 0 16 128 = some (v, 0) := instanceAt_vector v (o := 0) (by decide)
  simp [writeTable, setVector, found]

theorem writeTable_addrHi (v : Fin 128) (w : Word) (s : State) :
    writeTable (16 * v.val + 4) w s = setVector v { s.evt.table[v] with addrHi := w } s := by
  simp [writeTable, setVector, instanceAt_vector v]

theorem writeTable_data (v : Fin 128) (w : Word) (s : State) :
    writeTable (16 * v.val + 8) w s = setVector v { s.evt.table[v] with data := w } s := by
  simp [writeTable, setVector, instanceAt_vector v]

/-- The mask bit may let a pending message go out. -/
theorem writeTable_mask (v : Fin 128) (w : Word) (s : State) :
    writeTable (16 * v.val + 12) w s = sendPending v (setVector v { s.evt.table[v] with masked := w.getLsbD 0 } s) := by
  simp [writeTable, setVector, setVecMask, instanceAt_vector v]

theorem sendPending_steady (v : Fin 128) (s : State) : Steady (sendPending v s) s := by
  unfold sendPending
  split
  · exact sendMsi_steady v s
  · simp [Steady]

theorem Steady.refl (s : State) : Steady s s := by simp [Steady]

/-- A host access that sets entry `v`, and beyond that changes nothing that settling leaves alone, leaves the other entries, SCRATCH and
the loops. -/
theorem settle_setVector {v : Fin 128} {e : MsixEntry} {s t : State} (h : Steady t (setVector v e (touchLink s))) :
    (settle s t).evt.table[v] = e ∧ (∀ w : Fin 128, w ≠ v → (settle s t).evt.table[w] = s.evt.table[w]) ∧
      (settle s t).top.scratch = s.top.scratch ∧ (settle s t).ftl = s.ftl := by
  obtain ⟨-, -, -, ftl, -, -, -, -, -, -, -, -, -, scratch, table, -⟩ := (settle_settled s t).trans (Settled.of_steady h)
  refine ⟨by simp [table, setVector], fun w hw => ?_, scratch, ftl⟩
  have ne : v.val ≠ w.val := fun e => hw (Fin.ext e.symm)
  simp [table, setVector, Vector.getElem_set_ne _ _ ne]

/-- A BAR4 write that replaces vector `v`'s entry by `e`, and may send the vector's message. -/
theorem exec_bar4_word {s t : State} {v : Fin 128} {off : Nat} {e : MsixEntry} {val : DWord} (hc : s.link.cfgReady = true)
    (ho : off % 4 = 0) (ht : writeTable off (val.setWidth 32) (touchLink s) = t) (h : Steady t (setVector v e (touchLink s))) :
    ∃ t, exec (.registerWrite .bar4 off val 0x0F) s = .next t ∧ t.evt.table[v] = e ∧
      (∀ u : Fin 128, u ≠ v → t.evt.table[u] = s.evt.table[u]) ∧ t.top.scratch = s.top.scratch ∧ t.ftl = s.ftl := by
  refine ⟨settle s t, ?_, settle_setVector h⟩
  rw [exec_bar4_write hc, writeAccess_word ho, ht]

/-! ### Writes of single registers (R13) -/

theorem writeWord_top {off : Nat} (h : off < 0x1000) (w : Word) (s : State) : writeWord off w s = writeTop off w s := if_pos h

theorem writeWord_evt {off : Nat} (h : off < 0x1000) (w : Word) (s : State) : writeWord (0x1000 + off) w s = writeEvt off w s := by
  rw [writeWord, if_neg (by omega), if_pos (by omega), Nat.add_sub_cancel_left]

theorem writeWord_dma (ch : Chan) {off : Nat} (h : off < 0x100) (w : Word) (s : State) :
    writeWord (0x8000 + 0x100 * ch.val + off) w s = writeDma ch off w s := by
  have hch := ch.isLt
  rw [writeWord, if_neg (by omega), if_neg (by omega), if_neg (by omega), if_neg (by omega), if_neg (by omega), if_neg (by omega),
    if_neg (by omega), if_neg (by omega), if_pos (by omega), instanceAt_mul 0x8000 ch h]

/-- Offsets where a write takes no effect: TOP's read-only words, the TPT window below its mail words, the DMA block beyond its channels,
the gap before SUP, and beyond NZH (R9, R13, R15). -/
def unwritable (off : Nat) : Prop :=
  off < 0x14 ∨ (0x7000 ≤ off ∧ off < 0x73C0) ∨ (0x9400 ≤ off ∧ off < 0xA000) ∨ (0xD000 ≤ off ∧ off < 0xE000) ∨ 0x30000 ≤ off

theorem writeWord_unwritable {off : Nat} (h : unwritable off) (w : Word) (s : State) : writeWord off w s = s := by
  rcases h with top | tpt | dma | gap | beyond
  · rw [writeWord_top (by omega), writeTop, if_neg (by omega), if_neg (by omega)]
  · have none : entryAt off 0x73C0 4 8 = none := entryAt_of_lt (by omega)
    simp (disch := omega) only [writeWord, if_neg, if_pos, none]
  · have none : instanceAt off 0x8000 0x100 20 = none := instanceAt_of_end_le (by decide) (by omega)
    simp (disch := omega) only [writeWord, if_neg, if_pos, none]
  · simp (disch := omega) only [writeWord, if_neg, if_pos]
  · have none : instanceAt off 0x28000 0x800 16 = none := instanceAt_of_end_le (by decide) (by omega)
    simp (disch := omega) only [writeWord, if_neg, none]

/-- PEND is cleared by ones, word by word (R478). -/
theorem writeWord_evtPend (g : Fin 4) (w : Word) (s : State) :
    writeWord (0x1010 + 4 * g.val) w s =
      { s with evt := { s.evt with pend := s.evt.pend &&& ~~~(w.setWidth 128 <<< (32 * g.val)) } } := by
  have found : entryAt (0x10 + 4 * g.val) 0x10 4 4 = some g := entryAt_mul 0x10 g (by decide)
  rw [show 0x1010 + 4 * g.val = 0x1000 + (0x10 + 4 * g.val) by omega, writeWord_evt (by omega), writeEvt, if_neg (by omega),
    if_neg (by omega), if_neg (by omega), found]

/-- EVT.CTL without CNT_CLR: TEST raises its source where it is written 1 (R478). -/
theorem writeWord_evtCtl {w : Word} (h : w.getLsbD 1 = false) (s : State) :
    writeWord 0x1000 w s = if w.getLsbD 0 then raise Src.evtTest s else s :=
  onBit_of_clear h

theorem writeWord_scratch (w : Word) (s : State) : writeWord 0x18 w s = { s with top := { s.top with scratch := w } } := rfl

theorem writeWord_pwrErr (w : Word) (s : State) : writeWord 0x2008 w s = { s with pwr := { s.pwr with err := s.pwr.err &&& ~~~w } } := rfl

theorem writeWord_thmErr (w : Word) (s : State) : writeWord 0x3008 w s = { s with thm := { s.thm with err := s.thm.err &&& ~~~w } } := rfl

theorem writeWord_dmaErr (ch : Chan) (w : Word) (s : State) :
    writeWord (0x8034 + 0x100 * ch.val) w s = setDma ch { s.dma[ch] with err := s.dma[ch].err &&& ~~~w } s := by
  rw [show 0x8034 + 0x100 * ch.val = 0x8000 + 0x100 * ch.val + 0x34 by omega, writeWord_dma ch (by decide)]
  rfl

/-! Registers whose fields are all RWG. -/

theorem writeWord_pwrCfg (w : Word) (s : State) : writeWord 0x200C w s = guarded (writePwrCfg w) s := rfl

theorem writeWord_modelCfg (w : Word) (s : State) : writeWord 0x3018 w s = guarded (writeModelCfg w) s := rfl

theorem writeWord_calCfg (w : Word) (s : State) :
    writeWord 0x400C w s = guarded (modCal fun k => { k with cfg := newCalCfg k.cfg w }) s := rfl

theorem writeWord_auxUnits (w : Word) (s : State) : writeWord 0xA020 w s = guarded (writeAuxUnits w) s := rfl

/-! Registers of a channel that are locked while it is enabled. -/

theorem writeWord_ringLo (ch : Chan) (w : Word) (s : State) :
    writeWord (0x8008 + 0x100 * ch.val) w s =
      unlessLocked s.dma[ch].enable (modDma ch fun d => { d with ringLo := w &&& 0xFFFFFFE0 }) s := by
  rw [show 0x8008 + 0x100 * ch.val = 0x8000 + 0x100 * ch.val + 8 by omega, writeWord_dma ch (by decide)]
  rfl

theorem writeWord_ringHi (ch : Chan) (w : Word) (s : State) :
    writeWord (0x800C + 0x100 * ch.val) w s = unlessLocked s.dma[ch].enable (modDma ch fun d => { d with ringHi := w }) s := by
  rw [show 0x800C + 0x100 * ch.val = 0x8000 + 0x100 * ch.val + 0xC by omega, writeWord_dma ch (by decide)]
  rfl

theorem writeWord_dmaCtl (ch : Chan) (w : Word) (s : State) : writeWord (0x8000 + 0x100 * ch.val) w s = writeDmaCtl ch w s :=
  writeWord_dma ch (off := 0) (by decide) w s

/-- CTL of an enabled channel, none of its command bits written 1: its other fields are locked, and the write is counted once. -/
theorem writeDmaCtl_of_enabled {ch : Chan} {w : Word} {s : State} (he : s.dma[ch].enable = true) (hw : w &&& 0x1F = 0) :
    writeDmaCtl ch w s = countIgnored s := by
  have clear (i : Nat) (hi : (0x1F : Word).getLsbD i = true) : w.getLsbD i = false := by
    have masked := congrArg (BitVec.getLsbD · i) hw
    simp only [BitVec.getLsbD_and, hi, Bool.and_true] at masked
    exact masked.trans BitVec.getLsbD_zero
  simp only [writeDmaCtl]
  rw [onBit_of_clear (clear 4 rfl), onBit_of_clear (clear 3 rfl), onBit_of_clear (clear 0 rfl), onBit_of_clear (clear 1 rfl), clear 2 rfl,
    he]
  rfl

/-! ### The transport port's SCRATCH (R327) -/

theorem writePort_scratch {s : State} (h : notReady s.top.state = false) (w : Half) :
    writePort 7 w s = { s with tpt := { s.tpt with scratch := w } } := by
  simp [writePort, h, entryAt_of_lt (off := 7) (base := 0xF8) (step := 1) (n := 8) (by decide), modTpt]

/-! ### O8 -/

/-- A write of SCRATCH takes the word and changes nothing else that settling leaves alone. -/
theorem exec_scratch {s : State} (hc : s.link.cfgReady = true) (v : Word) :
    ∃ t, exec (.registerWrite .bar0 0x18 (v.setWidth 64) 0x0F) s = .next t ∧ t.top.scratch = v ∧ t.top.ignored = s.top.ignored ∧
      t.dma.map Dma.unasked = s.dma.map Dma.unasked ∧ t.ftl = s.ftl ∧ t.enc = s.enc ∧ t.otp = s.otp ∧
      t.thm.unwindowed = s.thm.unwindowed ∧ t.cap.unfaulted = s.cap.unfaulted ∧ t.pond.mem = s.pond.mem := by
  refine ⟨settle s (writeWord 0x18 v (touchLink s)), exec_bar0_word hc rfl v, ?_⟩
  have mem := (settle_held s (writeWord 0x18 v (touchLink s))).2
  obtain ⟨-, -, enc, ftl, -, thm, cap, otp, -, -, -, -, ignored, scratch, -, -, dma⟩ := settle_settled s (writeWord 0x18 v (touchLink s))
  rw [writeWord_scratch] at *
  exact ⟨scratch, ignored, dma, ftl, enc, otp, thm, cap, mem⟩

/-- Settles O8: a host or port write reaches its window, and each clause says what the word that it writes there does. -/
theorem registerWrites : Obligations.RegisterWrites := by
  unfold Obligations.RegisterWrites
  refine ⟨fun off val be s hc => ⟨exec_bar0_write hc off val be, ?_, ?_, ?_, ?_⟩, fun v s hc => exec_scratch hc v,
    fun val s => ⟨fun hc => ⟨fun ch => ⟨?_, ?_⟩, ?_, ?_, ?_, ?_, ?_, ?_, ?_, ?_⟩,
      fun hr off be => ⟨exec_tp_write hr off val be, fun hn => ?_⟩⟩,
    fun w s hc => ?_⟩
  -- BAR0: which words an access writes
  · rintro h rfl; rw [exec_bar0_write hc, writeAccess_word h]
  · rintro h rfl; rw [exec_bar0_write hc, writeAccess_twoWords h]
  · intro h hl hh; rw [exec_bar0_write hc, writeAccess_partial h hl hh]
  · rintro h rfl; rw [exec_bar0_write hc, writeAccess_unaligned h]
  -- BAR2: what rings a doorbell, and what is discarded
  · rw [exec_bar2_write hc, exec_doorbell hc, writeBell_low ch rfl]; rfl
  · rw [exec_bar2_write hc, exec_doorbell hc, writeBell_low ch rfl]; rfl
  · intro ch be hch hbe; rw [exec_bar2_write hc, exec_doorbell hc, writeBell_next hch hbe]
  · intro off be hoff hbe; rw [exec_bar2_write hc, writeBell_lowPartial hoff hbe]
  · intro off be hoff hbe; rw [exec_bar2_write hc, writeBell_highPartial hoff hbe]
  · intro off be hoff; rw [exec_bar2_write hc, writeBell_beyond hoff]
  -- BAR4: the four words of a vector
  · intro v
    obtain ⟨t, ht, entry, rest⟩ := exec_bar4_word hc (by omega) (writeTable_addrLo v (val.setWidth 32) (touchLink s)) (Steady.refl _)
    exact ⟨t, ht, by rw [entry], rest⟩
  · intro v
    obtain ⟨t, ht, entry, rest⟩ := exec_bar4_word hc (by omega) (writeTable_addrHi v (val.setWidth 32) (touchLink s)) (Steady.refl _)
    exact ⟨t, ht, by rw [entry], rest⟩
  · intro v
    obtain ⟨t, ht, entry, rest⟩ := exec_bar4_word hc (by omega) (writeTable_data v (val.setWidth 32) (touchLink s)) (Steady.refl _)
    exact ⟨t, ht, by rw [entry], rest⟩
  · intro v
    obtain ⟨t, ht, entry, rest⟩ :=
      exec_bar4_word hc (by omega) (writeTable_mask v (val.setWidth 32) (touchLink s)) (sendPending_steady v _)
    exact ⟨t, ht, by simp [entry], rest⟩
  -- the transport port
  · rw [exec_tp_write hr, writePort_scratch hn]
  -- the access types
  · intro u wr
    have word {off : Nat} (h : off % 4 = 0) : wr off = .next (settle s (writeWord off w u)) := exec_bar0_word hc h w
    refine ⟨fun g => ?_, ?_, ?_, fun ch => ?_, fun h => ?_, fun off h => ?_, fun hd => ⟨?_, ?_, ?_, ?_, rfl⟩, fun hd => ⟨?_, ?_⟩,
      fun ch => ⟨fun he => ⟨?_, ?_⟩, fun he => ⟨?_, ?_, fun hw => ?_⟩⟩⟩
    -- W1C and W1S
    · rw [word (by omega), writeWord_evtPend]; rfl
    · rw [word rfl, writeWord_pwrErr]; rfl
    · rw [word rfl, writeWord_thmErr]; rfl
    · rw [word (by omega), writeWord_dmaErr]; rfl
    · rw [word rfl, writeWord_evtCtl h]
    -- RO, and no block
    · by_cases h4 : off % 4 = 0
      · rw [word h4, writeWord_unwritable h]
      · show exec _ s = _
        rw [exec_bar0_write hc, writeAccess_unaligned h4]
    -- RWG
    · rw [word rfl, writeWord_pwrCfg, guarded_of_busy (s := u) hd]
    · rw [word rfl, writeWord_modelCfg, guarded_of_busy (s := u) hd]
    · rw [word rfl, writeWord_calCfg, guarded_of_busy (s := u) hd]
    · rw [word rfl, writeWord_auxUnits, guarded_of_busy (s := u) hd]
    · rw [word rfl, writeWord_modelCfg, guarded_of_free (s := u) hd]; rfl
    · rw [word rfl, writeWord_calCfg, guarded_of_free (s := u) hd]; rfl
    -- RWL
    · rw [word (by omega), writeWord_ringLo, unlessLocked_of_open (l := u.dma[ch].enable) he]; rfl
    · rw [word (by omega), writeWord_ringHi, unlessLocked_of_open (l := u.dma[ch].enable) he]; rfl
    · rw [word (by omega), writeWord_ringLo, unlessLocked_of_locked (l := u.dma[ch].enable) he]
    · rw [word (by omega), writeWord_ringHi, unlessLocked_of_locked (l := u.dma[ch].enable) he]
    · rw [word (by omega), writeWord_dmaCtl, writeDmaCtl_of_enabled (s := u) he hw]

end Sys2Proof.Machine

/-! ## Losing channels, and D3hot (O12) -/

namespace Sys2Proof.Machine

/-! ### What keeps the states of the channels

Losing a channel (R112) marks and ends documents, which moves the framing of other channels and nothing of their states. `StatesKept`
carries that, with the two fields that D3hot reads, through the operations that a kill is made of. -/

/-- Both states agree in the state of every channel, in D3hot and in PWR.CFG. -/
structure StatesKept (a b : State) : Prop where
  states : a.dma.map Dma.state = b.dma.map Dma.state
  d3hot : a.link.d3hot = b.link.d3hot
  cfg : a.pwr.cfg = b.pwr.cfg

theorem StatesKept.refl (s : State) : StatesKept s s := ⟨rfl, rfl, rfl⟩

theorem StatesKept.trans {a b c : State} (h1 : StatesKept a b) (h2 : StatesKept b c) : StatesKept a c :=
  ⟨h1.states.trans h2.states, h1.d3hot.trans h2.d3hot, h1.cfg.trans h2.cfg⟩

theorem StatesKept.of_steady {a b : State} (h : Steady a b) : StatesKept a b := by
  obtain ⟨-, -, dma, -, -, -, -, -, -, -, d3hot, -, cfg, -⟩ := h
  exact ⟨by rw [dma], d3hot, cfg⟩

/-- The state of a single channel is kept. -/
theorem StatesKept.state {a b : State} (h : StatesKept a b) (ch : Chan) : a.dma[ch].state = b.dma[ch].state := by
  have := congrArg (·[ch]) h.states
  simpa using this

theorem foldl_statesKept {α : Type} (g : State → α → State) (l : List α) (s : State) (h : ∀ s a, StatesKept (g s a) s) :
    StatesKept (l.foldl g s) s := by
  induction l generalizing s with
  | nil => exact .refl s
  | cons a l ih => exact (ih (g s a)).trans (h s a)

theorem setDma_statesKept {ch : Chan} {d : Dma} {s : State} (h : d.state = s.dma[ch].state) : StatesKept (setDma ch d s) s := by
  refine ⟨?_, rfl, rfl⟩
  apply Vector.ext
  intro i hi
  simp only [setDma, Vector.getElem_map, Vector.getElem_set]
  split
  · next e => subst e; exact h
  · rfl

theorem StatesKept.setDma {a b : State} (h : StatesKept a b) {ch : Chan} {d e : Dma} (hs : d.state = e.state) :
    StatesKept (setDma ch d a) (setDma ch e b) :=
  ⟨by simp [Vector.map_set, h.states, hs], h.d3hot, h.cfg⟩

theorem sweepBarred_statesKept (s : State) : StatesKept (sweepBarred s) s :=
  foldl_statesKept _ _ _ fun s d => .of_steady (docDone_steady d.id s)

theorem noteLeft_statesKept (p : Port) (id : Word) (s : State) : StatesKept (noteLeft p id s) s :=
  (sweepBarred_statesKept _).trans (.of_steady (modDoc_steady _ _ s))

theorem frameIdle_statesKept (p : Port) (s : State) : StatesKept (frameIdle p s) s := by
  unfold frameIdle
  dsimp only
  split
  · exact (noteLeft_statesKept _ _ _).trans (setDma_statesKept rfl)
  · exact setDma_statesKept rfl

theorem frameToDiscard_statesKept (id : Word) (s : State) (p : Port) : StatesKept (frameToDiscard id s p) s := by
  unfold frameToDiscard
  dsimp only
  split
  · split
    · exact (frameIdle_statesKept _ _).trans (setDma_statesKept rfl)
    · exact setDma_statesKept rfl
  · exact .refl s

theorem discardHolders_statesKept (id : Word) (s : State) : StatesKept (discardHolders id s) s := by
  unfold discardHolders
  exact foldl_statesKept _ _ _ fun s p => frameToDiscard_statesKept id s p

theorem barDoc_statesKept (id : Word) (s : State) : StatesKept (barDoc id s) s := by
  unfold barDoc
  exact (discardHolders_statesKept _ _).trans ((StatesKept.of_steady (releaseDoc_steady _ _)).trans (.of_steady (modDoc_steady _ _ s)))

theorem withdrawDoc_statesKept (id : Word) (s : State) : StatesKept (withdrawDoc id s) s := by
  unfold withdrawDoc
  exact (StatesKept.of_steady (docDone_steady _ _)).trans (discardHolders_statesKept id s)

theorem channelLost_statesKept (p : Port) (reason : Nat) (s : State) : StatesKept (channelLost p reason s) s := by
  unfold channelLost
  refine foldl_statesKept _ _ _ fun s d => ?_
  have marked := fun line => StatesKept.of_steady (markDoc_steady d.id reason p.val line s)
  dsimp only
  split
  · exact (barDoc_statesKept _ _).trans (marked _)
  · split
    · exact marked _
    · exact (withdrawDoc_statesKept _ _).trans (marked _)

theorem modAux_statesKept (i : Fin 2) (f : List (Nat × Nat) → List (Nat × Nat)) (s : State) : StatesKept (modAux i f s) s :=
  ⟨rfl, rfl, rfl⟩

theorem releaseUnit_statesKept (abort : Bool) (s : State) : StatesKept (releaseUnit abort s) s := by
  unfold releaseUnit
  split
  · cases abort
    · exact .of_steady (modUnit_steady _ _ s)
    · exact (StatesKept.of_steady (modUnit_steady _ _ _)).trans (.of_steady (modUnit_steady _ _ s))
  · exact .refl s

theorem failSession_statesKept (s : State) : StatesKept (failSession s) s := by
  unfold failSession dropAux
  exact (modAux_statesKept _ _ _).trans ((StatesKept.of_steady (modMgt_steady _ _)).trans ((StatesKept.of_steady (mgtErr_steady _ _)).trans
    ((StatesKept.of_steady (logUpdate_steady _ _)).trans (releaseUnit_statesKept true s))))

theorem auxLost_statesKept (ch : Chan) (s : State) : StatesKept (auxLost ch s) s := by
  unfold auxLost
  split
  · exact .of_steady (modMgt_steady _ s)
  · split
    · exact .of_steady (modMgt_steady _ s)
    · split
      · exact failSession_statesKept s
      · exact .refl s

theorem loseCounts_statesKept (ch : Chan) (s : State) : StatesKept (loseCounts ch s) s := by
  unfold loseCounts
  exact .trans (b := (nextFree s).2) (setDma_statesKept rfl) ⟨rfl, rfl, rfl⟩

theorem dropTransfer_statesKept (ch : Chan) (s : State) : StatesKept (dropTransfer ch s) s := by
  unfold dropTransfer
  split
  · exact modAux_statesKept _ _ s
  · exact .refl s

/-! ### A kill (R108), and what D3hot kills (R81) -/

theorem canKill_of_works {d : Dma} (h : works d = true) : canKill d = true := by simp [canKill, h]

/-- A kill leaves the channel KILLED, and no other channel in another state. -/
theorem killChan_statesKept {ch : Chan} {s : State} (h : canKill s.dma[ch] = true) :
    StatesKept (killChan ch s) (setDma ch { s.dma[ch] with state := .killed } s) := by
  have counts : StatesKept (loseCounts ch (tapCut (tapChan ch) s)) s :=
    (loseCounts_statesKept ch _).trans (.of_steady (tapCut_steady _ s))
  unfold killChan
  rw [if_pos h]
  dsimp only
  split
  · exact (channelLost_statesKept _ _ _).trans (counts.setDma rfl)
  · exact (dropTransfer_statesKept _ _).trans (counts.setDma rfl)

/-- What D3hot does to a channel: it is killed where it works, and every other channel keeps its state. -/
theorem killUnstopped_state (s : State) (ch c : Chan) :
    (killUnstopped s ch).dma[c].state = if c = ch ∧ works s.dma[ch] = true then .killed else s.dma[c].state := by
  unfold killUnstopped
  by_cases h : works s.dma[ch] = true
  · have kept := (auxLost_statesKept ch _).trans (killChan_statesKept (canKill_of_works h))
    rw [if_pos h, kept.state c]
    by_cases hc : c = ch
    · subst hc; simp_all
    · have : ch.val ≠ c.val := fun e => hc (Fin.ext e.symm)
      simp [hc, this]
  · rw [if_neg h, if_neg fun ⟨_, w⟩ => h w]

theorem foldl_killUnstopped_keeps_killed (l : List Chan) {s : State} {c : Chan} (h : s.dma[c].state = .killed) :
    (l.foldl killUnstopped s).dma[c].state = .killed := by
  induction l generalizing s with
  | nil => exact h
  | cons a l ih => exact ih (by rw [killUnstopped_state, h, ite_self])

/-- Over a list of channels, each of them that works is killed. -/
theorem foldl_killUnstopped_kills {l : List Chan} {s : State} {c : Chan} (hc : c ∈ l) (h : works s.dma[c] = true) :
    (l.foldl killUnstopped s).dma[c].state = .killed := by
  induction l generalizing s with
  | nil => cases hc
  | cons a l ih =>
    by_cases e : c = a
    · subst e
      exact foldl_killUnstopped_keeps_killed l ((killUnstopped_state s c c).trans (if_pos ⟨rfl, h⟩))
    · have kept : (killUnstopped s a).dma[c].state = s.dma[c].state := (killUnstopped_state s a c).trans (if_neg fun k => e k.1)
      exact ih ((List.mem_cons.1 hc).resolve_left e) (by rw [← h]; simp only [works, kept])

theorem killUnstopped_d3hot_cfg (s : State) (ch : Chan) :
    (killUnstopped s ch).link.d3hot = s.link.d3hot ∧ (killUnstopped s ch).pwr.cfg = s.pwr.cfg := by
  unfold killUnstopped
  split
  · next h =>
    have kept := (auxLost_statesKept ch _).trans (killChan_statesKept (canKill_of_works h))
    exact ⟨kept.d3hot, kept.cfg⟩
  · exact ⟨rfl, rfl⟩

theorem foldl_killUnstopped_d3hot_cfg (l : List Chan) (s : State) :
    (l.foldl killUnstopped s).link.d3hot = s.link.d3hot ∧ (l.foldl killUnstopped s).pwr.cfg = s.pwr.cfg :=
  ⟨foldl_keep (·.link.d3hot) _ (fun s ch => (killUnstopped_d3hot_cfg s ch).1) l s,
    foldl_keep (·.pwr.cfg) _ (fun s ch => (killUnstopped_d3hot_cfg s ch).2) l s⟩

/-- Without D3_SLEEP, D3hot is entered and the channels that work are killed (R81). -/
theorem enterD3hot_of_noSleep {s : State} (h : s.pwr.cfg.getLsbD 0 = false) :
    (enterD3hot s).link.d3hot = true ∧ ∀ c : Chan, works s.dma[c] = true → (enterD3hot s).dma[c].state = .killed := by
  obtain ⟨u, hu⟩ : ∃ u, u = (List.finRange 20).foldl killUnstopped (modLink (fun l => { l with d3hot := true }) s) := ⟨_, rfl⟩
  obtain ⟨d3hot, cfg⟩ : u.link.d3hot = true ∧ u.pwr.cfg = s.pwr.cfg := hu ▸ foldl_killUnstopped_d3hot_cfg _ _
  have awake : enterD3hot s = u := by
    have noSleep : d3Sleep u = false := by rw [d3Sleep, cfg, h]
    simp only [enterD3hot, ← hu, noSleep, Bool.false_and, Bool.false_eq_true, if_false]
  rw [awake]
  exact ⟨d3hot, fun c hw => hu ▸ foldl_killUnstopped_kills (List.mem_finRange c) hw⟩

end Sys2Proof.Machine

/-! ## Register reads, captures and the link (O12) -/

namespace Sys2Proof.Machine

/-! ### Register reads (R8, R9, R13) -/

theorem toLe_length (n v : Nat) : (toLe n v).length = n := by
  induction n generalizing v with
  | zero => rfl
  | succ n ih => simp [toLe, ih]

theorem toLe_zero (n : Nat) : toLe n 0 = List.replicate n 0 := by
  induction n with
  | zero => rfl
  | succ n ih => simp [toLe, ih, List.replicate_succ]

/-- The offsets that no block decodes: the gap before SUP, and beyond NZH (R13). -/
theorem readWord_undecoded {off : Nat} (h : (0xD000 ≤ off ∧ off < 0xE000) ∨ 0x30000 ≤ off) (s : State) : readWord off s = 0 := by
  by_cases h4 : off % 4 ≠ 0
  · simp only [readWord, readReg, if_pos h4, Option.getD_none]
  · rcases h with gap | beyond
    · simp (disch := omega) only [readWord, readReg, if_neg, if_pos, Option.getD_none]
    · have none : instanceAt off 0x28000 0x800 16 = none := instanceAt_of_end_le (by decide) (by omega)
      simp (disch := omega) only [readWord, readReg, if_neg, none, Option.getD_none]

/-- A channel's register. -/
theorem readWord_dma (ch : Chan) {off : Nat} (h4 : off % 4 = 0) (h : off < 0x100) (s : State) :
    readWord (0x8000 + 0x100 * ch.val + off) s = (readDma ch off s).getD 0 := by
  have hch := ch.isLt
  simp (disch := omega) only [readWord, readReg, if_neg, if_pos, instanceAt_mul 0x8000 ch h]

/-- The TPT window shows the transport-port register of each word in bits 15:0 (R15). -/
theorem readWord_tpt (a : Fin 256) (s : State) : readWord (0x7000 + 4 * a.val) s = (readPort a.val s).setWidth 32 := by
  have ha := a.isLt
  have ix : (0x7000 + 4 * a.val - 0x7000) / 4 = a.val := by omega
  simp (disch := omega) only [readWord, readReg, if_neg, if_pos, ix, Option.getD_some]

/-! Accesses as reads of words. -/

/-- A read that lies in one word gives that word's bytes. -/
theorem readAccess_inWord {off k n : Nat} (h4 : off % 4 = 0) (hn : 0 < n) (hk : k + n ≤ 4) (s : State) :
    readAccess .bar0 (off + k) n s = (((toLe 4 (readWord off s).toNat).drop k).take n, afterRead off s) := by
  have base : (off + k) / 4 * 4 = off := by omega
  have skew : (off + k) % 4 = k := by omega
  have words : (k + n + 3) / 4 = 1 := by omega
  simp only [readAccess, base, skew, words, readWords, List.append_nil, if_true, busWord]

/-- An aligned 64-bit read gives two words, the lower first, the second as the first read leaves it. -/
theorem readAccess_twoWords {off : Nat} (h4 : off % 4 = 0) (s : State) :
    readAccess .bar0 off 8 s =
      (toLe 4 (readWord off s).toNat ++ toLe 4 (readWord (off + 4) (afterRead off s)).toNat, afterRead (off + 4) (afterRead off s)) := by
  have base : off / 4 * 4 = off := by omega
  simp only [readAccess, base, h4, readWords, List.append_nil, if_true, busWord, List.drop_zero]
  rw [List.take_of_length_le (by simp [toLe_length])]

theorem readWords_bar2 (n base : Nat) (s : State) : readWords .bar2 base n s = (List.replicate (4 * n) 0, s) := by
  induction n generalizing base with
  | zero => rfl
  | succ n ih =>
    have zero : toLe 4 (0 : Word).toNat = List.replicate 4 0 := toLe_zero 4
    simp only [readWords, ih, busWord, reduceCtorEq, if_false]
    rw [zero, List.replicate_append_replicate, Nat.mul_succ, Nat.add_comm]

/-- The doorbells read 0 (R88). -/
theorem readAccess_bar2 (off n : Nat) (s : State) : readAccess .bar2 off n s = (List.replicate n 0, s) := by
  have enough : n ≤ 4 * ((off % 4 + n + 3) / 4) - off % 4 := by omega
  simp only [readAccess, readWords_bar2, List.drop_replicate, List.take_replicate, min_eq_left enough]

/-- Once it is open, the transport port gives the register's 16 bits (R10, R326). -/
theorem readAccess_tp {s : State} (h : portOpen s = true) (a n : Nat) : (readAccess .tp a n s).1 = toLe 2 (readPort a s).toNat := by
  have fits : ((readPort a s).setWidth 32).toNat = (readPort a s).toNat := BitVec.toNat_setWidth_of_le (by decide)
  simp only [readAccess, busWord, readPins, h, if_true, fits]

/-- After the first READY, a register that R327 does not keep open shows in SLEEP what it held at the entry, except the port's own. -/
theorem readPort_of_ready {a : Nat} {s : State} (hr : s.pwr.readySeen = true) (ha : tpAlways a s = none) :
    readPort a s = if s.top.state = .sleep ∧ tpOwn a = false then s.tpt.sleepRegs.getD a 0 else (tpOther a s).getD 0 := by
  simp [readPort, hr, ha]

/-! ### Captures (R194, R323) -/

theorem captureRead_touchLink_cap (r : LoReg) (s : State) : (captureRead r (touchLink s)).cap = (captureRead r s).cap := by
  cases r <;> rfl

theorem captureRead_ftl (r : LoReg) (s : State) : (captureRead r s).ftl = s.ftl := by
  cases r <;> rfl

/-- The read of a BAR0 `_LO` register: its capture, and no loop changes. -/
theorem exec_captureReadLo_host {s : State} {r : LoReg} (hc : s.link.cfgReady = true) (h : portCapture r = false) :
    ∃ t, exec (.captureReadLo r) s = .next t ∧ t.cap.unfaulted = (captureRead r s).cap.unfaulted ∧ t.ftl = s.ftl := by
  obtain ⟨-, -, -, ftl, -, -, cap, -⟩ := settle_settled s (captureRead r (touchLink s))
  refine ⟨settle s (captureRead r (touchLink s)), ?_, ?_, ftl.trans (captureRead_ftl r _)⟩
  · show after s _ = _
    rw [h, if_neg Bool.false_ne_true, onHost_of_ready hc]
    rfl
  · rw [cap, captureRead_touchLink_cap]

/-- The read of a transport-port `_LO` register: its capture. -/
theorem exec_captureReadLo_port {s : State} {r : LoReg} (hr : s.pwr.released = true) (h : portCapture r = true) :
    exec (.captureReadLo r) s = .next (settle s (captureRead r s)) := by
  show after s _ = _
  rw [if_pos h, live_of_released hr]
  rfl

/-! ### The link (R77, R80, R81, R116, R474) -/

theorem setBit_getLsbD_self {n i : Nat} (w : BitVec n) (h : i < n) : (setBit w i).getLsbD i = true := by
  simp [setBit, h]

theorem sendPending_link (v : Fin 128) (s : State) : (sendPending v s).link = s.link := by
  unfold sendPending
  split <;> rfl

theorem sendAllPending_link (s : State) : (sendAllPending s).link = s.link := by
  unfold sendAllPending
  exact foldl_keep State.link _ (fun s v => sendPending_link v s) _ s

/-- A write of the command word sets Bus Master (log 5). -/
theorem cfgWrite_busMaster (v : Word) (s : State) : (cfgWrite 4 v s).link.busMaster = v.getLsbD 2 := by
  rw [cfgWrite, if_pos rfl, sendAllPending_link]
  rfl

/-- Before configuration readiness every request is answered with Configuration Request Retry Status (R77). -/
theorem answerConfig_early {s : State} (h : s.link.cfgReady = false) (write : Bool) (off : Nat) (v : Word) :
    answerConfig write off v s = reply [1] (touchLink s) := by
  simp [answerConfig, h]

theorem answerConfig_read {s : State} (h : s.link.cfgReady = true) (off : Nat) (v : Word) :
    answerConfig false off v s = reply (0 :: toLe 4 (cfgWord off (touchLink s)).toNat) (touchLink s) := by
  simp [answerConfig, h]

theorem answerConfig_write {s : State} (h : s.link.cfgReady = true) (off : Nat) (v : Word) :
    answerConfig true off v s = reply [0] (cfgWrite off v (touchLink s)) := by
  simp [answerConfig, h]

/-- With nothing in progress and nothing pending, L1 is entered 64 µs after the last traffic (R80). -/
theorem enterL1_of_idle {s : State} (hd : docInProgress s = false) (hw : workPending s = false) :
    enterL1 s = { s with now := max s.now (s.link.traffic + 512000), link := { s.link with l1 := true } } := by
  rw [enterL1, hd, hw]
  rfl

/-- Without D3_SLEEP the return to D0 wakes nothing (R81). -/
theorem returnD0_of_noSleep {s : State} (h : s.pwr.cfg.getLsbD 0 = false) : returnD0 s = modLink (fun l => { l with d3hot := false }) s := by
  have awake : d3Sleep (modLink (fun l => { l with d3hot := false }) s) = false := h
  simp only [returnD0, awake, Bool.false_eq_true, if_false]

/-- Another speed, width or activity of the data link is reported (R116). -/
theorem linkChanges_report {s : State} {speed width : BitVec 4} {dl : Bool}
    (h : speed ≠ s.link.speed ∨ width ≠ s.link.width ∨ dl ≠ s.link.dlActive) (rev : Bool) :
    linkChanges speed width dl rev s =
      raise Src.linkChange { s with link := { s.link with speed := speed, width := width, dlActive := dl, reversed := rev } } :=
  if_pos (by simpa [or_assoc] using h)

/-- Lane reversal alone is taken over silently. -/
theorem linkChanges_silent {s : State} {speed width : BitVec 4} {dl : Bool} (hs : speed = s.link.speed) (hw : width = s.link.width)
    (hd : dl = s.link.dlActive) (rev : Bool) : linkChanges speed width dl rev s = { s with link := { s.link with reversed := rev } } := by
  subst hs hw hd
  exact if_neg (by simp)

theorem escalate_link (c : Fin 32) (s : State) : (escalate c s).link = s.link := by
  unfold escalate
  split
  · rfl
  · split <;> rfl

theorem countClass_link (c : Fin 32) (s : State) : (countClass c s).link = s.link := by
  unfold countClass
  simp only [ite_link, escalate_link, raise, ite_self]

/-- A correctable error sets its bit of the AER status (R474). -/
theorem reportCorrectable_status {bit : Nat} (h : bit < 32) (s : State) : (reportCorrectable bit s).link.aer.corStatus.getLsbD bit = true := by
  rw [reportCorrectable, countClass_link]
  exact setBit_getLsbD_self _ h

theorem exec_d3hotEntry {s : State} (hc : s.link.cfgReady = true) :
    exec .d3hotEntry s = .next (settle s (enterD3hot (touchLink s))) :=
  congrArg (after s) (onHost_of_ready hc)

theorem exec_d0Return {s : State} (hc : s.link.cfgReady = true) : exec .d0Return s = .next (settle s (returnD0 (touchLink s))) :=
  congrArg (after s) (onHost_of_ready hc)

/-- Channels that agree apart from their read requests are in the same state. -/
theorem state_of_unasked {a b : Vector Dma 20} (h : a.map Dma.unasked = b.map Dma.unasked) (ch : Chan) : a[ch].state = b[ch].state := by
  have same := congrArg (fun v => v[ch].state) h
  simp only [Fin.getElem_fin, Vector.getElem_map] at same
  exact same

/-! ### O12 -/

/-- Settles O12: captures by `exec_captureReadLo_host` and `exec_captureReadLo_port`, reads by the words they reach, and each command of the
link by what it does in the state that the clause names. -/
theorem linkAndCaptures : Obligations.LinkAndCaptures := by
  unfold Obligations.LinkAndCaptures
  refine ⟨fun s => ⟨fun hc => ⟨fun x => ?_, fun x => ?_, fun x => ?_, fun x => ?_, fun n => ?_, ?_, ?_⟩, fun hr => ?_⟩, fun s => ?_, fun s => ?_⟩
  -- captures of the host's registers
  · obtain ⟨t, ht, cap, ftl⟩ := exec_captureReadLo_host (r := .pos x) hc rfl
    have pos : t.cap.pos = (captureRead (.pos x) s).cap.pos := (congrArg Captures.pos cap :)
    exact ⟨t, ht, by rw [pos]; exact Vector.getElem_set_self _, by rw [cap, pos]; rfl, ftl⟩
  · obtain ⟨t, ht, cap, ftl⟩ := exec_captureReadLo_host (r := .hwm x) hc rfl
    have hwm : t.cap.hwm = (captureRead (.hwm x) s).cap.hwm := (congrArg Captures.hwm cap :)
    exact ⟨t, ht, by rw [hwm]; exact Vector.getElem_set_self _, by rw [cap, hwm]; rfl, ftl⟩
  · obtain ⟨t, ht, cap, ftl⟩ := exec_captureReadLo_host (r := .trig0 x) hc rfl
    have trig : t.cap.trig0 = (captureRead (.trig0 x) s).cap.trig0 := (congrArg Captures.trig0 cap :)
    exact ⟨t, ht, by rw [trig]; exact Vector.getElem_set_self _, by rw [cap, trig]; rfl, ftl⟩
  · obtain ⟨t, ht, cap, ftl⟩ := exec_captureReadLo_host (r := .trig1 x) hc rfl
    have trig : t.cap.trig1 = (captureRead (.trig1 x) s).cap.trig1 := (congrArg Captures.trig1 cap :)
    exact ⟨t, ht, by rw [trig]; exact Vector.getElem_set_self _, by rw [cap, trig]; rfl, ftl⟩
  · obtain ⟨t, ht, cap, -⟩ := exec_captureReadLo_host (r := .fires n) hc rfl
    have fires : t.cap.fires = (captureRead (.fires n) s).cap.fires := (congrArg Captures.fires cap :)
    exact ⟨t, ht, by rw [fires]; exact Vector.getElem_set_self _, by rw [cap, fires]; rfl⟩
  · obtain ⟨t, ht, cap, -⟩ := exec_captureReadLo_host (r := .lastTime) hc rfl
    exact ⟨t, ht, cap⟩
  · obtain ⟨t, ht, cap, -⟩ := exec_captureReadLo_host (r := .rtc) hc rfl
    exact ⟨t, ht, cap⟩
  -- captures of the transport port's registers
  · intro cap
    have captured {r : LoReg} {c : Captures} (h : portCapture r = true) (hcap : captureRead r s = { s with cap := c }) : cap r c := by
      show exec _ s = _
      rw [exec_captureReadLo_port hr h, hcap]
    refine ⟨fun r rest hf => ?_, captured rfl rfl, captured rfl rfl, fun d hd => ?_, captured rfl rfl⟩
    · have shown : shownFault s.tpt = r := by rw [shownFault, hf]; rfl
      exact ⟨captured rfl (by rw [captureRead, shown]; rfl), captured rfl (by rw [captureRead, shown]; rfl),
        captured rfl (by rw [captureRead, shown]; rfl)⟩
    · exact captured rfl (by rw [captureRead, hd]; rfl)
  -- register reads
  · refine ⟨fun off h => readWord_undecoded h s, fun off k n h4 hn hk => readAccess_inWord h4 hn hk s,
      fun off h4 => readAccess_twoWords h4 s, fun off n => readAccess_bar2 off n s, rfl, rfl, rfl, rfl, rfl, fun ch => ⟨?_, ?_⟩,
      fun a => readWord_tpt a s, fun a n h => readAccess_tp h a n, fun a hr ha => readPort_of_ready hr ha, rfl, ?_, rfl, ?_⟩
    · rw [show 0x8034 + 0x100 * ch.val = 0x8000 + 0x100 * ch.val + 0x34 by omega, readWord_dma ch (by decide) (by decide)]; rfl
    · rw [show 0x8018 + 0x100 * ch.val = 0x8000 + 0x100 * ch.val + 0x18 by omega, readWord_dma ch (by decide) (by decide)]; rfl
    · exact Vector.getElem_set_self (xs := s.cap.pos) (i := 0) _
    · exact Vector.getElem_set_self (xs := s.cap.pos) (i := 1) _
  -- commands of the link
  · have inDies {f : State → State} {u : State} (hr : s.pwr.released = true) (h : f s = u) : after s (live f s) = .next (settle s u) := by
      rw [live_of_released hr, h]; rfl
    refine ⟨fun w off v hr hc => inDies hr (answerConfig_early hc w off v), fun off v hr hc => inDies hr (answerConfig_read hc off v),
      fun off v hr hc => ⟨?_, cfgWrite_busMaster v s⟩, fun hr hd hw => inDies hr (enterL1_of_idle hd hw), fun hc hs => ?_, fun hc hs => ?_,
      fun sp w dl rev hr => ⟨fun h => inDies hr (linkChanges_report h rev), fun h1 h2 h3 => inDies hr (linkChanges_silent h1 h2 h3 rev)⟩,
      fun b hr => ⟨inDies hr rfl, reportCorrectable_status (by omega) s⟩⟩
    · exact inDies hr (answerConfig_write hc off v)
    · obtain ⟨d3hot, killed⟩ := enterD3hot_of_noSleep (s := touchLink s) hs
      obtain ⟨-, -, -, -, -, -, -, -, -, link, -, -, -, -, -, -, dma⟩ := settle_settled s (enterD3hot (touchLink s))
      refine ⟨_, exec_d3hotEntry hc, link.trans d3hot, fun ch hw => ?_⟩
      exact (state_of_unasked dma ch).trans (killed ch hw)
    · obtain ⟨-, -, -, -, -, -, -, -, -, link, -, -, -, -, -, -, dma⟩ := settle_settled s (returnD0 (touchLink s))
      have awake := returnD0_of_noSleep (s := touchLink s) hs
      exact ⟨_, exec_d0Return hc, link.trans (by rw [awake]; rfl), dma.trans (by rw [awake]; rfl)⟩

end Sys2Proof.Machine

/-! ## What follows a host access, and what happens in the dies -/

namespace Sys2Proof.Machine

theorem after_onHost {f : State → State} {s t : State} (hc : s.link.cfgReady = true) (h : f (touchLink s) = t) :
    after s (onHost f s) = .next (settle s t) :=
  congrArg (after s) ((onHost_of_ready hc).trans h)

theorem after_live {f : State → State} {s t : State} (hr : s.pwr.released = true) (h : f s = t) :
    after s (live f s) = .next (settle s t) :=
  congrArg (after s) ((live_of_released hr).trans h)

end Sys2Proof.Machine

/-! ## The start stages (O55) -/

namespace Sys2Proof.Machine

/-! ### What the shared operations leave of the blocks that a start stage writes -/

theorem pushLog_pwr (type aux : BitVec 8) (l : List Byte) (s : State) : (pushLog type aux l s).pwr = s.pwr := by
  unfold pushLog
  split <;> rfl

theorem pushLog_top (type aux : BitVec 8) (l : List Byte) (s : State) : (pushLog type aux l s).top = s.top := by
  unfold pushLog
  split <;> rfl

/-- The management block apart from its log queue (R444). -/
def Mgt.unqueued (m : Mgt) : Mgt := { m with fifo := [], lost := 0, lostEvent := false }

theorem pushLog_unqueued (type aux : BitVec 8) (l : List Byte) (s : State) : (pushLog type aux l s).mgt.unqueued = s.mgt.unqueued := by
  unfold pushLog
  split <;> rfl

theorem pushLog_err (type aux : BitVec 8) (l : List Byte) (s : State) : (pushLog type aux l s).mgt.err = s.mgt.err :=
  (congrArg Mgt.err (pushLog_unqueued type aux l s) :)

/-- The state is the one that is set. -/
theorem setState_state (st : DevState) (s : State) : (setState st s).top.state = st := by
  unfold setState
  split
  · next h => exact h.symm
  · dsimp only; rw [pushLog_top]; rfl

theorem setState_pwr (st : DevState) (s : State) : (setState st s).pwr = s.pwr := by
  unfold setState
  split
  · rfl
  · exact pushLog_pwr _ _ _ _

theorem setState_unqueued (st : DevState) (s : State) : (setState st s).mgt.unqueued = s.mgt.unqueued := by
  unfold setState
  split
  · rfl
  · exact pushLog_unqueued _ _ _ _

theorem logStart_pwr (stages : BitVec 8) (s : State) : (logStart stages s).pwr = s.pwr := pushLog_pwr _ _ _ _

theorem escalate_mgt (c : Fin 32) (s : State) : (escalate c s).mgt = s.mgt := by
  unfold escalate
  split
  · rfl
  · split <;> rfl

theorem ite_mgt (c : Prop) [Decidable c] (a b : State) : (ite c a b).mgt = ite c a.mgt b.mgt := by split <;> rfl

theorem countClass_mgt (c : Fin 32) (s : State) : (countClass c s).mgt = s.mgt := by
  unfold countClass
  simp only [ite_mgt, escalate_mgt, raise, ite_self]

theorem finishUnit_mgt (i : Fin 8) (s : State) : (finishUnit i s).mgt = s.mgt := by
  unfold finishUnit
  simp only [ite_mgt, raise, modUnit, ite_self]

/-- The scan of a slot by CHK[7] leaves the management block alone (R451). -/
theorem scanSlot_mgt (kolto slotB : Bool) (b : List Byte) (s : State) : (scanSlot kolto slotB b s).mgt = s.mgt := by
  have starts : (startImageScan kolto slotB b s).mgt = s.mgt := by
    unfold startImageScan
    split <;> rfl
  have ends (t : State) : (endImageScan b t).mgt = t.mgt := by
    unfold endImageScan
    dsimp only
    split
    · exact finishUnit_mgt _ _
    · rfl
  exact (ends _).trans starts

theorem releaseUnit_mgt (abort : Bool) (s : State) : (releaseUnit abort s).mgt = s.mgt := by
  unfold releaseUnit
  split
  · cases abort <;> rfl
  · rfl

/-! ### The slots that a stage tries (R451) -/

theorem slotOrder_of_aFirst {kolto : Bool} {a b : List Byte} (h : slotBFirst a b kolto = false) : slotOrder kolto a b = [false, true] := by
  simp [slotOrder, h]

section
variable {kolto : Bool} {a b : List Byte} {ok : List (Nat × Word) → Bool} {s : State} {i : Image}

/-- The first slot is valid: it is scanned, and nothing else happens. -/
theorem trySlots_first (ha : parseImage kolto a ok s.otp = some i) :
    trySlots kolto a b ok [false, true] s = (some (false, i), scanSlot kolto false a s) := by
  simp [trySlots, slotImage, slotBytes, ha]

/-- The second slot is valid, and the first was tried in vain. -/
theorem trySlots_second (ha : parseImage kolto a ok s.otp = none) (hb : parseImage kolto b ok s.otp = some i) :
    trySlots kolto a b ok [false, true] s = (some (true, i), scanSlot kolto true b (slotTried kolto a b s false)) := by
  simp [trySlots, slotImage, slotBytes, ha, hb]

/-- Both slots were tried in vain. -/
theorem trySlots_none (ha : parseImage kolto a ok s.otp = none) (hb : parseImage kolto b ok s.otp = none) :
    trySlots kolto a b ok [false, true] s = (none, slotTried kolto a b (slotTried kolto a b s false) true) := by
  simp [trySlots, slotImage, slotBytes, ha, hb]

end

theorem scanSlot_steady (kolto slotB : Bool) (b : List Byte) (s : State) : Steady (scanSlot kolto slotB b s) s := by
  have starts : Steady (startImageScan kolto slotB b s) s := by
    unfold startImageScan
    split
    · exact modUnit_steady _ _ s
    · exact .refl s
  have ends (t : State) : Steady (endImageScan b t) t := by
    unfold endImageScan
    dsimp only
    split
    · exact (finishUnit_steady _ _).trans (modUnit_steady _ _ t)
    · exact .refl t
  exact (ends _).trans starts

theorem slotFails_steady (kolto : Bool) (b : List Byte) (slotB : Bool) (s : State) : Steady (slotFails kolto b slotB s) s :=
  (countClass_steady _ _).trans ((mgtErr_steady _ _).trans (pushLog_steady _ _ _ s))

theorem slotTried_steady (kolto : Bool) (a b : List Byte) (s : State) (slotB : Bool) : Steady (slotTried kolto a b s slotB) s := by
  unfold slotTried
  dsimp only
  split
  · exact (slotFails_steady _ _ _ _).trans (scanSlot_steady _ _ _ s)
  · exact .refl s

/-- A slot tried in vain sets the flag of its kind, which is not that of the boot header. -/
theorem slotTried_headerFlag (kolto : Bool) (a b : List Byte) (s : State) (slotB : Bool) :
    (slotTried kolto a b s slotB).mgt.err.getLsbD 0 = s.mgt.err.getLsbD 0 := by
  unfold slotTried
  dsimp only
  split
  · unfold slotFails
    rw [countClass_mgt, mgtErr, modMgt_mgt, pushLog_err, scanSlot_mgt]
    cases kolto <;> simp [setBit]
  · rfl

/-! ### A stage that fails, and one that passes (R437, R438) -/

/-- A failed stage leaves the device waiting in RESET_HOLD, with the stage noted and its retry time set; FIRMWARE has none. -/
theorem stageFail_waits (n : Nat) (s : State) :
    (stageFail n s).top.state = .resetHold ∧ (stageFail n s).pwr.failed = BitVec.ofNat 4 n ∧
      (n = 3 → (stageFail n s).pwr.retryAt = none) := by
  refine ⟨setState_state _ _, ?_, fun h => ?_⟩
  · rw [stageFail, setState_pwr, logStart_pwr]; rfl
  · rw [stageFail, setState_pwr, logStart_pwr]; exact if_pos h

theorem stageFail_unqueued (n : Nat) (s : State) : (stageFail n s).mgt.unqueued = s.mgt.unqueued :=
  (setState_unqueued _ _).trans (pushLog_unqueued _ _ _ _)

theorem stageFail_err (n : Nat) (s : State) : (stageFail n s).mgt.err = s.mgt.err :=
  (congrArg Mgt.err (stageFail_unqueued n s) :)

theorem stageFail_recovery (n : Nat) (s : State) : (stageFail n s).mgt.recovery = s.mgt.recovery :=
  (congrArg Mgt.recovery (stageFail_unqueued n s) :)

/-- Stage `k` has failed: its START record is logged, and the device waits in RESET_HOLD for the retry after `wait`. -/
def waitForRetry (k wait : Nat) (u : State) : State :=
  setState .resetHold (logStart (BitVec.ofNat 8 (2 ^ k)) { u with pwr := { u.pwr with
    failed := BitVec.ofNat 4 k, failedSet := setBit u.pwr.failedSet k, retryAt := some (u.now + wait) } })

/-- The first failure of a stage, and every failure of FUSES, is retried after 100 ms. -/
theorem stageFail_first {k : Nat} {s : State} (h3 : k ≠ 3) (h : k = 2 ∨ s.pwr.failedSet.getLsbD k = false) :
    stageFail k s = waitForRetry k 800000000 s := by
  have soon : k = 2 ∨ (!s.pwr.failedSet.getLsbD k) = true := h.imp_right (by simp)
  simp only [stageFail, if_pos soon, if_neg h3, modPwr]
  rfl

/-- A later failure of a stage is retried after 1 s. -/
theorem stageFail_again {k : Nat} {s : State} (h2 : k ≠ 2) (h3 : k ≠ 3) (h : s.pwr.failedSet.getLsbD k = true) :
    stageFail k s = waitForRetry k 8000000000 s := by
  have late : ¬(k = 2 ∨ (!s.pwr.failedSet.getLsbD k) = true) := by simp [h2, h]
  simp only [stageFail, if_neg late, if_neg h3, modPwr]
  rfl

theorem stageOk_stage (k n : Nat) (s : State) : (stageOk k n s).pwr.stage = BitVec.ofNat 4 (k + 1) := rfl

/-! ### CLOCKS and FUSES (R400, R434, R440) -/

theorem clocksDone_ok {s : State} (h : inStage 1 s = true) (n : Nat) :
    clocksDone true n s = stageOk 1 n { s with
      now := s.now + n * 800000, pwr := { s.pwr with xinOk := true, fireLock := true, coreLock := true } } := by
  simp [clocksDone, h, modPwr]

theorem clocksDone_fails {s : State} (h : inStage 1 s = true) (n : Nat) :
    clocksDone false n s = stageFail 1 { s with now := s.now + n * 800000, link := { s.link with cfgReady := true } } := by
  simp [clocksDone, h, configReady]

theorem fusesDone_burning {s : State} {b : Burn} (h : s.otp.burn = some b) (words : List FuseRead) (locks : List LockRead) (n : Nat) :
    fusesDone words locks n s = s := by
  simp [fusesDone, h]

/-- The array is read, and configuration readiness comes with the end of the stage, whether it passes or fails. -/
theorem fusesDone_reads {s : State} (h : inStage 2 s = true) (hb : s.otp.burn = none) (words : List FuseRead) (locks : List LockRead)
    (n : Nat) : fusesDone words locks n s =
      let r := readFuses words locks { s with now := s.now + n * 800000 }
      if r.1 then claimForSlots (stageOk 2 n (loadFactory (configReady r.2))) else stageFail 2 (configReady r.2) := by
  simp [fusesDone, h, hb]

/-! ### FIRMWARE and CONFIG (R437, R445, R451) -/

/-- The state in which FIRMWARE tries the slots: the time has passed, the boot header is judged, and the slots are noted. -/
def firmwareTries (header a b : List Byte) (n : Nat) (s : State) : State :=
  noteSlots false a b rangeOnly (passTenths n (if bootHeaderOk header then s else mgtErr 0 s))

theorem firmwareTries_otp (header a b : List Byte) (n : Nat) (s : State) : (firmwareTries header a b n s).otp = s.otp := by
  simp only [firmwareTries, noteSlots, passTenths, mgtErr, modMgt_otp, ite_otp, ite_self]

theorem noteSlots_err (kolto : Bool) (a b : List Byte) (ok : List (Nat × Word) → Bool) (s : State) :
    (noteSlots kolto a b ok s).mgt.err = s.mgt.err := by
  unfold noteSlots
  generalize parseImage kolto a ok s.otp = ia, parseImage kolto b ok s.otp = ib
  rfl

theorem firmwareTries_err (header a b : List Byte) (n : Nat) (s : State) :
    (firmwareTries header a b n s).mgt.err = if bootHeaderOk header then s.mgt.err else setBit s.mgt.err 0 := by
  rw [firmwareTries, noteSlots_err, passTenths]
  by_cases good : bootHeaderOk header = true
  · rw [if_pos good, if_pos good]
  · rw [if_neg good, if_neg good, mgtErr, modMgt_mgt]

/-- A boot header that fails its check is flagged. -/
theorem firmwareTries_headerFlag (header a b : List Byte) (n : Nat) (s : State) :
    (firmwareTries header a b n s).mgt.err.getLsbD 0 = (s.mgt.err.getLsbD 0 || !bootHeaderOk header) := by
  rw [firmwareTries_err]
  cases bootHeaderOk header <;> simp [setBit]

section
variable {header a b : List Byte} {n : Nat} {s t : State} {x : Bool} {i : Image}

/-- The firmware of a valid slot runs. -/
theorem firmwareDone_valid (h : inStage 3 s = true)
    (tried : trySlots false a b rangeOnly (slotOrder false a b) (firmwareTries header a b n s) = (some (x, i), t)) :
    firmwareDone header a b n s = stageOk 3 n (modMgt (fun m => { m with
      running := true, recovery := false, fwSlot := x, fwVer := i.secVer, healthAt := (firmwareTries header a b n s).now }) t) := by
  unfold firmwareTries at tried ⊢
  simp only [firmwareDone, h, if_true, tried]

/-- Without a valid slot the stage fails, and the recovery path is offered. -/
theorem firmwareDone_recovery (h : inStage 3 s = true)
    (tried : trySlots false a b rangeOnly (slotOrder false a b) (firmwareTries header a b n s) = (none, t)) :
    firmwareDone header a b n s =
      stageFail 3 (releaseUnit true (modMgt (fun m => { m with recovery := true, recImage := [] }) t)) := by
  unfold firmwareTries at tried
  simp only [firmwareDone, h, if_true, tried]

/-- A valid Kolto image is loaded, and head discovery begins. -/
theorem configDone_valid (h : inStage 4 s = true) (tried : trySlots true a b (loadsAccepted s) (slotOrder true a b)
      (releaseUnit false (noteSlots true a b (loadsAccepted s) (passTenths n s))) = (some (x, i), t)) :
    configDone a b n s = startDiscovery (stageOk 4 n (applyImage x i t)) := by
  simp only [configDone, h, if_true, tried]

theorem configDone_none (h : inStage 4 s = true) (tried : trySlots true a b (loadsAccepted s) (slotOrder true a b)
      (releaseUnit false (noteSlots true a b (loadsAccepted s) (passTenths n s))) = (none, t)) :
    configDone a b n s = stageFail 4 t := by
  simp only [configDone, h, if_true, tried]

end

theorem releaseUnit_steady (abort : Bool) (s : State) : Steady (releaseUnit abort s) s := by
  unfold releaseUnit
  split
  · cases abort
    · exact modUnit_steady _ _ s
    · exact (modUnit_steady _ _ _).trans (modUnit_steady _ _ s)
  · exact .refl s

/-- What FIRMWARE leaves: the flag of the boot header, and the firmware of the first valid slot or the recovery path. -/
theorem firmwareStage {header a b : List Byte} {n : Nat} {s : State} (h : inStage 3 s = true) (first : slotBFirst a b false = false) :
    ∃ u, exec (.firmwareStageDone header a b n) s = .next (settle s u) ∧
      u.mgt.err.getLsbD 0 = (s.mgt.err.getLsbD 0 || !bootHeaderOk header) ∧
      match parseImage false a rangeOnly s.otp, parseImage false b rangeOnly s.otp with
      | some i, _ => u.mgt.running = true ∧ u.mgt.recovery = false ∧ u.mgt.fwSlot = false ∧ u.mgt.fwVer = i.secVer ∧ u.pwr.stage = 4
      | none, some i => u.mgt.running = true ∧ u.mgt.recovery = false ∧ u.mgt.fwSlot = true ∧ u.mgt.fwVer = i.secVer ∧ u.pwr.stage = 4
      | none, none => u.mgt.recovery = true ∧ u.top.state = .resetHold ∧ u.pwr.failed = 3 ∧ u.pwr.retryAt = none := by
  have order := slotOrder_of_aFirst first
  have flag := firmwareTries_headerFlag header a b n s
  have otp := firmwareTries_otp header a b n s
  have valid {t x i} (tried : trySlots false a b rangeOnly (slotOrder false a b) (firmwareTries header a b n s) = (some (x, i), t))
      (kept : t.mgt.err.getLsbD 0 = (firmwareTries header a b n s).mgt.err.getLsbD 0) :
      ∃ u, exec (.firmwareStageDone header a b n) s = .next (settle s u) ∧
        u.mgt.err.getLsbD 0 = (s.mgt.err.getLsbD 0 || !bootHeaderOk header) ∧
        u.mgt.running = true ∧ u.mgt.recovery = false ∧ u.mgt.fwSlot = x ∧ u.mgt.fwVer = i.secVer ∧ u.pwr.stage = 4 :=
    ⟨_, congrArg (after s) (firmwareDone_valid h tried), kept.trans flag, rfl, rfl, rfl, rfl, rfl⟩
  rw [order] at valid
  cases ha : parseImage false a rangeOnly s.otp with
  | some i => exact valid (trySlots_first (otp ▸ ha)) (by rw [scanSlot_mgt])
  | none =>
    cases hb : parseImage false b rangeOnly s.otp with
    | some i => exact valid (trySlots_second (otp ▸ ha) (otp ▸ hb)) (by rw [scanSlot_mgt, slotTried_headerFlag])
    | none =>
      have tried := firmwareDone_recovery h (order ▸ trySlots_none (otp ▸ ha) (otp ▸ hb))
      obtain ⟨holds, failed, noRetry⟩ := stageFail_waits 3 _
      refine ⟨_, congrArg (after s) tried, ?_, ?_, holds, failed, noRetry rfl⟩
      · rw [stageFail_err, releaseUnit_mgt, modMgt_mgt, slotTried_headerFlag, slotTried_headerFlag, flag]
      · rw [stageFail_recovery, releaseUnit_mgt, modMgt_mgt]

theorem noteSlots_steady (kolto : Bool) (a b : List Byte) (ok : List (Nat × Word) → Bool) (s : State) :
    Steady (noteSlots kolto a b ok s) s :=
  modMgt_steady _ s

/-- What CONFIG leaves: the first valid Kolto image is loaded and heads are discovered, or the stage has failed. -/
theorem configStage {a b : List Byte} {n : Nat} {s : State} (h : inStage 4 s = true) (first : slotBFirst a b true = false) :
    let at_ : State := { s with now := s.now + n * 800000 }
    match parseImage true a (loadsAccepted s) s.otp, parseImage true b (loadsAccepted s) s.otp with
    | some i, _ => exec (.configStageDone a b n) s = .next (settle s (startDiscovery (stageOk 4 n
        (applyImage false i (scanSlot true false a (releaseUnit false (noteSlots true a b (loadsAccepted s) at_)))))))
    | none, some i => ∃ u,
        exec (.configStageDone a b n) s = .next (settle s (startDiscovery (stageOk 4 n (applyImage true i u)))) ∧ u.now = at_.now
    | none, none => ∃ u, exec (.configStageDone a b n) s = .next (settle s u) ∧ u.top.state = .resetHold ∧ u.pwr.failed = 4 := by
  intro at_
  have order := slotOrder_of_aFirst first
  obtain ⟨tries, htries⟩ : ∃ t, t = releaseUnit false (noteSlots true a b (loadsAccepted s) at_) := ⟨_, rfl⟩
  obtain ⟨now, -, -, -, -, -, -, -, otp, -⟩ : Steady tries at_ := htries ▸ (releaseUnit_steady _ _).trans (noteSlots_steady _ _ _ _ at_)
  have done {r} (tried : trySlots true a b (loadsAccepted s) [false, true] tries = r) :
      trySlots true a b (loadsAccepted s) (slotOrder true a b) (releaseUnit false (noteSlots true a b (loadsAccepted s) (passTenths n s))) = r := by
    rw [order, ← tried, htries]
    rfl
  replace otp : tries.otp = s.otp := otp
  cases ha : parseImage true a (loadsAccepted s) s.otp with
  | some i => exact htries ▸ congrArg (after s) (configDone_valid h (done (trySlots_first (otp ▸ ha))))
  | none =>
    cases hb : parseImage true b (loadsAccepted s) s.otp with
    | some i =>
      have kept := (scanSlot_steady true true b _).trans (slotTried_steady true a b tries false)
      exact ⟨_, congrArg (after s) (configDone_valid h (done (trySlots_second (otp ▸ ha) (otp ▸ hb)))), kept.1.trans now⟩
    | none =>
      obtain ⟨holds, failed, -⟩ := stageFail_waits 4 _
      exact ⟨_, congrArg (after s) (configDone_none h (done (trySlots_none (otp ▸ ha) (otp ▸ hb)))), holds, failed⟩

/-! ### SELFTEST (R34) -/

/-- The engines take the roles that they are given. -/
theorem setRoles_roles (a b : Role) (s : State) : (setRoles a b s).engA.role = a ∧ (setRoles a b s).engB.role = b := by
  have reviewed (t : State) : (reviewRelease t).engA = t.engA ∧ (reviewRelease t).engB = t.engB :=
    ⟨foldl_keep State.engA _ (fun t p => setStore_engA p _ t) _ t, foldl_keep State.engB _ (fun t p => setStore_engB p _ t) _ t⟩
  have logged (t : State) : (logEngines false t).engA = t.engA ∧ (logEngines false t).engB = t.engB := by
    unfold logEngines pushLog
    split <;> exact ⟨rfl, rfl⟩
  unfold setRoles
  split
  · next h => exact ⟨h.1.symm, h.2.symm⟩
  · exact ⟨congrArg Engine.role ((reviewed _).1.trans (logged _).1), congrArg Engine.role ((reviewed _).2.trans (logged _).2)⟩

/-- Both engines pass: A leads with the brake, and the full calibration of the next stage begins. -/
theorem selftestDone_passes {s : State} (h : inStage 5 s = true) (ing : BitVec 20) (egr : BitVec 16) (n : Nat) :
    ∃ (t : Nat) (u : State), selftestDone true true ing egr n s =
      stageOk 5 n (modCal (fun k => { k with running := some true, startAt := t }) (giveBrake .a (setRoles .lead .shadow u))) := by
  simp only [selftestDone, h, if_true, giveRoles]
  exact ⟨_, _, rfl⟩

/-- Neither engine passes. -/
theorem selftestDone_fails {s : State} (h : inStage 5 s = true) (ing : BitVec 20) (egr : BitVec 16) (n : Nat) :
    ∃ u, selftestDone false false ing egr n s = stageFail 5 u := by
  simp only [selftestDone, h, if_true, giveRoles]
  exact ⟨_, rfl⟩

/-! ### RESTORE and the retry (R438, R455) -/

/-- A ring without records: the log begins where it stood. -/
theorem resumeLog_of_empty {recs : List (List Byte)} (h : ∀ r ∈ recs, parseRecord r = none) (s : State) :
    resumeLog recs s = modMgt (fun m => { m with torn := tornPlaces recs, logReady := true }) s := by
  have none : scanRing recs = [] := by
    refine List.filterMap_eq_nil_iff.2 fun t ht => ?_
    rw [h t.1 (List.mem_of_mem_take (List.fst_mem_of_mem_zipIdx ht))]
    rfl
  simp only [resumeLog, none, newestRec, List.foldl_nil]

/-- READY is reached, with its events, the marks of the thermal record and a START record. -/
theorem after_reachReady (s : State) {x y : State}
    (hy : y = setState .ready { x with pwr := { x.pwr with stage := 15, readySeen := true } }) :
    after s (reachReady x) = .next (settle s (openGate (logStart (y.pwr.failedSet.setWidth 8) (markThermal (readyEvents y))))) := by
  subst hy
  rfl

theorem restoreDone_ready {s : State} (h : inStage 7 s = true) (recs : List (List Byte)) (n : Nat) :
    restoreDone recs n s = reachReady (stageOk 7 n (reapplyLog (resumeLog recs { s with now := s.now + n * 800000 }))) :=
  if_pos h

theorem retryStage_due {s : State} {t : Nat} (ht : s.pwr.retryAt = some t) (hs : s.top.state = .resetHold) :
    retryStage s = claimForSlots (setState .boot
      { s with now := max s.now t, pwr := { s.pwr with retryAt := none, attempts := satInc s.pwr.attempts } }) := by
  simp [retryStage, ht, hs, modPwr, advanceTo]

/-! ### O55 -/

/-- Settles O55: each clause by what its stage does where it passes, and by `stageFail` where it fails. -/
theorem startStages : Obligations.StartStages := by
  unfold Obligations.StartStages
  intro n s at_ fails
  refine ⟨fun h => ⟨?_, fun first => ?_, fun again => ?_⟩, fun words locks b h hb => ?_, fun words locks h hb => ?_,
    fun header a b h first => ?_, fun a b h first => ?_, fun h => ⟨?_, ?_⟩, fun recs h => ?_, fun t hr ht hs => ?_,
    fun k _ _ _ => stageOk_stage k n s⟩
  -- CLOCKS
  · exact congrArg (after s) (clocksDone_ok h n)
  · exact congrArg (after s) ((clocksDone_fails h n).trans (stageFail_first (by decide) (.inr first)))
  · exact congrArg (after s) ((clocksDone_fails h n).trans (stageFail_again (by decide) (by decide) again))
  -- FUSES
  · exact congrArg (after s) (fusesDone_burning hb words locks n)
  · exact congrArg (after s) (fusesDone_reads h hb words locks n)
  -- FIRMWARE
  · exact firmwareStage h first
  -- CONFIG
  · exact configStage h first
  -- SELFTEST
  · obtain ⟨t, u, hu⟩ := selftestDone_passes h 0 0 n
    obtain ⟨roleA, roleB⟩ := setRoles_roles .lead .shadow u
    generalize setRoles .lead .shadow u = v at hu roleA roleB
    exact ⟨_, congrArg (after s) hu, roleA, roleB, rfl, rfl, rfl, rfl⟩
  · obtain ⟨u, hu⟩ := selftestDone_fails h 0 0 n
    obtain ⟨holds, failed, -⟩ := stageFail_waits 5 u
    exact ⟨_, congrArg (after s) hu, holds, failed⟩
  -- RESTORE
  · intro x y
    have done : exec (.restoreStageDone recs n) s = after s (reachReady x) := congrArg (after s) (restoreDone_ready h recs n)
    refine ⟨done.trans (after_reachReady s (y := y) rfl), fun empty => ?_⟩
    rw [resumeLog_of_empty empty]
    exact ⟨rfl, rfl, rfl⟩
  -- the retry
  · exact after_live hr (retryStage_due ht hs)

end Sys2Proof.Machine

/-! ## The count of ignored writes (O9) -/

namespace Sys2Proof.Machine

/-- Settles O9: the clear comes first, so an ignored write of its clock leaves the count at 1; settling leaves the rest alone. -/
theorem ignoredWritesClear : Obligations.IgnoredWritesClear := by
  unfold Obligations.IgnoredWritesClear
  intro same s hc
  obtain ⟨u, hu⟩ : ∃ u, u = countWhen same (clearIgnored (touchLink s)) := ⟨_, rfl⟩
  have done : exec (.ignoredWritesClr same) s = .next (settle s u) := after_onHost hc hu.symm
  obtain ⟨-, -, -, ftl, -, -, -, otp, -, -, -, -, ignored, scratch, -, -, dma⟩ := settle_settled s u
  refine ⟨settle s u, done, ignored.trans ?_, scratch.trans ?_, dma.trans ?_, ftl.trans ?_, otp.trans ?_, (settle_held s u).2.trans ?_⟩ <;>
    subst hu <;> cases same <;> rfl

end Sys2Proof.Machine

/-! ## Settings of a loop (O29) -/

namespace Sys2Proof.Machine

/-! ### Reading a loop that was written -/

theorem loopOf_setLoop (x : LoopId) (l : Loop) (s : State) : loopOf x (setLoop x l s) = l := Vector.getElem_set_self _

theorem loopOf_setLoop_ne {x y : LoopId} (h : x ≠ y) (l : Loop) (s : State) : loopOf x (setLoop y l s) = loopOf x s := by
  have apart : (loopIx y).val ≠ (loopIx x).val := by
    cases x <;> cases y <;> simp_all [loopIx]
  exact Vector.getElem_set_ne (loopIx y).isLt (loopIx x).isLt apart

theorem setLoop_setLoop (x : LoopId) (k l : Loop) (s : State) : setLoop x l (setLoop x k s) = setLoop x l s := by
  simp only [setLoop, Vector.set_set]

theorem setLoop_loopOf (x : LoopId) (s : State) : setLoop x (loopOf x s) s = s := by
  have same : s.ftl.set (loopIx x).val (s.ftl[loopIx x]) (loopIx x).isLt = s.ftl := Vector.set_getElem_self _
  simp only [setLoop, loopOf, same]

/-- A flag of a loop that is set on a condition. -/
theorem loopErr_when (c : Prop) [Decidable c] (x : LoopId) (i : Nat) (s : State) :
    (if c then loopErr x i s else s) =
      setLoop x { loopOf x s with err := if c then setBit (loopOf x s).err i else (loopOf x s).err } s := by
  split
  · rfl
  · exact (setLoop_loopOf x s).symm

theorem settle_ftl (s0 s : State) : (settle s0 s).ftl = s.ftl := by
  obtain ⟨-, -, -, ftl, -⟩ := settle_settled s0 s
  exact ftl

theorem loopOf_settle (x : LoopId) (s0 s : State) : loopOf x (settle s0 s) = loopOf x s := by
  rw [loopOf, settle_ftl, loopOf]

/-- A guarded host write with no document in progress. -/
theorem after_guarded {f : State → State} {s : State} (hc : s.link.cfgReady = true) (hd : docInProgress s = false) :
    after s (onHost (guarded f) s) = .next (settle s (f (touchLink s))) :=
  after_onHost hc (guarded_of_free (s := touchLink s) hd)

/-! ### Where a write waits for the line boundary (R26, R188) -/

theorem boundaryWaits_of_locked {l : Loop} (hs : l.state = .locked) (hc : l.crawl = false) : boundaryWaits l = true := by
  simp [boundaryWaits, hs, hc]

theorem boundaryWaits_of_free {l : Loop} (h : l.state ≠ .locked ∨ l.crawl = true) : boundaryWaits l = false := by
  rcases h with h | h <;> simp [boundaryWaits, h]

theorem writeSet_of_waits {x : LoopId} {s : State} (h : boundaryWaits (loopOf x s) = true) (f : FantailSet) :
    writeSet x f s = setLoop x { loopOf x s with pendSet := some f } s := if_pos h

theorem writeSet_of_free {x : LoopId} {s : State} (h : boundaryWaits (loopOf x s) = false) (f : FantailSet) :
    writeSet x f s = applySet x f s := by
  simp [writeSet, h]

/-- Fantail settings in force: the loop's position, line boundary and flags are kept (R189). -/
theorem applySet_loop (x : LoopId) (f : FantailSet) (s : State) :
    (loopOf x (applySet x f s)).set = f ∧ (loopOf x (applySet x f s)).pendSet = none ∧
      (loopOf x (applySet x f s)).err = (loopOf x s).err ∧ (loopOf x (applySet x f s)).pos = (loopOf x s).pos ∧
      (loopOf x (applySet x f s)).bound = (loopOf x s).bound := by
  rw [applySet, loopOf_setLoop]
  split <;> exact ⟨rfl, rfl, rfl, rfl, rfl⟩

/-- IDX_EN 0 on an input changes nothing of a loop but the state of its index check (R177). -/
theorem endIndex_loop (i : Fin 2) (x : LoopId) (s : State) : ∃ b, loopOf x (endIndex i s) = { loopOf x s with indexRef := b } := by
  have ended (y : LoopId) (t : State) :
      ∃ b, loopOf x (if follows y i t then modLoop y (fun l => { l with indexRef := false }) t else t) = { loopOf x t with indexRef := b } := by
    split
    · by_cases e : x = y
      · subst e
        exact ⟨false, loopOf_setLoop _ _ _⟩
      · exact ⟨(loopOf x t).indexRef, loopOf_setLoop_ne e _ _⟩
    · exact ⟨(loopOf x t).indexRef, rfl⟩
  obtain ⟨a, ha⟩ := ended .a s
  obtain ⟨b, hb⟩ := ended .b (if follows .a i s then modLoop .a (fun l => { l with indexRef := false }) s else s)
  exact ⟨b, by rw [endIndex, loopIds, List.foldl_cons, List.foldl_cons, List.foldl_nil, hb, ha]⟩

/-- ENC_CFG in force: the loop's flags and position are kept (R183). -/
theorem applyEnc_loop (x : LoopId) (w : Word) (s : State) :
    (loopOf x (applyEnc x w s)).encCfg = w ∧ (loopOf x (applyEnc x w s)).pendEnc = none ∧
      (loopOf x (applyEnc x w s)).err = (loopOf x s).err ∧ (loopOf x (applyEnc x w s)).pos = (loopOf x s).pos := by
  obtain ⟨u, hu⟩ : ∃ u, u = modLoop x (fun l => { l with encCfg := w, pendEnc := none }) s := ⟨_, rfl⟩
  have written : loopOf x u = { loopOf x s with encCfg := w, pendEnc := none } := hu ▸ loopOf_setLoop _ _ _
  obtain ⟨b, checked⟩ : ∃ b, loopOf x (if w.getLsbD 2 then u else endIndex (ownInput x) u) = { loopOf x u with indexRef := b } := by
    split
    · exact ⟨(loopOf x u).indexRef, rfl⟩
    · exact endIndex_loop _ x u
  rw [written] at checked
  simp only [applyEnc, ← hu]
  split
  · rw [modLoop, loopOf_setLoop, checked]
    exact ⟨rfl, rfl, rfl, rfl⟩
  · rw [checked]
    exact ⟨rfl, rfl, rfl, rfl⟩

/-- With its index check on, a loop in OFF takes ENC_CFG over and nothing else changes. -/
theorem applyEnc_of_off {x : LoopId} {w : Word} {s : State} (hs : (loopOf x s).state = .off) (hi : w.getLsbD 2 = true) :
    applyEnc x w s = setLoop x { loopOf x s with encCfg := w, pendEnc := none } s := by
  simp [applyEnc, hs, hi, modLoop]

/-! ### The line boundary (R188) -/

/-- The ports without a line in progress pass their boundary: no loop, no document and no time changes. -/
theorem applyIdle_keeps (x : LoopId) (s : State) :
    (applyIdle x s).ftl = s.ftl ∧ (applyIdle x s).docs = s.docs ∧ (applyIdle x s).now = s.now := by
  have passed (p : Port) (t : State) : (applyPort p t).ftl = t.ftl ∧ (applyPort p t).docs = t.docs ∧ (applyPort p t).now = t.now := by
    unfold applyPort
    dsimp only
    split <;> exact ⟨rfl, rfl, rfl⟩
  have step {β : Type} (f : State → β) (h : ∀ p t, f (applyPort p t) = f t) : f (applyIdle x s) = f s :=
    foldl_keep f _ (fun t p => by split <;> [exact h p t; rfl]) _ s
  exact ⟨step _ fun p t => (passed p t).1, step _ fun p t => (passed p t).2.1, step _ fun p t => (passed p t).2.2⟩

/-- Only fantail settings are held. -/
theorem applyHeld_set {x : LoopId} {s : State} {f : FantailSet} (hs : (loopOf x s).pendSet = some f) (he : (loopOf x s).pendEnc = none)
    (hi : (loopOf x s).pendIndex = none) : applyHeld x s = applyIdle x (applySet x f s) := by
  simp only [applyHeld, hs, he, hi]

theorem reachTime_reached {l : Loop} {target now : Nat} (h : posAbove target (loopPos l now) = false) :
    reachTime l target now = some now := by
  simp [reachTime, h]

theorem loopBoundary_off {x : LoopId} {s : State} (h : (loopOf x s).state = .off) : loopBoundary x s = s := if_pos h

theorem loopBoundary_never {x : LoopId} {s : State}
    (h : reachTime (loopOf x s) (((loopOf x s).bound.toNat + 256) % posMod) s.now = none) : loopBoundary x s = s := by
  simp [loopBoundary, h]

/-- The time of the boundary comes, and the boundary is noted. -/
def crossLine (x : LoopId) (t : Nat) (s : State) : State :=
  modLoop x (fun l => { l with bound := floorLine (BitVec.ofNat 48 (loopPos l t)) }) { s with now := max s.now t }

theorem crossLine_loop (x : LoopId) (t : Nat) (s : State) :
    loopOf x (crossLine x t s) = { loopOf x s with bound := floorLine (BitVec.ofNat 48 (loopPos (loopOf x s) t)) } :=
  loopOf_setLoop _ _ _

theorem loopBoundary_crosses {x : LoopId} {s u : State} {t : Nat} (h : (loopOf x s).state ≠ .off)
    (ht : reachTime (loopOf x s) (((loopOf x s).bound.toNat + 256) % posMod) s.now = some t) (hu : u = applyHeld x (crossLine x t s)) :
    loopBoundary x s =
      (portsOf (loopPorts x u)).foldl (fun u p => if (runningLoads p u).isEmpty then queueCopy p u else u) u := by
  rw [hu]
  simp only [loopBoundary, h, if_false, ht]
  rfl

theorem portsOf_zero : portsOf 0 = [] := by decide

/-- The boundary of a loop that no document uses and that holds fantail settings alone: they go into force. -/
theorem loopBoundary_idle {x : LoopId} {s : State} {f : FantailSet} (h : (loopOf x s).state ≠ .off)
    (reached : posAbove (((loopOf x s).bound.toNat + 256) % posMod) (loopPos (loopOf x s) s.now) = false) (hp : loopPorts x s = 0)
    (hs : (loopOf x s).pendSet = some f) (he : (loopOf x s).pendEnc = none) (hi : (loopOf x s).pendIndex = none) :
    loopBoundary x s = applyIdle x (applySet x f (crossLine x s.now s)) := by
  have held : applyHeld x (crossLine x s.now s) = applyIdle x (applySet x f (crossLine x s.now s)) :=
    applyHeld_set (by rw [crossLine_loop]; exact hs) (by rw [crossLine_loop]; exact he) (by rw [crossLine_loop]; exact hi)
  have unused : loopPorts x (applyIdle x (applySet x f (crossLine x s.now s))) = 0 := by
    obtain ⟨-, docs, -⟩ := applyIdle_keeps x (applySet x f (crossLine x s.now s))
    rw [loopPorts, docs]
    exact hp
  rw [loopBoundary_crosses h (reachTime_reached reached) held.symm, unused, portsOf_zero, List.foldl_nil]

/-! ### The writes (R172, R180, R194) -/

/-- The word that a write leaves in ENC_CFG keeps IDX_EN as written. -/
theorem encWord_indexOn (f d : Nat) (v : Word) : (BitVec.ofNat 32 (256 * f + 16 * d + v.toNat % 16)).getLsbD 2 = v.getLsbD 2 := by
  have bit : (256 * f + 16 * d + v.toNat % 16) / 4 % 2 = v.toNat / 4 % 2 := by omega
  rw [BitVec.getLsbD_ofNat, BitVec.getLsbD]
  simp only [Nat.testBit_eq_decide_div_mod_eq, Nat.reducePow, bit]
  rfl

/-- Settings that are written beside a flag wait for the line boundary. -/
theorem writeSet_flagged_of_waits {x : LoopId} {s : State} (h : boundaryWaits (loopOf x s) = true) (e : Word) (f : FantailSet) :
    writeSet x f (setLoop x { loopOf x s with err := e } s) = setLoop x { loopOf x s with pendSet := some f, err := e } s := by
  rw [writeSet_of_waits (by rw [loopOf_setLoop]; exact h), setLoop_setLoop, loopOf_setLoop]

/-- LOOP_CFG: the fields in range are written, the others keep their values and are flagged (R180, R194). -/
theorem writeLoopCfg_eq (x : LoopId) (val : Word) (s : State) :
    let l := loopOf x s
    let bw := val.toNat % 8192
    let tol := (val.toNat / 65536) % 16
    let f := writtenSet l
    let g : FantailSet := { f with bw := if bw < 20 ∨ 5000 < bw then f.bw else BitVec.ofNat 13 bw
                                   tol := if 12 < tol then f.tol else BitVec.ofNat 4 tol }
    let e := if bw < 20 ∨ 5000 < bw ∨ 12 < tol then setBit l.err 0 else l.err
    writeLoopCfg x val s = writeSet x g (setLoop x { l with err := e } s) := by
  intro l bw tol f g e
  simp only [writeLoopCfg, loopErr_when, Bool.or_eq_true, decide_eq_true_eq, or_assoc]
  rfl

/-- ENC_CFG: a filter or a DECODE out of range keeps its value and is flagged (R172, R194). -/
theorem writeEncCfg_eq (x : LoopId) (val : Word) (s : State) :
    let l := loopOf x s
    let old := l.pendEnc.getD l.encCfg
    let filt := (val.toNat / 256) % 32
    let dec := (val.toNat / 16) % 4
    let w := BitVec.ofNat 32 (256 * (if filt < 2 ∨ 30 < filt then (old.toNat / 256) % 32 else filt) +
      16 * (if dec = 3 then (old.toNat / 16) % 4 else dec) + val.toNat % 16)
    let e := if filt < 2 ∨ 30 < filt ∨ dec = 3 then setBit l.err 0 else l.err
    let u := setLoop x { l with err := e } s
    writeEncCfg x val s = if boundaryWaits l then setLoop x { l with pendEnc := some w, err := e } s else applyEnc x w u := by
  intro l old filt dec w e u
  have taken : writeEncCfg x val s = if boundaryWaits l then modLoop x (fun k => { k with pendEnc := some w }) u else applyEnc x w u := by
    cases hp : (loopOf x s).pendEnc <;>
      simp only [writeEncCfg, loopErr_when, Bool.or_eq_true, decide_eq_true_eq, beq_iff_eq, or_assoc, hp] <;>
      simp only [u, w, e, old, l, hp, filt, dec, Option.getD]
  rw [taken, modLoop, setLoop_setLoop, loopOf_setLoop]

/-! ### O29 -/

/-- Settles O29: each write by its equation and where the loop's boundary stands, the boundary by `loopBoundary_crosses`. -/
theorem loopSettings : Obligations.LoopSettings := by
  unfold Obligations.LoopSettings
  refine ⟨fun x val s hc hd => ?_, fun x val s hc hd => ?_, fun x val s hc hd => ?_, fun x s hr => ?_⟩
  -- RATIO_DEN
  · intro l den f
    have written : exec (.ratioDenWrite x val) s = .next (settle s (commitRatio x val (touchLink s))) := after_guarded hc hd
    have inRange (h : ratioOk l.heldNum.toNat den = true) : commitRatio x val (touchLink s) = writeSet x f (touchLink s) := if_pos h
    refine ⟨fun h => ⟨_, written, ?_⟩, fun h hs hcr => ⟨_, written, ?_⟩, fun h hw => ⟨_, written, ?_⟩⟩
    · have out : commitRatio x val (touchLink s) = loopErr x 0 (touchLink s) := if_neg (ne_true_of_eq_false h)
      rw [settle_ftl, out]
      rfl
    · rw [settle_ftl, inRange h, writeSet_of_waits (s := touchLink s) (boundaryWaits_of_locked hs hcr)]
      rfl
    · rw [inRange h, writeSet_of_free (s := touchLink s) (boundaryWaits_of_free hw), loopOf_settle]
      obtain ⟨set, pend, -, pos, -⟩ := applySet_loop x f (touchLink s)
      exact ⟨set, pos, pend⟩
  -- LOOP_CFG
  · intro l bw tol f g e
    have written : exec (.loopCfgWrite x val) s = .next (settle s (writeSet x g (setLoop x { l with err := e } (touchLink s)))) :=
      (after_guarded hc hd).trans (congrArg (after s) (writeLoopCfg_eq x val (touchLink s)))
    refine ⟨fun hs hcr => ⟨_, written, ?_⟩, fun hw => ⟨_, written, ?_⟩⟩
    · exact (settle_ftl _ _).trans (congrArg State.ftl (writeSet_flagged_of_waits (s := touchLink s) (boundaryWaits_of_locked hs hcr) e g))
    · have free : boundaryWaits (loopOf x (setLoop x { l with err := e } (touchLink s))) = false := by
        rw [loopOf_setLoop]; exact boundaryWaits_of_free hw
      obtain ⟨set, pend, err, pos, -⟩ := applySet_loop x g (setLoop x { l with err := e } (touchLink s))
      rw [loopOf_setLoop] at err pos
      rw [loopOf_settle, writeSet_of_free free]
      exact ⟨set, pend, err, pos⟩
  -- ENC_CFG
  · intro l old filt dec w e
    have written : exec (.encCfgWrite x val) s = .next (settle s (if boundaryWaits l then
        setLoop x { l with pendEnc := some w, err := e } (touchLink s) else applyEnc x w (setLoop x { l with err := e } (touchLink s)))) :=
      (after_guarded hc hd).trans (congrArg (after s) (writeEncCfg_eq x val (touchLink s)))
    refine ⟨fun hs hcr => ⟨_, written, ?_⟩, fun hw => ⟨_, written, ?_⟩, fun hs hi => ⟨_, written, ?_⟩⟩
    · rw [if_pos (boundaryWaits_of_locked hs hcr), settle_ftl]
      rfl
    · obtain ⟨enc, pend, err, pos⟩ := applyEnc_loop x w (setLoop x { l with err := e } (touchLink s))
      rw [loopOf_setLoop] at err pos
      rw [boundaryWaits_of_free hw, loopOf_settle]
      exact ⟨enc, pend, err, pos⟩
    · have off : boundaryWaits l = false := boundaryWaits_of_free (.inl (by rw [hs]; decide))
      rw [off, settle_ftl, if_neg Bool.false_ne_true, applyEnc_of_off (by rw [loopOf_setLoop]; exact hs) ((encWord_indexOn _ _ _).trans hi),
        setLoop_setLoop, loopOf_setLoop]
      rfl
  -- the line boundary
  · intro l target crossed
    have inDies {t : State} (h : loopBoundary x s = t) : exec (.loopLineBoundary x) s = .next (settle s t) := after_live hr h
    refine ⟨fun off => inDies (loopBoundary_off off), fun on => ⟨fun t ht => ?_, fun f reached hp hs he hi => ?_,
      fun never => inDies (loopBoundary_never never)⟩⟩
    · intro u
      exact inDies (loopBoundary_crosses on ht (u := u) rfl)
    · have idle := loopBoundary_idle on reached hp hs he hi
      obtain ⟨ftl, -, now⟩ := applyIdle_keeps x (applySet x f (crossLine x s.now s))
      obtain ⟨set, pend, -, pos, bound⟩ := applySet_loop x f (crossLine x s.now s)
      rw [crossLine_loop] at pos bound
      obtain ⟨settledNow, -⟩ := settle_settled s (applyIdle x (applySet x f (crossLine x s.now s)))
      refine ⟨_, inDies idle, settledNow.trans (now.trans (max_self s.now)), ?_⟩
      rw [loopOf_settle, loopOf, ftl]
      exact ⟨set, pend, pos, bound⟩

end Sys2Proof.Machine

/-! ## Head temperatures, and spits in MAINT (O36) -/

namespace Sys2Proof.Machine

/-! ### The thermistor (R251) -/

theorem atanhSum_zero (z n i : Nat) : atanhSum z n i 0 = 0 := by
  induction n generalizing i with
  | zero => rfl
  | succ n ih => simp [atanhSum, ih]

/-- The logarithm of 1. -/
theorem lnQuot_self (a : Nat) : lnQuot a a = 0 := by
  simp [lnQuot, atanhSum_zero]

/-- A quotient without remainder is not rounded. -/
theorem heldInt_mul {n b : Nat} (hb : 0 < b) : heldInt (n * b : Nat) b = n := by
  have whole : heldQuot (n * b) b = n := by
    simp [heldQuot, Nat.mul_div_cancel _ hb]
  rw [heldInt, if_neg (by omega), Int.natAbs_natCast, whole]

/-- A thermistor at its R25 is at 25 °C: R25 is the resistance against 10.0 kΩ at which the divider gives the code. -/
theorem headTemp_of_r25 {code : Nat} {r : List Byte} (h0 : 0 < code) (hf : code < Config.thermFull) (hr : 0 < recR25 r)
    (hb : 0 < recBeta r) (h : 1000 * code = (Config.thermFull - code) * recR25 r) : headTemp code r = some 400 := by
  obtain ⟨den, hden⟩ : ∃ den : Nat, den = recBeta r * 18446744073709551616 * 20 := ⟨_, rfl⟩
  have scaled : (recBeta r : Int) * 18446744073709551616 * 20 + 5963 * lnQuot (1000 * code) ((Config.thermFull - code) * recR25 r) = den := by
    rw [← h, lnQuot_self, hden]
    push_cast
    ring
  have above : (95408 : Int) * recBeta r * 18446744073709551616 * 5 - 21852 * den = ((400 * (5 * den) : Nat) : Int) := by
    rw [hden]
    push_cast
    ring
  have inRange : ¬(code = 0 ∨ Config.thermFull ≤ code ∨ recR25 r = 0 ∨ recBeta r = 0) := by omega
  have positive : ¬(den : Int) ≤ 0 := by omega
  simp only [headTemp, if_neg inRange, scaled, if_neg positive, above, Int.toNat_natCast]
  rw [heldInt_mul (by omega)]
  rfl

/-! ### Conversions (R251, R252) -/

section
variable {n : Port} {raw : BitVec 12} {s : State}

theorem modHp_same (p : Port) (f : HeadPort → HeadPort) (s : State) : (modHp p f s).hp[p] = f s.hp[p] := Vector.getElem_set_self _

/-- The port's latest code stands in its register. -/
def noteCode (n : Port) (raw : BitVec 12) (s : State) : State := modHp n (fun h => { h with raw := raw }) s

theorem noteCode_hp (n : Port) (raw : BitVec 12) (s : State) : (noteCode n raw s).hp[n] = { s.hp[n] with raw := raw } :=
  modHp_same _ _ s

/-- A port without a record has no temperature. -/
theorem convertTemp_noRecord (h : s.hp[n].record = []) : convertTemp n raw s = noteCode n raw s := by
  have record : (noteCode n raw s).hp[n].record.isEmpty = true := by rw [noteCode_hp, h]; rfl
  exact if_pos record

theorem noteCode_record (hr : s.hp[n].record ≠ []) : (noteCode n raw s).hp[n].record.isEmpty = false := by
  rw [noteCode_hp]
  exact List.isEmpty_eq_false_iff.2 hr

/-- A valid conversion becomes the head's temperature and is counted. -/
theorem convertTemp_valid {t : Int} (hr : s.hp[n].record ≠ []) (ht : tempValid (headTemp raw.toNat s.hp[n].record) = some t) :
    convertTemp n raw s = useTemp n (modHp n (fun h => { h with
      validTemp := some t, badConv := 0, goodConv := h.goodConv + 1
      sensorFail := h.sensorFail && decide (h.goodConv + 1 < 100) }) (noteCode n raw s)) := by
  have record := noteCode_record (raw := raw) hr
  have valid : tempValid (headTemp raw.toNat (noteCode n raw s).hp[n].record) = some t := by rw [noteCode_hp]; exact ht
  unfold noteCode at *
  simp only [convertTemp, record, valid, Bool.false_eq_true, if_false]

/-- The third conversion in a row out of range of a good sensor: the sensor has failed. -/
theorem convertTemp_fails (hr : s.hp[n].record ≠ []) (ht : tempValid (headTemp raw.toNat s.hp[n].record) = none)
    (hb : s.hp[n].badConv = 2) (hf : s.hp[n].sensorFail = false) :
    convertTemp n raw s = useTemp n (countClass Cls.hpSensor (raise Src.headSensorFail (modHp n (fun h => { h with
      badConv := h.badConv + 1, goodConv := 0, sensorFail := true, err := setBit h.err 2 }) (noteCode n raw s)))) := by
  have record := noteCode_record (raw := raw) hr
  have invalid : tempValid (headTemp raw.toNat (noteCode n raw s).hp[n].record) = none := by rw [noteCode_hp]; exact ht
  have begins : (decide ((noteCode n raw s).hp[n].badConv + 1 = 3) && !(noteCode n raw s).hp[n].sensorFail) = true := by
    rw [noteCode_hp]; simp only [hb, hf]; decide
  unfold noteCode at *
  simp only [convertTemp, record, invalid, begins, Bool.false_eq_true, if_false, if_true, Bool.or_true]

/-- Any other conversion out of range is counted. -/
theorem convertTemp_invalid (hr : s.hp[n].record ≠ []) (ht : tempValid (headTemp raw.toNat s.hp[n].record) = none)
    (hb : s.hp[n].badConv ≠ 2 ∨ s.hp[n].sensorFail = true) :
    convertTemp n raw s = useTemp n (modHp n (fun h => { h with badConv := h.badConv + 1, goodConv := 0 }) (noteCode n raw s)) := by
  have record := noteCode_record (raw := raw) hr
  have invalid : tempValid (headTemp raw.toNat (noteCode n raw s).hp[n].record) = none := by rw [noteCode_hp]; exact ht
  have goesOn : (decide ((noteCode n raw s).hp[n].badConv + 1 = 3) && !(noteCode n raw s).hp[n].sensorFail) = false := by
    rw [noteCode_hp]
    rcases hb with hb | hb
    · simp only [decide_eq_false (show ¬s.hp[n].badConv + 1 = 3 by omega), Bool.false_and]
    · simp only [hb, Bool.not_true, Bool.and_false]
  unfold noteCode at *
  simp only [convertTemp, record, invalid, goesOn, Bool.false_eq_true, if_false, Bool.or_false]

end

theorem tempValid_of_range {t : Int} (hlo : -320 ≤ t) (hhi : t ≤ 2000) : tempValid (some t) = some t := by
  simp [tempValid, hlo, hhi]

/-- The temperature in use of a head whose thermistor is good is its last valid one; within a document nothing more follows. -/
theorem useTemp_temp {n : Port} {s : State} {t : Int} (hf : s.hp[n].sensorFail = false) (ht : s.hp[n].validTemp = some t)
    (hd : portInDoc n s = true) : (useTemp n s).hp[n].temp = t := by
  have inDoc (f : HeadPort → HeadPort) : portInDoc n (modHp n f s) = true := hd
  simp only [useTemp, hf, Bool.false_eq_true, if_false, inDoc, if_true, ht, Option.getD_some]
  exact congrArg HeadPort.temp (modHp_same _ _ s)

/-! ### Spits in MAINT (R144, R238, R255) -/

/-- The spit's time comes: one spit of the entry is used up, and the next comes a period of the spit rate later. -/
def takeSpit (n : Port) (q : Fin 8) (payload : List Byte) (k : Nat) (rest : List (Fin 8 × List Byte × Nat)) (s : State) : State :=
  setTrack n { s.track[n] with
    spits := if k ≤ 1 then rest else (q, payload, k - 1) :: rest
    spitAt := max s.now s.track[n].spitAt + ceilDiv 8000000000 (spitRate n q (advanceTo s.track[n].spitAt s)) } (advanceTo s.track[n].spitAt s)

section
variable {n : Port} {q : Fin 8} {payload : List Byte} {k : Nat} {rest : List (Fin 8 × List Byte × Nat)} {a b : PassNote} {s : State}

theorem spitTimer_empty (h : s.track[n].spits = []) : spitTimer n a b s = s := by
  simp only [spitTimer, h]

theorem spitTimer_outside (h : s.track[n].spits = (q, payload, k) :: rest) (hs : s.top.state ≠ .maint) : spitTimer n a b s = s := by
  simp only [spitTimer, h, hs, if_false]

theorem spitTimer_maint {u : State} (hu : takeSpit n q payload k rest s = u) (h : s.track[n].spits = (q, payload, k) :: rest)
    (hs : s.top.state = .maint) : spitTimer n a b s = (fireSpit n q payload a b u).2 := by
  subst hu
  simp only [spitTimer, h, hs, if_true]
  rfl

/-- A port without power, or whose egress checker is out of service, fires nothing. -/
theorem fireSpit_unusable (h : s.hp[n].pstate ≠ .active ∨ s.chk.fixedEgr.getLsbD n.val = true) : (fireSpit n q payload a b s).2 = s := by
  have unusable : (s.hp[n].pstate != .active || s.chk.fixedEgr.getLsbD n.val) = true := by
    rw [Bool.or_eq_true, bne_iff_ne]
    exact h
  rw [fireSpit, if_pos unusable]

end

/-! ### O36 -/

/-- Settles O36: conversions by their validity and the count of those out of range, spits by `spitTimer_maint` and `fireSpit_unusable`. -/
theorem headTemperature : Obligations.HeadTemperature := by
  unfold Obligations.HeadTemperature
  refine ⟨fun n raw s hr => ?_, fun n q payload k rest a b s hr hq => ?_⟩
  · intro h s1
    have inDies {t : State} (e : convertTemp n raw s = t) : exec (.headTempConversion n raw) s = .next (settle s t) :=
      after_live hr e
    refine ⟨headTemp_of_r25, fun none => inDies (convertTemp_noRecord none), fun t hrec ht hlo hhi => ?_,
      fun hrec ht => ⟨fun hb hf => ?_, fun hb => ?_⟩⟩
    · have converts := convertTemp_valid (raw := raw) hrec ((congrArg tempValid ht).trans (tempValid_of_range hlo hhi))
      refine ⟨inDies converts, fun hf hd => ⟨_, inDies converts, useTemp_temp ?_ ?_ hd⟩⟩
      · exact (congrArg HeadPort.sensorFail (modHp_same _ _ _)).trans ((congrArg HeadPort.sensorFail (noteCode_hp n raw s)).trans hf)
      · exact congrArg HeadPort.validTemp (modHp_same _ _ _)
    · exact inDies (convertTemp_fails hrec ht hb hf)
    · exact inDies (convertTemp_invalid hrec ht hb)
  · intro s1 s2
    have inDies {t u : State} (hr : t.pwr.released = true) (e : spitTimer n a b t = u) : exec (.spitFire n a b) t = .next (settle t u) :=
      after_live hr e
    have taken : takeSpit n q payload k rest s = s2 := rfl
    refine ⟨fun hs => inDies hr (spitTimer_outside hq hs), fun t ht none => inDies ht (spitTimer_empty none), fun hs => ?_, fun hs h => ?_⟩
    · exact inDies hr (spitTimer_maint taken hq hs)
    · exact inDies hr ((spitTimer_maint taken hq hs).trans (fireSpit_unusable h))

end Sys2Proof.Machine

/-! ## Commands to the pair, and the profile swap (O44) -/

namespace Sys2Proof.Machine

/-! ### Where SUP's commands act (R34, R311) -/

theorem supReady_iff (s : State) : supReady s = true ↔ s.sup.started = true ∧ s.sup.faultAt ≠ some s.now := by
  rw [supReady, Bool.and_eq_true, bne_iff_ne]

/-- A pair's engines are LEAD and SHADOW. -/
theorem roleOf_of_pair {s : State} (h : isPair s = true) (x : EngId) : roleOf x s = .lead ∨ roleOf x s = .shadow := by
  simp only [isPair, Bool.or_eq_true, Bool.and_eq_true, beq_iff_eq] at h
  cases x
  · exact h.imp And.left And.left
  · exact (h.imp And.right And.right).symm

/-! ### RETIRE, REVIVE, FAILOVER_TEST and ENGINE_RESTART (R315) -/

section
variable {x : EngId} {s : State}

theorem retireEngine_refused (h : roleOf x s = .solo ∨ supReady s = false) : retireEngine x s = supRefuse 1 x s :=
  if_pos (h.imp_right fun e => by simp [e])

theorem retireEngine_of_retired (hr : supReady s = true) (h : roleOf x s = .retired) : retireEngine x s = supCmd 1 x false s := by
  have accepted : ¬(roleOf x s = .solo ∨ (!supReady s) = true) := by simp [h, hr]
  rw [retireEngine, if_neg accepted]
  exact if_pos h

theorem retireEngine_of_pair (hr : supReady s = true) (h : isPair s = true) :
    retireEngine x s = engineFault x 8 true 0 0 0 (supCmd 1 x false s) := by
  have works := roleOf_of_pair h x
  have accepted : ¬(roleOf x s = .solo ∨ (!supReady s) = true) := by rcases works with w | w <;> simp [w, hr]
  have present : ¬roleOf x (supCmd 1 x false s) = .retired := by
    show ¬roleOf x s = .retired
    rcases works with w | w <;> simp [w]
  rw [retireEngine, if_neg accepted]
  simp only [present, if_false, show isPair (supCmd 1 x false s) = true from h, if_true]

/-- A fault report leaves the swap alone where it has no error class. -/
theorem noteFault_command_swap (p line : Nat) : (noteFault x 8 p line s).sup.swap = s.sup.swap := by
  cases x <;> rfl

theorem closeFailed_of_ne (h : s.sup.swap ≠ .failed) : closeFailed s = s := if_neg h

/-- Nothing of a rejoining goes on. -/
def endRejoin (s : State) : State := { s with sup := { s.sup with rejoinWait := false, rejoining := false, switchPending := false } }

/-- A rejoining engine leaves; with no swap open none is ended. -/
theorem retireEngine_of_rejoining {u : State} (hu : noteFault x 8 0 0 (stopSelftest x (supCmd 1 x false s)) = u) (hr : supReady s = true)
    (h : roleOf x s = .rejoining) (hp : isPair s = false) (hs : s.sup.swap = .closed) :
    retireEngine x s = rolesFor x .retired .solo (dropCopies (endRejoin u)) := by
  have accepted : ¬(roleOf x s = .solo ∨ (!supReady s) = true) := by simp [h, hr]
  have present : ¬roleOf x (supCmd 1 x false s) = .retired := by
    show ¬roleOf x s = .retired
    simp [h]
  have single : isPair (supCmd 1 x false s) = false := hp
  have swap : (endRejoin u).sup.swap = .closed := by
    subst hu
    exact (noteFault_command_swap 0 0).trans (by cases x <;> exact hs)
  have notOpen : swapOpenNow (endRejoin u) = false := by rw [swapOpenNow, swap]; rfl
  have stays : closeFailed (endRejoin u) = endRejoin u := closeFailed_of_ne (by rw [swap]; decide)
  unfold endRejoin at *
  rw [retireEngine, if_neg accepted]
  simp only [present, single, hu, notOpen, stays, Bool.false_eq_true, if_false]

theorem reviveEngine_of_retired (hr : supReady s = true) (h : roleOf x s = .retired) :
    reviveEngine x s = startSelftest x (rolesFor x .rejoining .solo (supCmd 2 x false s)) := if_pos ⟨h, hr⟩

theorem reviveEngine_refused (h : roleOf x s ≠ .retired ∨ supReady s = false) : reviveEngine x s = supRefuse 2 x s :=
  if_neg (by rcases h with h | h <;> simp [h])

theorem testFailover_of_pair (hp : isPair s = true) (hr : supReady s = true) :
    testFailover s =
      let s1 := supCmd 3 (cmdEngine s) false s
      { s1 with sup := { s1.sup with testPending := true } } := if_pos ⟨hp, hr⟩

theorem testFailover_refused (h : isPair s = false ∨ supReady s = false) : testFailover s = supRefuse 3 (cmdEngine s) s :=
  if_neg (by rcases h with h | h <;> simp [h])

theorem restartEngines_of_safeHold (h : s.sup.engSafeHold = true) (hr : supReady s = true) :
    restartEngines s =
      let s1 := supCmd 7 (cmdEngine s) false s
      startSelftest .b (startSelftest .a { s1 with sup := { s1.sup with restarting := true, resultA := none, resultB := none } }) :=
  if_pos ⟨h, hr⟩

theorem restartEngines_refused (h : s.sup.engSafeHold = false ∨ supReady s = false) : restartEngines s = supRefuse 7 (cmdEngine s) s :=
  if_neg (by rcases h with h | h <;> simp [h])

/-! ### The profile swap (R317, R318) -/

theorem openSwap_of_pair (hp : isPair s = true) (hs : s.sup.swap = .closed) (hr : supReady s = true) :
    openSwap s =
      let x := (mainEng s).other
      let s1 := dropCopies (withdraw x (noteFault x 8 0 0 (supCmd 4 (cmdEngine s) false s)))
      raise Src.supRole (rolesFor x .rejoining .solo { s1 with sup := { s1.sup with
        swap := .staging, staging := x, rejoinWait := false, testPending := false } }) := if_pos ⟨hp, hs, hr⟩

theorem openSwap_refused (h : isPair s = false ∨ s.sup.swap ≠ .closed ∨ supReady s = false) : openSwap s = supRefuse 4 (cmdEngine s) s :=
  if_neg (by rcases h with h | h | h <;> simp [h])

section
variable {u : State} (hu : supCmd 5 (cmdEngine s) false s = u) (hs : s.sup.swap = .staging) (hr : supReady s = true)
include hu hs hr

/-- The check value is good: the staging engine takes the staged blocks and tests itself. -/
theorem armSwap_of_good (hc : crc32c (stageBytes u) = u.sup.stageCrc) :
    armSwap s =
      let y := u.sup.staging
      let v := setEng y { eng y u with blocks := u.sup.stage } u
      startSelftest y { v with sup := { v.sup with swap := .armed } } := by
  subst hu
  rw [armSwap, if_pos ⟨hs, hr⟩]
  exact if_pos hc

theorem armSwap_of_bad (hc : crc32c (stageBytes u) ≠ u.sup.stageCrc) : armSwap s = endSwap true u := by
  subst hu
  rw [armSwap, if_pos ⟨hs, hr⟩]
  exact if_neg hc

end

theorem armSwap_refused (h : s.sup.swap ≠ .staging ∨ supReady s = false) : armSwap s = supRefuse 5 (cmdEngine s) s :=
  if_neg (by rcases h with h | h <;> simp [h])

theorem cancelSwap_of_open (h : swapOpenNow s = true) (hr : supReady s = true) :
    cancelSwap s = endSwap false (supCmd 6 (cmdEngine s) false s) := if_pos ⟨h, hr⟩

theorem cancelSwap_refused (h : swapOpenNow s = false ∨ supReady s = false) : cancelSwap s = supRefuse 6 (cmdEngine s) s :=
  if_neg (by rcases h with h | h <;> simp [h])

end

/-! ### The periodic record (R316) -/

/-- The record's time comes, and counts as its last one. -/
theorem healthRecord_eq {s u : State}
    (hu : u = { s with
      now := max s.now (s.mgt.healthAt + 28800000000000 * s.mgt.healthH)
      mgt := { s.mgt with healthAt := max s.now (s.mgt.healthAt + 28800000000000 * s.mgt.healthH) } }) :
    healthRecord s = if fwRuns u then logEngines true u else u := by
  have grid : msGrid (3600000 * s.mgt.healthH) = 28800000000000 * s.mgt.healthH := by
    rw [msGrid]
    omega
  have reached : modMgt (fun m => { m with healthAt := (advanceTo (s.mgt.healthAt + msGrid (3600000 * s.mgt.healthH)) s).now })
      (advanceTo (s.mgt.healthAt + msGrid (3600000 * s.mgt.healthH)) s) = u := by
    rw [hu, grid]
    rfl
  simp only [healthRecord, reached]

/-! ### O44 -/

/-- Settles O44: each command by its equation where R315 or R317 accepts it, and by its refusal elsewhere. -/
theorem pairCommands : Obligations.PairCommands := by
  unfold Obligations.PairCommands
  refine ⟨fun s0 hc => ?_, fun s0 hc => ?_⟩
  · intro s out
    have acts {f : State → State} {t : State} (h : f s = t) : after s0 (onHost f s0) = out t := after_onHost hc h
    refine ⟨supReady_iff s, fun x h => acts (retireEngine_refused h), fun x hr h => acts (retireEngine_of_retired hr h),
      fun x hr h => acts (retireEngine_of_pair hr h), fun x hr h hp hs => acts (retireEngine_of_rejoining rfl hr h hp hs),
      fun x hr h => acts (reviveEngine_of_retired hr h), fun x h => acts (reviveEngine_refused h), fun hp hr => acts (testFailover_of_pair hp hr),
      fun h => acts (testFailover_refused h), fun h hr => acts (restartEngines_of_safeHold h hr), fun h => acts (restartEngines_refused h),
      acts rfl⟩
  · intro s out s4 s5 x
    have acts {f : State → State} {t : State} (h : f s = t) : after s0 (onHost f s0) = out t := after_onHost hc h
    refine ⟨fun hp hs hr => acts (openSwap_of_pair hp hs hr), fun h => acts (openSwap_refused h), fun hs hr h => acts (armSwap_of_good rfl hs hr h),
      fun hs hr h => acts (armSwap_of_bad rfl hs hr h), fun h => acts (armSwap_refused h), fun h hr => acts (cancelSwap_of_open h hr),
      fun h => acts (cancelSwap_refused h), ?_⟩
    intro due u
    have record := healthRecord_eq (s := s0) (u := u) rfl
    exact ⟨fun hr hf => after_live hr (record.trans (if_pos hf)), fun hr hf => after_live hr (record.trans (if_neg (ne_true_of_eq_false hf)))⟩

end Sys2Proof.Machine

/-! ## Delivered packets (O18) -/

namespace Sys2Proof.Machine

/-! ### What leaves the channels as they are (R126, R131) -/

theorem writeSet_dma (x : LoopId) (f : FantailSet) (s : State) : (writeSet x f s).dma = s.dma := by
  unfold writeSet
  dsimp only
  split <;> rfl

theorem loadFantail_dma (d : Doc) (s : State) : (loadFantail d s).dma = s.dma := by
  unfold loadFantail
  split
  · rfl
  · dsimp only
    split
    · rfl
    · exact writeSet_dma _ _ _

theorem downgrade_dma (d : Doc) (s : State) : (downgrade d s).dma = s.dma := by
  unfold downgrade
  split <;> simp

theorem admitPort_dma (id : Word) (pf : Profile) (q : Fin 8) (s : State) (p : Port) : (admitPort id pf q s p).dma = s.dma := by
  unfold admitPort
  split <;> simp

theorem admitDoc_dma (d : Doc) (s : State) : (admitDoc d s).dma = s.dma := by
  unfold admitDoc
  split
  · rfl
  · next pf _ =>
    have ports (u : State) : ((portsOf d.mask).foldl (admitPort d.id pf (docProf d)) u).dma = u.dma :=
      foldl_keep State.dma _ (admitPort_dma d.id pf (docProf d)) _ u
    simp [ports]

/-- An evaluation of a document concerns the sluice and the loops only. -/
@[simp] theorem evaluateDoc_dma (s : State) (id : Word) : (evaluateDoc s id).dma = s.dma := by
  unfold evaluateDoc
  split
  · rfl
  · split
    · rfl
    · dsimp only
      split
      · exact downgrade_dma _ _
      · simp [admitDoc_dma, loadFantail_dma, downgrade_dma]

@[simp] theorem evaluateAll_dma (s : State) : (evaluateAll s).dma = s.dma := foldl_keep State.dma _ evaluateDoc_dma _ s

@[simp] theorem storeLine_dma (p : Port) (doc : Word) (k : Nat) (isTest : Bool) (b : List Byte) (s : State) :
    (storeLine p doc k isTest b s).dma = s.dma := rfl

theorem sweepBarred_dma (s : State) : (sweepBarred s).dma = s.dma :=
  foldl_keep State.dma _ (fun u d => by simp) _ s

@[simp] theorem noteOpened_dma (p : Port) (id : Option Word) (s : State) : (noteOpened p id s).dma = s.dma := sweepBarred_dma _

@[simp] theorem logUser_dma (ch : Chan) (code : Nat) (desc : Desc) (s : State) : (logUser ch code desc s).dma = s.dma := rfl

@[simp] theorem hostWrite_dma (addr : DWord) (data : List Byte) (s : State) : (hostWrite addr data s).dma = s.dma := rfl

/-! ### A document's entry in the table while a channel opens it (R127, R502) -/

/-- The document has an entry, and none of its entries is barred. -/
def OpenEntry (id : Word) (s : State) : Prop := (∃ d ∈ s.docs, d.id = id) ∧ ∀ d ∈ s.docs, d.id = id → d.barred = false

theorem releaseDoc_docs (id : Word) (s : State) : (releaseDoc id s).docs = s.docs :=
  foldl_keep State.docs (fun s p => releaseLines p (fun l => l.doc == id) s) (fun _ _ => rfl) (List.finRange 16) s

theorem docDone_docs (id : Word) (s : State) : (docDone id s).docs = s.docs.filter fun d => d.id != id := by
  unfold docDone
  split
  · exact releaseDoc_docs _ _
  · next absent =>
    refine (List.filter_eq_self.2 fun d hd => ?_).symm
    have other : d.id ≠ id := fun e => absent (List.any_eq_true.2 ⟨d, hd, by simpa using e⟩)
    simpa using other

theorem OpenEntry.docDone {id x : Word} {s : State} (h : OpenEntry id s) (hx : x ≠ id) : OpenEntry id (docDone x s) := by
  obtain ⟨⟨d, hd, e⟩, free⟩ := h
  refine ⟨⟨d, ?_, e⟩, fun d' hd' => ?_⟩
  · rw [docDone_docs]
    exact List.mem_filter.2 ⟨hd, by simpa [e] using hx.symm⟩
  · rw [docDone_docs] at hd'
    exact free d' (List.mem_filter.1 hd').1

/-- The barred documents that are swept out are others. -/
theorem OpenEntry.sweepBarred {id : Word} {s : State} (h : OpenEntry id s) : OpenEntry id (sweepBarred s) := by
  have fold (l : List Doc) : ∀ u : State, (∀ d ∈ l, d.id ≠ id) → OpenEntry id u →
      OpenEntry id (l.foldl (fun s d => Machine.docDone d.id s) u) := by
    induction l with
    | nil => exact fun u _ hu => hu
    | cons d l ih =>
      intro u hl hu
      exact ih _ (fun e he => hl e (List.mem_cons_of_mem d he)) (hu.docDone (hl d List.mem_cons_self))
  refine fold _ _ (fun d hd e => ?_) h
  obtain ⟨hm, hb⟩ := List.mem_filter.1 hd
  simp [h.2 d hm e] at hb

/-- A change of entries that keeps IDs and bars none keeps the entry. -/
theorem OpenEntry.map {id : Word} {s : State} {f : Doc → Doc} (h : OpenEntry id s) (hid : ∀ d, (f d).id = d.id)
    (hbar : ∀ d, (f d).barred = d.barred) : OpenEntry id { s with docs := s.docs.map f } := by
  obtain ⟨⟨d, hd, e⟩, free⟩ := h
  refine ⟨⟨f d, List.mem_map_of_mem hd, (hid d).trans e⟩, fun d' hd' e' => ?_⟩
  obtain ⟨d0, h0, rfl⟩ := List.mem_map.1 hd'
  exact (hbar d0).trans (free d0 h0 ((hid d0).symm.trans e'))

theorem OpenEntry.noteOpened {id : Word} {s : State} (h : OpenEntry id s) (p : Port) (x : Option Word) : OpenEntry id (noteOpened p x s) :=
  (h.map (fun d => by split <;> rfl) (fun d => by split <;> rfl)).sweepBarred

theorem OpenEntry.modDoc {id x : Word} {s : State} {f : Doc → Doc} (h : OpenEntry id s) (hid : ∀ d, (f d).id = d.id)
    (hbar : ∀ d, (f d).barred = d.barred) : OpenEntry id (modDoc x f s) :=
  h.map (fun d => by split <;> [exact hid d; rfl]) (fun d => by split <;> [exact hbar d; rfl])

theorem OpenEntry.findDoc_ne_none {id : Word} {s : State} (h : OpenEntry id s) : findDoc id s ≠ none := by
  obtain ⟨d, hd, e⟩ := h.1
  intro absent
  exact absurd (List.find?_eq_none.1 absent d hd) (by simpa using e)

/-- The entry of a document that had none. -/
theorem openEntry_of_new {id : Word} {s : State} (pl : List Byte) (h : findDoc id s = none) :
    OpenEntry id { s with docs := s.docs ++ [newDoc id pl] } := by
  refine ⟨⟨newDoc id pl, by simp, rfl⟩, fun d hd e => ?_⟩
  rcases List.mem_append.1 hd with old | new
  · exact absurd e (by simpa using List.find?_eq_none.1 h d old)
  · rw [List.mem_singleton.1 new]
    rfl

/-! ### The framing of a channel after a packet (R43, R45) -/

theorem setDma_same (ch : Chan) (d : Dma) (s : State) : (setDma ch d s).dma[ch] = d := Vector.getElem_set_self _

theorem frameIdle_dma {p : Port} {s : State} (h : s.dma[chanOf p].frame ≠ .discard) :
    (frameIdle p s).dma[chanOf p] = { s.dma[chanOf p] with frame := .idle, k := 0, openDoc := 0, lineCount := 0, prevTest := false } := by
  unfold frameIdle
  dsimp only
  rw [if_neg h, setDma_same]

theorem advanceLine_dma {p : Port} {s : State} (isTest : Bool) (h : s.dma[chanOf p].frame = .opened) :
    (advanceLine p isTest s).dma[chanOf p] = { s.dma[chanOf p] with
      k := s.dma[chanOf p].k + 1, prevTest := isTest
      frame := if s.dma[chanOf p].lineCount ≤ s.dma[chanOf p].k + 1 then .ended else .opened } := by
  unfold advanceLine
  dsimp only
  split
  · rw [setDma_same]
  · simp only [h, setDma_same]

/-- Storing a line leaves the channel to the advance of `k`. -/
theorem takeLine_advances (p : Port) (b : List Byte) (s : State) :
    ∃ u : State, takeLine p b s = advanceLine p (pktType b == 5) u ∧ u.dma = s.dma := by
  unfold takeLine
  dsimp only
  split
  · exact ⟨s, rfl, rfl⟩
  · exact ⟨_, rfl, by simp⟩

theorem takeLine_dma {p : Port} {s : State} (b : List Byte) (h : s.dma[chanOf p].frame = .opened) :
    (takeLine p b s).dma[chanOf p] = { s.dma[chanOf p] with
      k := s.dma[chanOf p].k + 1, prevTest := pktType b == 5
      frame := if s.dma[chanOf p].lineCount ≤ s.dma[chanOf p].k + 1 then .ended else .opened } := by
  obtain ⟨u, advances, same⟩ := takeLine_advances p b s
  rw [advances, advanceLine_dma _ (by rw [same]; exact h), same]

theorem openDoc_dma {p : Port} {id : Word} {s : State} (h : OpenEntry id s) :
    ∃ doc : Doc, (openDoc p id s).dma[chanOf p] = { s.dma[chanOf p] with
      frame := .opened, lastDoc := id, openDoc := id, k := 0, lineCount := doc.lineCount, openProf := docProf doc, prevTest := false } := by
  have entry : OpenEntry id (noteOpened p (some id) (modDoc id (fun d => { d with opened := setBit d.opened p.val }) s)) :=
    OpenEntry.noteOpened (OpenEntry.modDoc h (fun _ => by rfl) (fun _ => by rfl)) p _
  unfold openDoc
  dsimp only
  split
  · next absent => exact absurd absent entry.findDoc_ne_none
  · next doc _ =>
    refine ⟨doc, ?_⟩
    split <;> simp

/-! ### Retirement on a line channel (R99, R101, R108) -/

/-- `t` is the channel `d` after its current descriptor has retired with status `st`: the ring has moved on, and the framing stands. -/
structure RetiredFrom (d t : Dma) (st : Nat) : Prop where
  head : t.head = BitVec.ofNat 16 ((d.head.toNat + 1) % max 1 d.entries.toNat)
  retired : t.retired = d.retired + 1
  code : t.code = BitVec.ofNat 8 st
  cur : t.cur = none
  frame : t.frame = d.frame
  openDoc : t.openDoc = d.openDoc
  lastDoc : t.lastDoc = d.lastDoc
  k : t.k = d.k
  ahead : d.ahead = none → t.ahead = none

/-- Read requests that go out afterwards change none of this. -/
theorem RetiredFrom.of_unasked {d t t' : Dma} {st : Nat} (h : RetiredFrom d t st) (e : t'.unasked = t.unasked) : RetiredFrom d t' st where
  head := (congrArg Dma.head e).trans h.head
  retired := (congrArg Dma.retired e).trans h.retired
  code := (congrArg Dma.code e).trans h.code
  cur := by simpa [Dma.unasked, h.cur] using congrArg Dma.cur e
  frame := (congrArg Dma.frame e).trans h.frame
  openDoc := (congrArg Dma.openDoc e).trans h.openDoc
  lastDoc := (congrArg Dma.lastDoc e).trans h.lastDoc
  k := (congrArg Dma.k e).trans h.k
  ahead := fun empty => (congrArg Dma.ahead e).trans (h.ahead empty)

theorem settle_unasked (s0 s : State) (ch : Chan) : (settle s0 s).dma[ch].unasked = s.dma[ch].unasked := by
  obtain ⟨-, -, -, -, -, -, -, -, -, -, -, -, -, -, -, -, dma⟩ := settle_settled s0 s
  simpa using congrArg (fun v => v[ch]) dma

theorem stopAt_dma (ch : Chan) (s : State) : (stopAt ch s).dma[ch] = { s.dma[ch] with
    state := if (abandoned s.dma[ch]).isEmpty then .stopped else .stopping, stopReq := true, ahead := none, reqs := []
    dropped := abandoned s.dma[ch], refetching := none } := setDma_same _ _ _

theorem retire_retiredFrom {ch : Chan} {s : State} {c : CurDesc} (hc : s.dma[ch].cur = some c) (st flags : Nat) (moved : List Byte) (w : Word) :
    RetiredFrom s.dma[ch] (retire ch st flags moved w s).dma[ch] st := by
  unfold retire
  dsimp only
  split
  · next absent => exact absurd (absent.symm.trans hc) nofun
  · split
    · rw [stopAt_dma]
      constructor <;> simp
    · constructor <;> simp

theorem proceed_of_noneAhead {ch : Chan} {s : State} (h : s.dma[ch].ahead = none) : proceed ch s = s := by
  unfold proceed
  dsimp only
  split
  · next present => exact absurd (present.symm.trans h) nofun
  · rfl

/-- What the channel is after a packet's descriptor has retired, with no descriptor ahead. -/
theorem settle_retirePacket {p : Port} {u : State} {c : CurDesc} (hc : u.dma[chanOf p].cur = some c) (ha : u.dma[chanOf p].ahead = none)
    (s0 : State) (st flags : Nat) (moved : List Byte) (w : Word) :
    RetiredFrom u.dma[chanOf p] (settle s0 (retirePacket p st flags moved w u)).dma[chanOf p] st := by
  unfold retirePacket
  dsimp only
  generalize hv : (if st = 4 ∨ st = 5 then countClass Cls.dmaCheck u else u) = v
  have same : v.dma = u.dma := by rw [← hv]; simp
  rw [← same] at hc ha ⊢
  have retired := retire_retiredFrom hc st flags moved w
  rw [proceed_of_noneAhead (retired.ahead ha)]
  exact retired.of_unasked (settle_unasked _ _ _)

/-- The channels `d` and `d'` stand alike on their rings: they differ in their framing at most. -/
structure SameRing (d d' : Dma) : Prop where
  head : d'.head = d.head
  entries : d'.entries = d.entries
  retired : d'.retired = d.retired
  cur : d'.cur = d.cur
  ahead : d'.ahead = d.ahead

/-! ### Routing (R45) -/

section
variable {p : Port} {d : Dma} {b : List Byte} {s : State}

theorem fillerOk_of_type_ne (h : pktType b ≠ 4) : fillerOk p d b = false := by simp [fillerOk, h]

/-- A filler obeys R63 in any framing state. -/
theorem fillerOk_of_fields (ht : pktType b = 4) (hh : headerOk p b = true) (hg : pktTags b = 0) (hd : pktDoc b = (expected d).1)
    (hl : pktLine b = (expected d).2) : fillerOk p d b = true := by simp [fillerOk, ht, hh, hg, hd, hl]

theorem routePacket_filler (h : fillerOk p s.dma[chanOf p] b = true) : routePacket p b s = some (0, s) := if_pos h

theorem routePacket_opened (hf : fillerOk p s.dma[chanOf p] b = false) (hs : s.dma[chanOf p].frame = .opened) :
    routePacket p b s = some (if lineOk p s.dma[chanOf p] b s then (0, takeLine p b s) else breach p s) := by
  simp only [routePacket, hf, hs, Bool.false_eq_true, if_false]

theorem routePacket_discard (hf : fillerOk p s.dma[chanOf p] b = false) (hs : s.dma[chanOf p].frame = .discard) :
    routePacket p b s = some (6, advanceLine p false s) := by
  simp only [routePacket, hf, hs, Bool.false_eq_true, if_false]

theorem routePacket_close (hf : fillerOk p s.dma[chanOf p] b = false) (hs : s.dma[chanOf p].frame = .ended) (ht : pktType b = 3)
    (hh : headerOk p b = true) (hg : pktTags b = 0) (hd : pktDoc b = s.dma[chanOf p].openDoc)
    (hl : pktLine b = BitVec.ofNat 32 s.dma[chanOf p].lineCount) (hn : pktPlen b = 0) : routePacket p b s = some (0, frameIdle p s) := by
  simp [-Fin.getElem_fin, routePacket, hf, hs, ht, hh, hg, hd, hl, hn]

theorem routePacket_open (ht : pktType b = 2) (hs : s.dma[chanOf p].frame = .idle) : routePacket p b s = openPacket p b s := by
  have hf : fillerOk p s.dma[chanOf p] b = false := fillerOk_of_type_ne (by omega)
  simp only [routePacket, hf, hs, ht, Bool.false_eq_true, if_false]

theorem routePacket_test (ht : pktType b = 5) (hs : s.dma[chanOf p].frame = .idle) : routePacket p b s = some (spitTest p b s) := by
  have hf : fillerOk p s.dma[chanOf p] b = false := fillerOk_of_type_ne (by omega)
  simp only [routePacket, hf, hs, ht, Bool.false_eq_true, if_false]

theorem routePacket_idle_breach (hf : fillerOk p s.dma[chanOf p] b = false) (hs : s.dma[chanOf p].frame = .idle) (h2 : pktType b ≠ 2)
    (h5 : pktType b ≠ 5) : routePacket p b s = some (breach p s) := by
  simp only [routePacket, hf, hs, Bool.false_eq_true, if_false]

/-- A line or a test line that fits the open document is taken (R55, R64). -/
theorem routePacket_line (hl : lineOk p s.dma[chanOf p] b s = true) (hs : s.dma[chanOf p].frame = .opened) (ht : pktType b ≠ 4) :
    routePacket p b s = some (0, takeLine p b s) := by
  rw [routePacket_opened (fillerOk_of_type_ne ht) hs, if_pos hl]

/-! ### A doc-open in IDLE (R46, R47, R50, R127) -/

/-- A doc-open that obeys R46 names no reserved document. -/
theorem notReserved_of_openOk (h : openOk p d b s = true) : (pktDoc b == 0 || pktDoc b == BitVec.allOnes 32) = false := by
  refine Bool.or_eq_false_iff.2 ⟨beq_eq_false_iff_ne.2 fun zero => ?_, beq_eq_false_iff_ne.2 fun ones => ?_⟩
  · simp [openOk, zero] at h
  · simp [openOk, ones] at h

theorem openPacket_new (ho : openOk p s.dma[chanOf p] b s = true) (hn : findDoc (pktDoc b) s = none) (hl : s.docs.length < 64) :
    openPacket p b s = some (0, openDoc p (pktDoc b) { s with docs := s.docs ++ [newDoc (pktDoc b) (openPayload b)] }) := by
  simp only [openPacket, hn, ho, notReserved_of_openOk ho]
  simp [hl]

theorem openPacket_full (ho : openOk p s.dma[chanOf p] b s = true) (hn : findDoc (pktDoc b) s = none) (hl : 64 ≤ s.docs.length) :
    openPacket p b s = none := by
  simp only [openPacket, hn, notReserved_of_openOk ho]
  simp [hl]

theorem openPacket_further {doc : Doc} (ho : openOk p s.dma[chanOf p] b s = true) (hf : findDoc (pktDoc b) s = some doc)
    (hb : doc.barred = false) (ha : doc.admitted = false) (hp : doc.opened.getLsbD p.val = false) (hl : doc.payload = openPayload b) :
    openPacket p b s = some (0, openDoc p (pktDoc b) s) := by
  simp only [openPacket, hf, ho, hb, ha, hp, hl, Bool.or_false, Bool.false_eq_true, if_false, beq_self_eq_true, Bool.and_self, if_true]

/-! ### A test line outside a document (R66) -/

theorem spitTest_maint {q : Fin 8} (hs : s.dma[chanOf p].frame = .idle) (hm : s.top.state = .maint) (hq : spitProfile p s = some q)
    (hh : headerOk p b = true) (hg : pktTags b &&& 0xFE#8 = 0) (hn : pktPlen b = 8) (hd : pktDoc b = s.dma[chanOf p].lastDoc)
    (hl : pktLine b = BitVec.allOnes 32)
    (ht : testOk (pktPayload b) (ebBpn (energyOf q s)) (recNozzles s.hp[p].record) false = true) :
    spitTest p b s = (0, setTrack p { s.track[p] with
      spits := s.track[p].spits ++ [(q, pktPayload b, leNat (pktPayload b) 6 2)] } s) := by
  have exp : expected s.dma[chanOf p] = (pktDoc b, pktLine b) := by simp only [expected, hs, hd, hl]
  simp only [spitTest, hq, exp, hh, hg, hn, ht, hm]
  simp

end

/-! ### Delivery (R68, R96, R99) -/

theorem headFails_of_passes {p : Port} {d : Dma} {len : Nat} {b : List Byte} (h : (checkPacket p d len b).1 = true) :
    headFails len b = false := by
  unfold checkPacket at h
  split at h
  · contradiction
  · next good => simpa using good

theorem recordFail_dma (p : Port) (w r : Word) (s : State) : (recordFail p w r s).dma[chanOf p] =
    { s.dma[chanOf p] with err := setBit s.dma[chanOf p].err 8, errCheck := satInc s.dma[chanOf p].errCheck } := by
  unfold recordFail
  dsimp only
  split <;> simp

theorem recordFail_now (p : Port) (w r : Word) (s : State) : (recordFail p w r s).now = s.now := by
  unfold recordFail
  dsimp only
  split <;> rfl

section
variable {p : Port} {b : List Byte} {c : CurDesc} {s : State}
  (hc : s.dma[chanOf p].cur = some c) (ht : takesData s.dma[chanOf p] c = true) (hb : c.header ++ b.drop c.header.length = b)
include hc ht hb

/-- A packet that has arrived whole and passed its check retires its descriptor with the status that routing gives it. -/
theorem deliverPacket_routed (hw : wholePacket s.dma[chanOf p] c b = true) (hk : (checkPacket p s.dma[chanOf p] c.desc.len b).1 = true)
    {st : Nat} {u : State} (hr : routePacket p b s = some (st, u)) :
    deliverPacket p b s =
      retirePacket p (if st = 0 && c.refetch then 1 else st) 0 b (checkPacket p s.dma[chanOf p] c.desc.len b).2.1 u := by
  have good := headFails_of_passes hk
  unfold deliverPacket
  simp [-Fin.getElem_fin, hc, ht, hb, hw, good, hk, hr]

/-- A packet that cannot be routed yet waits on its descriptor (R127). -/
theorem deliverPacket_waits (hw : wholePacket s.dma[chanOf p] c b = true) (hk : (checkPacket p s.dma[chanOf p] c.desc.len b).1 = true)
    (hr : routePacket p b s = none) :
    deliverPacket p b s = setDma (chanOf p) { s.dma[chanOf p] with cur := some { c with waitTable := some b } } s := by
  have good := headFails_of_passes hk
  unfold deliverPacket
  simp [-Fin.getElem_fin, hc, ht, hb, hw, good, hk, hr]

/-- A first failing fetch outside DISCARD is recorded, and the descriptor waits for its refetch (R97, R146). -/
theorem deliverPacket_refetches (hw : headFails c.desc.len b = true ∨ wholePacket s.dma[chanOf p] c b = true)
    (hk : (checkPacket p s.dma[chanOf p] c.desc.len b).1 = false) (hf : c.refetch = false) (hs : s.dma[chanOf p].frame ≠ .discard) :
    (deliverPacket p b s).dma[chanOf p] = { s.dma[chanOf p] with
      err := setBit s.dma[chanOf p].err 8, errCheck := satInc s.dma[chanOf p].errCheck
      reqs := s.dma[chanOf p].reqs.filter fun r => r.kind == .next
      cur := some { c with goal := 0, refetchAt := some (s.now + 16000), first := some (checkPacket p s.dma[chanOf p] c.desc.len b).2 } } := by
  have arrived : (!headFails c.desc.len b && !wholePacket s.dma[chanOf p] c b) = false := by
    rcases hw with h | h <;> simp [-Fin.getElem_fin, h]
  unfold deliverPacket
  simp [-Fin.getElem_fin, -setDma_dma, hc, ht, hb, arrived, hk, hf, hs, setDma_same, recordFail_dma, recordFail_now, usGrid]

/-- A command that delivers a first failing fetch leaves the descriptor with its refetch 2 µs later, on an unmoved channel. -/
theorem exec_refetches {cmd : Instr} (he : exec cmd s = .next (settle s (deliverPacket p b s)))
    (hw : headFails c.desc.len b = true ∨ wholePacket s.dma[chanOf p] c b = true)
    (hk : (checkPacket p s.dma[chanOf p] c.desc.len b).1 = false) (hf : c.refetch = false) (hs : s.dma[chanOf p].frame ≠ .discard) :
    ∃ t, exec cmd s = .next t ∧
      t.dma[chanOf p].unasked.cur = some { c with
        asked := 0, goal := 0, refetchAt := some (s.now + 16000), first := some (checkPacket p s.dma[chanOf p] c.desc.len b).2 } ∧
      t.dma[chanOf p].head = s.dma[chanOf p].head ∧ t.dma[chanOf p].retired = s.dma[chanOf p].retired ∧
      t.dma[chanOf p].frame = s.dma[chanOf p].frame ∧ t.dma[chanOf p].k = s.dma[chanOf p].k := by
  refine ⟨_, he, ?_⟩
  have kept := settle_unasked s (deliverPacket p b s) (chanOf p)
  rw [deliverPacket_refetches hc ht hb hw hk hf hs] at kept
  generalize (settle s (deliverPacket p b s)).dma[chanOf p] = d at kept ⊢
  exact ⟨congrArg Dma.cur kept, (congrArg Dma.head kept :), (congrArg Dma.retired kept :), (congrArg Dma.frame kept :),
    (congrArg Dma.k kept :)⟩

/-- A command that delivers a packet which is taken, with no descriptor ahead, moves the ring on, and leaves the framing `d` of routing. -/
theorem exec_takes {cmd : Instr} (he : exec cmd s = .next (settle s (deliverPacket p b s))) (hw : wholePacket s.dma[chanOf p] c b = true)
    (hk : (checkPacket p s.dma[chanOf p] c.desc.len b).1 = true) (ha : s.dma[chanOf p].ahead = none) {u : State} {d : Dma}
    (route : routePacket p b s = some (0, u)) (hu : u.dma[chanOf p] = d) (same : SameRing s.dma[chanOf p] d) :
    ∃ t, exec cmd s = .next t ∧
      (t.dma[chanOf p].head = BitVec.ofNat 16 ((s.dma[chanOf p].head.toNat + 1) % max 1 s.dma[chanOf p].entries.toNat) ∧
        t.dma[chanOf p].retired = s.dma[chanOf p].retired + 1 ∧ t.dma[chanOf p].code = (if c.refetch then 1 else 0) ∧
        t.dma[chanOf p].cur = none) ∧
      t.dma[chanOf p].frame = d.frame ∧ t.dma[chanOf p].openDoc = d.openDoc ∧ t.dma[chanOf p].lastDoc = d.lastDoc ∧
      t.dma[chanOf p].k = d.k := by
  subst hu
  have done := settle_retirePacket (same.cur.trans hc) (same.ahead.trans ha) s (if c.refetch then 1 else 0) 0 b
    (checkPacket p s.dma[chanOf p] c.desc.len b).2.1
  have delivered := deliverPacket_routed hc ht hb hw hk route
  simp only [decide_true, Bool.true_and] at delivered
  rw [← delivered] at done
  refine ⟨_, he, ⟨?_, ?_, ?_, done.cur⟩, done.frame, done.openDoc, done.lastDoc, done.k⟩
  · rw [done.head, same.head, same.entries]
  · rw [done.retired, same.retired]
  · rw [done.code]
    split <;> rfl

end

/-! ### The commands that bring packets -/

section
variable {p : Port} {b : List Byte} {s : State} {n : Nat}

/-- A packet of the row's type acts. -/
theorem after_onType_of_eq (h : pktType b = n) (hr : s.pwr.released = true) (f : State → State) :
    after s (onType [n] b f s) = .next (settle s (f s)) := by
  rw [onType, if_pos (by simp [h]), live_of_released hr, after]

/-- A packet of another type leaves the row nothing to act on (log entry 44). -/
theorem after_onType_of_ne (h : pktType b ≠ n) (f : State → State) : after s (onType [n] b f s) = .next (settle s s) := by
  rw [onType, if_neg (by simp [h]), after]

theorem exec_docOpen (ht : pktType b = 2) (hr : s.pwr.released = true) :
    exec (.docOpen p b) s = .next (settle s (deliverPacket p b s)) := after_onType_of_eq ht hr _

theorem exec_docClose (ht : pktType b = 3) (hr : s.pwr.released = true) :
    exec (.docClose p b) s = .next (settle s (deliverPacket p b s)) := after_onType_of_eq ht hr _

theorem exec_filler (ht : pktType b = 4) (hr : s.pwr.released = true) :
    exec (.filler p b) s = .next (settle s (deliverPacket p b s)) := after_onType_of_eq ht hr _

theorem exec_testLine (ht : pktType b = 5) (hr : s.pwr.released = true) :
    exec (.testLine p b) s = .next (settle s (deliverPacket p b s)) := after_onType_of_eq ht hr _

/-- A packet of no row of its own is handled with the lines (R69). -/
theorem exec_linePacket (h2 : pktType b ≠ 2) (h3 : pktType b ≠ 3) (h4 : pktType b ≠ 4) (h5 : pktType b ≠ 5) (hr : s.pwr.released = true) :
    exec (.linePacket p b) s = .next (settle s (deliverPacket p b s)) := by
  have other : ¬ [2, 3, 4, 5].contains (pktType b) = true := by simp [h2, h3, h4, h5]
  exact congrArg (after s) ((if_neg other).trans (live_of_released hr))

theorem exec_linePacket_other (h : pktType b = 2 ∨ pktType b = 3 ∨ pktType b = 4 ∨ pktType b = 5) :
    exec (.linePacket p b) s = .next (settle s s) := by
  have other : [2, 3, 4, 5].contains (pktType b) = true := by simpa using h
  exact congrArg (after s) (if_pos other)

/-- A line, type 1, is one of them. -/
theorem exec_linePacket_line (ht : pktType b = 1) (hr : s.pwr.released = true) :
    exec (.linePacket p b) s = .next (settle s (deliverPacket p b s)) :=
  exec_linePacket (by omega) (by omega) (by omega) (by omega) hr

end

/-! ### O18 -/

/-- Settles O18: each clause by what routing does with the packet, whose descriptor then retires by `deliverPacket_routed`; the channel
afterwards by `exec_takes`, and after a failing first fetch by `exec_refetches`. -/
theorem packets : Obligations.Packets := by
  unfold Obligations.Packets
  refine ⟨fun p b c st s u hr => ?_, fun p b s => ?_, fun p b s => ?_, fun p b c s hr => ?_, fun p b c s hr => ?_, fun p b c s hr => ?_⟩
  -- a packet that is routed
  · intro d k hc ht hw hb hk route done
    have delivered : .next (settle s (deliverPacket p b s)) = done := by rw [deliverPacket_routed hc ht hb hw hk route]
    exact ⟨fun h => (exec_linePacket_line h hr).trans delivered, fun h => (exec_docOpen h hr).trans delivered,
      fun h => (exec_docClose h hr).trans delivered, fun h => (exec_filler h hr).trans delivered,
      fun h => (exec_testLine h hr).trans delivered⟩
  -- a packet of another row's type
  · intro idle
    exact ⟨fun h => after_onType_of_ne h _, fun h => after_onType_of_ne h _, fun h => after_onType_of_ne h _,
      fun h => after_onType_of_ne h _, exec_linePacket_other, fun hr h2 h3 h4 h5 => exec_linePacket h2 h3 h4 h5 hr⟩
  -- routing
  · intro d
    exact ⟨routePacket_filler, routePacket_opened, routePacket_close, routePacket_discard, routePacket_idle_breach⟩
  -- a first check failure
  · intro d k hc ht hw hb hk hf hs refetches
    have kept {cmd : Instr} (he : exec cmd s = .next (settle s (deliverPacket p b s))) : refetches cmd :=
      exec_refetches hc ht hb he hw hk hf hs
    exact ⟨fun h => kept (exec_docOpen h hr), fun h => kept (exec_docClose h hr), fun h => kept (exec_filler h hr),
      fun h => kept (exec_testLine h hr), fun h2 h3 h4 h5 => kept (exec_linePacket h2 h3 h4 h5 hr)⟩
  -- what each packet does
  · intro d k hc ht hw hb hk done id
    have taken {cmd : Instr} {u : State} (h : exec cmd s = .next (settle s (deliverPacket p b s))) (route : routePacket p b s = some (0, u)) :
        exec cmd s = done u := by
      rw [h, deliverPacket_routed hc ht hb hw hk route]
      simp [done, k, d]
    refine ⟨fun h2 hs ho => ⟨fun hn hl => ?_, fun doc hf hbar hadm hop hpl => ?_, fun hn hl => ?_⟩, fun hs hl => ⟨fun h1 => ?_, fun h5 => ?_⟩,
      fun q h5 hs hm hq hh hg hn hd hl hok => ?_, fun h3 hs hh hg hd hl hn => ?_, fun h4 hh hg hd hl => ?_⟩
    · exact taken (exec_docOpen h2 hr) ((routePacket_open h2 hs).trans (openPacket_new ho hn hl))
    · exact taken (exec_docOpen h2 hr) ((routePacket_open h2 hs).trans (openPacket_further ho hf hbar hadm hop hpl))
    · rw [exec_docOpen h2 hr, deliverPacket_waits hc ht hb hw hk ((routePacket_open h2 hs).trans (openPacket_full ho hn hl))]
    · exact taken (exec_linePacket_line h1 hr) (routePacket_line hl hs (by omega))
    · exact taken (exec_testLine h5 hr) (routePacket_line hl hs (by omega))
    · exact taken (exec_testLine h5 hr) ((routePacket_test h5 hs).trans (congrArg some (spitTest_maint hs hm hq hh hg hn hd hl hok)))
    · exact taken (exec_docClose h3 hr) (routePacket_close (fillerOk_of_type_ne (by omega)) hs h3 hh hg hd hl hn)
    · exact taken (exec_filler h4 hr) (routePacket_filler (fillerOk_of_fields h4 hh hg hd hl))
  -- the channel afterwards
  · intro d hc ht hw hb hk ha retired
    have taken {cmd : Instr} {u : State} {d' : Dma} (he : exec cmd s = .next (settle s (deliverPacket p b s)))
        (route : routePacket p b s = some (0, u)) (hu : u.dma[chanOf p] = d') (same : SameRing d d') :=
      exec_takes hc ht hb he hw hk ha route hu same
    refine ⟨fun h2 hs ho hn hl => ?_, fun hs hl => ⟨fun h1 => ?_, fun h5 => ?_⟩, fun h3 hs hh hg hd hl hn => ?_, fun h4 hh hg hd hl => ?_⟩
    · obtain ⟨doc, opened⟩ := openDoc_dma (p := p) (openEntry_of_new (openPayload b) hn)
      exact taken (exec_docOpen h2 hr) ((routePacket_open h2 hs).trans (openPacket_new ho hn hl)) opened ⟨rfl, rfl, rfl, rfl, rfl⟩
    · obtain ⟨t, next, ring, frame, -, -, line⟩ := taken (exec_linePacket_line h1 hr) (routePacket_line hl hs (by omega))
        (takeLine_dma b hs) ⟨rfl, rfl, rfl, rfl, rfl⟩
      exact ⟨t, next, ring, line, frame⟩
    · obtain ⟨t, next, ring, frame, -, -, line⟩ := taken (exec_testLine h5 hr) (routePacket_line hl hs (by omega))
        (takeLine_dma b hs) ⟨rfl, rfl, rfl, rfl, rfl⟩
      exact ⟨t, next, ring, line, frame⟩
    · obtain ⟨t, next, ring, frame, -, lastDoc, -⟩ := taken (exec_docClose h3 hr)
        (routePacket_close (fillerOk_of_type_ne (by omega)) hs h3 hh hg hd hl hn) (frameIdle_dma (by rw [hs]; decide))
        ⟨rfl, rfl, rfl, rfl, rfl⟩
      exact ⟨t, next, ring, frame, lastDoc⟩
    · obtain ⟨t, next, ring, frame, -, lastDoc, line⟩ := taken (exec_filler h4 hr)
        (routePacket_filler (fillerOk_of_fields h4 hh hg hd hl)) rfl ⟨rfl, rfl, rfl, rfl, rfl⟩
      exact ⟨t, next, ring, frame, line, lastDoc⟩

end Sys2Proof.Machine

/-! ## Closed gates (O11) -/

namespace Sys2Proof.Machine

/-- Before configuration readiness a host access reaches nothing (R77, R78, R441). -/
theorem onHost_of_unready {f : State → State} {s : State} (h : s.link.cfgReady = false) : onHost f s = s := by
  simp [onHost, h]

/-- Nothing happens in the dies while they are held in reset (R421). -/
theorem live_of_held {f : State → State} {s : State} (h : s.pwr.released = false) : live f s = s := by
  simp [live, h]

theorem onType_of_held {l : List Nat} {b : List Byte} {f : State → State} {s : State} (h : s.pwr.released = false) : onType l b f s = s := by
  rw [onType, live_of_held h, ite_self]

/-- Settles O11: each command passes one of the two gates, and a command whose gate is closed leaves only the settling of its clock. -/
theorem gatesHold : Obligations.GatesHold := by
  unfold Obligations.GatesHold
  intro s
  constructor
  · intro hc
    have barred (f : State → State) : after s (onHost f s) = .next (settle s s) := congrArg (after s) (onHost_of_unready hc)
    refine ⟨fun _ _ _ => barred _, fun _ _ _ => barred _, fun _ _ _ => barred _, fun ch val lo hi => ?_, fun _ => barred _,
      fun _ => barred _, barred _⟩
    cases lo with
    | true => exact congrArg (after s) ((if_pos rfl).trans (onHost_of_unready hc))
    | false => rfl
  · intro hr
    have dead (f : State → State) : after s (live f s) = .next (settle s s) := congrArg (after s) (live_of_held hr)
    exact ⟨fun _ _ _ => dead _, fun _ _ => congrArg (after s) (onType_of_held hr), fun _ _ _ _ _ _ => dead _, fun _ => dead _,
      fun _ _ => dead _, dead _⟩

end Sys2Proof.Machine

/-! ## The channels after a command -/

namespace Sys2Proof.Machine

/-- Of the channels, settling changes the read requests only. -/
theorem settle_dma (s0 s : State) : (settle s0 s).dma.map Dma.unasked = s.dma.map Dma.unasked := by
  obtain ⟨-, -, -, -, -, -, -, -, -, -, -, -, -, -, -, -, dma⟩ := settle_settled s0 s
  exact dma

section
variable {cmd : Instr} {ch : Chan} {d : Dma} {s u : State} (he : exec cmd s = .next (settle s u))
include he

/-- A command that replaces channel `ch` by `d` leaves the channels so but for the read requests. -/
theorem exec_sets_dma (hu : u.dma = s.dma.set ch.val d ch.isLt) :
    ∃ t, exec cmd s = .next t ∧ t.dma.map Dma.unasked = (s.dma.set ch.val d ch.isLt).map Dma.unasked :=
  ⟨_, he, by rw [settle_dma, hu]⟩

/-- A command that leaves channel `ch` as `d` leaves it so but for its read requests. -/
theorem exec_leaves_unasked (hu : u.dma[ch].unasked = d.unasked) : ∃ t, exec cmd s = .next t ∧ t.dma[ch].unasked = d.unasked :=
  ⟨_, he, (settle_unasked s u ch).trans hu⟩

end

end Sys2Proof.Machine

/-! ## Ring sizes (O15) -/

namespace Sys2Proof.Machine

theorem exec_ringSizeWrite {s : State} (hc : s.link.cfgReady = true) (ch : Chan) (val : Word) :
    exec (.ringSizeWrite ch val) s = .next (settle s (writeRingSize ch val (touchLink s))) :=
  congrArg (after s) (onHost_of_ready hc)

section
variable {ch : Chan} {w : Word} {s : State}

theorem writeRingSize_of_enabled (h : s.dma[ch].enable = true) : writeRingSize ch w s = countIgnored s := unlessLocked_of_locked h

/-- A size of R87 goes into ENTRIES. -/
theorem writeRingSize_of_size {k : Nat} (hk : k < 13) (hw : w.toNat % 131072 = 16 * 2 ^ k) (h : s.dma[ch].enable = false) :
    writeRingSize ch w s = setDma ch { s.dma[ch] with entries := BitVec.ofNat 17 (16 * 2 ^ k) } s := by
  have found : ((List.range 13).any fun i => 16 * 2 ^ k == 16 * 2 ^ i) = true :=
    List.any_eq_true.2 ⟨k, List.mem_range.2 hk, beq_self_eq_true _⟩
  rw [writeRingSize, unlessLocked_of_open h]
  simp only [hw, found, if_true, modDma]

/-- Any other value is refused with RING_SIZE_BAD. -/
theorem writeRingSize_of_other (hw : ∀ k < 13, w.toNat % 131072 ≠ 16 * 2 ^ k) (h : s.dma[ch].enable = false) :
    writeRingSize ch w s = chanErr ch 1 s := by
  have refused : ((List.range 13).any fun i => w.toNat % 131072 == 16 * 2 ^ i) = false :=
    List.any_eq_false.2 fun k hk => by simpa using hw k (List.mem_range.1 hk)
  rw [writeRingSize, unlessLocked_of_open h]
  simp only [refused, Bool.false_eq_true, if_false]

end

/-- Settles O15: a size is taken or refused as `writeRingSize` has it, and settling leaves the rings alone. -/
theorem ringSize : Obligations.RingSize := by
  unfold Obligations.RingSize
  intro ch val s hc d
  have written := exec_ringSizeWrite hc ch val
  refine ⟨fun k hk hv he => ?_, fun hv he => ?_, fun he => ?_⟩
  · exact exec_sets_dma written (congrArg State.dma (writeRingSize_of_size (s := touchLink s) hk hv he))
  · exact exec_sets_dma written (congrArg State.dma (writeRingSize_of_other (s := touchLink s) hv he))
  · rw [written, writeRingSize_of_enabled (s := touchLink s) he]

end Sys2Proof.Machine

/-! ## What the rings leave beside them -/

namespace Sys2Proof.Machine

/-- The device state, the power block and the management block are the same in both states: no operation on a ring changes them. -/
structure Beside (a b : State) : Prop where
  top : a.top = b.top
  pwr : a.pwr = b.pwr
  mgt : a.mgt = b.mgt

namespace Beside

theorem refl (s : State) : Beside s s := ⟨rfl, rfl, rfl⟩

theorem trans {a b c : State} (h1 : Beside a b) (h2 : Beside b c) : Beside a c :=
  ⟨h1.top.trans h2.top, h1.pwr.trans h2.pwr, h1.mgt.trans h2.mgt⟩

/-- What happens on a condition. -/
theorem when (c : Prop) [Decidable c] {t s : State} (h : Beside t s) : Beside (if c then t else s) s := by
  split
  · exact h
  · exact .refl s

/-- One of two things happens. -/
theorem either (c : Prop) [Decidable c] {t u s : State} (ht : Beside t s) (hu : Beside u s) : Beside (if c then t else u) s := by
  split
  · exact ht
  · exact hu

end Beside

theorem setDma_beside (ch : Chan) (d : Dma) (s : State) : Beside (setDma ch d s) s := ⟨rfl, rfl, rfl⟩

theorem raise_beside (src : Nat) (s : State) : Beside (raise src s) s := ⟨rfl, rfl, rfl⟩

theorem hostWrite_beside (a : DWord) (b : List Byte) (s : State) : Beside (hostWrite a b s) s := ⟨rfl, rfl, rfl⟩

theorem logUser_beside (ch : Chan) (code : Nat) (desc : Desc) (s : State) : Beside (logUser ch code desc s) s := ⟨rfl, rfl, rfl⟩

theorem stopAt_beside (ch : Chan) (s : State) : Beside (stopAt ch s) s := ⟨rfl, rfl, rfl⟩

theorem chanErr_beside (ch : Chan) (i : Nat) (s : State) : Beside (chanErr ch i s) s := ⟨rfl, rfl, rfl⟩

theorem modUnit_beside (i : Fin 8) (f : ChkUnit → ChkUnit) (s : State) : Beside (modUnit i f s) s := ⟨rfl, rfl, rfl⟩

theorem finishUnit_beside (i : Fin 8) (s : State) : Beside (finishUnit i s) s := by
  unfold finishUnit
  exact (Beside.when _ (raise_beside _ _)).trans ((Beside.when _ (raise_beside _ _)).trans (modUnit_beside _ _ s))

theorem takeRecord_beside (tap : Nat) (b : List Byte) (i : Fin 8) (s : State) : Beside (takeRecord tap b i s) s := by
  unfold takeRecord
  exact (Beside.when _ (finishUnit_beside _ _)).trans (modUnit_beside _ _ s)

/-- A record that passes a tap concerns the check units only (R153). -/
theorem snoopRecord_beside (tap : Nat) (b : List Byte) (s : State) : Beside (snoopRecord tap b s) s := by
  have unit (s : State) (i : Fin 8) : Beside (snoopUnit tap b s i) s :=
    .when _ (.either _ (modUnit_beside _ _ s) (takeRecord_beside _ _ _ s))
  have fold (l : List (Fin 8)) (s : State) : Beside (l.foldl (snoopUnit tap b) s) s := by
    induction l generalizing s with
    | nil => exact .refl s
    | cons i l ih => exact (ih _).trans (unit s i)
  exact fold _ s

theorem rejectDesc_beside (ch : Chan) (code bit : Nat) (s : State) : Beside (rejectDesc ch code bit s) s := by
  unfold rejectDesc
  refine (raise_beside _ _).trans ((stopAt_beside _ _).trans ((setDma_beside _ _ _).trans ?_))
  split
  · exact logUser_beside _ _ _ s
  · exact .refl s

theorem retire_beside (ch : Chan) (st flags : Nat) (moved : List Byte) (w : Word) (s : State) : Beside (retire ch st flags moved w s) s := by
  unfold retire
  dsimp only
  split
  · exact .refl s
  · exact (Beside.when _ (stopAt_beside _ _)).trans ((Beside.when _ (raise_beside _ _)).trans ((Beside.when _ (hostWrite_beside _ _ _)).trans
      ((Beside.when _ (hostWrite_beside _ _ _)).trans ((Beside.when _ (logUser_beside _ _ _ _)).trans
        ((snoopRecord_beside _ _ _).trans (setDma_beside _ _ s))))))

theorem beginDelivery_beside (ch : Chan) (c : CurDesc) (s : State) : Beside (beginDelivery ch c s) s := by
  unfold beginDelivery
  exact .either _ (setDma_beside _ _ s) ⟨rfl, rfl, rfl⟩

theorem becomeCurrent_beside (ch : Chan) (c : CurDesc) (s : State) : Beside (becomeCurrent ch c s) s := by
  have current (u : State) (d : Dma) (h : Beside u (setDma ch d s)) : Beside u s := h.trans (setDma_beside _ _ s)
  unfold becomeCurrent
  refine .either _ ?_ (.either _ ?_ (.either _ ?_ (.either _ ?_ (.either _ ?_ (.either _ ?_ ?_)))))
  · exact (raise_beside _ _).trans ((chanErr_beside _ _ _).trans (current _ _ (retire_beside _ _ _ _ _ _)))
  · exact current _ _ (rejectDesc_beside _ _ _ _)
  · exact current _ _ (rejectDesc_beside _ _ _ _)
  · exact setDma_beside _ _ s
  · exact current _ _ (rejectDesc_beside _ _ _ _)
  · exact current _ _ (setDma_beside _ _ _)
  · exact current _ _ (beginDelivery_beside _ _ _)

theorem proceed_beside (ch : Chan) (s : State) : Beside (proceed ch s) s := by
  unfold proceed
  dsimp only
  split
  · exact (becomeCurrent_beside _ _ _).trans (setDma_beside _ _ s)
  · exact .refl s

theorem chanWake_beside (ch : Chan) (s : State) : Beside (chanWake ch s) s :=
  .when _ (.either _ (stopAt_beside _ s) (proceed_beside _ s))

end Sys2Proof.Machine

/-! ## Doorbells (O13) -/

namespace Sys2Proof.Machine

/-- The high half alone rings nothing (R88). -/
theorem exec_doorbell_highOnly (ch : Chan) (val : DWord) (hi : Bool) (s : State) :
    exec (.doorbell ch val false hi) s = .next (settle s s) := rfl

/-- The clock of a wake source that WAKE_SRC enables at `bit` is noted (R424). -/
def noteWake (bit : Nat) (s : State) : State :=
  if s.pwr.cfg.getLsbD bit then modPwr (fun p => { p with wakeSeen := some s.now }) s else s

/-- Outside SLEEP a wake source is noted and does nothing more. -/
theorem wakeBy_of_awake {s : State} (bit : Nat) (h : s.top.state ≠ .sleep) : wakeBy bit s = noteWake bit s := by
  unfold wakeBy noteWake leaveSleep
  rw [if_neg (show ¬ (modPwr _ s).top.state = .sleep from h)]

/-- In SLEEP an enabled wake source wakes the device (R426). -/
theorem wakeBy_of_enabled {s : State} {bit : Nat} (h : s.pwr.cfg.getLsbD bit = true) :
    wakeBy bit s = leaveSleep (1#32 <<< (bit - 8)) (noteWake bit s) := by
  unfold wakeBy noteWake
  rw [if_pos h, if_pos h]

/-- R89's conditions on a doorbell value. -/
theorem badBell_eq_false_iff (d : Dma) (v : DWord) :
    badBell d v = false ↔ v >>> 16 = 0 ∧ (v.setWidth 16).toNat < max 1 d.entries.toNat ∧
      inFlight d ≤ ((v.setWidth 16).toNat + max 1 d.entries.toNat - d.head.toNat % max 1 d.entries.toNat) % max 1 d.entries.toNat := by
  simp only [badBell, Bool.or_eq_false_iff, decide_eq_false_iff_not, bne_eq_false_iff_eq, not_le, not_lt]
  tauto

section
variable {ch : Chan} {v : DWord} {s : State}

/-- Before READY the value is latched (R79). -/
theorem doorbell_of_closed (h : s.link.readyGate = true) : doorbell ch v s = setDma ch { s.dma[ch] with latched := some v } s := by
  simp [doorbell, gateOpen, h]

theorem doorbell_of_open (h : s.link.readyGate = false) : doorbell ch v s = ringBell ch v s := by
  simp [doorbell, gateOpen, h]

theorem ringBell_of_lost (h : s.dma[ch].state = .killed ∨ s.dma[ch].state = .resetting) : ringBell ch v s = s := by
  unfold ringBell
  rcases h with e | e <;> simp only [e]

theorem ringBell_of_acting (hk : s.dma[ch].state ≠ .killed) (hr : s.dma[ch].state ≠ .resetting) : ringBell ch v s =
    if badBell s.dma[ch] v then raise Src.dbBad (chanErr ch 0 s) else chanWake ch (setDma ch { s.dma[ch] with tail := v.setWidth 16 } s) := by
  unfold ringBell
  dsimp only
  split
  · contradiction
  · contradiction
  · rfl

/-- A channel that is not running, or has something to complete, or nothing to stop for and nothing ahead, stays as it is. -/
theorem chanWake_idle
    (h : s.dma[ch].state ≠ .running ∨ hasCurrent s.dma[ch] = true ∨ (s.dma[ch].stopReq = false ∧ s.dma[ch].ahead = none)) :
    chanWake ch s = s := by
  unfold chanWake
  dsimp only
  split
  · next running =>
    rcases h with h | current | ⟨goes, bare⟩
    · contradiction
    · rw [if_neg (by simp [-Fin.getElem_fin, current])]
      simp only [proceed, running, current]
    · rw [if_neg (by simp [-Fin.getElem_fin, goes]), proceed_of_noneAhead bare]
  · rfl

end

/-- Settles O13: what the doorbell does by `doorbell_of_closed` and `ringBell_of_acting`, then the wake source by `wakeBy_of_awake`, since
nothing that a doorbell does touches the device state or PWR.CFG. -/
theorem doorbells : Obligations.Doorbells := by
  unfold Obligations.Doorbells
  intro ch val hi s hc d v n
  refine ⟨badBell_eq_false_iff d v, ?_⟩
  intro woken
  have acts {u w : State} (hu : doorbell ch v (touchLink s) = u) (hw : wakeBy 12 u = w) :
      exec (.doorbell ch val true hi) s = .next (settle s w) := by
    rw [exec_doorbell hc, ← hw, ← hu]
  have noted {u : State} (hu : Beside u s) : noteWake 12 u = woken u := by
    simp only [noteWake, modPwr, hu.pwr, woken]
  have wakes {u : State} (hs : s.top.state ≠ .sleep) (hu : Beside u s) : wakeBy 12 u = woken u :=
    (wakeBy_of_awake 12 (by rw [hu.top]; exact hs)).trans (noted hu)
  have wokenDma (u : State) : (woken u).dma = u.dma := by
    simp only [woken]
    split <;> rfl
  have touched : Beside (touchLink s) s := ⟨rfl, rfl, rfl⟩
  have changed (d : Dma) : Beside (setDma ch d (touchLink s)) s := (setDma_beside _ _ _).trans touched
  have latched (hg : s.link.readyGate = true) := doorbell_of_closed (ch := ch) (v := v) (s := touchLink s) hg
  refine ⟨exec_doorbell_highOnly ch val hi s, fun hg hs => ?_, fun hg hs hw => ?_, fun hg hs => ?_⟩
  -- before READY
  · have he := acts (latched hg) (wakes hs (changed _))
    exact exec_sets_dma he (wokenDma _)
  -- in SLEEP
  · have leaves {u : State} (hu : Beside u s) : wakeBy 12 u = leaveSleep 16 (woken u) := by
      rw [wakeBy_of_enabled (by rw [hu.pwr]; exact hw), noted hu]
      rfl
    exact acts (latched hg) (leaves (changed _))
  -- from READY on
  · have rings {u w : State} (hu : ringBell ch v (touchLink s) = u) (hw : wakeBy 12 u = w) :=
      acts ((doorbell_of_open (s := touchLink s) hg).trans hu) hw
    have acting := ringBell_of_acting (ch := ch) (v := v) (s := touchLink s)
    refine ⟨fun hl => rings (ringBell_of_lost (s := touchLink s) hl) (wakes hs touched), fun hk hr hb => ?_,
      fun hk hr hb => ⟨?_, fun rests => ?_⟩⟩
    · exact rings ((acting hk hr).trans (if_pos hb)) (wakes hs ((raise_beside _ _).trans (changed _)))
    · exact rings ((acting hk hr).trans (if_neg (ne_true_of_eq_false hb))) (wakes hs ((chanWake_beside _ _).trans (changed _)))
    · have kept (u : State) (h : u.dma[ch] = { d with tail := v.setWidth 16 }) : chanWake ch u = u :=
        chanWake_idle (by rw [h]; exact rests)
      have he := rings (((acting hk hr).trans (if_neg (ne_true_of_eq_false hb))).trans (kept _ (setDma_same _ _ _))) (wakes hs (changed _))
      exact exec_sets_dma he (wokenDma _)

end Sys2Proof.Machine

/-! ## The control bits of a channel (O14) -/

namespace Sys2Proof.Machine

/-! ### What changes the framing of channels only (R45, R112) -/

/-- A channel apart from its framing. -/
def Dma.unframed (d : Dma) : Dma := { d with frame := .idle, k := 0, lastDoc := 0, openDoc := 0, lineCount := 0, prevTest := false }

/-- The channels of both states agree but for their framing. -/
def Reframed (a b : State) : Prop := a.dma.map Dma.unframed = b.dma.map Dma.unframed

namespace Reframed

theorem refl (s : State) : Reframed s s := rfl

theorem trans {a b c : State} (h1 : Reframed a b) (h2 : Reframed b c) : Reframed a c := Eq.trans h1 h2

theorem of_dma {a b : State} (h : a.dma = b.dma) : Reframed a b := by rw [Reframed, h]

theorem of_steady {a b : State} (h : Steady a b) : Reframed a b := of_dma h.2.2.1

theorem channel {a b : State} (h : Reframed a b) (ch : Chan) : a.dma[ch].unframed = b.dma[ch].unframed := by
  simpa using congrArg (·[ch]) h

theorem foldl {α : Type} {g : State → α → State} (h : ∀ s a, Reframed (g s a) s) (l : List α) (s : State) : Reframed (l.foldl g s) s :=
  foldl_keep (fun s => s.dma.map Dma.unframed) g h l s

theorem either (c : Prop) [Decidable c] {t u s : State} (ht : Reframed t s) (hu : Reframed u s) : Reframed (if c then t else u) s := by
  split
  · exact ht
  · exact hu

end Reframed

theorem setDma_reframed {ch : Chan} {d : Dma} {s : State} (h : d.unframed = s.dma[ch].unframed) : Reframed (setDma ch d s) s := by
  unfold Reframed
  apply Vector.ext
  intro i hi
  simp only [setDma, Vector.getElem_map, Vector.getElem_set]
  split
  · next e => subst e; exact h
  · rfl

theorem frameIdle_reframed (p : Port) (s : State) : Reframed (frameIdle p s) s := by
  unfold frameIdle
  exact .either _ ((Reframed.of_dma (sweepBarred_dma _)).trans (setDma_reframed rfl)) (setDma_reframed rfl)

theorem frameToDiscard_reframed (id : Word) (s : State) (p : Port) : Reframed (frameToDiscard id s p) s := by
  unfold frameToDiscard
  exact .either _ (.either _ ((frameIdle_reframed _ _).trans (setDma_reframed rfl)) (setDma_reframed rfl)) (.refl s)

theorem discardHolders_reframed (id : Word) (s : State) : Reframed (discardHolders id s) s := .foldl (frameToDiscard_reframed id) _ s

theorem barDoc_reframed (id : Word) (s : State) : Reframed (barDoc id s) s :=
  (discardHolders_reframed _ _).trans ((Reframed.of_steady (releaseDoc_steady _ _)).trans (.of_steady (modDoc_steady _ _ s)))

theorem withdrawDoc_reframed (id : Word) (s : State) : Reframed (withdrawDoc id s) s :=
  (Reframed.of_steady (docDone_steady _ _)).trans (discardHolders_reframed id s)

/-- The end of a channel's documents at its reset moves the framing of channels at most. -/
theorem channelReset_reframed (p : Port) (s : State) : Reframed (channelReset p s) s := by
  unfold channelReset
  refine (Reframed.of_dma (noteOpened_dma _ _ _)).trans (.foldl (fun s d => ?_) _ s)
  have marked : Reframed (if d.faulty.isSome then s else
      markDoc d.id 0x0A p.val (if d.trigged.isSome then min d.ports[p].nextAhead d.lineCount else noLine) s) s :=
    .either _ (.refl s) (.of_steady (markDoc_steady _ _ _ _ s))
  exact .either _ ((barDoc_reframed _ _).trans marked) (.either _ ((withdrawDoc_reframed _ _).trans marked)
    ((Reframed.of_steady (releaseLines_steady _ _ _)).trans ((Reframed.of_steady (modDocPort_steady _ _ _ _)).trans marked)))

/-! ### What follows a kill or a reset leaves the channels -/

theorem failSession_dma (s : State) : (failSession s).dma = s.dma := by
  obtain ⟨-, -, logged, -⟩ := logUpdate_steady 2 (releaseUnit true s)
  obtain ⟨-, -, released, -⟩ := releaseUnit_steady true s
  have drops (t : State) : (dropAux t).dma = t.dma := rfl
  rw [failSession, drops, modMgt_dma, mgtErr, modMgt_dma, logged, released]

@[simp] theorem auxLost_dma (ch : Chan) (s : State) : (auxLost ch s).dma = s.dma := by
  unfold auxLost
  split
  · rfl
  · split
    · rfl
    · split
      · exact failSession_dma s
      · rfl

theorem dropTransfer_dma (ch : Chan) (s : State) : (dropTransfer ch s).dma = s.dma := by
  unfold dropTransfer
  split <;> rfl

/-! ### The control bits (R107, R108, R109) -/

theorem hasCurrent_eq_false_iff (d : Dma) : hasCurrent d = false ↔ d.cur = none ∧ d.refetching = none := by
  simp [hasCurrent]

/-- Where a channel with no descriptor current stops (R107): STOPPED needs the end of its abandoned requests. -/
theorem stopAt_unasked {ch : Chan} {d : Dma} {s : State} (hd : s.dma[ch] = d) (hc : hasCurrent d = false) :
    (stopAt ch s).dma[ch].unasked = Dma.unasked { d with
      state := if (abandoned d).isEmpty then .stopped else .stopping, stopReq := true, cur := none, ahead := none, refetching := none
      dropped := abandoned d } := by
  subst hd
  obtain ⟨cur, -⟩ := (hasCurrent_eq_false_iff _).1 hc
  rw [stopAt_dma]
  simp only [Dma.unasked, cur, Option.map_none]

section
variable {ch : Chan} {s : State}

theorem chanWake_stops (hr : s.dma[ch].state = .running) (hs : s.dma[ch].stopReq = true) (hc : hasCurrent s.dma[ch] = false) :
    chanWake ch s = stopAt ch s := by
  unfold chanWake
  simp only [hr, hs, hc, Bool.not_false, and_self, if_true]

theorem enableChan_of_disabled (hd : s.dma[ch].state = .disabled) (hk : checkerOut ch s = false) :
    enableChan ch s = chanWake ch (setDma ch { s.dma[ch] with enable := true, state := .running } s) :=
  if_pos ⟨hd, by rw [hk]; rfl⟩

theorem enableChan_of_ne (h : s.dma[ch].state ≠ .disabled) : enableChan ch s = s := if_neg fun k => h k.1

theorem stopChan_idle (hr : s.dma[ch].state = .running) (hc : hasCurrent s.dma[ch] = false) :
    stopChan ch s = stopAt ch (setDma ch { s.dma[ch] with stopReq := true } s) := by
  simp only [stopChan, hr, hc, Bool.false_eq_true, if_false]

theorem stopChan_delivering (hr : s.dma[ch].state = .running) (hc : hasCurrent s.dma[ch] = true) :
    stopChan ch s = setDma ch { s.dma[ch] with stopReq := true, state := .stopping } (setDma ch { s.dma[ch] with stopReq := true } s) := by
  simp only [stopChan, hr, hc, if_true]

theorem stopChan_of_ne (hr : s.dma[ch].state ≠ .running) : stopChan ch s = setDma ch { s.dma[ch] with stopReq := true } s := by
  unfold stopChan
  dsimp only
  split
  · contradiction
  · rfl

theorem resumeChan_of_stopped (h : s.dma[ch].state = .stopping ∨ s.dma[ch].state = .stopped) :
    resumeChan ch s = chanWake ch (setDma ch { s.dma[ch] with stopReq := false, state := .running } s) := if_pos h

theorem canKill_iff (d : Dma) :
    canKill d = true ↔ d.state = .running ∨ d.state = .stopping ∨ d.state = .stopped ∨ d.state = .halted := by
  simp [canKill, works, or_assoc]

theorem works_iff (d : Dma) : works d = true ↔ d.state = .running ∨ d.state = .stopping := by
  simp [works]

theorem killChannel_of_canKill (h : canKill s.dma[ch] = true) : killChannel ch s = auxLost ch (killChan ch s) := if_pos h

theorem killChannel_of_not (h : canKill s.dma[ch] = false) : killChannel ch s = s := if_neg (ne_true_of_eq_false h)

/-- What a kill makes of the channel itself, before its documents or its data are looked at. -/
def abandonAll (ch : Chan) (s : State) : State :=
  let s := loseCounts ch (tapCut (tapChan ch) s)
  let d := s.dma[ch]
  setDma ch { d with
    state := .killed, code := 0x14, cur := none, ahead := none, refetching := none, reqs := [], dropped := abandoned d } s

theorem killChan_line {p : Port} (h : canKill s.dma[chanOf p] = true) :
    killChan (chanOf p) s = channelLost p 0x07 (abandonAll (chanOf p) s) := by
  have line : lineChan (chanOf p) = some p := dif_pos p.isLt
  rw [killChan, if_pos h]
  simp only [line]
  rfl

theorem killChan_aux (h : canKill s.dma[ch] = true) (h16 : 16 ≤ ch.val) : killChan ch s = dropTransfer ch (abandonAll ch s) := by
  have aux : lineChan ch = none := dif_neg (by omega)
  rw [killChan, if_pos h]
  simp only [aux]
  rfl

/-- `t` is the channel `d` after a kill (R108). -/
structure KilledFrom (d t : Dma) : Prop where
  state : t.state = .killed
  code : t.code = 0x14
  cur : t.cur = none
  ahead : t.ahead = none
  refetching : t.refetching = none
  dropped : t.dropped = abandoned d

theorem KilledFrom.of_unasked {d t t' : Dma} (h : KilledFrom d t) (e : t'.unasked = t.unasked) : KilledFrom d t' where
  state := (congrArg Dma.state e).trans h.state
  code := (congrArg Dma.code e).trans h.code
  cur := by simpa [Dma.unasked, h.cur] using congrArg Dma.cur e
  ahead := (congrArg Dma.ahead e).trans h.ahead
  refetching := (congrArg Dma.refetching e).trans h.refetching
  dropped := (congrArg Dma.dropped e).trans h.dropped

theorem loseCounts_same (ch : Chan) (s : State) : (loseCounts ch s).dma[ch] = { s.dma[ch] with
    head := (Config.freeWord s.free).setWidth 16, retired := (Config.freeWord s.free >>> 16).setWidth 32 } := setDma_same _ _ _

theorem abandonAll_killed (ch : Chan) (s : State) : KilledFrom s.dma[ch] (abandonAll ch s).dma[ch] := by
  unfold abandonAll
  dsimp only
  rw [setDma_same, loseCounts_same]
  exact ⟨rfl, rfl, rfl, rfl, rfl, rfl⟩

theorem channelDocs_abandonAll (p : Port) (s : State) : channelDocs p (abandonAll (chanOf p) s) = channelDocs p s := by
  have frame : (abandonAll (chanOf p) s).dma[chanOf p].frame = s.dma[chanOf p].frame ∧
      (abandonAll (chanOf p) s).dma[chanOf p].openDoc = s.dma[chanOf p].openDoc := by
    unfold abandonAll
    dsimp only
    rw [setDma_same, loseCounts_same]
    exact ⟨rfl, rfl⟩
  unfold channelDocs
  dsimp only
  rw [frame.1, frame.2]
  rfl

theorem channelLost_of_none {p : Port} {reason : Nat} (h : channelDocs p s = []) : channelLost p reason s = s := by
  rw [channelLost, h]
  rfl

/-- A killed channel works no more. -/
theorem killChan_state (h : canKill s.dma[ch] = true) : (killChan ch s).dma[ch].state = .killed := by
  rw [(killChan_statesKept h).state ch, setDma_same]

/-- RESET in these states leaves the channel to its outstanding requests. -/
theorem resetChan_at_rest
    (h : s.dma[ch].state = .disabled ∨ s.dma[ch].state = .stopped ∨ s.dma[ch].state = .halted ∨ s.dma[ch].state = .killed) :
    resetChan ch s = setDma ch { s.dma[ch] with state := .resetting } s := by
  have idle : ¬ works s.dma[ch] = true := by
    rw [works_iff]
    rcases h with h | h | h | h <;> rw [h] <;> decide
  simp only [resetChan, idle, Bool.false_eq_true, if_false]
  rcases h with h | h | h | h <;> simp only [h]

/-- RESET of a channel that works kills it first. -/
theorem resetChan_working (h : works s.dma[ch] = true) : resetChan ch s = resetChan ch (killChan ch s) := by
  have killed : ¬ works (killChan ch s).dma[ch] = true := by
    rw [works_iff, killChan_state (canKill_of_works h)]
    decide
  conv_lhs => unfold resetChan
  conv_rhs => unfold resetChan
  simp only [h, killed, Bool.false_eq_true, if_true, if_false]

theorem resetChannel_of_ne (h : s.dma[ch].state ≠ .resetting) : resetChannel ch s = auxLost ch (resetChan ch s) := if_neg h

/-- The channel as its reset leaves it. -/
def Dma.restarted (d : Dma) : Dma :=
  { d with
    state := .disabled, enable := false, stopReq := false, head := 0, tail := 0, retired := 0
    errCheck := 0, errRetries := 0, frame := .idle, k := 0, lastDoc := 0, openDoc := 0, lineCount := 0
    prevTest := false, cur := none, ahead := none, reqs := [], dropped := [], refetching := none, latched := none }

theorem finishReset_dma (h : s.dma[ch].state = .resetting) : (finishReset ch s).dma[ch] = s.dma[ch].restarted := by
  have unframed {u : State} (hu : Reframed u s) : u.dma[ch].restarted = s.dma[ch].restarted :=
    (congrArg Dma.restarted (hu.channel ch) : u.dma[ch].unframed.restarted = s.dma[ch].unframed.restarted)
  cases line : lineChan ch with
  | some p =>
    simp only [finishReset, h, if_true, line]
    exact (setDma_same _ _ _).trans (unframed (channelReset_reframed p s))
  | none =>
    simp only [finishReset, h, if_true, line]
    exact (setDma_same _ _ _).trans (unframed (.of_dma (dropTransfer_dma ch s)))

end

/-! ### The commands -/

section
variable {s : State} (hc : s.link.cfgReady = true) (ch : Chan)
include hc

theorem exec_dmaEnable : exec (.dmaEnable ch) s = .next (settle s (enableChan ch (countWhen s.dma[ch].enable (touchLink s)))) :=
  after_onHost hc rfl

theorem exec_dmaStopReq : exec (.dmaStopReq ch) s = .next (settle s (stopChan ch (countWhen s.dma[ch].enable (touchLink s)))) :=
  after_onHost hc rfl

theorem exec_dmaResume : exec (.dmaResume ch) s = .next (settle s (resumeChan ch (countWhen s.dma[ch].enable (touchLink s)))) :=
  after_onHost hc rfl

theorem exec_dmaKill : exec (.dmaKill ch) s = .next (settle s (killChannel ch (countWhen s.dma[ch].enable (touchLink s)))) :=
  after_onHost hc rfl

theorem exec_dmaReset : exec (.dmaReset ch) s = .next (settle s (resetChannel ch (countWhen s.dma[ch].enable (touchLink s)))) :=
  after_onHost hc rfl

end

theorem exec_dmaResetDone {s : State} (hr : s.pwr.released = true) (ch : Chan) :
    exec (.dmaResetDone ch) s = .next (settle s (finishReset ch s)) :=
  after_live hr rfl

/-- A killed channel, after the command that killed it. -/
theorem exec_kills {cmd : Instr} {ch : Chan} {d : Dma} {s u : State} (he : exec cmd s = .next (settle s u)) (hu : KilledFrom d u.dma[ch]) :
    ∃ t, exec cmd s = .next t ∧ t.dma[ch].state = .killed ∧ t.dma[ch].code = 0x14 ∧ t.dma[ch].cur = none ∧
      t.dma[ch].ahead = none ∧ t.dma[ch].refetching = none ∧ t.dma[ch].dropped = abandoned d := by
  obtain ⟨state, code, cur, ahead, refetching, dropped⟩ := hu.of_unasked (settle_unasked s u ch)
  exact ⟨_, he, state, code, cur, ahead, refetching, dropped⟩

/-- Settles O14: each control bit by what it does in the state that the clause names, and what the channel is then by its update. -/
theorem channelControl : Obligations.ChannelControl := by
  unfold Obligations.ChannelControl
  intro ch s hc d ign bare
  have dma : ign.dma = s.dma := by simp [ign]
  have same : ign.dma[ch] = d := by rw [dma]
  have changed (e : Dma) : (setDma ch e ign).dma[ch] = e := setDma_same _ _ _
  have noted : checkerOut ch ign = checkerOut ch s := by simp [ign, checkerOut]
  refine ⟨fun hd hk => ?_, fun hd => ?_, fun hr hn => ?_, fun hr hn => ?_, fun hr => ?_, fun hs => ?_, fun hk => ?_, fun hk => ?_,
    fun hr => ?_, fun hr => ?_, fun hr hrel => ?_⟩
  -- ENABLE
  · have enabled := exec_dmaEnable hc ch
    rw [enableChan_of_disabled (by rw [same]; exact hd) (noted.trans hk), same] at enabled
    refine ⟨enabled, fun hn ha => ⟨fun hs => ?_, fun hs => ?_⟩⟩
    · rw [chanWake_stops (by rw [changed]) (by rw [changed]; exact hs) (by rw [changed]; exact hn)] at enabled
      obtain ⟨cur, refetching⟩ := (hasCurrent_eq_false_iff d).1 hn
      refine exec_leaves_unasked enabled ((stopAt_unasked (changed { d with enable := true, state := .running }) hn).trans ?_)
      simp only [Dma.unasked, hs, ha, cur, refetching, Option.map_none]
      rfl
    · rw [chanWake_idle (.inr (.inr (by rw [changed]; exact ⟨hs, ha⟩)))] at enabled
      exact exec_leaves_unasked enabled (congrArg Dma.unasked (changed _))
  · rw [exec_dmaEnable hc, enableChan_of_ne (by rw [same]; exact hd)]
  -- STOP_REQ
  · have stops := exec_dmaStopReq hc ch
    rw [stopChan_idle (by rw [same]; exact hr) (by rw [same]; exact hn), same] at stops
    exact exec_leaves_unasked stops ((stopAt_unasked (changed { d with stopReq := true }) hn).trans rfl)
  · have stops := exec_dmaStopReq hc ch
    rw [stopChan_delivering (by rw [same]; exact hr) (by rw [same]; exact hn), same] at stops
    exact exec_leaves_unasked stops (congrArg Dma.unasked (setDma_same _ _ _))
  · have stops := exec_dmaStopReq hc ch
    rw [stopChan_of_ne (by rw [same]; exact hr), same] at stops
    exact exec_leaves_unasked stops (congrArg Dma.unasked (changed _))
  -- RESUME
  · have resumed := exec_dmaResume hc ch
    rw [resumeChan_of_stopped (by rw [same]; exact hs), same] at resumed
    refine ⟨resumed, fun ha => ?_⟩
    rw [chanWake_idle (.inr (by rw [changed]; exact ha.imp_right fun bare => ⟨rfl, bare⟩))] at resumed
    exact exec_leaves_unasked resumed (congrArg Dma.unasked (changed _))
  -- KILL
  · have can : canKill ign.dma[ch] = true := by rw [same]; exact (canKill_iff d).2 hk
    have killed := exec_dmaKill hc ch
    rw [killChannel_of_canKill can] at killed
    have abandoned := abandonAll_killed ch ign
    rw [same] at abandoned
    refine ⟨killed, fun h16 => exec_kills killed ?_, fun p hp hn => exec_kills killed ?_⟩
    · rw [auxLost_dma, killChan_aux can h16, dropTransfer_dma]
      exact abandoned
    · subst hp
      have docs : channelDocs p (abandonAll (chanOf p) ign) = [] := by
        rw [channelDocs_abandonAll, ← hn]
        simp only [channelDocs, dma]
        simp [ign]
      rw [auxLost_dma, killChan_line can, channelLost_of_none docs]
      exact abandoned
  · have cannot : canKill ign.dma[ch] = false := by
      rw [same, Bool.eq_false_iff, ne_eq, canKill_iff]
      rcases hk with h | h | h <;> rw [h] <;> decide
    rw [exec_dmaKill hc, killChannel_of_not cannot]
  -- RESET
  · have rests :
        ign.dma[ch].state = .disabled ∨ ign.dma[ch].state = .stopped ∨ ign.dma[ch].state = .halted ∨ ign.dma[ch].state = .killed := by
      rw [same]; exact hr
    have resets := exec_dmaReset hc ch
    rw [resetChannel_of_ne (by rcases rests with h | h | h | h <;> rw [h] <;> decide), resetChan_at_rest rests, same] at resets
    exact exec_leaves_unasked resets (congrArg Dma.unasked (by rw [auxLost_dma, changed]))
  · have working : works ign.dma[ch] = true := by rw [same]; exact (works_iff d).2 hr
    have acts : ign.dma[ch].state ≠ .resetting := by rw [same]; rcases hr with h | h <;> rw [h] <;> decide
    exact ⟨by rw [exec_dmaReset hc, resetChannel_of_ne acts], resetChan_working working⟩
  · exact exec_leaves_unasked (d := d.restarted) (exec_dmaResetDone hrel ch) (congrArg Dma.unasked (finishReset_dma hr))

end Sys2Proof.Machine

/-! ## Failed reads (O17) -/

namespace Sys2Proof.Machine

/-! ### Reports through AER (R73, R105) -/

theorem aerBit_lt (e : CplError) : aerBit e < 32 := by cases e <;> decide

theorem reportAer_steady (bit : Nat) (h : Option (BitVec 128)) (s : State) : Steady (reportAer bit h s) s := by
  unfold reportAer
  refine (countClass_steady _ _).trans ?_
  split
  · simp [Steady]
  · exact (raise_steady _ _).trans (by simp [Steady])

/-- The error's bit of the uncorrectable error status is set. -/
theorem reportAer_status {bit : Nat} (h : bit < 32) (hd : Option (BitVec 128)) (s : State) :
    (reportAer bit hd s).link.aer.uncStatus.getLsbD bit = true := by
  unfold reportAer
  dsimp only
  rw [countClass_link]
  split <;> exact setBit_getLsbD_self _ h

theorem reportFailed_steady (err : Option (CplError × BitVec 128)) (s : State) : Steady (reportFailed err s) s := by
  cases err with
  | some e => exact (touchLink_steady _).trans (reportAer_steady _ _ s)
  | none => exact reportAer_steady _ _ s

/-! ### What a failed read does (R102 to R104) -/

/-- An event that names a request already issued lets none out. -/
theorem issuedBy_of_issued {ch : Chan} {id : Nat} {s : State} (h : id < s.dma[ch].nextReq) : issuedBy ch id s = s := by
  have issued : id + 1 - s.dma[ch].nextReq = 0 := by omega
  simp only [issuedBy, issued, letOut, h, if_true]

section
variable {ch : Chan} {id : Nat} {s : State} {err : Option (CplError × BitVec 128)} {r : ReadReq}
  (hi : id < s.dma[ch].nextReq)
include hi

theorem requestFailed_of_found (hf : s.dma[ch].reqs.find? (fun q => q.id == id) = some r) :
    requestFailed ch id err s = retryOrHalt ch r (reportFailed err s) := by
  simp only [requestFailed, issuedBy_of_issued hi, hf]

/-- The completion of an abandoned read is reported and discarded. -/
theorem requestFailed_of_dropped (hf : s.dma[ch].reqs.find? (fun q => q.id == id) = none) (hd : s.dma[ch].dropped.contains id = true) :
    requestFailed ch id err s = endDropped ch id (reportFailed err s) := by
  simp only [requestFailed, issuedBy_of_issued hi, hf, hd, if_true]

/-- With re-issues left the request waits for its backoff. -/
theorem requestFailed_retries (hf : s.dma[ch].reqs.find? (fun q => q.id == id) = some r) (hb : r.backoff = none)
    (hl : r.reissues < s.dma[ch].retryLimit.toNat) :
    requestFailed ch id err s = setDma ch { s.dma[ch] with
      reqs := s.dma[ch].reqs.map fun q => if q.id = r.id then { q with backoff := some (s.now + 8000 * 2 ^ r.reissues) } else q }
      (reportFailed err s) := by
  obtain ⟨now, -, dma, -⟩ := reportFailed_steady err s
  rw [requestFailed_of_found hi hf]
  unfold retryOrHalt
  rw [dma, now, usGrid, Nat.mul_comm (2 ^ r.reissues) 8000]
  dsimp only
  rw [if_neg (by rw [hb]; decide), if_neg (by omega)]

/-- Without one the channel halts. -/
theorem requestFailed_halts (hf : s.dma[ch].reqs.find? (fun q => q.id == id) = some r) (hb : r.backoff = none)
    (hl : s.dma[ch].retryLimit.toNat ≤ r.reissues) :
    requestFailed ch id err s = haltChan ch (r.kind != .buffer) (reportFailed err s) := by
  obtain ⟨-, -, dma, -⟩ := reportFailed_steady err s
  rw [requestFailed_of_found hi hf]
  unfold retryOrHalt
  rw [dma]
  dsimp only
  rw [if_neg (by rw [hb]; decide), if_pos hl]

end

theorem exec_readCompletionError {s : State} (hr : s.pwr.released = true) (ch : Chan) (id : Nat) (e : CplError) (h : BitVec 128) :
    exec (.readCompletionError ch id e h) s = .next (settle s (requestFailed ch id (some (e, h)) s)) :=
  after_live hr rfl

theorem exec_completionTimeout {s : State} (hr : s.pwr.released = true) (ch : Chan) (id : Nat) :
    exec (.completionTimeout ch id) s = .next (settle s (requestFailed ch id none s)) :=
  after_live hr rfl

/-! ### Re-issues and refetches (R97, R103) -/

/-- The time after a command, and the channel that it leaves as `d`. -/
theorem exec_leaves_now {cmd : Instr} {ch : Chan} {d : Dma} {s u : State} (he : exec cmd s = .next (settle s u))
    (hu : u.dma[ch].unasked = d.unasked) : ∃ t, exec cmd s = .next t ∧ t.now = u.now ∧ t.dma[ch].unasked = d.unasked :=
  ⟨_, he, (settle_settled s u).1, (settle_unasked s u ch).trans hu⟩

/-- A re-issue goes out when its backoff ends, and is counted. -/
theorem reissue_of_backoff {ch : Chan} {id e : Nat} {r : ReadReq} {s : State} (hf : s.dma[ch].reqs.find? (fun q => q.id == id) = some r)
    (hb : r.backoff = some e) : reissue ch id s = touchLink (setDma ch { s.dma[ch] with
      reqs := s.dma[ch].reqs.map fun q => if q.id = id then { q with backoff := none, reissues := q.reissues + 1 } else q
      errRetries := satInc s.dma[ch].errRetries
      err := setBit s.dma[ch].err 2
      cur := if r.kind = .buffer then s.dma[ch].cur.map fun c => { c with retries := c.retries + 1 } else s.dma[ch].cur } (advanceTo e s)) := by
  simp only [reissue, hf, hb]

/-- A refetch waits until its time, and has the ring slot at HEAD read again. -/
theorem refetchPacket_due {p : Port} {c : CurDesc} {e : Nat} {f : Word × Word} {s : State} (hc : s.dma[chanOf p].cur = some c)
    (hw : works s.dma[chanOf p] = true) (he : c.refetchAt = some e) (hf : c.first = some f) :
    refetchPacket p s = setDma (chanOf p) { s.dma[chanOf p] with cur := none, refetching := some (f.1, f.2, c.retries) } (advanceTo e s) := by
  simp only [refetchPacket, hc, he, hf, hw, if_true]

/-- Settles O17: a failed read by `requestFailed_retries`, `requestFailed_halts` and `requestFailed_of_dropped`, with the report of either
failure; the re-issue and the refetch by their equations. -/
theorem readFailures : Obligations.ReadFailures := by
  unfold Obligations.ReadFailures
  refine ⟨fun ch id e h s hr hi => ?_, fun ch s hr => ⟨fun id r e hf hb => ?_, fun p c e f hc hw he hf => ?_⟩⟩
  · intro d u w
    have failed {t : State} (ht : requestFailed ch id (some (e, h)) s = t) :
        exec (.readCompletionError ch id e h) s = .next (settle s t) := by rw [exec_readCompletionError hr, ht]
    have expired {t : State} (ht : requestFailed ch id none s = t) :
        exec (.completionTimeout ch id) s = .next (settle s t) := by rw [exec_completionTimeout hr, ht]
    refine ⟨reportAer_status (aerBit_lt e) _ s, reportAer_status (by decide) _ s, fun r hf hb => ?_, fun hf hd => ?_⟩
    · exact ⟨fun hl => ⟨failed (requestFailed_retries hi hf hb hl), expired (requestFailed_retries hi hf hb hl)⟩,
        fun hl => ⟨failed (requestFailed_halts hi hf hb hl), expired (requestFailed_halts hi hf hb hl)⟩⟩
    · exact failed (requestFailed_of_dropped hi hf hd)
  · intro d
    have reissued : exec (.readReissue ch id) s = .next (settle s (reissue ch id s)) := after_live hr rfl
    rw [reissue_of_backoff hf hb] at reissued
    obtain ⟨t, ht, now, counted⟩ := exec_leaves_now reissued (congrArg Dma.unasked (setDma_same _ _ _))
    exact ⟨reissued, t, ht, now, (congrArg Dma.errRetries counted :), (congrArg Dma.head counted :), (congrArg Dma.state counted :)⟩
  · have refetched : exec (.packetRefetch p) s = .next (settle s (refetchPacket p s)) := after_live hr rfl
    rw [refetchPacket_due hc hw he hf] at refetched
    exact exec_leaves_now refetched (congrArg Dma.unasked (setDma_same _ _ _))

end Sys2Proof.Machine

/-! ## Descriptors, headers, auxiliary data and waits (O16) -/

namespace Sys2Proof.Machine

theorem setDma_setDma (ch : Chan) (d e : Dma) (s : State) : setDma ch d (setDma ch e s) = setDma ch d s := by
  simp only [setDma, Vector.set_set]

theorem setDma_self (ch : Chan) (s : State) : setDma ch s.dma[ch] s = s := by
  simp only [setDma, Fin.getElem_fin, Vector.set_getElem_self]

/-! ### Arriving descriptors (R95, R97, R106) -/

/-- A running channel with nothing current takes the descriptor ahead. -/
theorem proceed_takes {ch : Chan} {s : State} {a : Fetched} (hr : s.dma[ch].state = .running) (hn : hasCurrent s.dma[ch] = false)
    (ha : s.dma[ch].ahead = some a) :
    proceed ch s = becomeCurrent ch { desc := a.desc, retries := a.retries } (setDma ch { s.dma[ch] with ahead := none } s) := by
  simp only [proceed, hr, hn, ha]

theorem proceed_of_current {ch : Chan} {s : State} (h : hasCurrent s.dma[ch] = true) : proceed ch s = s := by
  unfold proceed
  dsimp only
  split
  · next bare _ => rw [h] at bare; contradiction
  · rfl

/-- The channel without the request that has been answered, and the traffic of the answer. -/
def answered (ch : Chan) (id : Nat) (s : State) : State :=
  touchLink (setDma ch { s.dma[ch] with reqs := s.dma[ch].reqs.filter fun q => q.id != id } s)

theorem answered_dma (ch : Chan) (id : Nat) (s : State) :
    (answered ch id s).dma[ch] = { s.dma[ch] with reqs := s.dma[ch].reqs.filter fun q => q.id != id } := setDma_same _ _ _

section
variable {ch : Chan} {id : Nat} {b : List Byte} {s : State} {r : ReadReq}
  (hf : s.dma[ch].reqs.find? (fun q => q.id == id && q.backoff.isNone && q.kind != .buffer) = some r) (hb : b.length = 32)
include hf hb

/-- A descriptor that TAIL keeps pending stands ahead, and the channel goes on. -/
theorem descArrives_next (hk : r.kind = .next) (ha : s.dma[ch].ahead = none) (hp : inFlight s.dma[ch] < pendingDescs s.dma[ch]) :
    descArrives ch id b s = proceed ch (setDma ch { s.dma[ch] with
      reqs := s.dma[ch].reqs.filter fun q => q.id != id, ahead := some ⟨parseDesc b, r.reissues⟩ } (answered ch id s)) := by
  have waits : ¬ (pendingDescs (answered ch id s).dma[ch] ≤ inFlight (answered ch id s).dma[ch] ∨
      (answered ch id s).dma[ch].ahead.isSome = true) := by
    rw [answered_dma, not_or, not_le]
    exact ⟨hp, by simp [-Fin.getElem_fin, ha]⟩
  have taken : descArrives ch id b s = if pendingDescs (answered ch id s).dma[ch] ≤ inFlight (answered ch id s).dma[ch] ∨
      (answered ch id s).dma[ch].ahead.isSome = true then answered ch id s
      else proceed ch (setDma ch { (answered ch id s).dma[ch] with ahead := some ⟨parseDesc b, r.reissues⟩ } (answered ch id s)) := by
    simp only [descArrives, hf, hb, hk, ne_eq, not_true_eq_false, if_false]
    rfl
  rw [taken, if_neg waits, answered_dma]

/-- With nothing current it becomes current. -/
theorem descArrives_current (hk : r.kind = .next) (hs : s.dma[ch].state = .running) (hn : hasCurrent s.dma[ch] = false)
    (ha : s.dma[ch].ahead = none) (hp : 0 < pendingDescs s.dma[ch]) :
    descArrives ch id b s = becomeCurrent ch { desc := parseDesc b, retries := r.reissues } (answered ch id s) := by
  have empty : inFlight s.dma[ch] = 0 := by simp [-Fin.getElem_fin, inFlight, hn, ha, b2n]
  rw [descArrives_next hf hb hk ha (empty ▸ hp), proceed_takes (by rw [setDma_same]; exact hs) (by rw [setDma_same]; exact hn)
    (by rw [setDma_same]), setDma_same, setDma_setDma]
  conv_rhs => rw [← setDma_self ch (answered ch id s), answered_dma]
  simp only [ha]

/-- The second read of a slot brings the refetched descriptor (R97). -/
theorem descArrives_slot {f : Word × Word × Nat} (hk : r.kind = .slot) (hr : s.dma[ch].refetching = some f) :
    descArrives ch id b s = proceed ch (becomeCurrent ch
      { desc := parseDesc b, refetch := true, first := some (f.1, f.2.1), retries := f.2.2 + r.reissues } (answered ch id s)) := by
  have refetching : (answered ch id s).dma[ch].refetching = some f := by rw [answered_dma]; exact hr
  simp only [answered] at refetching
  simp only [descArrives, hf, hb, hk, refetching, ne_eq, not_true_eq_false, if_false, answered]

end

/-- The completions of an abandoned read are discarded (R108). -/
theorem descArrives_dropped {ch : Chan} {id : Nat} {s : State} (hq : s.dma[ch].reqs.any (fun q => q.id == id) = false)
    (hd : s.dma[ch].dropped.contains id = true) (b : List Byte) : descArrives ch id b s = touchLink (endDropped ch id s) := by
  have unknown : s.dma[ch].reqs.find? (fun q => q.id == id && q.backoff.isNone && q.kind != .buffer) = none := by
    rw [List.find?_eq_none]
    intro q hm
    have other : (q.id == id) = false := by simpa using List.any_eq_false.1 hq q hm
    simp [other]
  simp only [descArrives, unknown, hd, if_true]

theorem endDropped_dma (ch : Chan) (id : Nat) (s : State) : (endDropped ch id s).dma[ch] = { s.dma[ch] with
    dropped := s.dma[ch].dropped.filter fun i => i != id
    state := if s.dma[ch].state = .stopping ∧ !hasCurrent s.dma[ch] ∧ (s.dma[ch].dropped.filter fun i => i != id).isEmpty then .stopped
      else s.dma[ch].state } := setDma_same _ _ _

theorem exec_descriptorArrival {s : State} (hr : s.pwr.released = true) (ch : Chan) (id : Nat) (b : List Byte) :
    exec (.descriptorArrival ch id b) s = .next (settle s (descArrives ch id b s)) :=
  after_live hr rfl

/-! ### Delivery begins (R96, R106, R125) -/

theorem beginDelivery_dma (ch : Chan) (c : CurDesc) (s : State) : (beginDelivery ch c s).dma[ch] = { s.dma[ch] with
    cur := some { c with waitSpace := false, goal := if ch.val < 16 then 32 else c.desc.len } } := by
  unfold beginDelivery
  dsimp only
  split <;> exact setDma_same _ _ _

/-- A descriptor that passes the conditions of R106 begins to be read with its header. -/
theorem becomeCurrent_line {p : Port} {c : CurDesc} {s : State} (h0 : c.desc.len ≠ 0) (hf : c.desc.flags &&& 0xF8#8 = 0)
    (ha : c.desc.addr.toNat % 32 = 0) (hm : c.desc.len ≤ 0xFFFFE0) (hc : c.desc.len ≤ lineCapacity p s) (hl : c.desc.len ≤ lineFree p s) :
    (becomeCurrent (chanOf p) c s).dma[chanOf p] =
      { s.dma[chanOf p] with cur := some { c with waitSpace := false, goal := 32 }, refetching := none } := by
  have reserved : c.desc.flags &&& 0xF0#8 = 0 := by
    have part : c.desc.flags &&& 0xF0#8 = c.desc.flags &&& 0xF8#8 &&& 0xF0#8 := by rw [BitVec.and_assoc]; rfl
    rw [part, hf]
    rfl
  have dir : c.desc.flags.getLsbD 3 = false := by
    have part := congrArg (BitVec.getLsbD · 3) hf
    simpa using part
  have line : lineChan (chanOf p) = some p := dif_pos p.isLt
  have below : (chanOf p).val < 16 := p.isLt
  have down : isH2d (chanOf p) c.desc = true := if_pos (.inl below)
  have good : ¬ (c.desc.flags &&& 0xF0#8 ≠ 0 ∨ (c.desc.flags.getLsbD 3 = true ∧ (chanOf p).val ≠ 19) ∨
      c.desc.addr.toNat % (if (chanOf p).val < 16 then 32 else 4) ≠ 0) := by
    rintro (h | ⟨h, -⟩ | h)
    · exact h reserved
    · exact Bool.false_ne_true (dir.symm.trans h)
    · rw [if_pos below] at h
      exact h ha
  have begins : becomeCurrent (chanOf p) c s =
      beginDelivery (chanOf p) c (setDma (chanOf p) { s.dma[chanOf p] with cur := some c, refetching := none } s) := by
    unfold becomeCurrent
    dsimp only
    rw [if_neg h0, if_neg good, if_neg (by omega), down]
    simp only [line, chanFree, Bool.not_true, Bool.false_eq_true, if_false, if_neg (not_lt.2 hc), if_neg (not_lt.2 hl)]
  rw [begins, beginDelivery_dma, setDma_same, if_pos below]

/-! ### Headers (R96) -/

section
variable {p : Port} {b : List Byte} {c : CurDesc} {s : State} (hc : s.dma[chanOf p].cur = some c)
  (ht : takesData s.dma[chanOf p] c = true) (hh : c.header = []) (ha : c.asked = 32) (hb : b.length = 32)
include hc ht hh ha hb

theorem headerArrives_fails (hf : headFails c.desc.len b = true) : headerArrives p b s = deliverPacket p b s := by
  simp [-Fin.getElem_fin, headerArrives, hc, ht, hh, ha, hb, hf]

/-- A good header is kept, and the whole buffer requested. -/
theorem headerArrives_good (hf : headFails c.desc.len b = false) : headerArrives p b s = setDma (chanOf p)
    { s.dma[chanOf p] with
      reqs := s.dma[chanOf p].reqs.filter (fun r => r.kind == .next), cur := some { c with header := b, goal := c.desc.len } } s := by
  simp [-Fin.getElem_fin, headerArrives, hc, ht, hh, ha, hb, hf]

end

theorem checkPacket_of_headFails {len : Nat} {b : List Byte} (h : headFails len b = true) (p : Port) (d : Dma) :
    checkPacket p d len b = (false, crc32c (b.take 32), 0) := if_pos h

/-! ### Auxiliary channels (R99, R100, R125, R456, R457) -/

theorem storeAux_beside (ch : Chan) (b : List Byte) (s : State) : Beside (storeAux ch b s) s := ⟨rfl, rfl, rfl⟩

theorem postWrites_beside (n : Nat) (a : DWord) (mps : Nat) (b : List Byte) (s : State) : Beside (postWrites n a mps b s) s := by
  induction n generalizing a b s with
  | zero => exact .refl s
  | succ n ih =>
    unfold postWrites
    exact .either _ (.refl s) ((ih _ _ _).trans (hostWrite_beside _ _ s))

theorem d2hRetire_beside (ch : Chan) (c : CurDesc) (data : List Byte) (s : State) : Beside (d2hRetire ch c data s) s := by
  unfold d2hRetire
  exact .either _ (.refl s) ((proceed_beside _ _).trans ((retire_beside _ _ _ _ _ _).trans (postWrites_beside _ _ _ _ s)))

/-- Data of a host-to-device descriptor goes into the auxiliary partition, and the descriptor retires. -/
theorem auxDelivered_whole {ch : Chan} {b : List Byte} {c : CurDesc} {s : State} (h16 : 16 ≤ ch.val) (hc : s.dma[ch].cur = some c)
    (hh : isH2d ch c.desc = true) (ht : takesAux s.dma[ch] c = true) (hb : b.length = c.desc.len) (ha : auxAccepts ch s = true) :
    auxDelivered ch b s = proceed ch (if ch.val = 18 then receiveUpdate b (retire ch 0 0 b (crc32c b) (storeAux ch b s))
      else retire ch 0 0 b (crc32c b) (storeAux ch b s)) := by
  have complete : ¬ (ch.val < 16 ∨ (!isH2d ch c.desc) = true ∨ (!takesAux s.dma[ch] c) = true ∨ b.length ≠ c.desc.len ∨
      (!auxAccepts ch s) = true) := by
    simp [-Fin.getElem_fin, hh, ht, hb, ha, h16]
  simp only [auxDelivered, hc]
  rw [if_neg complete]

section
variable {b : List Byte} {s t : State} (h : t.mgt = s.mgt)
include h

theorem receiveUpdate_within (hl : s.mgt.received.length + b.length ≤ s.mgt.updLen.toNat) :
    receiveUpdate b t = modMgt (fun m => { m with received := s.mgt.received ++ b }) t := by
  simp only [receiveUpdate, modMgt, h, List.length_append]
  rw [if_neg (by omega)]

/-- Bytes beyond UPD_LEN end the session. -/
theorem receiveUpdate_beyond (hl : s.mgt.updLen.toNat < s.mgt.received.length + b.length) :
    receiveUpdate b t = failSession (modMgt (fun m => { m with received := s.mgt.received ++ b }) t) := by
  simp only [receiveUpdate, modMgt, h, List.length_append]
  rw [if_pos (by omega)]

end

/-- A device-to-host descriptor of a channel whose source can give data. -/
theorem d2hWritten_of_source {ch : Chan} {c : CurDesc} {s : State} (hc : s.dma[ch].cur = some c) (hh : isH2d ch c.desc = false)
    (hw : fwRuns s = true ∨ 18 ≤ ch.val) (b : List Byte) : d2hWritten ch b s =
      if ch.val = 16 then uploadLog c s else if ch.val = 17 then sendDump c b s else d2hRetire ch c (b.take c.desc.len) s := by
  have source : ¬ (isH2d ch c.desc = true ∨ (ch.val < 18 ∧ (!fwRuns s) = true)) := by
    rcases hw with h | h <;> simp [hh, h]
  simp only [d2hWritten, hc]
  rw [if_neg source]

/-- A dump goes on with the next bytes, and ends with the last of them. -/
theorem sendDump_running {c : CurDesc} {trace : List Byte} {s : State} (hd : 0 < s.mgt.dumps) :
    sendDump c trace s = d2hRetire 17 c (((dumpBytes trace s).drop s.mgt.dumpPos).take c.desc.len)
      { s with mgt := if ((dumpBytes trace s).drop s.mgt.dumpPos).length ≤ c.desc.len then
        { s.mgt with dumps := s.mgt.dumps - 1, dumpPos := 0 } else { s.mgt with dumpPos := s.mgt.dumpPos + c.desc.len } } := by
  have part : slice (dumpBytes trace s) s.mgt.dumpPos (min c.desc.len ((dumpBytes trace s).length - s.mgt.dumpPos)) =
      ((dumpBytes trace s).drop s.mgt.dumpPos).take c.desc.len := by
    rw [slice, List.take_eq_take_iff, List.length_drop]
    omega
  have ends : ((dumpBytes trace s).length ≤ s.mgt.dumpPos + c.desc.len) =
      (((dumpBytes trace s).drop s.mgt.dumpPos).length ≤ c.desc.len) := by
    rw [List.length_drop, eq_iff_iff]
    omega
  unfold sendDump
  rw [if_neg (by omega)]
  simp only [part, ends, modMgt, decide_eq_true_eq]
  split <;> rfl

/-- A log upload ends with the number after the last record, or at a new LOG_FROM. -/
theorem uploadLog_logNext {c : CurDesc} {r : LogRec} {s : State}
    (h : ((logAfter s.mgt.logNext s.mgt).take (c.desc.len / 32)).getLast? = some r) :
    (uploadLog c s).mgt.logNext = if s.mgt.logFresh then s.mgt.logFrom else nextSeq r.seq := by
  simp only [uploadLog, h]
  rw [(d2hRetire_beside _ _ _ _).mgt]
  rfl

/-! ### Waits (R106, R127) -/

theorem spaceFreed_fits {ch : Chan} {c : CurDesc} {s : State} (hc : s.dma[ch].cur = some c) (hw : c.waitSpace = true)
    (hl : c.desc.len ≤ chanFree ch s) : spaceFreed ch s = beginDelivery ch c s := by
  simp only [spaceFreed, hc, hw, hl, and_self, if_true]

theorem tableFreed_opens {p : Port} {c : CurDesc} {b : List Byte} {s : State} (hc : s.dma[chanOf p].cur = some c)
    (hw : c.waitTable = some b) (hf : s.docs.length < 64 ∨ findDoc (pktDoc b) s ≠ none) :
    tableFreed p s = deliverPacket p b (setDma (chanOf p) { s.dma[chanOf p] with cur := some { c with waitTable := none } } s) := by
  simp only [tableFreed, hc, hw]
  rw [if_pos (hf.imp_right Option.isSome_iff_ne_none.2)]

/-! ### O16 -/

/-- Settles O16: arrivals by `descArrives_next`, `descArrives_slot` and `descArrives_dropped`, headers by `headerArrives_good` and
`headerArrives_fails`, the auxiliary channels and the waits by the equation of what ends there. -/
theorem descriptors : Obligations.Descriptors := by
  unfold Obligations.Descriptors
  refine ⟨fun ch id b s hr => ?_, fun p b c s hr hb hc ht hh ha => ?_, fun c s hr => ?_⟩
  -- arrivals
  · intro d
    have arrives := exec_descriptorArrival hr ch id b
    refine ⟨fun r hf hb => ?_, fun hq hd => ⟨?_, ?_, ?_⟩⟩
    · intro d' u c
      have left : u.dma[ch] = d' := setDma_same _ _ _
      refine ⟨fun hk hs hn ha hp => ?_, fun hk hn ha hp => ?_, fun f hk hf' => ?_⟩
      · have current : exec (.descriptorArrival ch id b) s = .next (settle s (becomeCurrent ch c u)) := by
          rw [arrives, descArrives_current hf hb hk hs hn ha hp]
          rfl
        refine ⟨current, fun p hp h0 hfl hal hm hcap hfree => ?_⟩
        subst hp
        refine exec_leaves_unasked current ?_
        obtain ⟨-, refetching⟩ := (hasCurrent_eq_false_iff d).1 hn
        rw [becomeCurrent_line (s := u) h0 hfl hal hm hcap hfree, left]
        simp only [Dma.unasked, refetching]
        rfl
      · refine exec_leaves_unasked arrives ?_
        rw [descArrives_next hf hb hk ha hp, proceed_of_current (by rw [setDma_same]; exact hn), setDma_same]
        rfl
      · rw [arrives, descArrives_slot hf hb hk hf']
        rfl
    · rw [arrives, descArrives_dropped hq hd]
    · rw [endDropped_dma]
    · rw [endDropped_dma]
      simp [-Fin.getElem_fin, d]
  -- headers
  · intro d
    have arrives : exec (.packetHeaderArrival p b) s = .next (settle s (headerArrives p b s)) := after_live hr rfl
    refine ⟨fun hf => ?_, fun hf => ?_⟩
    · rw [arrives, headerArrives_good hc ht hh ha hb hf]
    · rw [headerArrives_fails hc ht hh ha hb hf] at arrives
      refine ⟨arrives, fun hs hn => ?_⟩
      have fails := checkPacket_of_headFails hf p d
      obtain ⟨t, next, cur, -⟩ := exec_refetches hc ht (by rw [hh]; rfl) arrives (.inl hf) (by rw [fails]) hn hs
      exact ⟨t, next, by rw [cur, fails]⟩
  -- auxiliary channels and waits
  · have delivers (ch : Chan) (b : List Byte) : exec (.auxDescriptorDelivered ch b) s = .next (settle s (auxDelivered ch b s)) :=
      after_live hr rfl
    have writes (ch : Chan) (b : List Byte) : exec (.d2hDescriptorWritten ch b) s = .next (settle s (d2hWritten ch b s)) :=
      after_live hr rfl
    have kept (b : List Byte) : (retire 18 0 0 b (crc32c b) (storeAux 18 b s)).mgt = s.mgt :=
      ((retire_beside _ _ _ _ _ _).trans (storeAux_beside 18 b s)).mgt
    refine ⟨fun b hc hh ht hb => ?_, fun b hc ht hb hu hf hl => ?_, fun b hc ht hb hu hf hl => ?_, fun b hc hh hn hl => ?_,
      fun b hc hf hd _ => ?_, fun b r hc hf hl => ?_, fun ch hc hw hl => ?_, fun p b hc hw hf => ?_⟩
    · rw [delivers, auxDelivered_whole (by decide) hc hh ht hb rfl]
      rfl
    · have accepts : auxAccepts 18 s = true := by simp [auxAccepts, hu, hf]
      rw [delivers, auxDelivered_whole (by decide) hc rfl ht hb accepts, if_pos (by decide), receiveUpdate_within (kept b) hl]
    · have accepts : auxAccepts 18 s = true := by rcases hu with hu | hu <;> simp [auxAccepts, hu, hf]
      rw [delivers, auxDelivered_whole (by decide) hc rfl ht hb accepts, if_pos (by decide), receiveUpdate_beyond (kept b) hl]
    · have whole : b.take c.desc.len = b := List.take_of_length_le hl
      have nonempty : b.isEmpty = false := by simpa using hn
      rw [writes, d2hWritten_of_source hc hh (.inr (by decide)), if_neg (by decide), if_neg (by decide), whole]
      simp only [d2hRetire, nonempty, Bool.false_eq_true, if_false]
    · rw [writes, d2hWritten_of_source hc rfl (.inl hf), if_neg (by decide), if_pos (by decide), sendDump_running hd]
    · exact ⟨by rw [writes, d2hWritten_of_source hc rfl (.inl hf), if_pos (by decide)], uploadLog_logNext hl⟩
    · have begins : exec (.descSpaceWaitEnd ch) s = .next (settle s (spaceFreed ch s)) := after_live hr rfl
      rw [spaceFreed_fits hc hw hl] at begins
      obtain ⟨t, next, kept⟩ := exec_leaves_unasked begins (congrArg Dma.unasked (beginDelivery_dma ch c s))
      exact ⟨begins, t, next, (congrArg Dma.cur kept :)⟩
    · intro c' d' u
      have opens : exec (.docTableWaitEnd p) s = .next (settle s (tableFreed p s)) := after_live hr rfl
      rw [tableFreed_opens hc hw hf] at opens
      refine ⟨opens, fun ht hw' hb hk h2 hi ho hl hn => ?_⟩
      have here : u.dma[chanOf p] = d' := setDma_same _ _ _
      have route : routePacket p b u = some (0, openDoc p (pktDoc b) { u with docs := s.docs ++ [newDoc (pktDoc b) (openPayload b)] }) :=
        (routePacket_open h2 (by rw [here]; exact hi)).trans (openPacket_new (by rw [here]; exact ho) hn hl)
      rw [opens, deliverPacket_routed (c := c') (by rw [here]) (by rw [here]; exact ht) hb (by rw [here]; exact hw')
        (by rw [here]; exact hk) route, here]
      simp [c']

end Sys2Proof.Machine

/-! ## Update sessions and activations (O58) -/

namespace Sys2Proof.Machine

/-! ### What a read through the decoder leaves alone (R118) -/

/-- Both states agree in what a read through the decoder leaves alone: the management block, the fuses, what has gone out, and the states of
the check units. -/
structure Undisturbed (a b : State) : Prop where
  mgt : a.mgt = b.mgt
  otp : a.otp = b.otp
  out : a.out = b.out
  units : a.chk.units.map ChkUnit.state = b.chk.units.map ChkUnit.state

namespace Undisturbed

theorem refl (s : State) : Undisturbed s s := ⟨rfl, rfl, rfl, rfl⟩

theorem trans {a b c : State} (h1 : Undisturbed a b) (h2 : Undisturbed b c) : Undisturbed a c :=
  ⟨h1.mgt.trans h2.mgt, h1.otp.trans h2.otp, h1.out.trans h2.out, h1.units.trans h2.units⟩

/-- One of two things happens. -/
theorem either (c : Prop) [Decidable c] {t u s : State} (ht : Undisturbed t s) (hu : Undisturbed u s) : Undisturbed (if c then t else u) s := by
  split
  · exact ht
  · exact hu

end Undisturbed

theorem raise_undisturbed (src : Nat) (s : State) : Undisturbed (raise src s) s := ⟨rfl, rfl, rfl, rfl⟩

theorem setStore_undisturbed (p : Port) (t : PortStore) (s : State) : Undisturbed (setStore p t s) s := ⟨rfl, rfl, rfl, rfl⟩

theorem countClass_undisturbed (c : Fin 32) (s : State) : Undisturbed (countClass c s) s := by
  have escalates (s : State) : Undisturbed (escalate c s) s :=
    .either _ ⟨rfl, rfl, rfl, rfl⟩ (.either _ ⟨rfl, rfl, rfl, rfl⟩ (.refl s))
  unfold countClass
  dsimp only
  refine .either _ ((escalates _).trans ⟨rfl, rfl, rfl, rfl⟩) (.either _ ((escalates _).trans (.either _ ?_ ?_)) ?_)
  · exact ⟨rfl, rfl, rfl, rfl⟩
  · exact (raise_undisturbed _ _).trans ⟨rfl, rfl, rfl, rfl⟩
  · exact ⟨rfl, rfl, rfl, rfl⟩

theorem pondWrite_undisturbed (f : Nat → Nat) (b : List Byte) (s : State) : Undisturbed (pondWrite f b s) s := by
  have raced (addrs : List Nat) (u : ChkUnit) : (raceUnit addrs s u).state = u.state := by
    unfold raceUnit
    split
    · split <;> rfl
    · rfl
  refine ⟨rfl, rfl, rfl, ?_⟩
  simp only [pondWrite, noteRace, Vector.map_map]
  exact Vector.map_congr_left fun u _ => raced _ u

theorem replaceRow_undisturbed (row : Nat) (s : State) : Undisturbed (replaceRow row s) s := by
  unfold replaceRow
  refine .either _ (.refl s) (.either _ ?_ ⟨rfl, rfl, rfl, rfl⟩)
  exact .trans (b := if s.pond.sparesOut then s else raise Src.pndSparesOut s) ⟨rfl, rfl, rfl, rfl⟩
    (.either _ (.refl s) (raise_undisturbed _ s))

theorem wordCorrected_undisturbed (word : Nat) (two : Bool) (s : State) : Undisturbed (wordCorrected word two s) s := by
  have counted (u : State) (h : Undisturbed u s) : Undisturbed (countClass Cls.pndEcc (raise Src.pndCe u)) s :=
    (countClass_undisturbed _ _).trans ((raise_undisturbed _ _).trans h)
  unfold wordCorrected
  exact .either _ ((replaceRow_undisturbed _ _).trans (counted _ ⟨rfl, rfl, rfl, rfl⟩)) (counted _ ⟨rfl, rfl, rfl, rfl⟩)

theorem wordLost_undisturbed (word : Nat) (s : State) : Undisturbed (wordLost word s) s := by
  have counted (u : State) (h : Undisturbed u s) : Undisturbed (countClass Cls.pndUe (raise Src.pndUe u)) s :=
    (countClass_undisturbed _ _).trans ((raise_undisturbed _ _).trans h)
  unfold wordLost
  refine (replaceRow_undisturbed _ _).trans ?_
  dsimp only
  split
  · exact (setStore_undisturbed _ _ _).trans (counted _ ⟨rfl, rfl, rfl, rfl⟩)
  · split
    · exact (setStore_undisturbed _ _ _).trans (counted _ ⟨rfl, rfl, rfl, rfl⟩)
    · exact .either _ (counted _ ⟨rfl, rfl, rfl, rfl⟩) ((pondWrite_undisturbed _ _ _).trans (counted _ ⟨rfl, rfl, rfl, rfl⟩))

theorem readThrough_undisturbed (s : State) (e : Nat × BitVec 79) : Undisturbed (readThrough s e) s := by
  have back : Undisturbed (writeBackWord e.1 (decodeWord e.1 e.2 s).2 s) s := .either _ (.refl s) ⟨rfl, rfl, rfl, rfl⟩
  unfold readThrough
  dsimp only
  split
  · exact back
  · exact (wordCorrected_undisturbed _ _ _).trans back
  · exact (wordCorrected_undisturbed _ _ _).trans back
  · exact (wordLost_undisturbed _ _).trans back

theorem readAux_undisturbed (i : Fin 2) (keep n : Nat) (errs : Upsets) (s : State) : Undisturbed (readAux i keep n errs s) s := by
  have fold (l : Upsets) (s : State) : Undisturbed (l.foldl readThrough s) s := by
    induction l generalizing s with
    | nil => exact .refl s
    | cons e l ih => exact (ih _).trans (readThrough_undisturbed s e)
  exact fold _ s

/-- A flash operation marks scans as raced, and stops none (R159). -/
theorem flashOp_units (op : FlashOp) (s : State) : (flashOp op s).chk.units.map ChkUnit.state = s.chk.units.map ChkUnit.state := by
  have raced (lo hi : Nat) (u : ChkUnit) : (raceRegion 0x14 lo hi u).state = u.state := by
    unfold raceRegion
    split <;> rfl
  simp only [flashOp, noteRegion, Vector.map_map]
  exact Vector.map_congr_left fun u _ => raced _ _ u

/-! ### CHK[7] in a session (R167, R457) -/

theorem startImageScan_keeps (k slot : Bool) (b : List Byte) (s : State) : (startImageScan k slot b s).mgt = s.mgt ∧
    (startImageScan k slot b s).out = s.out ∧ (startImageScan k slot b s).chk.units[7].mgtOwn = s.chk.units[7].mgtOwn := by
  have starts (burning mid : Bool) (copies : BitVec 16) (level : Nat) (u : ChkUnit) :
      (startUnit burning mid copies level u).mgtOwn = u.mgtOwn := by
    unfold startUnit
    exact (apply_ite ChkUnit.mgtOwn _ _ _).trans (ite_self u.mgtOwn)
  unfold startImageScan
  split
  · exact ⟨rfl, rfl, (congrArg ChkUnit.mgtOwn (Vector.getElem_set_self _)).trans (starts _ _ _ _ _)⟩
  · exact ⟨rfl, rfl, rfl⟩

/-- The firmware claims CHK[7] where the host does not run it. -/
theorem claimUnit_own {s : State} (h : s.chk.units[7].state ≠ .running) : (claimUnit s).chk.units[7].mgtOwn = true := by
  have claimed : (claimUnit s).chk.units[7] =
      if s.chk.units[7].state = .running then s.chk.units[7] else { s.chk.units[7] with mgtOwn := true } := Vector.getElem_set_self _
  rw [claimed, if_neg h]

theorem endImageScan_keeps (b : List Byte) (s : State) :
    (endImageScan b s).mgt = s.mgt ∧ (endImageScan b s).otp = s.otp ∧ (endImageScan b s).out = s.out := by
  have ends (i : Fin 8) (t : State) : (finishUnit i t).mgt = t.mgt ∧ (finishUnit i t).otp = t.otp ∧ (finishUnit i t).out = t.out := by
    unfold finishUnit
    dsimp only
    split <;> split <;> exact ⟨rfl, rfl, rfl⟩
  unfold endImageScan
  dsimp only
  split
  · exact ends _ _
  · exact ⟨rfl, rfl, rfl⟩

theorem releaseUnit_out (abort : Bool) (s : State) : (releaseUnit abort s).out = s.out := by
  unfold releaseUnit
  split
  · cases abort <;> rfl
  · rfl

theorem logUpdate_mgt (outcome : Nat) (s : State) : (logUpdate outcome s).mgt.updState = s.mgt.updState ∧
    (logUpdate outcome s).mgt.slots = s.mgt.slots ∧ (logUpdate outcome s).mgt.programmed = s.mgt.programmed := by
  have kept : (logUpdate outcome s).mgt.unqueued = s.mgt.unqueued := pushLog_unqueued _ _ _ s
  exact ⟨(congrArg Mgt.updState kept :), (congrArg Mgt.slots kept :), (congrArg Mgt.programmed kept :)⟩

theorem logUpdate_out (outcome : Nat) (s : State) : (logUpdate outcome s).out = s.out := by
  unfold logUpdate pushLog
  dsimp only
  split <;> rfl

/-- An operation that waits for the flash window waits in the management block, and changes nothing else of it. -/
theorem startFlash_mgt (op : FlashOp) (s : State) : ∃ l, (startFlash op s).mgt = { s.mgt with flashWait := l } := by
  unfold startFlash
  split
  · exact ⟨s.mgt.flashWait, rfl⟩
  · exact ⟨_, rfl⟩

/-! ### OPEN, the erase and the pages (R457) -/

section
variable {s : State}

theorem openSession_refused {k : Bool} (h : fwRuns s = false ∨ s.mgt.updState ≠ .idle) :
    openSession k s = noteUpd 1 k s.mgt.updSlot 1 s := by
  unfold openSession
  rw [if_pos (by simpa using h)]

/-- OPEN erases the slot that is not in force. -/
theorem openSession_opens {k : Bool} (hf : fwRuns s = true) (hi : s.mgt.updState = .idle) (hl : 512 ≤ s.mgt.updLen.toNat)
    (hu : s.mgt.updLen.toNat ≤ slotSize k) : openSession k s =
      modMgt (fun m => { m with
        updState := .erasing, sesKind := k, sesSlot := !inForce k s.mgt, programmed := 0, received := []
        slots := m.slots.set (slotIx k (!inForce k s.mgt)).val none (slotIx k (!inForce k s.mgt)).isLt })
      (noteUpd 1 k s.mgt.updSlot 0
        (startFlashes (eraseOps (slotBase k (!inForce k s.mgt)) (slotSize k) s.mgt.updLen.toNat) s)) := by
  unfold openSession
  dsimp only
  rw [if_neg (by simp [hf, hi]), if_neg (by omega)]

theorem eraseDone_done (he : s.mgt.updState = .erasing) (hw : s.mgt.flashWait = []) (ok : Bool) :
    eraseDone ok s = flashResult ok { s with mgt := { s.mgt with updState := .receiving } } := by
  unfold eraseDone
  rw [if_pos ⟨he, by simp [hw]⟩]
  rfl

theorem eraseDone_waits (hw : s.mgt.flashWait ≠ []) (ok : Bool) : eraseDone ok s = s :=
  if_neg fun h => hw (by simpa using h.2)

/-- The next page is programmed, its data read through the decoder and released (R118, R125). -/
def programPage (ok : Bool) (errs : Upsets) (s : State) : State :=
  let t := nextPage s.mgt
  let n := t.2 - t.1
  let x := flashOp (.program (slotBase s.mgt.sesKind s.mgt.sesSlot + t.1) (slice s.mgt.received t.1 n)) (readAux 0 256 n errs s)
  freeAux 0 256 n (modMgt (fun m => { m with programmed := m.programmed + n }) (flashResult ok x))

theorem pageProgrammed_notReady (h : pageReady s = false) (ok : Bool) (errs : Upsets) : pageProgrammed ok errs s = s :=
  if_neg (ne_true_of_eq_false h)

theorem pageProgrammed_of_ready (h : pageReady s = true) (ok : Bool) (errs : Upsets) : pageProgrammed ok errs s =
    if (nextPage s.mgt).2 = s.mgt.updLen.toNat then beginVerify (programPage ok errs s) else programPage ok errs s := by
  unfold pageProgrammed
  rw [if_pos h]
  rfl

/-- Programming a page stops and starts no check unit. -/
theorem programPage_units (ok : Bool) (errs : Upsets) (s : State) : (programPage ok errs s).chk.units[7].state = s.chk.units[7].state := by
  have judged (u : State) : (flashResult ok u).chk.units.map ChkUnit.state = u.chk.units.map ChkUnit.state := by
    cases ok
    · exact (countClass_undisturbed _ u).units
    · rfl
  have units : (programPage ok errs s).chk.units.map ChkUnit.state = s.chk.units.map ChkUnit.state :=
    (judged _).trans ((flashOp_units _ _).trans (readAux_undisturbed _ _ _ _ s).units)
  simpa using congrArg (·[7]) units

/-- With the last page the verification begins: nothing goes to the flash, and CHK[7] is claimed where the host does not run it. -/
theorem beginVerify_keeps (s : State) : (beginVerify s).mgt.updState = .verifying ∧ (beginVerify s).out.flash = s.out.flash ∧
    (s.chk.units[7].state ≠ .running → (beginVerify s).chk.units[7].mgtOwn = true) := by
  obtain ⟨mgt, out, own⟩ := startImageScan_keeps s.mgt.sesKind s.mgt.sesSlot s.mgt.received
    (claimUnit (modMgt (fun m => { m with updState := .verifying }) s))
  unfold beginVerify
  rw [mgt, out, own]
  exact ⟨rfl, rfl, fun h => claimUnit_own h⟩

/-! ### The verification (R457) -/

theorem verifyDone_fails {ok : List (Nat × Word) → Bool} {image : List Byte} {errs : Upsets} (h : verifyEnds s = true)
    (hp : parseImage s.mgt.sesKind (s.mgt.received.take 256 ++ image.drop 256) ok s.otp = none) :
    verifyDone ok image errs s =
      failSession (endImageScan (s.mgt.received.take 256 ++ image.drop 256) (readAux 0 0 256 errs s)) := by
  have otp : (endImageScan (s.mgt.received.take 256 ++ image.drop 256) (readAux 0 0 256 errs s)).otp = s.otp :=
    (endImageScan_keeps _ _).2.1.trans (readAux_undisturbed _ _ _ _ s).otp
  simp only [verifyDone, h, if_true, otp, hp]

/-- A good image is committed in the session's slot: CHK[7] is released, and the first page is programmed last. -/
def commitImage (i : Image) (m : Mgt) (s : State) : State :=
  let ix := slotIx m.sesKind m.sesSlot
  logUpdate 0 (modMgt (fun m => { m with
      updState := .committed, received := [], programmed := m.programmed + 256, slots := m.slots.set ix.val (some i) ix.isLt })
    (freeAux 0 0 256 (flashOp (.program (slotBase m.sesKind m.sesSlot) (m.received.take 256)) (releaseUnit false s))))

theorem verifyDone_commits {ok : List (Nat × Word) → Bool} {image : List Byte} {errs : Upsets} {i : Image} (h : verifyEnds s = true)
    (hp : parseImage s.mgt.sesKind (s.mgt.received.take 256 ++ image.drop 256) ok s.otp = some i) :
    verifyDone ok image errs s =
      commitImage i s.mgt (endImageScan (s.mgt.received.take 256 ++ image.drop 256) (readAux 0 0 256 errs s)) := by
  have otp : (endImageScan (s.mgt.received.take 256 ++ image.drop 256) (readAux 0 0 256 errs s)).otp = s.otp :=
    (endImageScan_keeps _ _).2.1.trans (readAux_undisturbed _ _ _ _ s).otp
  simp only [verifyDone, h, if_true, otp, hp]
  rfl

theorem commitImage_session (i : Image) (m : Mgt) (s : State) : (commitImage i m s).mgt.updState = .committed ∧
    (commitImage i m s).mgt.slots[slotIx m.sesKind m.sesSlot] = some i ∧ (commitImage i m s).mgt.programmed = s.mgt.programmed + 256 ∧
    (commitImage i m s).out.flash = .program (slotBase m.sesKind m.sesSlot) (m.received.take 256) :: s.out.flash := by
  unfold commitImage
  refine ⟨(logUpdate_mgt _ _).1, ?_, ?_, ?_⟩
  · rw [(logUpdate_mgt _ _).2.1]
    exact Vector.getElem_set_self _
  · rw [(logUpdate_mgt _ _).2.2, ← releaseUnit_mgt false s]
    rfl
  · rw [logUpdate_out, ← releaseUnit_out false s]
    rfl

/-! ### ABORT and ACTIVATE (R457, R458) -/

theorem abortSession_runs (hf : fwRuns s = true) (hs : sessionRuns s.mgt = true) :
    abortSession s = failSession (noteUpd 2 s.mgt.updKind s.mgt.updSlot 0 s) := by
  unfold abortSession
  dsimp only
  rw [if_neg (by simp [hf]), if_pos hs]

theorem abortSession_idle (hf : fwRuns s = true) (hi : s.mgt.updState = .idle) :
    abortSession s = noteUpd 2 s.mgt.updKind s.mgt.updSlot 1 s := by
  unfold abortSession
  dsimp only
  rw [if_neg (by simp [hf]), if_neg (by simp [sessionRuns, hi]), if_neg (by rw [hi]; decide)]

theorem activateSession_refused (h : s.mgt.updState ≠ .committed) :
    activateSession s = noteUpd 3 s.mgt.updKind s.mgt.updSlot 1 s := if_neg fun k => h k.2

/-- The firmware of the session's slot is to be tried. -/
def pendFirmware (s : State) : State :=
  modMgt (fun m => { m with
    updState := .pending, sesKind := false, sesSlot := s.mgt.sesSlot, activation := .firmware
    trying := some m.fwSlot, fwSlot := s.mgt.sesSlot })
    (noteUpd 3 s.mgt.updKind s.mgt.updSlot 0 s)

/-- With no session under way a restart releases CHK[7] and loses nothing else. -/
theorem beginRestart_idle (hr : s.mgt.running = true) (hs : sessionRuns s.mgt = false) (watchdog : Bool) : beginRestart watchdog s =
    modMgt (fun m => { m with restarting := true, restartBy := (releaseUnit true s).now + msGrid 60, byWatchdog := watchdog })
      (releaseUnit true s) := by
  unfold beginRestart
  rw [if_pos hr]
  dsimp only
  rw [if_neg (ne_true_of_eq_false hs)]

/-- ACTIVATE of firmware restarts into the session's slot. -/
theorem activateSession_firmware (hf : fwRuns s = true) (hc : s.mgt.updState = .committed) (hk : s.mgt.sesKind = false) :
    (activateSession s).mgt.updState = .pending ∧ (activateSession s).mgt.restarting = true ∧
      (activateSession s).mgt.fwSlot = s.mgt.sesSlot ∧ (activateSession s).mgt.trying = some s.mgt.fwSlot ∧
      (activateSession s).mgt.updResult = 0 := by
  have restarts : activateSession s = beginRestart false (pendFirmware s) := by
    unfold activateSession
    rw [if_pos ⟨hf, hc⟩, hk]
    rfl
  have runs : (pendFirmware s).mgt.running = true := (Bool.and_eq_true_iff.1 hf).1
  rw [restarts, beginRestart_idle runs rfl, modMgt_mgt, releaseUnit_mgt]
  exact ⟨rfl, rfl, rfl, rfl, rfl⟩

/-! ### A session that ends (R125, R457) -/

theorem segBytes_cons (g : Nat × Nat) (l : List (Nat × Nat)) : segBytes (g :: l) = g.2 + segBytes l := by
  have offset (l : List (Nat × Nat)) (a : Nat) : l.foldl (fun n g => n + g.2) a = a + segBytes l := by
    induction l generalizing a with
    | nil => rfl
    | cons g l ih => rw [segBytes, List.foldl_cons, List.foldl_cons, ih, ih (0 + g.2)]; omega
  rw [segBytes, List.foldl_cons, offset, Nat.zero_add]

/-- What is left of a list of segments without its first `n` bytes. -/
theorem segBytes_segDrop (n : Nat) (l : List (Nat × Nat)) : segBytes (segDrop 0 n l) = segBytes l - n := by
  induction l generalizing n with
  | nil => simp [segDrop, segBytes]
  | cons g l ih =>
    by_cases empty : g.2 ≤ 0
    · have rest : 0 - g.2 = 0 := by omega
      rw [segDrop, if_pos empty, rest, segBytes_cons, segBytes_cons, ih]
      omega
    · rw [segDrop, if_neg empty]
      by_cases whole : g.2 ≤ n
      · simp only [if_true, List.nil_append, Nat.sub_zero, if_pos whole, ih, segBytes_cons]
        omega
      · simp only [if_true, List.nil_append, Nat.sub_zero, if_neg whole, segBytes_cons]
        omega

theorem releaseUnit_pond (abort : Bool) (s : State) : (releaseUnit abort s).pond = s.pond := by
  unfold releaseUnit
  split
  · cases abort <;> rfl
  · rfl

theorem logUpdate_pond (outcome : Nat) (s : State) : (logUpdate outcome s).pond = s.pond := by
  unfold logUpdate pushLog
  dsimp only
  split <;> rfl

/-- Only a descriptor that is still being delivered keeps its space. -/
theorem failSession_aux (s : State) : segBytes (failSession s).pond.aux[0] = min (segBytes s.pond.aux[0]) (auxReserved 18 s.dma[18]) := by
  obtain ⟨-, -, logged, -⟩ := logUpdate_steady 2 (releaseUnit true s)
  obtain ⟨-, -, released, -⟩ := releaseUnit_steady true s
  have pond : (logUpdate 2 (releaseUnit true s)).pond = s.pond := (logUpdate_pond _ _).trans (releaseUnit_pond _ s)
  have drops (t : State) : (dropAux t).pond.aux[0] = segDrop 0 (segBytes t.pond.aux[0] - auxReserved 18 t.dma[18]) t.pond.aux[0] :=
    Vector.getElem_set_self _
  rw [failSession, drops, segBytes_segDrop, modMgt_pond, modMgt_dma, mgtErr, modMgt_pond, modMgt_dma, pond, logged, released]
  omega

/-! ### Activations (R458) -/

/-- New firmware that does not report in time gives way to the other slot's. -/
theorem fwTimeout_gives_way (ht : s.mgt.trying.isSome = true) (hr : s.mgt.restarting = true) :
    (fwTimeout s).mgt.fwSlot = (!s.mgt.fwSlot) ∧ (fwTimeout s).mgt.trying = none ∧ (fwTimeout s).mgt.updState = .idle ∧
      (fwTimeout s).mgt.restarting = true ∧ (fwTimeout s).mgt.slots[slotIx false s.mgt.fwSlot] = none ∧
      (fwTimeout s).mgt.restartBy = max s.now s.mgt.restartBy + 480000000 := by
  obtain ⟨u, hu⟩ : ∃ u, u = activationFails (advanceTo s.mgt.restartBy s) := ⟨_, rfl⟩
  obtain ⟨l, cleared⟩ := startFlash_mgt (.program (slotBase false s.mgt.fwSlot) [0, 0, 0, 0])
    (modMgt (fun m => { m with slots := m.slots.set (slotIx false s.mgt.fwSlot).val none (slotIx false s.mgt.fwSlot).isLt }) u)
  have mgt : (clearMagic false s.mgt.fwSlot u).mgt = { u.mgt with
      slots := u.mgt.slots.set (slotIx false s.mgt.fwSlot).val none (slotIx false s.mgt.fwSlot).isLt, flashWait := l } := cleared
  have now : (clearMagic false s.mgt.fwSlot u).now = max s.now s.mgt.restartBy := by
    rw [(clearMagic_steady _ _ u).1, hu, (activationFails_steady _).1]
    rfl
  have tried : (fwTimeout s).mgt = { (clearMagic false s.mgt.fwSlot u).mgt with
      fwSlot := !s.mgt.fwSlot, restarting := true, restartBy := (clearMagic false s.mgt.fwSlot u).now + msGrid 60 } := by
    unfold fwTimeout
    rw [if_pos ⟨ht, hr⟩, hu]
    rfl
  rw [tried, mgt, now]
  refine ⟨rfl, ?_, ?_, rfl, Vector.getElem_set_self _, rfl⟩
  · rw [hu]; rfl
  · rw [hu]; rfl

theorem reloadDone_notDue (h : reloadDue s = false) (image : List Byte) : reloadDone image s = s := if_neg (ne_true_of_eq_false h)

/-- The state in which CHK[7] has scanned the image of a reload. -/
def reloadScanned (image : List Byte) (s : State) : State := releaseUnit false (scanSlot true s.mgt.sesSlot image (claimUnit s))

theorem reloadScanned_mgt (image : List Byte) (s : State) : (reloadScanned image s).mgt = s.mgt := by
  rw [reloadScanned, releaseUnit_mgt, scanSlot_mgt]
  rfl

section
variable {image : List Byte} (h : reloadDue s = true)
include h

theorem reloadDone_rollsBack
    (hp : parseImage true image (loadsAccepted (reloadScanned image s)) (reloadScanned image s).otp = none) :
    reloadDone image s = rollBack (reloadScanned image s) := by
  simp only [reloadScanned] at hp ⊢
  simp only [reloadDone, h, if_true, hp]

theorem reloadDone_applies {i : Image}
    (hp : parseImage true image (loadsAccepted (reloadScanned image s)) (reloadScanned image s).otp = some i) :
    reloadDone image s = activated (applyImage s.mgt.sesSlot i (modMgt
      (fun m => { m with slots := m.slots.set (slotIx true s.mgt.sesSlot).val (some i) (slotIx true s.mgt.sesSlot).isLt })
      (reloadScanned image s))) := by
  have mgt := reloadScanned_mgt image s
  simp only [reloadScanned] at hp mgt ⊢
  simp only [reloadDone, h, if_true, hp, mgt]

end

end

/-! ### O58 -/

/-- Settles O58: each command of a session by its equation in the state that the clause names, the verification by `verifyDone_commits` and
`verifyDone_fails`, the timeout by `fwTimeout_gives_way`, the reload by `reloadDone_applies` and `reloadDone_rollsBack`. -/
theorem updates : Obligations.Updates := by
  unfold Obligations.Updates
  refine ⟨fun s => ⟨fun k hc => ⟨fun h => ?_, fun hf hi hl hu => ?_⟩, fun hr he => ⟨fun hw => ⟨?_, ?_⟩, fun ok hw => ?_⟩,
    fun ok errs hr => ⟨fun h => ?_, fun h => ?_⟩, fun image errs hr h => ?_,
    fun hc hf => ⟨fun hs => ?_, fun hi => ?_, fun h => ?_, fun hcm hk => ?_⟩, rfl, rfl, failSession_aux s⟩, fun s hr => ⟨fun ht hrs => ?_, fun image h => ?_, fun image h => ?_⟩⟩
  -- OPEN
  · exact (after_onHost hc rfl).trans (by rw [openSession_refused (s := touchLink s) h]; rfl)
  · have opens : exec (.updOpen k) s = .next (settle s (openSession k (touchLink s))) := after_onHost hc rfl
    rw [openSession_opens (s := touchLink s) hf hi hl hu] at opens
    exact ⟨_, opens, rfl, rfl, rfl, rfl, rfl, Vector.getElem_set_self _⟩
  -- the erase
  · exact after_live hr (eraseDone_done he hw true)
  · exact after_live hr (eraseDone_done he hw false)
  · exact after_live hr (eraseDone_waits hw ok)
  -- a page
  · exact after_live hr (pageProgrammed_notReady h ok errs)
  · intro t n x y z
    have page : programPage ok errs s = z := by cases ok <;> rfl
    have done := pageProgrammed_of_ready h ok errs
    rw [page] at done
    refine ⟨fun hn => after_live hr (done.trans (if_neg hn)), fun hl => ?_⟩
    obtain ⟨state, flash, own⟩ := beginVerify_keeps z
    refine ⟨beginVerify z, after_live hr (done.trans (if_pos hl)), state, flash, fun hu => own ?_⟩
    rw [← page, programPage_units]
    exact hu
  -- the verification
  · intro b
    have verified : exec (.updVerifyDone image errs) s = .next (settle s (verifyDone loadsInRange image errs s)) := after_live hr rfl
    split
    · next hp => rw [verified, verifyDone_fails h hp]
    · next i hp =>
      rw [verifyDone_commits h hp] at verified
      obtain ⟨state, slot, programmed, flash⟩ := commitImage_session i s.mgt (endImageScan b (readAux 0 0 256 errs s))
      have kept := readAux_undisturbed 0 0 256 errs s
      obtain ⟨mgt, -, out⟩ := endImageScan_keeps b (readAux 0 0 256 errs s)
      rw [mgt, kept.mgt] at programmed
      rw [out, kept.out] at flash
      exact ⟨_, verified, state, slot, programmed, flash⟩
  -- ABORT and ACTIVATE
  · exact after_onHost hc (abortSession_runs (s := touchLink s) hf hs)
  · exact after_onHost hc (abortSession_idle (s := touchLink s) hf hi)
  · exact after_onHost hc (activateSession_refused (s := touchLink s) h)
  · exact ⟨_, after_onHost hc rfl, activateSession_firmware (s := touchLink s) hf hcm hk⟩
  -- activations
  · exact ⟨_, after_live hr rfl, fwTimeout_gives_way ht hrs⟩
  · exact after_live hr (reloadDone_notDue h image)
  · intro ix t
    have ends : exec (.koltoReloadDone image) s = .next (settle s (reloadDone image s)) := after_live hr rfl
    have slot : t.mgt.sesSlot = s.mgt.sesSlot := congrArg Mgt.sesSlot (reloadScanned_mgt image s)
    split
    · next hp => rw [ends, reloadDone_rollsBack h hp]; rfl
    · next i hp => rw [ends, reloadDone_applies h hp, slot]; rfl

end Sys2Proof.Machine

/-! ## Sound states (O5, O6) -/

namespace Sys2Proof.Machine

/-! ### The pond's cells stay in canonical form (R117) -/

section
variable {s : State} {f : State → State}

theorem live_wf (hs : Memory.wf s.pond.mem = true) (hf : Memory.wf (f s).pond.mem = true) : Memory.wf (live f s).pond.mem = true := by
  unfold live
  split
  · exact hf
  · exact hs

theorem onType_wf (l : List Nat) (b : List Byte) (hs : Memory.wf s.pond.mem = true) (hf : Memory.wf (f s).pond.mem = true) :
    Memory.wf (onType l b f s).pond.mem = true := by
  unfold onType
  split
  · exact live_wf hs hf
  · exact hs

/-- A command keeps the form of the cells where what it does before it settles keeps it. -/
theorem after_wf {c : Instr} {s0 t u : State} (he : exec c s = after s0 u) (hu : Memory.wf u.pond.mem = true)
    (h : exec c s = .next t) : Memory.wf t.pond.mem = true := by
  obtain rfl : settle s0 u = t := Host.Outcome.next.inj (he.symm.trans h)
  have mem : (settle s0 u).pond.mem = u.pond.mem := (settle_held s0 u).2
  exact (congrArg (Memory.wf · = true) mem).mpr hu

end

/-- Every command keeps the cells in canonical form. Those named here reach an operation that writes cells, or take a form of their own; the
others leave every cell as it is, or clear them all. -/
theorem exec_keeps_wf {c : Instr} {s t : State} (hs : Memory.wf s.pond.mem = true) (h : exec c s = .next t) :
    Memory.wf t.pond.mem = true := by
  cases c with
  | registerWrite bus off val be => cases bus <;> exact after_wf rfl (by simp [hs]) h
  | packetHeaderArrival p b => exact after_wf rfl (live_wf hs (headerArrives_wf p b s hs)) h
  | docOpen p b => exact after_wf rfl (onType_wf [2] b hs (deliverPacket_wf p b s hs)) h
  | docClose p b => exact after_wf rfl (onType_wf [3] b hs (deliverPacket_wf p b s hs)) h
  | filler p b => exact after_wf rfl (onType_wf [4] b hs (deliverPacket_wf p b s hs)) h
  | testLine p b => exact after_wf rfl (onType_wf [5] b hs (deliverPacket_wf p b s hs)) h
  | linePacket p b =>
    refine after_wf rfl ?_ h
    split
    · exact hs
    · exact live_wf hs (deliverPacket_wf p b s hs)
  | docTableWaitEnd p => exact after_wf rfl (live_wf hs (tableFreed_wf p s hs)) h
  | auxDescriptorDelivered ch b => exact after_wf rfl (live_wf hs (auxDelivered_wf ch b s hs)) h
  | auxDataConsumed n errs =>
    refine after_wf rfl ?_ h
    split
    · exact live_wf hs (auxConsumed_wf n errs s hs)
    · exact hs
  | scrubRow errs => exact after_wf rfl (live_wf hs (scrubNext_wf errs s hs)) h
  | spareRowCopyDone errs => exact after_wf rfl (live_wf hs (spareCopied_wf errs s hs)) h
  | chkScanDone i ext errs => exact after_wf rfl (live_wf hs (scanEnds_wf i ext errs s hs)) h
  | lineAheadEvent p errs => exact after_wf rfl (live_wf hs (lineAhead_wf p errs s hs)) h
  | docTrigEdge i rise dt n =>
    refine after_wf rfl (live_wf hs ?_) h
    split <;> simp [hs]
  | thmUpdate rd => exact after_wf rfl (live_wf hs (by simp [hs])) h
  | standbyAxesStill => exact after_wf rfl (live_wf hs (enterStandby_wf s hs)) h
  | updPageProgrammed ok errs => exact after_wf rfl (live_wf hs (pageProgrammed_wf ok errs s hs)) h
  | updVerifyDone image errs => exact after_wf rfl (live_wf hs (verifyDone_wf _ image errs s hs)) h
  | _ => exact after_wf rfl (by simp [hs]) h

/-! ### One engine at most holds the brake (R294) -/

section
variable {s : State} {f : State → State}

theorem live_brake (hs : (s.sup.brakeA && s.sup.brakeB) = false) (hf : ((f s).sup.brakeA && (f s).sup.brakeB) = false) :
    ((live f s).sup.brakeA && (live f s).sup.brakeB) = false := by
  unfold live
  split
  · exact hf
  · exact hs

theorem onHost_brake (hs : (s.sup.brakeA && s.sup.brakeB) = false)
    (hf : ((f (touchLink s)).sup.brakeA && (f (touchLink s)).sup.brakeB) = false) :
    ((onHost f s).sup.brakeA && (onHost f s).sup.brakeB) = false := by
  unfold onHost
  split
  · exact hf
  · exact hs

theorem guarded_brake (hs : (s.sup.brakeA && s.sup.brakeB) = false) (hf : ((f s).sup.brakeA && (f s).sup.brakeB) = false) :
    ((guarded f s).sup.brakeA && (guarded f s).sup.brakeB) = false := by
  unfold guarded
  split
  · exact hs
  · exact hf

/-- A command leaves the brake with one engine at most where what it does before it settles does. -/
theorem after_brake {c : Instr} {s0 t u : State} (he : exec c s = after s0 u) (hu : (u.sup.brakeA && u.sup.brakeB) = false)
    (h : exec c s = .next t) : (t.sup.brakeA && t.sup.brakeB) = false := by
  obtain rfl : settle s0 u = t := Host.Outcome.next.inj (he.symm.trans h)
  exact settle_brake s0 u hu

end

/-- Every command leaves the brake with one engine at most. Those named here reach an operation that can change the pair, which moves or
clears the brake, or take a form of their own; the others leave the brake as it is, or clear it with the whole device. The two bits are kept
as one term, which `Bool.and_eq_false_imp` would take apart. -/
theorem exec_keeps_brake {c : Instr} {s t : State} (hs : (s.sup.brakeA && s.sup.brakeB) = false) (h : exec c s = .next t) :
    (t.sup.brakeA && t.sup.brakeB) = false := by
  cases c with
  | registerWrite bus off val be =>
    cases bus with
    | tp => exact after_brake rfl (live_brake hs (writeRegister_brake .tp off val be s hs)) h
    | bar0 => exact after_brake rfl (onHost_brake hs (writeRegister_brake .bar0 off val be (touchLink s) hs)) h
    | bar2 => exact after_brake rfl (onHost_brake hs (writeRegister_brake .bar2 off val be (touchLink s) hs)) h
    | bar4 => exact after_brake rfl (onHost_brake hs (writeRegister_brake .bar4 off val be (touchLink s) hs)) h
  | docTrigEdge i rise dt n =>
    refine after_brake rfl (live_brake hs ?_) h
    split <;> simp [-Bool.and_eq_false_imp, hs]
  | lineAheadEvent p errs => exact after_brake rfl (live_brake hs (lineAhead_brake p errs s hs)) h
  | enginePassDone x note => exact after_brake rfl (live_brake hs (donePass_brake x note s hs)) h
  | deadlineMiss x p => exact after_brake rfl (live_brake hs (missDeadline_brake x p s hs)) h
  | passWatchdog x => exact after_brake rfl (live_brake hs (watchdogPass_brake x s hs)) h
  | spitFire p a b => exact after_brake rfl (live_brake hs (spitTimer_brake p a b s hs)) h
  | csFire p w dd a b => exact after_brake rfl (live_brake hs (sheetSlot_brake p w dd a b s hs)) h
  | senseCfgWrite p w => exact after_brake rfl (onHost_brake hs (guarded_brake hs (writeSense_brake p w (touchLink s) hs))) h
  | echoRecord p w => exact after_brake rfl (live_brake hs (echoWindow_brake p w s hs)) h
  | diagnosisWindowEnd p a b => exact after_brake rfl (live_brake hs (endDiagnosis_brake p a b s hs)) h
  | copyFix p corrupt => exact after_brake rfl (live_brake hs (fixCopy_brake p corrupt s hs)) h
  | engineSelftestDone x pass => exact after_brake rfl (live_brake hs (endSelftest_brake x pass s hs)) h
  | quietPoint => exact after_brake rfl (live_brake hs (quietActions_brake s hs)) h
  | engineRetire x => exact after_brake rfl (onHost_brake hs (retireEngine_brake x (touchLink s) hs)) h
  | servoPeriod rd => exact after_brake rfl (live_brake hs (servoTick_brake rd s hs)) h
  | homeSettleEnd a => exact after_brake rfl (live_brake hs (settleEnd_brake a s hs)) h
  | limitQualified a hi level n => exact after_brake rfl (live_brake hs (limitChange_brake a hi level n s hs)) h
  | thmUpdate rd => exact after_brake rfl (live_brake hs (by simp [-Bool.and_eq_false_imp, hs])) h
  | standbyAxesStill => exact after_brake rfl (live_brake hs (enterStandby_brake s hs)) h
  | koltoReloadDone image => exact after_brake rfl (live_brake hs (reloadDone_brake image s hs)) h
  | _ => exact after_brake rfl (by simp [-Bool.and_eq_false_imp, hs]) h

/-! ### O5 and O6 -/

theorem inv_iff (s : State) : s.Inv ↔ Memory.wf s.pond.mem = true ∧ (s.sup.brakeA && s.sup.brakeB) = false := by
  simp only [State.Inv, State.brakeOk, Bool.not_eq_true']

/-- Settles O5: after reset no byte of the pond has been written, and no engine holds the brake. -/
theorem resetSound : Obligations.ResetSound := by
  unfold Obligations.ResetSound
  rw [inv_iff]
  exact ⟨rfl, rfl⟩

/-- Settles O6: with an empty queue only time passes, and every command keeps both parts of the invariant. -/
theorem stepKeepsSound : Obligations.StepKeepsSound := by
  unfold Obligations.StepKeepsSound
  intro s t sound taken
  rw [inv_iff] at sound ⊢
  obtain ⟨cells, brake⟩ := sound
  unfold step at taken
  split at taken
  · obtain rfl : idle s = t := Host.Outcome.next.inj taken
    exact ⟨cells, brake⟩
  · next rest _ =>
    exact ⟨exec_keeps_wf (s := { s with pending := rest }) cells taken, exec_keeps_brake (s := { s with pending := rest }) brake taken⟩

end Sys2Proof.Machine

/-! ## The partitions of the pond (O20, O22, O23) -/

namespace Sys2Proof.Machine

/-! ### Where partitions lie (R123, R126) -/

/-- U_p of R126 as a sum over the partitions before it. -/
theorem unitsBefore_eq_sum (n : Nat) (s : State) : unitsBefore n s = ∑ q : Port with q.val < n, s.pond.ports[q].units.toNat := by
  rw [unitsBefore, ← List.foldl_map (f := fun q : Port => s.pond.ports[q].units.toNat) (g := (· + ·)), ← List.sum_eq_foldl,
    Finset.sum_filter, Fin.sum_univ_def, List.sum_map_ite]
  simp

/-- The partitions lie one after another: a partition ends where a later one begins, or before it. -/
theorem unitsBefore_next (p : Port) {n : Nat} (h : p.val < n) (s : State) :
    unitsBefore p.val s + s.pond.ports[p].units.toNat ≤ unitsBefore n s := by
  have new : p ∉ Finset.univ.filter fun q : Port => q.val < p.val := by simp
  rw [unitsBefore_eq_sum, unitsBefore_eq_sum, Nat.add_comm,
    ← Finset.sum_insert (f := fun q : Port => s.pond.ports[q].units.toNat) new]
  refine Finset.sum_le_sum_of_subset fun q hq => ?_
  simp only [Finset.mem_insert, Finset.mem_filter, Finset.mem_univ, true_and] at hq ⊢
  rcases hq with rfl | lower
  · exact h
  · exact lower.trans h

/-- A stored line of a partition that has any units stays within its line capacity, before the repeat buffer. -/
theorem storedAddr_bounds (p : Port) (s : State) (g i : Nat) (h : 0 < s.pond.ports[p].units.toNat) :
    4096 * unitsBefore p.val s ≤ storedAddr p s g i ∧
      storedAddr p s g i < 4096 * (unitsBefore p.val s + s.pond.ports[p].units.toNat) := by
  have capacity : 32 * lineGranules p s + 1056 ≤ 4096 * s.pond.ports[p].units.toNat := by
    unfold lineGranules lineCapacity
    omega
  have wraps := Nat.mod_lt (32 * g + i) (show 0 < max 1 (32 * lineGranules p s) by omega)
  unfold storedAddr lineAddr
  omega

/-- Settles O23: the lower partition ends before the higher one begins. -/
theorem partitionsDisjoint : Obligations.PartitionsDisjoint := by
  unfold Obligations.PartitionsDisjoint
  intro p q g h i j s ne hp hq
  obtain ⟨pLow, pHigh⟩ := storedAddr_bounds p s g i hp
  obtain ⟨qLow, qHigh⟩ := storedAddr_bounds q s h j hq
  rcases Nat.lt_or_gt_of_ne (Fin.val_ne_of_ne ne) with below | above
  · have := unitsBefore_next p below s
    omega
  · have := unitsBefore_next q above s
    omega

/-! ### Stored lines (R126) -/

/-- Within a line no longer than the capacity the addresses do not repeat. -/
theorem storedAddr_injective {p : Port} {s : State} {g i j : Nat} (hi : i < 32 * lineGranules p s) (hj : j < 32 * lineGranules p s)
    (h : storedAddr p s g i = storedAddr p s g j) : i = j := by
  have size : max 1 (32 * lineGranules p s) = 32 * lineGranules p s := by omega
  have same : 32 * g + i ≡ 32 * g + j [MOD 32 * lineGranules p s] := by
    unfold storedAddr lineAddr at h
    rw [size] at h
    exact Nat.add_left_cancel h
  exact Nat.ModEq.eq_of_lt_of_lt (Nat.ModEq.add_left_cancel' _ same) hi hj

section
variable (p : Port) (doc : Word) (k : Nat) (isTest : Bool) (b : List Byte) (s : State)

theorem storeLine_mem : (storeLine p doc k isTest b s).pond.mem =
    memWriteList s.pond.mem (storedAddr p s s.pond.ports[p].next) 0 b := rfl

theorem storeLine_ports : (storeLine p doc k isTest b s).pond.ports = s.pond.ports.set p.val { s.pond.ports[p] with
      next := (s.pond.ports[p].next + ceilDiv b.length 32) % max 1 (lineGranules p s)
      lines := s.pond.ports[p].lines ++
        [{ doc := doc, line := k, gran := s.pond.ports[p].next, len := b.length, isTest := isTest }] } p.isLt := rfl

end

/-- Settles O22: a cell by `memRead_memWrite`; a line by the same for lists, since its addresses do not repeat. -/
theorem pondStorage : Obligations.PondStorage := by
  unfold Obligations.PondStorage
  refine ⟨fun a x b m hm => ⟨memWrite_wf m a b hm, memRead_memWrite m a x b hm⟩, fun p doc k isTest b s hm fits => ?_⟩
  intro g t
  refine ⟨fun i hi => ?_, fun a outside => ?_, ?_, fun q ne => ?_⟩
  · have distinct : ∀ j, i < j → j < b.length → storedAddr p s g (0 + j) ≠ storedAddr p s g (0 + i) := by
      intro j hij hj same
      simp only [Nat.zero_add] at same
      have := storedAddr_injective (by omega) (by omega) same
      omega
    have reads := memRead_memWriteList s.pond.mem (storedAddr p s g) 0 i b hm hi distinct
    rw [Nat.zero_add] at reads
    rw [storeLine_mem]
    exact reads
  · rw [storeLine_mem]
    refine memRead_memWriteList_of_ne s.pond.mem (storedAddr p s g) 0 a b hm fun j hj => ?_
    rw [Nat.zero_add]
    exact outside j hj
  · rw [storeLine_ports]
    simp [g]
  · rw [storeLine_ports]
    exact Vector.getElem_set_ne _ _ fun h => ne (Fin.ext h.symm)

/-! ### Partition sizes (R124) -/

theorem unitsTotal_eq_sum (s : State) :
    unitsTotal s = ((List.finRange 16).map fun q : Port => s.pond.ports[q].units.toNat).sum + s.pond.auxUnits.toNat := by
  rw [unitsTotal, unitsBefore_eq_sum, Finset.filter_true_of_mem fun q _ => q.isLt, Fin.sum_univ_def]

theorem partsFree_iff (s : State) : partsFree s = true ↔ (∀ q : Port, s.pond.ports[q].lines = []) ∧ s.pond.aux[0] = [] ∧
    s.pond.aux[1] = [] ∧ ∀ c : Chan, s.dma[c].state = .disabled ∨ s.dma[c].state = .stopped := by
  have each {α : Type} {n : Nat} (v : Vector α n) (f : α → Bool) : v.toList.all f = true ↔ ∀ i : Fin n, f v[i] = true := by
    simp [Fin.forall_iff]
  simp only [partsFree, auxSegs, Bool.and_eq_true, each, List.isEmpty_iff, List.append_eq_nil_iff, Bool.or_eq_true, beq_iff_eq, and_assoc]

section
variable {f : State → State} {s : State}

theorem resize_fits (hf : partsFree s = true) (ht : unitsTotal (f s) ≤ 10240) : resize f s = f s := by
  simp [resize, hf, ht]

theorem resize_refused (h : partsFree s = false ∨ 10240 < unitsTotal (f s)) :
    resize f s = { s with pond := { s.pond with err := setBit s.pond.err 0 } } := by
  rcases h with full | large
  · simp [resize, full]
  · simp [resize, Nat.not_le.2 large]

/-- A guarded host write of a partition's size, with no document in progress. -/
theorem exec_resize {cmd : Instr} (he : exec cmd s = after s (onHost (guarded (resize f)) s)) (hc : s.link.cfgReady = true)
    (hd : docInProgress s = false) : exec cmd s = .next (settle s (resize f (touchLink s))) :=
  he.trans (after_onHost hc (guarded_of_free (s := touchLink s) hd))

end

/-- Settles O20: both commands are guarded resizings, and `partsFree` and `unitsTotal` say what the clauses write out. -/
theorem partitionSizes : Obligations.PartitionSizes := by
  unfold Obligations.PartitionSizes
  intro val s hc hd bad free total
  have isFree : partsFree (touchLink s) = true ↔ free := partsFree_iff (touchLink s)
  have isTotal (u : State) : total u = unitsTotal u := (unitsTotal_eq_sum u).symm
  have sizes {cmd : Instr} {f : State → State} (he : exec cmd s = after s (onHost (guarded (resize f)) s)) :
      (free → total (f (touchLink s)) ≤ 10240 → exec cmd s = .next (settle s (f (touchLink s)))) ∧
      (¬free ∨ 10240 < total (f (touchLink s)) → exec cmd s = .next (settle s bad)) := by
    rw [exec_resize he hc hd, isTotal, ← isFree, Bool.not_eq_true]
    exact ⟨fun hf ht => by rw [resize_fits hf ht], fun h => by rw [resize_refused h]; rfl⟩
  exact ⟨fun p => sizes (f := fun s => setStore p { s.pond.ports[p] with units := val.setWidth 14, next := 0, repBuf := none } s) rfl,
    sizes (f := fun s => { s with pond := { s.pond with auxUnits := val.setWidth 14 } }) rfl⟩

end Sys2Proof.Machine

/-! ## Scrubbing and spare rows (O19) -/

namespace Sys2Proof.Machine

/-! ### A scrubbed row (R118 to R122) -/

theorem scrubNext_stopped {s : State} (h : s.pond.scrubRuns = false) (errs : Upsets) : scrubNext errs s = s := by
  simp [scrubNext, h]

/-- A row without upset words is passed over. -/
theorem scrubNext_clean {errs : Upsets} {s : State} (runs : s.pond.scrubRuns = true)
    (clean : ∀ e ∈ errs, e.1 / 128 ≠ s.pond.scrubRow) : scrubNext errs s = nextScrub (advanceTo (scrubDue s) s) := by
  have noneHere : (errs.filter fun e => e.1 / 128 == s.pond.scrubRow) = [] :=
    List.filter_eq_nil_iff.2 fun e he => by simpa using clean e he
  simp only [scrubNext, runs, if_true, noneHere]
  split <;> rfl

theorem nextScrub_goesOn {s : State} (h : s.pond.scrubRow + 1 < 41472) :
    nextScrub s = { s with pond := { s.pond with scrubRow := s.pond.scrubRow + 1, scrubMark := s.now } } := if_pos h

theorem nextScrub_ends {s : State} (h : s.pond.scrubRow = 41471) :
    nextScrub s = { s with pond := { s.pond with
      scrubRow := 0, scrubMark := s.now, passes := s.pond.passes + 1, lastPassMs := satNat 16 ((s.now - s.pond.passStart) / 8000000)
      passStart := s.now, onePrev := s.pond.oneNow, oneNow := [] } } := if_neg (by rw [h]; decide)

/-! ### A word read through the decoder (R117) -/

section
variable {w : Nat} {x : BitVec 79} {s : State}

theorem readThrough_one (h : popCount x = 1) : readThrough s (w, x) = wordCorrected w false s := by
  simp [readThrough, decodeWord, writeBackWord, h]

theorem readThrough_two (h : popCount x = 2) : readThrough s (w, x) = wordCorrected w true s := by
  simp [readThrough, decodeWord, writeBackWord, h]

theorem readThrough_three (h : popCount x = 3) : readThrough s (w, x) = wordLost w s := by
  simp [readThrough, decodeWord, writeBackWord, h]

/-- Of up to three upset bits the decoder finds a one-bit error, which R120 notes for the row, where there is one. -/
theorem decodeWord_finds_one (h : popCount x = 1 ∨ popCount x = 2 ∨ popCount x = 3) :
    ((decodeWord w x s).1 == some .one) = (popCount x == 1) := by
  rcases h with h | h | h <;> simp [decodeWord, h]

/-- A row in use whose only upset word is `w` is read through that word alone. -/
theorem scrubNext_word (runs : s.pond.scrubRuns = true) (data : s.pond.scrubRow < 40960) (unmapped : spareOf s.pond.scrubRow s = none)
    (row : w / 128 = s.pond.scrubRow) : scrubNext [(w, x)] s =
      nextScrub (let t := readThrough (advanceTo (scrubDue s) s) (w, x)
        if (decodeWord w x (advanceTo (scrubDue s) s)).1 == some .one then noteOneBit s.pond.scrubRow s.pond.scrubRow t else t) := by
  have logical : logicalRow s.pond.scrubRow (advanceTo (scrubDue s) s) = some s.pond.scrubRow := by
    have same : spareOf s.pond.scrubRow (advanceTo (scrubDue s) s) = none := unmapped
    simp [logicalRow, dataRows, data, same]
  have word : 128 * s.pond.scrubRow + w % 128 = w := by omega
  simp only [scrubNext, runs, if_true, logical, rowErrors, row, word, wordErrors, List.filter_cons, List.filter_nil, beq_self_eq_true,
    List.map_cons, List.map_nil, List.any_cons, List.any_nil, Bool.or_false, List.foldl_cons, List.foldl_nil]

end

/-! ### A finished copy (R120, R121) -/

/-- The lowest spare row that no assignment has used. -/
theorem freeSpareRow_eq {k : Nat} {s : State} (hk : k < 512) (free : ∀ t ∈ s.pond.spares, t.2 ≠ k)
    (lowest : ∀ j < k, ∃ t ∈ s.pond.spares, t.2 = j) : freeSpareRow s = some k := by
  refine List.find?_range_eq_some.2 ⟨by simpa using free, List.mem_range.2 hk, fun j hj => ?_⟩
  simpa using lowest j hj

theorem spareCopied_eq {row k : Nat} {rest : List Nat} {s : State} (copying : s.pond.copying = row :: rest) (free : freeSpareRow s = some k)
    (errs : Upsets) : spareCopied errs s =
      let u := wordErrors (errs.filter fun e => e.1 / 128 == row) s
      pushLog 5 0 (toLe 2 row ++ toLe 2 k)
        { u with pond := { u.pond with copying := u.pond.copying.drop 1, spares := u.pond.spares ++ [(row, k)] } } := by
  simp only [spareCopied, copying, free]
  rfl

/-! ### O19 -/

/-- Settles O19: a row by `scrubNext_clean` and `scrubNext_word` with the finding of its upset word, the end of a pass by `nextScrub_ends`, and
a copy by `spareCopied_eq` into the spare row that `freeSpareRow_eq` names. -/
theorem pondUpkeep : Obligations.PondUpkeep := by
  unfold Obligations.PondUpkeep
  refine ⟨fun errs s hr => ?_, fun row rest k s hr copying hk free lowest => ?_⟩
  · intro now'
    have scrubs (errs : Upsets) : exec (.scrubRow errs) s = .next (settle s (scrubNext errs s)) := after_live hr rfl
    refine ⟨fun stopped => ?_, fun runs clean more => ?_, fun runs clean last => ?_, fun w x runs data unmapped row => ?_⟩
    · rw [scrubs, scrubNext_stopped stopped]
    · rw [scrubs, scrubNext_clean runs clean, nextScrub_goesOn (s := advanceTo (scrubDue s) s) more]
      simp only [advanceTo, now']
    · rw [scrubs, scrubNext_clean runs clean, nextScrub_ends (s := advanceTo (scrubDue s) s) last]
      simp only [advanceTo, now']
    · have word := scrubNext_word (x := x) runs data unmapped row
      refine ⟨fun one => ?_, fun two => ?_, fun three => ?_⟩
      · rw [scrubs, word, readThrough_one one, decodeWord_finds_one (.inl one), one]
        simp only [beq_self_eq_true, if_true, advanceTo, now']
      · rw [scrubs, word, readThrough_two two, decodeWord_finds_one (.inr (.inl two)), two]
        simp only [Nat.reduceBEq, Bool.false_eq_true, if_false, advanceTo, now']
      · rw [scrubs, word, readThrough_three three, decodeWord_finds_one (.inr (.inr three)), three]
        simp only [Nat.reduceBEq, Bool.false_eq_true, if_false, advanceTo, now']
  · have copied (errs : Upsets) : exec (.spareRowCopyDone errs) s = .next (settle s (spareCopied errs s)) := after_live hr rfl
    have spare := spareCopied_eq copying (freeSpareRow_eq hk free lowest)
    refine ⟨fun errs => ?_, ?_⟩
    · rw [copied, spare]
    · rw [copied, spare]
      simp [wordErrors, copying]

end Sys2Proof.Machine

/-! ## The sluice, the meters and the auxiliary data (O21) -/

namespace Sys2Proof.Machine

/-! ### Evaluation of an offered document (R131, R132) -/

/-- Where the device's state or an earlier document holds a document, its first cause is one of these two. -/
theorem firstCause_of_held {d : Doc} {s : State} (offered : d.offered = true) (h : cond1 s ≠ 0 ∨ orderHeld d s = true) :
    (firstCause d s).1 ≠ 0 := by
  unfold firstCause
  split
  · next state => simpa using state
  · next state =>
    have order : orderHeld d s = true := h.resolve_left (by simpa using state)
    simp [offered, order]

theorem downgrade_of_stream {d : Doc} (h : d.stream = true) (s : State) : downgrade d s = s := by
  simp [downgrade, h]

section
variable {d : Doc} {s : State} (found : findDoc d.id s = some d) (offered : d.offered = true) (waits : d.admitted = false)
  (free : d.barred = false) (stream : d.stream = true)
include found offered waits free stream

theorem evaluateDoc_of_held (h : cond1 s ≠ 0 ∨ orderHeld d s = true) : evaluateDoc s d.id = s := by
  simp [evaluateDoc, found, offered, waits, free, downgrade_of_stream stream, h]

/-- A document that nothing holds before its conditions 3 to 5 is admitted, forced, or left waiting, by its first cause. -/
theorem evaluateDoc_of_unheld (loaded : loadFantail d s = s) (h : ¬(cond1 s ≠ 0 ∨ orderHeld d s = true)) : evaluateDoc s d.id =
    if (firstCause d s).1 = 0 then admitDoc d s
    else if ((firstCause d s).1 = 1 ∨ (firstCause d s).1 = 2) ∧ mustForce d s then
      admitDoc d (raise Src.admitForced { s with pond := { s.pond with err := setBit s.pond.err 6 } })
    else s := by
  simp [evaluateDoc, found, offered, waits, free, downgrade_of_stream stream, loaded, h]

theorem evaluateDoc_admits (loaded : loadFantail d s = s) (clear : firstCause d s = (0, 0)) : evaluateDoc s d.id = admitDoc d s := by
  have clear : (firstCause d s).1 = 0 := congrArg Prod.fst clear
  rw [evaluateDoc_of_unheld found offered waits free stream loaded fun held => firstCause_of_held offered held clear, if_pos clear]

theorem evaluateDoc_leaves (loaded : loadFantail d s = s) (cause : 3 ≤ (firstCause d s).1) : evaluateDoc s d.id = s := by
  by_cases held : cond1 s ≠ 0 ∨ orderHeld d s = true
  · exact evaluateDoc_of_held found offered waits free stream held
  · have unforced : ¬(((firstCause d s).1 = 1 ∨ (firstCause d s).1 = 2) ∧ mustForce d s) := fun h => by omega
    rw [evaluateDoc_of_unheld found offered waits free stream loaded held, if_neg (by omega), if_neg unforced]

end

/-! ### The throughput meters (R136) -/

theorem accrueOwed_now (s0 s : State) : (accrueOwed s0 s).now = s.now := by
  unfold accrueOwed
  split <;> rfl

/-- Time that passes is owed by the ports that owed lines before it. -/
theorem accrueOwed_meter {s0 s : State} (h : s0.now < s.now) (p : Port) : (accrueOwed s0 s).pond.ports[p].meter =
    { s.pond.ports[p].meter with owed := s.pond.ports[p].meter.owed + owedSince s0 s.now p } := by
  simp [accrueOwed, Nat.not_le.2 h]

theorem closeMeters_now (s : State) : (closeMeters s).now = s.now := rfl

theorem closeMeters_meter (s : State) (p : Port) : (closeMeters s).pond.ports[p].meter = closeMeter s.pond.ports[p].meter := by
  simp [closeMeters]

theorem closeMeter_eq (m : Meter) : closeMeter m =
    let w := ((m.bytes, m.owed) :: m.window).take 50
    let o := (w.map fun t => t.2).sum
    { window := w, bytes := 0, owed := 0
      rate := if o < 40000000 then m.rate else heldQuot ((w.map fun t => t.1).sum * 8000000000) o } := by
  have ms5 : msGrid 5 = 40000000 := rfl
  simp only [closeMeter, List.sum_eq_foldl, ms5]

theorem tickTo_now (p : Nat) (s : State) : (tickTo p s).now = (s.now / p + 1) * p := rfl

theorem tickTo_ms_now (s : State) : (tickTo (msGrid 1) s).now = (s.now / 8000000 + 1) * 8000000 := tickTo_now 8000000 s

theorem rateTick_now (s : State) : (rateTick s).now = (s.now / 8000000 + 1) * 8000000 := by
  rw [rateTick, closeMeters_now, accrueOwed_now, tickTo_ms_now]

theorem rateTick_meter (s : State) (p : Port) : (rateTick s).pond.ports[p].meter =
    closeMeter { s.pond.ports[p].meter with
      owed := s.pond.ports[p].meter.owed + if owesLines p s then (s.now / 8000000 + 1) * 8000000 - s.now else 0 } := by
  have later : s.now < (tickTo (msGrid 1) s).now := by
    rw [tickTo_ms_now]
    omega
  rw [rateTick, closeMeters_meter, accrueOwed_meter later, owedSince, tickTo_ms_now]
  rfl

theorem exec_rateUpdateTick {s : State} (hr : s.pwr.released = true) :
    exec .rateUpdateTick s = .next (settle { s with now := (s.now / 8000000 + 1) * 8000000 } (rateTick s)) := by
  have ticks : exec .rateUpdateTick s = after { s with now := (live rateTick s).now } (live rateTick s) := rfl
  rw [ticks, live_of_released hr, rateTick_now]
  rfl

/-! ### The firmware's data (R125) -/

theorem freeAux_bytes (i : Fin 2) (k : Nat) (s : State) : segBytes (freeAux i 0 k s).pond.aux[i] = segBytes s.pond.aux[i] - k := by
  have left : (freeAux i 0 k s).pond.aux[i] = segDrop 0 k s.pond.aux[i] := Vector.getElem_set_self _
  rw [left, segBytes_segDrop]

theorem exec_auxDataConsumed {s : State} (hr : s.pwr.released = true) (hf : fwRuns s = true) (n : Nat) (errs : Upsets) :
    exec (.auxDataConsumed n errs) s = .next (settle s (auxConsumed n errs s)) :=
  congrArg (after s) ((if_pos hf).trans (live_of_released hr))

/-! ### O21 -/

/-- Settles O21: the commands by their equations, the evaluation by its three outcomes, and the tick by what it makes of one meter. -/
theorem pondControls : Obligations.PondControls := by
  unfold Obligations.PondControls
  refine ⟨fun s => ⟨fun hc => ⟨after_onHost hc rfl, after_onHost hc rfl, after_onHost hc rfl⟩, fun hr => after_live hr rfl,
    fun hr hf n errs => ⟨exec_auxDataConsumed hr hf n errs, freeAux_bytes 1 _ s⟩⟩,
    fun d s found offered waits free stream => ⟨evaluateDoc_of_held found offered waits free stream,
      evaluateDoc_admits found offered waits free stream, evaluateDoc_leaves found offered waits free stream⟩, fun p s hr => ?_⟩
  intro now' m owed w o b
  refine ⟨rateTick s, _, exec_rateUpdateTick hr, rfl, rateTick_now s, ?_⟩
  rw [rateTick_meter, closeMeter_eq]

end Sys2Proof.Machine

/-! ## What becomes of a check unit -/

namespace Sys2Proof.Machine

/-! ### Changing one unit -/

section
variable {i j : Fin 8} {f g : ChkUnit → ChkUnit} {s : State}

theorem modUnit_unit (i : Fin 8) (f : ChkUnit → ChkUnit) (s : State) : (modUnit i f s).chk.units[i] = f s.chk.units[i] :=
  Vector.getElem_set_self _

theorem modUnit_unit_of_ne (h : j ≠ i) : (modUnit i f s).chk.units[j] = s.chk.units[j] :=
  Vector.getElem_set_ne i.isLt j.isLt fun e => h (Fin.ext e.symm)

/-- The change matters at the unit as it stands only. -/
theorem modUnit_congr (h : f s.chk.units[i] = g s.chk.units[i]) : modUnit i f s = modUnit i g s := by
  rw [modUnit, modUnit, h]

theorem modUnit_of_fixed (h : f s.chk.units[i] = s.chk.units[i]) : modUnit i f s = s := by
  have same : s.chk.units.set i.val s.chk.units[i] i.isLt = s.chk.units := Vector.set_getElem_self _
  rw [modUnit, h, same]

theorem modUnit_modUnit (i : Fin 8) (f g : ChkUnit → ChkUnit) (s : State) :
    modUnit i g (modUnit i f s) = modUnit i (fun u => g (f u)) s := by
  have once : (modUnit i f s).chk.units.set i.val (g (f s.chk.units[i])) i.isLt = s.chk.units.set i.val (g (f s.chk.units[i])) i.isLt :=
    Vector.set_set ..
  conv_lhs => rw [modUnit, modUnit_unit, once]
  rfl

end

/-! ### What concerns one unit alone -/

/-- What has happened concerns unit `i` alone: the other units, the engines and their supervisor are as they were. -/
structure UnitAlone (i : Fin 8) (a b : State) : Prop where
  others : ∀ j : Fin 8, j ≠ i → a.chk.units[j] = b.chk.units[j]
  engA : a.engA = b.engA
  engB : a.engB = b.engB
  sup : a.sup = b.sup

namespace UnitAlone

variable {i : Fin 8}

theorem refl (s : State) : UnitAlone i s s := ⟨fun _ _ => rfl, rfl, rfl, rfl⟩

theorem trans {a b c : State} (h1 : UnitAlone i a b) (h2 : UnitAlone i b c) : UnitAlone i a c :=
  ⟨fun j h => (h1.others j h).trans (h2.others j h), h1.engA.trans h2.engA, h1.engB.trans h2.engB, h1.sup.trans h2.sup⟩

/-- One of two things happens. -/
theorem either (c : Prop) [Decidable c] {t u s : State} (ht : UnitAlone i t s) (hu : UnitAlone i u s) :
    UnitAlone i (if c then t else u) s := by
  split
  · exact ht
  · exact hu

end UnitAlone

theorem modUnit_alone (i : Fin 8) (f : ChkUnit → ChkUnit) (s : State) : UnitAlone i (modUnit i f s) s :=
  ⟨fun _ h => modUnit_unit_of_ne h, rfl, rfl, rfl⟩

theorem raise_alone (i : Fin 8) (src : Nat) (s : State) : UnitAlone i (raise src s) s := ⟨fun _ _ => rfl, rfl, rfl, rfl⟩

theorem finishUnit_alone (i : Fin 8) (s : State) : UnitAlone i (finishUnit i s) s := by
  have raised (c : Prop) [Decidable c] (src : Nat) (t : State) : UnitAlone i (if c then raise src t else t) t :=
    .either c (raise_alone i src t) (.refl t)
  unfold finishUnit
  exact (raised _ _ _).trans ((raised _ _ _).trans (modUnit_alone i _ s))

theorem takeRecord_alone (tap : Nat) (b : List Byte) (i : Fin 8) (s : State) : UnitAlone i (takeRecord tap b i s) s := by
  unfold takeRecord
  exact (UnitAlone.either _ (finishUnit_alone i _) (.refl _)).trans (modUnit_alone i _ s)

theorem snoopUnit_alone (tap : Nat) (b : List Byte) (s : State) (i : Fin 8) : UnitAlone i (snoopUnit tap b s i) s :=
  .either _ (.either _ (modUnit_alone i _ s) (takeRecord_alone tap b i s)) (.refl s)

theorem snoopCopyUnit_alone (p : Port) (b : List Byte) (s : State) (i : Fin 8) : UnitAlone i (snoopCopyUnit p b s i) s :=
  .either _ (.either _ (modUnit_alone i _ s) (takeRecord_alone _ b i s)) (.refl s)

end Sys2Proof.Machine

/-! ## Scans and records (O25) -/

namespace Sys2Proof.Machine

/-! ### The end of a run (R164, R166) -/

/-- A unit that compares and reports its end: its value is compared with what it expects. -/
theorem finishUnit_compares {i : Fin 8} {s : State} (hc : unitCompare s.chk.units[i] = true) (hl : s.chk.units[i].clipped = false)
    (hr : s.chk.units[i].raced = false) (hu : s.chk.units[i].ue = false) (hd : unitDoneEvt s.chk.units[i] = true) :
    finishUnit i s =
      let u := s.chk.units[i]
      let same := unitResult u == (u.expect &&& maskOf (unitWidth u))
      let t := modUnit i (fun u => { u with
        result := unitResult u, arm := false, state := .done, paused := false, matched := same, mismatch := !same }) s
      raise Src.chkDone (if same then t else raise Src.chkMismatch t) := by
  have compares : (unitCompare s.chk.units[i] && !s.chk.units[i].clipped && !s.chk.units[i].raced && !s.chk.units[i].ue) = true := by
    simp only [hc, hl, hr, hu, Bool.not_false, Bool.and_self]
  simp only [finishUnit, compares, hd, if_true, Bool.true_and]
  cases unitResult s.chk.units[i] == (s.chk.units[i].expect &&& maskOf (unitWidth s.chk.units[i])) <;> rfl

/-! ### Scans (R150, R151) -/

theorem scanEnds_of_running {i : Fin 8} {s : State} (h : scanning s.chk.units[i] = true) (hp : s.chk.units[i].paused = false)
    (ext : List Byte) (errs : Upsets) :
    scanEnds i ext errs s =
      let s' := wordErrors errs s
      let b := scanBytes s'.chk.units[i] ext s'
      finishUnit i (modUnit i (fun v => feedUnit b { v with
        progress := BitVec.ofNat 32 b.length, ue := metLost errs s, clipped := scanClipped s.chk.units[i] s }) s') := by
  simp only [scanEnds, h, hp, Bool.not_false, Bool.and_self, if_true]

/-- A scan of the pond takes the bytes that stand in its range. -/
theorem scanBytes_of_pond {u : ChkUnit} {s : State} {lo hi : Nat} (h : scanRange u s = some (lo, hi)) (ext : List Byte) :
    scanBytes u ext s = (List.range (hi - lo)).map fun k => memRead s.pond.mem (lo + k) := by
  simp only [scanBytes, h]
  rfl

/-- A scan of the pond that meets no upset word and compares. -/
theorem scanEnds_of_pond {i : Fin 8} {s : State} {lo hi : Nat} {ext : List Byte} :
    let u := s.chk.units[i]
    scanning u = true → u.paused = false → u.raced = false → scanRange u s = some (lo, hi) → scanClipped u s = false →
    unitDoneEvt u = true → unitCompare u = true →
    let f := feedUnit ((List.range (hi - lo)).map fun k => memRead s.pond.mem (lo + k)) u
    let same := unitResult f == (u.expect &&& maskOf (unitWidth u))
    let t := modUnit i (fun _ => { f with
      progress := BitVec.ofNat 32 (hi - lo), ue := false, clipped := false, result := unitResult f, arm := false, state := .done
      paused := false, matched := same, mismatch := !same }) s
    scanEnds i ext [] s = raise Src.chkDone (if same then t else raise Src.chkMismatch t) := by
  intro u hs hp hr hrange hclip hd hc f same t
  have bytes : scanBytes u ext s = (List.range (hi - lo)).map fun k => memRead s.pond.mem (lo + k) := scanBytes_of_pond hrange ext
  let fed : State := modUnit i (fun _ => { f with progress := BitVec.ofNat 32 (hi - lo), ue := false, clipped := false }) s
  have unit : fed.chk.units[i] = { f with progress := BitVec.ofNat 32 (hi - lo), ue := false, clipped := false } := modUnit_unit _ _ s
  have ends : scanEnds i ext [] s = finishUnit i fed := by
    rw [scanEnds_of_running hs hp]
    refine congrArg (finishUnit i) (modUnit_congr ?_)
    show feedUnit (scanBytes u ext s) { u with
      progress := BitVec.ofNat 32 (scanBytes u ext s).length, ue := false, clipped := scanClipped u s } = _
    rw [hclip, bytes, List.length_map, List.length_range]
    rfl
  rw [ends, finishUnit_compares (by rw [unit]; exact hc) (by rw [unit]) (by rw [unit]; exact hr) (by rw [unit]) (by rw [unit]; exact hd)]
  simp only [unit, fed, modUnit_modUnit]
  rfl

/-! ### Records at a tap (R153, R154) -/

section
variable {tap : Nat} {b : List Byte} {i : Fin 8} {s : State}

/-- A unit that does not listen at the tap lets the record pass. -/
theorem snoopUnit_of_deaf (h : s.chk.units[i].state ≠ .running ∨ unitFeed s.chk.units[i] ≠ 1 ∨ unitSrc s.chk.units[i] ≠ tap) :
    snoopUnit tap b s i = s :=
  if_neg fun ⟨hs, hf, ht⟩ => by
    rcases h with h | h | h
    · exact h hs
    · exact h hf
    · exact h ht

/-- One that was armed in the middle of the record takes the next one. -/
theorem snoopUnit_of_skip (hs : s.chk.units[i].state = .running) (hf : unitFeed s.chk.units[i] = 1)
    (ht : unitSrc s.chk.units[i] = tap) (hk : s.chk.units[i].skip = true) :
    snoopUnit tap b s i = modUnit i (fun u => { u with skip := false }) s := by
  rw [snoopUnit, if_pos ⟨hs, hf, ht⟩, if_pos hk]

theorem snoopUnit_of_listening (hs : s.chk.units[i].state = .running) (hf : unitFeed s.chk.units[i] = 1)
    (ht : unitSrc s.chk.units[i] = tap) (hk : s.chk.units[i].skip = false) : snoopUnit tap b s i = takeRecord tap b i s := by
  rw [snoopUnit, if_pos ⟨hs, hf, ht⟩]
  exact if_neg (Bool.eq_false_iff.1 hk)

/-- A record that is not the last, taken without a fold. -/
theorem takeRecord_endless (hf : unitFold s.chk.units[i] = 0) (hr : s.chk.units[i].records = 0) :
    takeRecord tap b i s = modUnit i (fun u => { u with
      reg := (feedUnit b u).reg, seq := u.seq + 1, progress := u.progress + BitVec.ofNat 32 b.length, recsLeft := u.recsLeft - 1 }) s := by
  have noFold : ¬unitFold s.chk.units[i] = 2 := by omega
  have endless : ¬(s.chk.units[i].records ≠ 0 ∧ s.chk.units[i].recsLeft - 1 = 0) := fun ⟨h, _⟩ => h hr
  simp only [takeRecord, if_neg noFold]
  exact (if_neg endless).trans (modUnit_congr rfl)

/-- No unit of the list listens at the tap. -/
theorem foldl_snoopUnit_of_deaf (l : List (Fin 8))
    (h : ∀ i ∈ l, s.chk.units[i].state ≠ .running ∨ unitFeed s.chk.units[i] ≠ 1 ∨ unitSrc s.chk.units[i] ≠ tap) :
    l.foldl (snoopUnit tap b) s = s := by
  induction l with
  | nil => rfl
  | cons i l ih =>
    rw [List.foldl_cons, snoopUnit_of_deaf (h i List.mem_cons_self)]
    exact ih fun j hj => h j (List.mem_cons_of_mem _ hj)

/-- Where no other unit runs, the record is the business of one unit. -/
theorem snoopRecord_of_alone (h : ∀ j : Fin 8, j ≠ i → s.chk.units[j].state ≠ .running) :
    snoopRecord tap b s = snoopUnit tap b s i := by
  obtain ⟨before, rest, order⟩ := List.append_of_mem (List.mem_finRange i)
  have once := List.nodup_finRange 8
  rw [order, List.nodup_append, List.nodup_cons] at once
  obtain ⟨-, ⟨notRest, -⟩, apart⟩ := once
  have others (j) (hj : j ∈ before) : j ≠ i := apart j hj i List.mem_cons_self
  have later (j) (hj : j ∈ rest) : j ≠ i := fun e => notRest (e ▸ hj)
  rw [snoopRecord, order, List.foldl_append, List.foldl_cons, foldl_snoopUnit_of_deaf before fun j hj => .inl (h j (others j hj))]
  refine foldl_snoopUnit_of_deaf rest fun j hj => .inl ?_
  rw [(snoopUnit_alone tap b s i).others j (later j hj)]
  exact h j (later j hj)

end

/-! ### O25 -/

/-- Settles O25: a scan by its equation and the unit it leaves, a record by what each unit of the fold makes of it. -/
theorem checkRuns : Obligations.CheckRuns := by
  unfold Obligations.CheckRuns
  refine ⟨fun i ext s hr => ?_, fun tap b s hr => ⟨fun ht => ?_, fun ht => ?_, fun deaf => ?_, fun i alone => ?_⟩⟩
  · intro u hs hp
    exact ⟨fun errs => after_live hr (scanEnds_of_running hs hp ext errs),
      fun lo hi raced range clipped done compares => after_live hr (scanEnds_of_pond hs hp raced range clipped done compares)⟩
  · exact congrArg (after s) ((if_pos ht).trans (live_of_released hr))
  · exact congrArg (after s) (if_neg ht)
  · exact foldl_snoopUnit_of_deaf _ fun i _ => deaf i
  · intro u hs hf ht
    rw [snoopRecord_of_alone alone]
    exact ⟨snoopUnit_of_skip hs hf ht, fun hk noFold endless =>
      (snoopUnit_of_listening hs hf ht hk).trans (takeRecord_endless noFold endless)⟩

end Sys2Proof.Machine

/-! ## Arming, aborting and configuring (O24) -/

namespace Sys2Proof.Machine

section
variable {i : Fin 8} {s : State}

/-! ### Arming (R162, R164) -/

theorem armUnit_of_running (h : s.chk.units[i].state = .running) (m : Bool) : armUnit i m s = s := if_pos h

theorem armUnit_refused {m : Bool} (h : s.chk.units[i].state ≠ .running) (hb : armBad i m s.chk.units[i] = true) :
    armUnit i m s = modUnit i (fun u => { u with armBad := true }) s := by
  rw [armUnit, if_neg h, if_pos hb]

theorem armUnit_accepted {m : Bool} (h : s.chk.units[i].state ≠ .running) (hb : armBad i m s.chk.units[i] = false) :
    armUnit i m s =
      modUnit i (startUnit s.otp.burn.isSome (midRecord (unitSrc s.chk.units[i]) s) (midCopies s) s.thm.level) s := by
  rw [armUnit, if_neg h]
  exact if_neg (Bool.eq_false_iff.1 hb)

/-- The unit as it starts, before a fold. -/
def startedUnit (burning mid : Bool) (copies : BitVec 16) (level : Nat) (u : ChkUnit) : ChkUnit :=
  { u with
    arm := true, state := .running, ue := false, clipped := false, mismatch := false, matched := false
    raced := burning && unitFeed u == 0 && unitSrc u == 0x13
    skip := mid && unitFeed u == 1, skipCopies := if unitFeed u = 1 ∧ unitSrc u = tapCopy then copies else 0
    paused := unitFeed u == 0 && level == 64, result := 0, progress := 0, seq := u.seqStart, reg := u.init
    recsLeft := u.records.toNat }

theorem startUnit_unfolded {u : ChkUnit} (h : unitFeed u ≠ 0 ∨ unitFold u ≠ 1) (burning mid : Bool) (copies : BitVec 16) (level : Nat) :
    startUnit burning mid copies level u = startedUnit burning mid copies level u :=
  if_neg fun ⟨feed, fold⟩ => h.elim (· feed) (· fold)

/-- A scan with FOLD 1 takes where it reads from before what it reads (R155). -/
theorem startUnit_folded {u : ChkUnit} (hf : unitFeed u = 0) (hd : unitFold u = 1) (burning mid : Bool) (copies : BitVec 16) (level : Nat) :
    startUnit burning mid copies level u =
      feedUnit (toLe 4 (unitSrc u) ++ toLe 4 u.length.toNat ++ toLe 8 u.start.toNat) (startedUnit burning mid copies level u) :=
  if_pos ⟨hf, hd⟩

/-- An ARM of the host counts from configuration readiness on, one of the management block from reset release on. -/
theorem exec_chkArm {m : Bool} {t : State} (h : (if m then s.pwr.released else s.link.cfgReady) = true)
    (ht : armUnit i m (if m then s else touchLink s) = t) : exec (.chkArm i m) s = .next (settle s t) := by
  cases m with
  | false => exact after_onHost h ht
  | true => exact after_live h ht

/-! ### Aborting (R164, R165) -/

theorem abortUnit_of_running (h : s.chk.units[i].state = .running) :
    abortUnit i s = modUnit i (fun u => { u with state := .aborted, arm := false, result := 0, paused := false }) s :=
  modUnit_congr (if_pos h)

theorem abortUnit_of_idle (h : s.chk.units[i].state ≠ .running) : abortUnit i s = s := modUnit_of_fixed (if_neg h)

/-! ### CFG (R161, R163) -/

theorem writeUnitCfg_of_locked (h : unitLocked i s.chk.units[i] = true) (w : Word) : writeUnitCfg i w s = countIgnored s := if_pos h

/-- A good WIDTH is written with the other fields. -/
theorem writeUnitCfg_of_width {w : Word} (h : unitLocked i s.chk.units[i] = false) (h1 : 1 ≤ w.toNat % 128) (h64 : w.toNat % 128 ≤ 64) :
    writeUnitCfg i w s = modUnit i (fun u => { u with cfg := w &&& 0x00FF7FFF }) s := by
  have good : (w.toNat % 128 == 0 || decide (64 < w.toNat % 128)) = false := by
    simp only [Bool.or_eq_false_iff, beq_eq_false_iff_ne, decide_eq_false_iff_not]
    omega
  simp only [writeUnitCfg, h, good, Bool.false_eq_true, if_false, Bool.or_false]

/-- A bad one is refused: the field stays, the others are written. -/
theorem writeUnitCfg_of_badWidth {w : Word} (h : unitLocked i s.chk.units[i] = false) (hw : w.toNat % 128 = 0 ∨ 64 < w.toNat % 128) :
    writeUnitCfg i w s = modUnit i (fun u => { u with cfg := (w &&& 0x00FF7F80) ||| (u.cfg &&& 0x7F), armBad := true }) s := by
  have bad : (w.toNat % 128 == 0 || decide (64 < w.toNat % 128)) = true := by simpa using hw
  have fields : w &&& 0x00FF7FFF &&& 0xFFFFFF80 = w &&& 0x00FF7F80 := BitVec.and_assoc ..
  simp only [writeUnitCfg, h, bad, Bool.false_eq_true, if_false, if_true, Bool.or_true, fields]

end

/-! ### O24 -/

/-- Settles O24: each command by its equation in the case that the clause names. -/
theorem checkUnits : Obligations.CheckUnits := by
  unfold Obligations.CheckUnits
  refine ⟨fun i s => ⟨fun m hm => ?_, fun hc running => ?_, fun hc idle => ?_⟩,
    fun s hc => ⟨fun i val => ⟨fun locked => ?_, fun unlocked lo hi => ?_, fun unlocked bad => ?_⟩, fun same => ?_⟩⟩
  · intro s' start
    have unit : s'.chk.units[i] = s.chk.units[i] := by cases m <;> rfl
    refine ⟨fun idle bad => ?_, fun idle good plain => ?_, fun idle good feed fold => ?_, fun running => ?_⟩
    · exact exec_chkArm hm (armUnit_refused (unit ▸ idle) (unit ▸ bad))
    · refine exec_chkArm hm ((armUnit_accepted (unit ▸ idle) (unit ▸ good)).trans (modUnit_congr ?_))
      rw [unit, startUnit_unfolded plain]
      cases m <;> rfl
    · refine exec_chkArm hm ((armUnit_accepted (unit ▸ idle) (unit ▸ good)).trans (modUnit_congr ?_))
      rw [unit, startUnit_folded feed fold]
      cases m <;> rfl
    · exact exec_chkArm hm (armUnit_of_running (unit ▸ running) m)
  · exact after_onHost hc (abortUnit_of_running running)
  · exact after_onHost hc (abortUnit_of_idle idle)
  · exact after_onHost hc (writeUnitCfg_of_locked (s := touchLink s) locked val)
  · exact after_onHost hc (writeUnitCfg_of_width unlocked lo hi)
  · exact after_onHost hc (writeUnitCfg_of_badWidth unlocked bad)
  · exact after_onHost hc (by cases same <;> rfl)

end Sys2Proof.Machine

/-! ## The end of a diagnosis and the state copy (O42) -/

namespace Sys2Proof.Machine

/-! ### The findings of a diagnosis (R299, R302) -/

theorem findingKind_of_memUe {n : DiagNote} (h : n.memUe = true) : findingKind n = some 4 := if_pos h

theorem findingKind_of_sequence {n : DiagNote} (h : n.memUe = false) (hs : n.sequence = true) : findingKind n = some 5 :=
  (if_neg (Bool.eq_false_iff.1 h)).trans (if_pos hs)

theorem findingKind_of_clean {n : DiagNote} (h : n.memUe = false) (hs : n.sequence = false) : findingKind n = none :=
  (if_neg (Bool.eq_false_iff.1 h)).trans (if_neg (Bool.eq_false_iff.1 hs))

/-! ### The verdict of a diagnosis (R299, R315) -/

/-- The end of the window, with the corrected words and the verdict time noted. -/
def atVerdict (a b : DiagNote) (ld : Load) (s : State) : State :=
  noteVerdict 150 (noteCorrected .b b.corrected (noteCorrected .a a.corrected (advanceTo ld.diagEnd s)))

theorem atVerdict_isPair (a b : DiagNote) (ld : Load) (s : State) : isPair (atVerdict a b ld s) = isPair s := rfl

theorem atVerdict_mainEng (a b : DiagNote) (ld : Load) (s : State) : mainEng (atVerdict a b ld s) = mainEng s := rfl

theorem atVerdict_testPending (a b : DiagNote) (ld : Load) (s : State) : (atVerdict a b ld s).sup.testPending = s.sup.testPending := rfl

theorem endDiagnosis_of_none {p : Port} {a b : DiagNote} {s : State} (h : ∀ l ∈ s.loads[p], l.verdict ≠ .diagnosing) :
    endDiagnosis p a b s = s := by
  have none : (s.loads[p].find? fun l => l.verdict == .diagnosing) = none :=
    List.find?_eq_none.2 fun l hl => by simpa using h l hl
  simp only [endDiagnosis, none]

section
variable {p : Port} {a b : DiagNote} {s : State} {ld : Load} {k k' : Nat}
  (h : (s.loads[p].find? fun l => l.verdict == .diagnosing) = some ld)
include h

theorem endDiagnosis_faultA (ha : findingKind a = some k) (hb : findingKind b = none) :
    endDiagnosis p a b s = engineFault .a k false p ld.docId ld.line (atVerdict a b ld s) := by
  simp only [endDiagnosis, h, ha, hb]
  rfl

theorem endDiagnosis_faultB (ha : findingKind a = none) (hb : findingKind b = some k) :
    endDiagnosis p a b s = engineFault .b k false p ld.docId ld.line (atVerdict a b ld s) := by
  simp only [endDiagnosis, h, ha, hb]
  rfl

theorem endDiagnosis_faultBoth (ha : findingKind a = some k) (hb : findingKind b = some k') :
    endDiagnosis p a b s = bothFault k k' p ld.docId ld.line (atVerdict a b ld s) := by
  simp only [endDiagnosis, h, ha, hb]
  rfl

theorem endDiagnosis_clean (ha : findingKind a = none) (hb : findingKind b = none) :
    endDiagnosis p a b s =
      if s.sup.testPending && isPair s then engineFault (mainEng s) 8 false p ld.docId ld.line (atVerdict a b ld s)
      else mismatchVerdict p ld.docId ld.line (atVerdict a b ld s) := by
  rw [← atVerdict_testPending a b ld s, ← atVerdict_isPair a b ld s, ← atVerdict_mainEng a b ld s]
  simp only [endDiagnosis, h, ha, hb]
  rfl

end

/-! ### Fixing a copy (R153, R308) -/

theorem snoopCopy_sup (p : Port) (b : List Byte) (s : State) : (snoopCopy p b s).sup = s.sup :=
  foldl_keep State.sup _ (fun s i => (snoopCopyUnit_alone p b s i).sup) _ s

theorem snoopCopy_eng (p : Port) (b : List Byte) (x : EngId) (s : State) : eng x (snoopCopy p b s) = eng x s := by
  cases x with
  | a => exact foldl_keep State.engA _ (fun s i => (snoopCopyUnit_alone p b s i).engA) _ s
  | b => exact foldl_keep State.engB _ (fun s i => (snoopCopyUnit_alone p b s i).engB) _ s

theorem eng_setEng (x : EngId) (e : Engine) (s : State) : eng x (setEng x e s) = e := by cases x <;> rfl

/-- The engine with segment `g` on a port. -/
def withSegment (x : EngId) (p : Port) (g : Segment) (s : State) : State :=
  setEng x { eng x s with seg := (eng x s).seg.set p.val g p.isLt } s

/-- A copy is counted. -/
def countCopy (s : State) : State := { s with sup := { s.sup with copies := s.sup.copies + 1 } }

theorem eng_countCopy (x : EngId) (s : State) : eng x (countCopy s) = eng x s := by cases x <;> rfl

theorem fixSegment_eq (x : EngId) (p : Port) (g : Segment) (s : State) :
    fixSegment x p g s = countCopy (snoopCopy p (segImage p g) (withSegment x p g s)) := by
  rw [fixSegment, withSegment, countCopy]

theorem fixSegment_copies (x : EngId) (p : Port) (g : Segment) (s : State) : (fixSegment x p g s).sup.copies = s.sup.copies + 1 := by
  rw [fixSegment_eq, countCopy, snoopCopy_sup, withSegment, setEng_sup]

theorem fixSegment_seg (x : EngId) (p : Port) (g : Segment) (s : State) : (eng x (fixSegment x p g s)).seg[p] = g := by
  rw [fixSegment_eq, eng_countCopy, snoopCopy_eng, withSegment, eng_setEng]
  exact Vector.getElem_set_self _

/-! ### What becomes of a latched copy (R308) -/

theorem snapshot_of_queued {s : State} {p : Port} {rest : List Port} (h : s.sup.copyQueue = p :: rest) :
    snapshot s = { s with sup := { s.sup with
      copyQueue := rest, fullLeft := s.sup.fullLeft - 1, latent := s.sup.latent.set p.val (some (eng (mainEng s) s).seg[p]) p.isLt } } := by
  simp only [snapshot, h]

theorem snapshot_of_empty {s : State} (h : s.sup.copyQueue = []) : snapshot s = s := by simp only [snapshot, h]

theorem fixCopy_of_none {p : Port} {s : State} (h : s.sup.latent[p] = none) (c : Bool) : fixCopy p c s = s := by simp only [fixCopy, h]

/-- The latch of the port is emptied. -/
def unlatch (p : Port) (s : State) : State := { s with sup := { s.sup with latent := s.sup.latent.set p.val none p.isLt } }

section
variable {p : Port} {s cut fixed : State} {g : Segment} (h : s.sup.latent[p] = some g)
  (hcut : cut = cutCopies (setBit 0 p.val) (unlatch p s)) (hfixed : fixed = fixSegment (mainEng s).other p g (unlatch p s))
include h

include hcut in
theorem fixCopy_corrupt {bad : State}
    (hbad : bad = supErr 5 { cut with sup := { cut.sup with copyDiscard := satInc cut.sup.copyDiscard } }) :
    fixCopy p true s =
      engineFault (mainEng s).other 6 false p g.docId g.line.toNat (if s.sup.rejoining then breakRejoin bad else bad) := by
  have kept : bad.sup.rejoining = s.sup.rejoining := by rw [hbad, hcut]; rfl
  rw [← kept, hbad, hcut]
  unfold fixCopy
  rw [h]
  exact if_pos rfl

include hfixed in
theorem fixCopy_rejoins (hr : s.sup.rejoining = true) (hd : clearBit fixed.sup.rejoinDue p.val ≠ 0) :
    fixCopy p false s = { fixed with sup := { fixed.sup with rejoinDue := clearBit fixed.sup.rejoinDue p.val } } := by
  unfold fixCopy
  rw [h]
  refine (if_neg Bool.false_ne_true).trans ((if_pos hr).trans ?_)
  dsimp only
  rw [unlatch] at hfixed
  rw [← hfixed]
  exact if_neg hd

variable (hr : s.sup.rejoining = false)
include hr

include hcut in
theorem fixCopy_stale (hs : copyStale (eng (mainEng s).other s).seg[p] g s = true) :
    fixCopy p false s = { cut with sup := { cut.sup with copyStale := satInc cut.sup.copyStale } } := by
  subst hcut
  unfold fixCopy
  rw [h]
  exact (if_neg Bool.false_ne_true).trans ((if_neg (Bool.eq_false_iff.1 hr)).trans (if_pos hs))

variable (hs : copyStale (eng (mainEng s).other s).seg[p] g s = false)
include hs

theorem fixCopy_early (he : copyEarly (eng (mainEng s).other s).seg[p] g s = true) : fixCopy p false s = s := by
  unfold fixCopy
  rw [h]
  exact (if_neg Bool.false_ne_true).trans ((if_neg (Bool.eq_false_iff.1 hr)).trans
    ((if_neg (Bool.eq_false_iff.1 hs)).trans (if_pos he)))

include hfixed in
theorem fixCopy_agrees (he : copyEarly (eng (mainEng s).other s).seg[p] g s = false)
    (hc : segCheck p (eng (mainEng s).other s).seg[p] = segCheck p g) : fixCopy p false s = fixed := by
  subst hfixed
  unfold fixCopy
  rw [h]
  exact (if_neg Bool.false_ne_true).trans ((if_neg (Bool.eq_false_iff.1 hr)).trans
    ((if_neg (Bool.eq_false_iff.1 hs)).trans ((if_neg (Bool.eq_false_iff.1 he)).trans (if_pos hc))))

end

/-! ### O42 -/

/-- Settles O42: the verdict by the findings of the two engines, the copy by what becomes of the latch. -/
theorem pairFaults : Obligations.PairFaults := by
  unfold Obligations.PairFaults
  refine ⟨fun p a b s hr => ⟨fun n => ⟨findingKind_of_memUe, findingKind_of_sequence, findingKind_of_clean⟩, fun ld h => ?_,
    fun none => after_live hr (endDiagnosis_of_none none)⟩, fun p s hr => ⟨fun rest queued => ?_, fun empty => ?_, fun c none => ?_,
    fun g h => ?_⟩⟩
  · intro s1
    refine ⟨fun k ha hb => after_live hr (endDiagnosis_faultA h ha hb), fun k ha hb => after_live hr (endDiagnosis_faultB h ha hb),
      fun k k' ha hb => after_live hr (endDiagnosis_faultBoth h ha hb), fun ha hb quiet => ?_, fun ha hb waits pair => ?_⟩
    · exact after_live hr ((endDiagnosis_clean h ha hb).trans (if_neg (by simp [quiet])))
    · exact after_live hr ((endDiagnosis_clean h ha hb).trans (if_pos (by simp [waits, pair])))
  · exact after_live hr (snapshot_of_queued queued)
  · exact after_live hr (snapshot_of_empty empty)
  · exact after_live hr (fixCopy_of_none none c)
  · intro x own s0 cut bad fixed
    refine ⟨after_live hr (fixCopy_corrupt h rfl rfl), ⟨fixSegment_copies x p g s0, fixSegment_seg x p g s0⟩,
      fun paired stale => ?_, fun paired fresh early => ?_, fun paired fresh timely same => ?_, fun rejoins due => ?_⟩
    · exact after_live hr (fixCopy_stale h rfl paired stale)
    · exact after_live hr (fixCopy_early h paired fresh early)
    · exact after_live hr (fixCopy_agrees h rfl paired fresh timely same)
    · exact after_live hr (fixCopy_rejoins h rfl rejoins due)

end Sys2Proof.Machine

/-! ## Edges and the position (O27) -/

namespace Sys2Proof.Machine

/-! ### What is held for a line boundary, as one operation for each kind of write (R26, R188) -/

/-- A write that is held goes into force; with none held nothing does. -/
def enforce {α : Type} (held : Option α) (apply : α → State → State) (s : State) : State := held.elim s (apply · s)

theorem applyHeld_eq (x : LoopId) (s : State) :
    let l := loopOf x s
    applyHeld x s = applyIdle x (enforce l.pendIndex (applyIndex x) (enforce l.pendEnc (applyEnc x) (enforce l.pendSet (applySet x) s))) := by
  dsimp only [applyHeld]
  cases (loopOf x s).pendSet <;> cases (loopOf x s).pendEnc <;> cases (loopOf x s).pendIndex <;> rfl

/-! ### What an edge leaves in the loop that it has moved -/

/-- What an edge has made of a loop stands: its position and direction, the remainder unless settings were held, and the edge's time unless
an ENC_CFG was. -/
structure EdgeStands (l' l : Loop) : Prop where
  pos : l'.pos = l.pos
  dir : l'.lastDir = l.lastDir
  rem : l.pendSet = none → l'.pendSet = none ∧ l'.rem = l.rem
  time : l.pendEnc = none → l'.pendEnc = none ∧ l'.lastEdge = l.lastEdge

namespace EdgeStands

theorem refl (l : Loop) : EdgeStands l l := ⟨rfl, rfl, fun h => ⟨h, rfl⟩, fun h => ⟨h, rfl⟩⟩

theorem trans {l'' l' l : Loop} (h1 : EdgeStands l'' l') (h2 : EdgeStands l' l) : EdgeStands l'' l where
  pos := h1.pos.trans h2.pos
  dir := h1.dir.trans h2.dir
  rem h := by
    obtain ⟨p, r⟩ := h2.rem h
    exact ⟨(h1.rem p).1, (h1.rem p).2.trans r⟩
  time h := by
    obtain ⟨p, t⟩ := h2.time h
    exact ⟨(h1.time p).1, (h1.time p).2.trans t⟩

theorem of_eq {l' l : Loop} (h : l' = l) : EdgeStands l' l := h ▸ refl l

/-- Other fields of the loop change. -/
theorem beside {l' l : Loop} (pos : l'.pos = l.pos) (dir : l'.lastDir = l.lastDir) (settings : l'.pendSet = l.pendSet)
    (rem : l'.rem = l.rem) (encoder : l'.pendEnc = l.pendEnc) (time : l'.lastEdge = l.lastEdge) : EdgeStands l' l :=
  ⟨pos, dir, fun n => ⟨settings.trans n, rem⟩, fun n => ⟨encoder.trans n, time⟩⟩

theorem setLoop {x : LoopId} {l m : Loop} {s : State} (h : EdgeStands m l) : EdgeStands (loopOf x (Machine.setLoop x m s)) l := by
  rwa [loopOf_setLoop]

/-- What settling leaves alone, these operations leave alone too. -/
theorem of_steady {x : LoopId} {a b : State} (h : Steady a b) : EdgeStands (loopOf x a) (loopOf x b) := by
  obtain ⟨-, -, -, -, ftl, -⟩ := h
  exact of_eq (by rw [loopOf, ftl, loopOf])

theorem either {x : LoopId} (c : Prop) [Decidable c] {a b : State} {l : Loop} (ha : EdgeStands (loopOf x a) l)
    (hb : EdgeStands (loopOf x b) l) : EdgeStands (loopOf x (if c then a else b)) l := by
  split <;> assumption

theorem foldl {α : Type} {x : LoopId} (g : State → α → State) (h : ∀ s a, EdgeStands (loopOf x (g s a)) (loopOf x s)) (as : List α)
    (s : State) : EdgeStands (loopOf x (as.foldl g s)) (loopOf x s) := by
  induction as generalizing s with
  | nil => exact refl _
  | cons a as ih => exact (ih (g s a)).trans (h s a)

end EdgeStands

section
variable {x : LoopId} {s : State}

/-- Held settings go into force: the remainder is theirs (R189). -/
theorem applySet_stands {f : FantailSet} (h : (loopOf x s).pendSet = some f) : EdgeStands (loopOf x (applySet x f s)) (loopOf x s) := by
  rw [applySet, loopOf_setLoop]
  split <;> exact ⟨rfl, rfl, fun n => (Option.some_ne_none f (h.symm.trans n)).elim, fun n => ⟨n, rfl⟩⟩

theorem applySet_pendEnc (f : FantailSet) : (loopOf x (applySet x f s)).pendEnc = (loopOf x s).pendEnc := by
  rw [applySet, loopOf_setLoop]
  split <;> rfl

/-- A held ENC_CFG goes into force: it may send the loop to ACQUIRE, without its last edge (R183). -/
theorem applyEnc_stands {w : Word} (h : (loopOf x s).pendEnc = some w) : EdgeStands (loopOf x (applyEnc x w s)) (loopOf x s) := by
  have gone : ¬ (loopOf x s).pendEnc = none := by simp [h]
  obtain ⟨u, hu⟩ : ∃ u, u = modLoop x (fun l => { l with encCfg := w, pendEnc := none }) s := ⟨_, rfl⟩
  have written : EdgeStands (loopOf x u) (loopOf x s) := hu ▸ .setLoop ⟨rfl, rfl, fun n => ⟨n, rfl⟩, fun n => (gone n).elim⟩
  have checked : EdgeStands (loopOf x (if w.getLsbD 2 then u else endIndex (ownInput x) u)) (loopOf x u) := by
    obtain ⟨b, hb⟩ := endIndex_loop (ownInput x) x u
    exact .either _ (.refl _) (hb ▸ .beside rfl rfl rfl rfl rfl rfl)
  have kept := checked.trans written
  simp only [applyEnc, ← hu]
  exact .either _ (.setLoop ⟨kept.pos, kept.dir, kept.rem, fun n => (gone n).elim⟩) kept

theorem applyIdle_stands (x : LoopId) (s : State) : EdgeStands (loopOf x (applyIdle x s)) (loopOf x s) := by
  obtain ⟨ftl, -⟩ := applyIdle_keeps x s
  exact .of_eq (by rw [loopOf, ftl, loopOf])

theorem applyHeld_stands (x : LoopId) (s : State) : EdgeStands (loopOf x (applyHeld x s)) (loopOf x s) := by
  obtain ⟨u, hu⟩ : ∃ u, u = enforce (loopOf x s).pendSet (applySet x) s := ⟨_, rfl⟩
  obtain ⟨v, hv⟩ : ∃ v, v = enforce (loopOf x s).pendEnc (applyEnc x) u := ⟨_, rfl⟩
  have settings : EdgeStands (loopOf x u) (loopOf x s) ∧ (loopOf x u).pendEnc = (loopOf x s).pendEnc := by
    cases h : (loopOf x s).pendSet with
    | none => exact hu ▸ h ▸ ⟨.refl _, rfl⟩
    | some f => exact hu ▸ h ▸ ⟨applySet_stands h, applySet_pendEnc f⟩
  have encoder : EdgeStands (loopOf x v) (loopOf x u) := by
    cases h : (loopOf x s).pendEnc with
    | none => exact hv ▸ h ▸ .refl _
    | some w => exact hv ▸ h ▸ applyEnc_stands (settings.2.trans h)
  have index : EdgeStands (loopOf x (enforce (loopOf x s).pendIndex (applyIndex x) v)) (loopOf x v) := by
    cases (loopOf x s).pendIndex with
    | none => exact .refl _
    | some w => exact .setLoop (.beside rfl rfl rfl rfl rfl rfl)
  rw [applyHeld_eq, ← hu, ← hv]
  exact (applyIdle_stands x _).trans (index.trans (encoder.trans settings.1))

/-! ### The lock and the cuts that an edge may bring (R183, R191) -/

theorem unlock_stands (x : LoopId) (s : State) : EdgeStands (loopOf x (unlock x s)) (loopOf x s) := by
  refine .either _ ((applyHeld_stands x _).trans ?_) (.refl _)
  refine (EdgeStands.of_steady (countClass_steady _ _)).trans ((EdgeStands.of_steady (raise_steady _ _)).trans ?_)
  exact .setLoop (.beside rfl rfl rfl rfl rfl rfl)

theorem lock_stands (x : LoopId) (s : State) : EdgeStands (loopOf x (lock x s)) (loopOf x s) :=
  (EdgeStands.of_steady (raise_steady _ _)).trans (.setLoop (.beside rfl rfl rfl rfl rfl rfl))

theorem judgeEdge_stands (x : LoopId) (e : Int) (s : State) : EdgeStands (loopOf x (judgeEdge x e s)) (loopOf x s) := by
  have good (n : Nat) : EdgeStands (loopOf x (modLoop x (fun l => { l with okEdges := n }) s)) (loopOf x s) :=
    .setLoop (.beside rfl rfl rfl rfl rfl rfl)
  have bad (n : Nat) : EdgeStands (loopOf x (modLoop x (fun l => { l with badEdges := n }) s)) (loopOf x s) :=
    .setLoop (.beside rfl rfl rfl rfl rfl rfl)
  unfold judgeEdge
  dsimp only
  split
  case h_1 => exact .refl _
  case h_2 => exact .either _ ((lock_stands x _).trans (good _)) (good _)
  case h_3 => exact .either _ ((unlock_stands x _).trans (bad _)) (bad _)

theorem dropLine_stands (x : LoopId) (flagged : Bool) (s : State) : EdgeStands (loopOf x (dropLine x flagged s)) (loopOf x s) := by
  have counted : EdgeStands (loopOf x (modLoop x (fun l => { l with
      dropped := satInc l.dropped, err := if flagged then setBit l.err 9 else l.err }) s)) (loopOf x s) :=
    .setLoop (.beside rfl rfl rfl rfl rfl rfl)
  exact .either _ ((EdgeStands.of_steady (raise_steady _ _)).trans counted) counted

theorem loopErr_stands (x : LoopId) (i : Nat) (s : State) : EdgeStands (loopOf x (loopErr x i s)) (loopOf x s) :=
  .setLoop (.beside rfl rfl rfl rfl rfl rfl)

theorem reverseCut_stands (x : LoopId) (s : State) : EdgeStands (loopOf x (reverseCut x s)) (loopOf x s) := by
  refine .foldl _ (fun u p => .foldl _ (fun v l => ?_) _ _) _ _
  split
  · refine .either _ ?_ (.refl _)
    refine (EdgeStands.of_steady (cutLoad_steady _ _ _)).trans ((EdgeStands.of_steady (markDoc_steady _ _ _ _ _)).trans ?_)
    exact (EdgeStands.of_steady (raise_steady _ _)).trans ((loopErr_stands x 8 _).trans (dropLine_stands x false v))
  · exact .refl _

end

/-- The loop as the edge has moved it (R178), before what else the edge causes. -/
def movedLoop (fwd : Bool) (k t : Nat) (l : Loop) : Loop := { movePos fwd k l with lastEdge := some t, lastDir := fwd }

/-- Whatever an edge causes, its move stands. -/
theorem countEdge_stands (x : LoopId) (fwd : Bool) (k t : Nat) (s : State) :
    EdgeStands (loopOf x (countEdge x fwd k t s)) (movedLoop fwd k t (loopOf x s)) := by
  have cut (c : Prop) [Decidable c] (u : State) : EdgeStands (loopOf x (if c then reverseCut x u else u)) (loopOf x u) :=
    .either c (reverseCut_stands x u) (.refl _)
  have judged (c d : Prop) [Decidable c] [Decidable d] (e : Int) (u : State) :
      EdgeStands (loopOf x (if c then unlock x u else if d then judgeEdge x e u else u)) (loopOf x u) :=
    .either c (unlock_stands x u) (.either d (judgeEdge_stands x e u) (.refl _))
  have flagged (c : Prop) [Decidable c] (u : State) : EdgeStands (loopOf x (if c then loopErr x 2 u else u)) (loopOf x u) :=
    .either c (loopErr_stands x 2 u) (.refl _)
  refine (cut _ _).trans ((judged _ _ _ _).trans ((flagged _ _).trans (.setLoop ?_)))
  cases (loopOf x s).lastEdge <;> exact .beside rfl rfl rfl rfl rfl rfl

/-! ### O27 -/

/-- Settles O27: the edge moves the position and the remainder as R178 has it, and what else it causes leaves that standing. -/
theorem edgeMovesPosition : Obligations.EdgeMovesPosition := by
  unfold Obligations.EdgeMovesPosition
  intro x fwd k t s l l' den total
  obtain ⟨pos, dir, rem, time⟩ := countEdge_stands x fwd k t s
  have steps : (l.rem : Int) + (if fwd then ((k * l.set.num.toNat : Nat) : Int) else -((k * l.set.num.toNat : Nat) : Int)) = total := by
    cases fwd <;> simp [total]
  have whole : (movedLoop fwd k t l).pos = l.pos + BitVec.ofInt 48 (total / den) := by
    rw [← steps]
    rfl
  have rest : ((movedLoop fwd k t l).rem : Int) = total % den := by
    rw [← steps]
    exact Int.toNat_of_nonneg (Int.emod_nonneg _ (by omega))
  exact ⟨pos.trans whole, dir, fun n => (congrArg Nat.cast (rem n).2).trans rest, fun n => (time n).2⟩

end Sys2Proof.Machine

/-! ## Levels that no loop follows (O26) -/

namespace Sys2Proof.Machine

/-- READY with every loop off, and the encoder a wake source of WAKE_SRC (R426). -/
def wakingEncoder : State :=
  { State.reset with
    top := { state := .ready, prev := .boot }
    pwr := { released := true, readySeen := true, stage := 15, fireLock := true, coreLock := true, cfg := 0x400 } }

/-- What an answer has noted as the time of the last wake source (R424). -/
def wakeNoted : Host.Outcome State Fault Refusal → Option Nat
  | .next t => t.pwr.wakeSeen
  | _ => none

/-- A rising level A, one clock of FIRE later, is noted as a wake source in any state. -/
theorem encEdge_notes_wake : wakeNoted (exec (.encEdge 0 true false 1 8 8) wakingEncoder) = some 16 := by decide +kernel

/-- The levels alone note none. -/
theorem settle_notes_no_wake :
    wakeNoted (.next (settle wakingEncoder { wakingEncoder with
      now := wakingEncoder.now + 16 * 1
      enc := wakingEncoder.enc.set 0 { wakingEncoder.enc[(0 : Fin 2)] with a := true, b := false } })) = none := by decide +kernel

/-- Refutes O26: outside SLEEP an accepted change of level that no loop follows is noted as a wake source where WAKE_SRC enables the encoder
(R424, R426), while the second clause has the levels and the time change alone. The counterexample is `wakingEncoder`, in READY with both
loops off, at a rising edge of A. -/
theorem not_encoderInputs : ¬ Obligations.EncoderInputs := by
  unfold Obligations.EncoderInputs
  rintro ⟨levels, -⟩
  obtain ⟨-, taken⟩ := levels 0 true false 1 8 8 wakingEncoder rfl
  have off : ∀ x, follows x 0 wakingEncoder = false ∨ (loopOf x wakingEncoder).state = .off := fun x => by cases x <;> exact .inr rfl
  have alone := taken (by decide) (by decide) (by decide) (.inl off)
  have same : some 16 = none := encEdge_notes_wake.symm.trans ((congrArg wakeNoted alone).trans settle_notes_no_wake)
  exact absurd same (by decide)

end Sys2Proof.Machine

/-! ## CRAWL, ENABLE, RESET and the clears of a loop (O28) -/

namespace Sys2Proof.Machine

section
variable {x : LoopId} {s : State}

theorem modLoop_setLoop (x : LoopId) (f : Loop → Loop) (l : Loop) (s : State) : modLoop x f (setLoop x l s) = setLoop x (f l) s := by
  rw [modLoop, loopOf_setLoop, setLoop_setLoop]

/-- Nothing waits for a line boundary of the loop. -/
def nothingHeld (l : Loop) : Prop := l.pendSet = none ∧ l.pendEnc = none ∧ l.pendIndex = none

/-- With nothing held, a loop that is changed stays as it was made, and no time passes. -/
theorem applyHeld_of_nothing {l : Loop} (h : nothingHeld l) (s : State) :
    (applyHeld x (setLoop x l s)).ftl = (setLoop x l s).ftl ∧ (applyHeld x (setLoop x l s)).now = s.now := by
  obtain ⟨hs, he, hi⟩ := h
  obtain ⟨ftl, -, now⟩ := applyIdle_keeps x (setLoop x l s)
  have none : applyHeld x (setLoop x l s) = applyIdle x (setLoop x l s) := by
    rw [applyHeld_eq, loopOf_setLoop, hs, he, hi]
    rfl
  exact none ▸ ⟨ftl, now⟩

/-! ### CRAWL (R190) -/

theorem startCrawl_enters (on : (loopOf x s).state ≠ .off) (fast : (loopOf x s).crawl = false) :
    startCrawl x s = applyHeld x (modLoop x (fun l => { l with crawl := true }) (advanceTo (slowAt (loopOf x s) s.now) s)) := by
  simp [startCrawl, on, fast]

theorem startCrawl_stays (h : (loopOf x s).state = .off ∨ (loopOf x s).crawl = true) : startCrawl x s = s := by
  rcases h with h | h <;> simp [startCrawl, h]

theorem endCrawl_slow (h : lineRate (loopOf x s) s.now < 21000) : endCrawl x s = s := if_pos h

theorem endCrawl_fast (h : 21000 ≤ lineRate (loopOf x s) s.now) : endCrawl x s = modLoop x (fun l => { l with crawl := false }) s :=
  if_neg (not_lt.2 h)

/-! ### ENABLE and RESET (R183, R193) -/

theorem writeEnable_starts (h : (loopOf x s).state = .off) :
    writeEnable x true s = startLoop x (setLoop x { loopOf x s with enable := true } s) := by
  simp only [writeEnable, modLoop, h, if_true]

theorem writeEnable_stops (h : (loopOf x s).state ≠ .off) :
    writeEnable x false s = stopLoop x (setLoop x { loopOf x s with enable := false } s) := by
  simp only [writeEnable, modLoop, h, if_false, Bool.false_eq_true]

/-- ENABLE as it stands starts and stops nothing. -/
theorem writeEnable_same {v : Bool} (h : v = true ↔ (loopOf x s).state ≠ .off) :
    writeEnable x v s = setLoop x { loopOf x s with enable := v } s := by
  cases v <;> simp_all [writeEnable, modLoop]

theorem loopInUse_of_free (h : docInProgress s = false) : loopInUse x s = false := by
  simp only [docInProgress, List.any_eq_false] at h
  simp only [loopInUse, List.any_eq_false, Bool.and_eq_true, not_and]
  exact fun d hd admitted => (h d hd admitted).elim

theorem resetLoop_of_free (h : loopInUse x s = false) :
    resetLoop x s = applyHeld x (setLoop x { clearEst (loopOf x s) with
      enable := false, state := .off, hadLock := false, crawl := false, reverse := false
      pos := 0, hwm := 0, rem := 0, bound := 0, fOvs := 48000 } s) :=
  if_neg (ne_true_of_eq_false h)

theorem exec_ftlReset_of_free (hc : s.link.cfgReady = true) (hd : docInProgress s = false) :
    exec (.ftlReset x) s = .next (settle s (resetLoop x (touchLink s))) := by
  refine after_onHost hc ?_
  have unused : loopInUse x (touchLink s) = false := loopInUse_of_free hd
  have free : docInProgress (touchLink s) = false := hd
  simp [unused, free, countWhen]

end

/-! ### O28 -/

/-- Settles O28: each write leaves one changed loop, and with nothing held that is what stands after it. -/
theorem loopControl : Obligations.LoopControl := by
  unfold Obligations.LoopControl
  refine ⟨fun x s hr => ?_, fun x s hc hd => ?_, fun x s hc => ?_⟩
  -- CRAWL
  · intro l
    have inDies {t : State} (h : startCrawl x s = t) : exec (.crawlEnter x) s = .next (settle s t) := after_live hr h
    refine ⟨fun on fast => inDies (startCrawl_enters on fast), fun on fast hs he hi => ⟨_, inDies (startCrawl_enters on fast), ?_, ?_⟩,
      fun h => inDies (startCrawl_stays h), fun h => ⟨_, after_live hr (endCrawl_fast h), settle_ftl _ _⟩,
      fun h => after_live hr (endCrawl_slow h)⟩
    · obtain ⟨now, -⟩ := settle_settled s (applyHeld x (modLoop x (fun l => { l with crawl := true }) (advanceTo (slowAt l s.now) s)))
      exact now.trans (applyHeld_of_nothing (l := { l with crawl := true }) ⟨hs, he, hi⟩ _).2
    · exact (settle_ftl _ _).trans (applyHeld_of_nothing (l := { l with crawl := true }) ⟨hs, he, hi⟩ _).1
  -- ENABLE and RESET
  · intro l hs he hi
    have written {v : Bool} {t : State} (h : writeEnable x v (touchLink s) = t) : exec (.ftlEnableWrite x v) s = .next (settle s t) :=
      (after_guarded hc hd).trans (by rw [h])
    have stands (m : Loop) (held : nothingHeld m) :
        (settle s (applyHeld x (setLoop x m (touchLink s)))).ftl = s.ftl.set (loopIx x).val m (loopIx x).isLt :=
      (settle_ftl _ _).trans (applyHeld_of_nothing held _).1
    refine ⟨fun off => ⟨_, written (writeEnable_starts off), ?_⟩,
      fun on => ⟨_, written (writeEnable_same ⟨fun _ => on, fun _ => rfl⟩), settle_ftl _ _⟩,
      fun on => ⟨_, written (writeEnable_stops on), ?_⟩,
      fun off => ⟨_, written (writeEnable_same ⟨(nomatch ·), fun on => (on off).elim⟩), settle_ftl _ _⟩,
      ⟨_, exec_ftlReset_of_free hc hd, ?_⟩⟩
    · rw [startLoop, modLoop_setLoop]
      exact stands _ ⟨hs, he, hi⟩
    · rw [stopLoop, modLoop_setLoop]
      exact stands _ ⟨hs, he, hi⟩
    · rw [resetLoop_of_free (loopInUse_of_free (s := touchLink s) hd)]
      exact stands _ ⟨hs, he, hi⟩
  -- OVS_CLR and PEAK_CLR
  · have kept : (countWhen (docInProgress (touchLink s)) (touchLink s)).ftl = s.ftl := by simp
    refine ⟨⟨_, after_onHost hc rfl, (settle_ftl _ _).trans ?_⟩, ⟨_, after_onHost hc rfl, (settle_ftl _ _).trans ?_⟩⟩
    · simp only [clearOvs, modLoop, setLoop, loopOf, kept]
    · simp only [clearErrPeak, modLoop, setLoop, loopOf, kept]

end Sys2Proof.Machine

/-! ## Triggers, line-ahead events and fire ticks (O30) -/

namespace Sys2Proof.Machine

/-! ### The document trigger (R185, R337, R338) -/

section
variable {i : Fin 2} {rise : Bool} {n : Nat} {s : State}

theorem qualifies_eq_true_iff : qualifies i rise n s = true ↔ 8 ≤ n ∧ rise ≠ s.tpt.pol.getLsbD i.val := by
  simp [qualifies]

/-- The clock `dt` FIRE clocks on. -/
def later (dt : Nat) (s : State) : State := { s with now := s.now + 16 * dt }

theorem triggerEdge_ignored (h : s.pwr.readySeen = false ∨ notReady s.top.state = true ∨ qualifies i rise n s = false) (dt : Nat) :
    triggerEdge i rise dt n s = later dt s := by
  have passes : (!(later dt s).pwr.readySeen || notReady (later dt s).top.state || !qualifies i rise n (later dt s)) = true := by
    rcases h with h | h | h
    · simp [later, h]
    · simp [later, h]
    · rw [show qualifies i rise n (later dt s) = false from h, Bool.not_false, Bool.or_true]
  exact if_pos passes

/-- What the conditions of an edge that counts are at its clock (R185, R337, R441). -/
theorem triggerEdge_notIgnored (hr : s.pwr.readySeen = true) (ht : notReady s.top.state = false) (hq : qualifies i rise n s = true) (dt : Nat) :
    ¬ (!(later dt s).pwr.readySeen || notReady (later dt s).top.state || !qualifies i rise n (later dt s)) = true := by
  rw [show qualifies i rise n (later dt s) = true from hq]
  simp [later, hr, ht]

/-- An edge that counts goes to the document of its input if that is admitted, and is an orphan if it is not. -/
theorem triggerEdge_target {d : Doc} (hr : s.pwr.readySeen = true) (ht : notReady s.top.state = false) (hq : qualifies i rise n s = true)
    (hd : trigTarget i s = some d) (dt : Nat) :
    let t := s.now + 16 * dt - 16 * n
    let u := latchTrig i t (later dt s)
    triggerEdge i rise dt n s = if d.admitted then takeEdge i t d u else orphanEdge i u := by
  intro t u
  refine (if_neg (triggerEdge_notIgnored hr ht hq dt)).trans ?_
  split
  · next e he =>
    obtain rfl : e = d := Option.some.inj (he.symm.trans hd)
    rfl
  · next he => exact nomatch he.symm.trans hd

theorem triggerEdge_orphan (hr : s.pwr.readySeen = true) (ht : notReady s.top.state = false) (hq : qualifies i rise n s = true)
    (hd : trigTarget i s = none) (dt : Nat) :
    triggerEdge i rise dt n s = orphanEdge i (latchTrig i (s.now + 16 * dt - 16 * n) (later dt s)) := by
  refine (if_neg (triggerEdge_notIgnored hr ht hq dt)).trans ?_
  split
  · next he => exact nomatch he.symm.trans hd
  · rfl

theorem exec_docTrigEdge_unqualified (hp : s.pwr.released = true) (hq : qualifies i rise n s = false) (dt : Nat) :
    exec (.docTrigEdge i rise dt n) s = .next (settle s (triggerEdge i rise dt n s)) :=
  after_live hp (by simp [hq])

/-- A qualified edge is a wake source (R426). -/
theorem exec_docTrigEdge_qualified (hp : s.pwr.released = true) (hq : qualifies i rise n s = true) {dt : Nat} {u : State}
    (hu : triggerEdge i rise dt n s = u) : exec (.docTrigEdge i rise dt n) s = .next (settle s (wakeBy 11 u)) :=
  after_live hp (by simp [hq, hu])

/-! ### The documents after an edge (R338) -/

/-- A change of entries that keeps IDs, as a later search finds it. -/
theorem findDoc_modDoc {f : Doc → Doc} (hf : ∀ d, (f d).id = d.id) (id y : Word) (s : State) :
    findDoc id (modDoc y f s) = (findDoc id s).map fun d => if d.id = y then f d else d := by
  have ids : ((fun d : Doc => d.id == id) ∘ fun d => if d.id = y then f d else d) = fun d => d.id == id := by
    funext d
    by_cases e : d.id = y <;> simp [e, hf]
  simp only [findDoc, modDoc, List.find?_map, ids]

/-- A document that takes an edge which overtakes none comes after all that have been triggered. -/
theorem takeEdge_findDoc {t : Nat} {d : Doc} (h : overtaken i t s = none) (id : Word) :
    ∃ o, findDoc id (takeEdge i t d s) =
      (findDoc id s).map fun q => if q.id = d.id then { q with trigged := some s.tpt.trigOrder, origin := o } else q := by
  refine ⟨((loopOf d.loop s).trig[i]).getD 0, ?_⟩
  rw [← findDoc_modDoc (f := fun q => { q with trigged := some s.tpt.trigOrder, origin := ((loopOf d.loop s).trig[i]).getD 0 }) fun _ => rfl]
  simp only [takeEdge, h]
  rfl

/-- A document that takes an edge which overtakes another's gets its place, and the other comes after it. -/
theorem takeEdge_findDoc_overtakes {t : Nat} {d : Doc} {y : Word} (h : overtaken i t s = some y) (id : Word) :
    ∃ o, findDoc id (takeEdge i t d s) =
      ((findDoc id s).map fun q => if q.id = y then { q with trigged := q.trigged.map fun _ => s.tpt.trigOrder } else q).map fun q =>
        if q.id = d.id then { q with trigged := some (s.tpt.trigOrder - 1), origin := o } else q := by
  refine ⟨((loopOf d.loop s).trig[i]).getD 0, ?_⟩
  rw [← findDoc_modDoc (f := fun q => { q with trigged := q.trigged.map fun _ => s.tpt.trigOrder }) fun _ => rfl,
    ← findDoc_modDoc (f := fun q => { q with trigged := some (s.tpt.trigOrder - 1), origin := ((loopOf d.loop s).trig[i]).getD 0 }) fun _ => rfl]
  simp only [takeEdge, h]
  rfl

end

/-! ### Line-ahead events (R187) -/

section
variable {p : Port} {s : State} {d : Doc}

theorem lineAhead_idle (h : s.sup.rejoining = true ∨ nextAheadDoc p s = none) (errs : Upsets) : lineAhead p errs s = s := by
  rcases h with h | h
  · exact if_pos h
  · unfold lineAhead
    split
    · rfl
    · simp only [h]

theorem lineAhead_next (hj : s.sup.rejoining = false) (hd : nextAheadDoc p s = some d) (errs : Upsets) :
    lineAhead p errs s = reachAhead p d errs s := by
  simp only [lineAhead, hj, hd, if_false, Bool.false_eq_true]

theorem reachAhead_reached {t : Nat} (h : reachTime (loopOf d.loop s) (aheadPos d p s) s.now = some t) (errs : Upsets) :
    reachAhead p d errs s = aheadOf p d (wordErrors errs { s with now := max s.now t }) := by
  simp only [reachAhead, h]
  rfl

theorem reachAhead_never (h : reachTime (loopOf d.loop s) (aheadPos d p s) s.now = none) (errs : Upsets) : reachAhead p d errs s = s := by
  simp only [reachAhead, h]

/-- A position that has been reached is reached now. -/
theorem reachAhead_now (h : posAbove (aheadPos d p s) (loopPos (loopOf d.loop s) s.now) = false) (errs : Upsets) :
    reachAhead p d errs s = aheadOf p d (wordErrors errs s) := by
  rw [reachAhead_reached (reachTime_reached h), max_self]

end

/-! ### Fire ticks (R186, R190, R192) -/

section
variable {p : Port} {ld : Load} {d : Doc} {s : State} {t : Nat}

theorem ticksIssue_iff (l : Loop) : ticksIssue l = true ↔ l.state = .locked ∧ l.crawl = false := by
  simp [ticksIssue]

theorem fireTickOn_lead (h : s.loads[p].find? (fun l => !l.ticked) = some ld) : fireTickOn p false s = leadReached p ld s := by
  simp only [fireTickOn, h, if_false, Bool.false_eq_true]

theorem fireTickOn_lag (h : s.loads[p].find? (fun l => l.ticked && !l.lagTicked && l.phi != 0) = some ld) :
    fireTickOn p true s = lagReached p ld s := by
  simp only [fireTickOn, h, if_true]

section
variable (hd : findDoc ld.docId s = some d) (on : (loopOf d.loop s).state ≠ .off) (forward : (loopOf d.loop s).reverse = false)
include hd on forward

section
variable (had : (loopOf d.loop s).hadLock = true)
include had

theorem leadReached_unplaced (hu : ld.unplaced = true) : leadReached p ld s = passLoad p ld s := by
  simp [leadReached, hd, on, forward, had, hu]

theorem leadReached_drops (hu : ld.unplaced = false) (still : ¬ ticksIssue (loopOf d.loop s) = true)
    (ht : reachTime (loopOf d.loop s) (leadPos d p ld.line s) s.now = some t) :
    leadReached p ld s = dropMotion p d ld { s with now := max s.now t } := by
  simp [leadReached, hd, on, forward, had, hu, still, ht, advanceTo]

theorem leadReached_ticks (hu : ld.unplaced = false) (ticks : ticksIssue (loopOf d.loop s) = true)
    (ht : fireTime (loopOf d.loop s) (leadPos d p ld.line s) s.now = some t) :
    leadReached p ld s = tickLead p d ld { s with now := max s.now t } := by
  simp [leadReached, hd, on, forward, had, hu, ticks, ht, advanceTo]

end

theorem lagReached_ticks (ticks : ticksIssue (loopOf d.loop s) = true)
    (ht : fireTime (loopOf d.loop s) ((leadPos d p ld.line s + ld.phi) % posMod) s.now = some t) :
    lagReached p ld s = tickLag p d ld { s with now := max s.now t } := by
  simp [lagReached, hd, on, forward, ticks, ht, advanceTo]

theorem lagReached_drops (still : ¬ ticksIssue (loopOf d.loop s) = true)
    (ht : reachTime (loopOf d.loop s) ((leadPos d p ld.line s + ld.phi) % posMod) s.now = some t) :
    lagReached p ld s = modLoad p ld.docId ld.line (fun q => { q with lagTicked := true, lagAt := 0 })
      (markDoc d.id 0x03 p.val (ld.line - ld.n) (dropLine d.loop true { s with now := max s.now t })) := by
  simp [lagReached, hd, on, forward, still, ht, advanceTo]

end

/-- A line at a rate within the tolerance, and in time, on a port that drops none: it fires, and no overspeed begins (R192). -/
theorem overspeedStep_steady {tol fit f : Nat} {beyond late : Bool} {k : PortTrack} (hk : k.dropping = false) (hf : f ≤ tol)
    (hb : beyond = false) : overspeedStep tol fit f beyond late k = (true, false, false, k) := by
  simp [overspeedStep, hk, hb, not_lt.2 hf]

theorem setTrack_same (p : Port) (s : State) : setTrack p s.track[p] s = s := by
  have same : s.track.set p.val s.track[p] p.isLt = s.track := Vector.set_getElem_self _
  simp only [setTrack, same]

/-- A load in time starts its sequence at its tick. -/
theorem tickLead_starts {u : State} {f delay : Nat} (hu : u = setTrack p { s.track[p] with loop := d.loop } s)
    (hf : f = lineRate (loopOf d.loop s) s.now) (hdelay : delay = earliestStart p ld (linePeriod f) u - s.now)
    (kept : d.ports[p].lost = false) (alone : ld.overlap = false) (first : earlierFires d p u = false) (calm : s.track[p].dropping = false)
    (slow : f ≤ tolLimit d p u) (timely : 8 * delay ≤ linePeriod f) (prints : ld.kind ≠ .drop) :
    tickLead p d ld s = startLoad p d ld delay u := by
  have track : u.track[p] = { s.track[p] with loop := d.loop } := hu ▸ Vector.getElem_set_self _
  have step : overspeedStep (tolLimit d p u) d.ports[p].fFit f (decide (linePeriod f < 8 * delay)) (decide (0 < delay)) u.track[p] =
      (true, false, false, u.track[p]) :=
    overspeedStep_steady (by rw [track]; exact calm) slow (decide_eq_false (not_lt.2 timely))
  have loop : loopOf d.loop u = loopOf d.loop s := hu ▸ rfl
  have now : u.now = s.now := hu ▸ rfl
  simp only [tickLead, ← hu, kept, alone, first, loop, now, ← hf, ← hdelay, step, setTrack_same, Bool.or_self, Bool.false_eq_true, if_false,
    Bool.not_true, Bool.false_or, beq_iff_eq, prints]

end

/-! ### O30 -/

/-- Settles O30: the trigger by whether its edge qualifies and counts, the line-ahead event by when its position is reached, and the fire
ticks by whether the loop issues them. -/
theorem lineTiming : Obligations.LineTiming := by
  unfold Obligations.LineTiming
  refine ⟨fun i rise dt n s hp => ?_, fun d d1 t s hd hd1 ne trigged => ?_, fun p errs s hp => ?_, fun p ld d s hp hd => ?_⟩
  -- the trigger
  · intro s1 s2
    refine ⟨fun h => ?_, fun h8 pol => ?_⟩
    · have hq : qualifies i rise n s = false := by
        rw [← Bool.not_eq_true, qualifies_eq_true_iff]
        rintro ⟨h8, pol⟩
        exact h.elim (fun short => absurd h8 (not_le.2 short)) pol
      rw [exec_docTrigEdge_unqualified hp hq, triggerEdge_ignored (.inr (.inr hq))]
      rfl
    · have hq : qualifies i rise n s = true := qualifies_eq_true_iff.2 ⟨h8, pol⟩
      refine ⟨fun early => exec_docTrigEdge_qualified hp hq (triggerEdge_ignored (early.imp_right .inl) dt), fun hr ht =>
        ⟨fun d target admitted => ?_, fun d target offered => ?_, fun none => ?_⟩⟩
      · exact exec_docTrigEdge_qualified hp hq ((triggerEdge_target hr ht hq target dt).trans (if_pos admitted))
      · exact exec_docTrigEdge_qualified hp hq ((triggerEdge_target hr ht hq target dt).trans (if_neg (ne_true_of_eq_false offered)))
      · exact exec_docTrigEdge_qualified hp hq (triggerEdge_orphan hr ht hq none dt)
  -- the order of documents
  · refine ⟨fun last => ?_, fun i last => ?_⟩
    · have overtakes : overtaken 0 t s = some d1.id := by simp [overtaken, last]
      obtain ⟨o, own⟩ := takeEdge_findDoc_overtakes (d := d) overtakes d.id
      obtain ⟨o', other⟩ := takeEdge_findDoc_overtakes (d := d) overtakes d1.id
      obtain ⟨k, hk⟩ := Option.ne_none_iff_exists'.1 trigged
      rw [own, other]
      simp [hd, hd1, ne, ne.symm, hk]
    · have overtakes : overtaken i t s = none := by simp [overtaken, last]
      obtain ⟨o, own⟩ := takeEdge_findDoc (d := d) overtakes d.id
      obtain ⟨o', other⟩ := takeEdge_findDoc (d := d) overtakes d1.id
      rw [own, other]
      simp [hd, hd1, ne.symm]
  -- line-ahead events
  · have inDies {t : State} (h : lineAhead p errs s = t) : exec (.lineAheadEvent p errs) s = .next (settle s t) := after_live hp h
    refine ⟨fun h => inDies (lineAhead_idle h errs), fun d hj hd => ?_⟩
    have next := lineAhead_next hj hd errs
    exact ⟨fun t ht => inDies (next.trans (reachAhead_reached ht errs)), fun reached => inDies (next.trans (reachAhead_now reached errs)),
      fun never => inDies (next.trans (reachAhead_never never errs))⟩
  -- fire ticks
  · intro l target lagTarget ticks on forward
    have issued : ticksIssue l = true ↔ ticks := ticksIssue_iff l
    refine ⟨fun found had => ?_, ?_, fun found => ?_⟩
    · have lead {t : State} (h : leadReached p ld s = t) : exec (.fireTick p false) s = .next (settle s t) :=
        after_live hp ((fireTickOn_lead found).trans h)
      exact ⟨fun hu => lead (leadReached_unplaced hd on forward had hu),
        fun t hu still ht => lead (leadReached_drops hd on forward had hu (mt issued.1 still) ht),
        fun t hu runs ht => lead (leadReached_ticks hd on forward had hu (issued.2 runs) ht)⟩
    · intro u f delay
      exact tickLead_starts rfl rfl rfl
    · have lag {t : State} (h : lagReached p ld s = t) : exec (.fireTick p true) s = .next (settle s t) :=
        after_live hp ((fireTickOn_lag found).trans h)
      exact ⟨fun t runs ht => lag (lagReached_ticks hd on forward (issued.2 runs) ht),
        fun t still ht => lag (lagReached_drops hd on forward (mt issued.1 still) ht)⟩

end Sys2Proof.Machine

/-! ## Planes, latches and the port line boundary (O33) -/

namespace Sys2Proof.Machine

section
variable {p : Port} {ld : Load} {rest : List Load} {s : State}

/-! ### Shifting and latching (R233, R234) -/

theorem shiftDone_of_none (h : shiftLoad p s = none) : shiftDone p s = s := by
  simp only [shiftDone, h]

theorem shiftDone_of_some (h : shiftLoad p s = some ld) :
    let t := shiftStart p ld s + loadShift p ld s
    shiftDone p s =
      modLoad p ld.docId ld.line (fun l => { l with shifted := l.shifted + 1, shiftAt := t }) { s with now := max s.now t } := by
  simp only [shiftDone, h]
  rfl

theorem latchPlane_waits (front : s.loads[p] = ld :: rest) (h : ld.ticked = false ∨ ld.shifted ≤ ld.latched) : latchPlane p s = s := by
  have waits : ¬ (ld.ticked = true ∧ ld.latched < ld.shifted) := by
    rintro ⟨ticked, ready⟩
    exact h.elim (ne_false_of_eq_true ticked) (not_le.2 ready)
  simp only [latchPlane, front, waits, if_false]

/-- The plane of the load is latched at `t`: its strobes begin, and the next plane may be shifted from 20 ns before (R233). -/
def latchedAt (p : Port) (ld : Load) (t : Nat) (s : State) : State :=
  let s0 := advanceTo t s
  let s1 := if ld.latched = 0 then firstLatch p ld t s0 else closeStrobes p ld t s0
  let s2 := modLoad p ld.docId ld.line
    (fun l => { l with latched := l.latched + 1, planeAt := t, shiftAt := t - 160, openLead := lanesMayMove p s1 }) s1
  setTrack p { s2.track[p] with latchAt := t } s2

theorem latchPlane_latches (front : s.loads[p] = ld :: rest) (ticked : ld.ticked = true) (ready : ld.latched < ld.shifted) {l : Load}
    (found : findLoad p ld.docId ld.line (latchedAt p ld (planeStart p ld s) s) = some l) :
    latchPlane p s = holdPlanes p l (latchedAt p ld (planeStart p ld s) s) := by
  have due : ld.ticked = true ∧ ld.latched < ld.shifted := ⟨ticked, ready⟩
  unfold latchPlane
  split
  · next none => exact nomatch none.symm.trans front
  · next k r first =>
    obtain ⟨rfl, rfl⟩ := List.cons.inj (first.symm.trans front)
    refine (if_pos due).trans ?_
    dsimp only [latchedAt] at found ⊢
    simp only [found]

/-! ### The planes that are held for their echoes (R275) -/

theorem track_setTrack (p : Port) (t : PortTrack) (s : State) : (setTrack p t s).track[p] = t := Vector.getElem_set_self _

theorem holdPlanes_firing (p : Port) (l : Load) (s : State) : (holdPlanes p l s).track[p].firing = some l :=
  congrArg PortTrack.firing (track_setTrack p _ s)

/-- The load latched before another load's first plane is held in its place. -/
theorem holdPlanes_fired {l f : Load} (h : s.track[p].firing = some f) (other : f.docId ≠ l.docId ∨ f.line ≠ l.line) :
    (holdPlanes p l s).track[p].fired = some f := by
  have differs : ¬ (f.docId = l.docId ∧ f.line = l.line) := not_and_or.2 other
  refine (congrArg PortTrack.fired (track_setTrack p _ s)).trans ?_
  simp only [h, differs, if_false]

/-! ### The port line boundary (R188) -/

/-- The last plane's strobes are over, of both columns where there are two. -/
def boundaryDue (ld : Load) : Prop := ld.ticked = true ∧ 0 < ld.latched ∧ ld.latched = usedPlanes ld ∧ (ld.phi = 0 ∨ ld.lagTicked = true)

theorem portBoundary_waits (front : s.loads[p] = ld :: rest) (h : ¬ boundaryDue ld) : portBoundary p s = s := by
  unfold portBoundary
  split
  · rfl
  · next k r first =>
    obtain ⟨rfl, rfl⟩ := List.cons.inj (first.symm.trans front)
    exact if_neg h

/-- The clock of the boundary: the open strobes are closed, and the guard has been strobed unless something was skipped (R270). -/
def boundaryAt (p : Port) (ld : Load) (s : State) : State :=
  let t := strobesEnd ld + ld.guard
  let s1 := advanceTo t (closeStrobes p ld (strobesEnd ld) s)
  let g := setGuardOk p (!s1.track[p].skipped) s1
  setTrack p { g.track[p] with boundAt := t, skipped := false } g

theorem portBoundary_passes (front : s.loads[p] = ld :: rest) (h : boundaryDue ld) :
    portBoundary p s = finishLoad p ld (queueCopy p (applyPort p (boundaryAt p ld s))) := by
  unfold portBoundary
  split
  · next none => exact nomatch none.symm.trans front
  · next k r first =>
    obtain ⟨rfl, rfl⟩ := List.cons.inj (first.symm.trans front)
    exact if_pos h

/-- A rate that waits for the boundary goes into force there (R26). -/
theorem applyPort_rate {r : Half} (h : s.hp[p].pendRate = some r) : (applyPort p s).hp[p].spitRate = r := by
  simp only [applyPort, h]
  exact congrArg HeadPort.spitRate (Vector.getElem_set_self _)

end

/-! ### O33 -/

/-- Settles O33: shifting, latching and the boundary each by whether the load at the front is ready for it. -/
theorem planes : Obligations.Planes := by
  unfold Obligations.Planes
  refine ⟨fun p s hp => ⟨fun none => after_live hp (shiftDone_of_none none), fun ld found => after_live hp (shiftDone_of_some found),
      fun ld rest front h => after_live hp (latchPlane_waits front h), fun ld rest front ticked ready => ?_⟩,
    fun p ld rest s hp front => ⟨fun h => ?_, fun ticked latched all both => ?_⟩⟩
  -- a plane is latched
  · intro t s0 s1 s2 s3
    exact ⟨fun l found => ⟨after_live hp (latchPlane_latches front ticked ready found), holdPlanes_firing p l s3⟩,
      fun l f _ firing other => holdPlanes_fired firing other⟩
  -- the port line boundary
  · refine after_live hp (portBoundary_waits front ?_)
    rintro ⟨ticked, latched, all, both⟩
    rcases h with h | h | h | ⟨phi, lag⟩
    · exact absurd (ticked.symm.trans h) (by decide)
    · exact latched.ne' h
    · exact h all
    · exact both.elim phi (fun l => absurd (l.symm.trans lag) (by decide))
  · exact ⟨after_live hp (portBoundary_passes front ⟨ticked, latched, all, both⟩), fun r => applyPort_rate⟩

end Sys2Proof.Machine

/-! ## The firing engines' passes, energy blocks and counters (O31) -/

namespace Sys2Proof.Machine

section
variable {x : EngId} {s : State}

/-! ### The start of a pass (R195, R197) -/

theorem startPass_of_next {r : Port × Word × Nat} (works : computes (eng x s).role = true) (idle : (eng x s).running = none)
    (next : nextPass x s = some r) : startPass x s = setEng x { eng x s with running := some r } s := by
  simp [startPass, works, idle, next]

theorem startPass_of_none (h : nextPass x s = none) : startPass x s = s := by
  simp only [startPass, h, ite_self]

theorem startPass_of_unready (h : computes (eng x s).role = false ∨ (eng x s).running ≠ none) : startPass x s = s := by
  refine if_neg ?_
  rintro ⟨works, idle⟩
  exact h.elim (ne_false_of_eq_true works) (· (Option.isNone_iff_eq_none.1 idle))

/-! ### What a pass found in its own engine (R195, R302) -/

/-- The engine's memory was sound, its stages came in sequence and the pass took no more than its 400 clocks. -/
def passSound (note : PassNote) : Prop := note.memUe = false ∧ note.sequence = false ∧ note.clocks ≤ 400

theorem passFault_of_memUe {note : PassNote} (h : note.memUe = true) : passFault note = some 4 := if_pos h

theorem passFault_of_overrun {note : PassNote} (mem : note.memUe = false) (h : note.sequence = true ∨ 400 < note.clocks) :
    passFault note = some 5 :=
  (if_neg (Bool.eq_false_iff.1 mem)).trans (if_pos (by simpa using h))

theorem passFault_of_sound {note : PassNote} (h : passSound note) : passFault note = none := by
  obtain ⟨mem, sequence, clocks⟩ := h
  exact (if_neg (Bool.eq_false_iff.1 mem)).trans (if_neg (by simpa [sequence] using clocks))

/-! ### The end of a pass (R200, R302, R305) -/

/-- The engine is done with its pass, which is counted with its time and its corrected words. -/
def passOver (x : EngId) (note : PassNote) (s : State) : State :=
  let e := eng x s
  setEng x { e with
    running := none, passes := e.passes + 1
    busy := (s.now, note.clocks) :: e.busy.filter fun t => decide (s.now < t.1 + 8000000)
    health := { e.health with corrected := satAdd e.health.corrected note.corrected } } s

/-- The engine's own fault and the other engine's, against one load in one clock (R305, R311). -/
def faultWithOther (x : EngId) (own other : Nat) (p : Port) (ld : Load) (s : State) : State :=
  match x with
  | .a => bothFault own other p ld.docId ld.line s
  | .b => bothFault other own p ld.docId ld.line s

theorem passOver_isPair (x : EngId) (note : PassNote) (s : State) : isPair (passOver x note s) = isPair s := by cases x <;> rfl

section
variable {note : PassNote} {p : Port} {ld : Load}

theorem running_of_runningLoad {r : Port × Load} (h : runningLoad x s = some r) : ∃ key, (eng x s).running = some key := by
  refine Option.ne_none_iff_exists'.1 fun idle => ?_
  simp [runningLoad, idle] at h

variable (h : runningLoad x s = some (p, ld))
include h

theorem donePass_fault {k : Nat} (other : note.other = none) (found : passFault note = some k) :
    donePass x note s = engineFault x k false p ld.docId ld.line (passOver x note s) := by
  obtain ⟨key, running⟩ := running_of_runningLoad h
  simp only [donePass, running, h, found, other, Option.map_none, ite_self]
  rfl

theorem donePass_sound (other : note.other = none) (sound : passSound note) :
    donePass x note s = passEnds x p ld note (passOver x note s) := by
  obtain ⟨key, running⟩ := running_of_runningLoad h
  simp only [donePass, running, h, passFault_of_sound sound, other, Option.map_none, ite_self]
  rfl

theorem donePass_other {k : BitVec 4} (pair : isPair s = true) (other : note.other = some k) (sound : passSound note) :
    donePass x note s = passEnds x p ld note (engineFault x.other k.toNat false p ld.docId ld.line (passOver x note s)) := by
  obtain ⟨key, running⟩ := running_of_runningLoad h
  have ofPair : isPair (passOver x note s) = true := (passOver_isPair x note s).trans pair
  dsimp only [passOver] at ofPair
  simp only [donePass, msGrid, Nat.one_mul, running, h, passFault_of_sound sound, other, ofPair, if_true, Option.map_some]
  rfl

theorem donePass_both {k : Nat} {k' : BitVec 4} (pair : isPair s = true) (other : note.other = some k') (found : passFault note = some k) :
    donePass x note s = faultWithOther x k k'.toNat p ld (passOver x note s) := by
  obtain ⟨key, running⟩ := running_of_runningLoad h
  have ofPair : isPair (passOver x note s) = true := (passOver_isPair x note s).trans pair
  dsimp only [passOver] at ofPair
  simp only [donePass, msGrid, Nat.one_mul, running, h, found, other, ofPair, if_true, Option.map_some]
  rfl

end

/-! ### The pass that a load loses (R200 to R202) -/

section
variable {note : PassNote} {p : Port} {ld : Load}

/-- The work with one pass fewer to do, and the upsets that the pass met. -/
def passDone (note : PassNote) (w : Work) : Work :=
  { w with left := w.left - 1, flips := w.flips ++ note.flips, emit := w.emit ++ note.emitFlips }

/-- The read check of a pass failed, of a line that has packets (R201). -/
def readFailed (note : PassNote) (p : Port) (ld : Load) : Bool := !ld.pkt.isEmpty && (note.readFail || !readChecks p ld)

theorem readFailed_eq_true (h : ld.pkt ≠ []) (fails : note.readFail = true ∨ readChecks p ld = false) : readFailed note p ld = true := by
  simpa [readFailed, h] using fails

theorem readFailed_eq_false (h : ld.pkt = [] ∨ (note.readFail = false ∧ readChecks p ld = true)) : readFailed note p ld = false := by
  rcases h with blank | ⟨read, checks⟩
  · simp [readFailed, blank]
  · simp [readFailed, read, checks]

theorem passEnds_of_read (h : readFailed note p ld = false) :
    passEnds x p ld note s = emitPort p (modLoad p ld.docId ld.line (setWork x (passDone note (workOf x ld))) s) := by
  have good : (!ld.pkt.isEmpty && (note.readFail || !readChecks p ld) && !(workOf x ld).badRead) = false :=
    congrArg (· && !(workOf x ld).badRead) h
  simp only [passEnds, good, Bool.or_false, Bool.false_eq_true, if_false]
  rfl

/-- The engine's first failed read check of a load is remembered and counted. -/
theorem passEnds_of_readFailed (h : readFailed note p ld = true) (first : (workOf x ld).badRead = false) :
    passEnds x p ld note s = emitPort p (modLoad p ld.docId ld.line (setWork x { passDone note (workOf x ld) with badRead := true })
      (setEng x { eng x s with readFails := satInc (eng x s).readFails } s)) := by
  have bad : (!ld.pkt.isEmpty && (note.readFail || !readChecks p ld) && !(workOf x ld).badRead) = true :=
    Bool.and_eq_true_iff.2 ⟨h, by simp [first]⟩
  simp only [passEnds, bad, Bool.or_true, if_true]
  rfl

end

/-! ### The window of the energy blocks (R224, R225) -/

theorem writeProfileWord_word {q : Fin 8} {i : Fin 24} (h : i ≠ 7) (shut : swapOpenNow s = false) (w : Word) :
    writeProfileWord (256 * q.val + 4 * i.val) w s = { s with engA := putEnergy q i w s.engA, engB := putEnergy q i w s.engB } := by
  have inBlock : (256 * q.val + 4 * i.val) % 256 = 4 * i.val := by omega
  have word : entryAt (4 * i.val) 0 4 24 = some i := by simpa using entryAt_mul 0 i (step := 4) (by decide)
  have block : entryAt (256 * q.val) 0 256 8 = some q := by simpa using entryAt_mul 0 q (step := 256) (by decide)
  have named : i.val ≠ 7 := Fin.val_ne_of_ne h
  have stays : swapOpenNow { s with engA := putEnergy q i w s.engA, engB := putEnergy q i w s.engB } = false := shut
  simp only [writeProfileWord, inBlock, Nat.add_sub_cancel, word, block, named, if_false, stays, Bool.false_eq_true]

/-- A word of an energy block that R224 names is written as a guarded write. -/
theorem writeProfile_word {q : Fin 8} {i : Fin 24} (h : i ≠ 7) (w : Word) :
    writeProfile (256 * q.val + 4 * i.val) w = guarded (writeProfileWord (256 * q.val + 4 * i.val) w) := by
  have named : i.val ≠ 7 := Fin.val_ne_of_ne h
  exact funext fun s => if_pos (by omega)

theorem exec_profileWrite_word {q : Fin 8} {i : Fin 24} (h : i ≠ 7) (w : Word) (s : State) :
    exec (.profileWrite (256 * q.val + 4 * i.val) w) s =
      after s (onHost (guarded (writeProfileWord (256 * q.val + 4 * i.val) w)) s) :=
  congrArg (fun f => after s (onHost f s)) (writeProfile_word h w)

end

/-! ### O31 -/

/-- Settles O31: the start of a pass by the engine and its queue, the end by what either engine reports and then by the read check, and a
write in the window of the energy blocks by the guard it passes. -/
theorem engines : Obligations.Engines := by
  unfold Obligations.Engines
  refine ⟨fun x s hp => ⟨fun r works idle next => after_live hp (startPass_of_next works idle next),
      fun none => after_live hp (startPass_of_none none), fun unready => after_live hp (startPass_of_unready unready)⟩,
    fun x note p ld s hp => ?_, fun s hc => ⟨fun q i w named free shut => ?_,
      fun q i w named busy => (exec_profileWrite_word named w s).trans (after_onHost hc (guarded_of_busy busy)), fun x => ?_⟩⟩
  -- the end of a pass
  · intro e s1 w ok found
    refine ⟨fun other mem => after_live hp (donePass_fault found other (passFault_of_memUe mem)),
      fun other mem late => after_live hp (donePass_fault found other (passFault_of_overrun mem late)),
      fun other sound read => after_live hp ((donePass_sound found other sound).trans (passEnds_of_read (readFailed_eq_false read))),
      fun other sound line fails first =>
        after_live hp ((donePass_sound found other sound).trans (passEnds_of_readFailed (readFailed_eq_true line fails) first)),
      fun k other pair sound => after_live hp (donePass_other found pair other sound),
      fun k other pair mem => after_live hp ((donePass_both found pair other (passFault_of_memUe mem)).trans ?_)⟩
    cases x <;> rfl
  -- the window of the energy blocks and the counters
  · refine (exec_profileWrite_word named w s).trans (after_onHost hc ?_)
    exact (guarded_of_free (s := touchLink s) free).trans (writeProfileWord_word (q := q) (s := touchLink s) named shut w)
  · refine after_onHost hc ?_
    cases x <;> rfl

end Sys2Proof.Machine

/-! ## Deadlines, the pass watchdog and the cut-off (O32) -/

namespace Sys2Proof.Machine

section
variable {x : EngId} {p : Port} {ld : Load} {s : State}

/-! ### A missed deadline (R199, R305) -/

/-- No deadline of the load is missed where it is dropped, has its verdict, or its loop stands still. -/
theorem missDeadline_of_none (next : nextToEmit x p s = some ld)
    (h : ld.kind = .drop ∨ ld.verdict ≠ .waiting ∨ deadlineOf p ld s = none) : missDeadline x p s = s := by
  simp only [missDeadline, next]
  rcases h with drop | judged | still
  · exact if_pos (.inl drop)
  · exact if_pos (.inr judged)
  · simp only [still, ite_self]

/-- The deadline of the load expires at `t`: the engine's own fault, unless the other one is late as well. -/
theorem missDeadline_of_due {t : Nat} (next : nextToEmit x p s = some ld) (kind : ld.kind ≠ .drop) (waiting : ld.verdict = .waiting)
    (due : deadlineOf p ld s = some t) :
    missDeadline x p s =
      if (workOf x.other ld).part && (workOf x.other ld).pkt.isNone then bothFault 1 1 p ld.docId ld.line (advanceTo t s)
      else engineFault x 1 false p ld.docId ld.line (advanceTo t s) := by
  have counts : ¬ (ld.kind = .drop ∨ ld.verdict ≠ .waiting) := not_or.2 ⟨kind, not_not.2 waiting⟩
  simp only [missDeadline, next, counts, if_false, due]

/-! ### The pass watchdog (R302) -/

theorem setEng_eng (x : EngId) (s : State) : setEng x (eng x s) s = s := by cases x <;> rfl

theorem watchdogPass_of_idle (h : (eng x s).running = none) : watchdogPass x s = s := by
  have idle : { eng x s with running := none } = eng x s := by rw [← h]
  simp only [watchdogPass, runningLoad, h, idle, setEng_eng]

theorem watchdogPass_of_running (h : runningLoad x s = some (p, ld)) :
    watchdogPass x s = engineFault x 5 false p ld.docId ld.line (setEng x { eng x s with running := none } s) := by
  simp only [watchdogPass, h]

/-! ### The cut-off (R239) -/

/-- The load has its packet, is to be dropped, or is blank already. -/
def cutoffSpares (ld : Load) : Prop := ld.handed = true ∨ ld.kind = .drop ∨ (ld.failed = true ∧ ld.kind = .blank)

theorem cutoffSpares_iff (ld : Load) : cutoffSpares ld ↔ (ld.handed || ld.kind == .drop || (ld.failed && ld.kind == .blank)) = true := by
  simp [cutoffSpares, or_assoc]

theorem cutoff_spares (next : s.loads[p].find? (fun l => !l.ticked) = some ld) (h : cutoffSpares ld) : cutoff p s = s := by
  simp only [cutoff, next, (cutoffSpares_iff ld).1 h, if_true]

theorem cutoff_blanks (next : s.loads[p].find? (fun l => !l.ticked) = some ld) (h : ¬ cutoffSpares ld) :
    cutoff p s = modLoad p ld.docId ld.line (fun l => { l with failed := true, kind := .blank, verdict := .none, used := none })
      (markDoc ld.docId 2 p.val (markLine ld) (setHp p { s.hp[p] with egrBlanked := satInc s.hp[p].egrBlanked } s)) := by
  simp only [cutoff, next, (cutoffSpares_iff ld).not.1 h, Bool.false_eq_true, if_false]

end

/-! ### O32 -/

/-- Settles O32: a deadline by whether the load has one that still counts, the watchdog by the pass it finds, and the cut-off by whether it
spares the load. -/
theorem deadlines : Obligations.Deadlines := by
  unfold Obligations.Deadlines
  refine ⟨fun x p ld s hp next => ⟨fun none => after_live hp (missDeadline_of_none next none), fun t kind waiting due => ?_,
      fun idle => after_live hp (watchdogPass_of_idle idle), fun hung => after_live hp (watchdogPass_of_running hung)⟩,
    fun p ld s hp next => ⟨fun spared => after_live hp (cutoff_spares next spared), fun bare kind notBlank => ?_⟩⟩
  -- a deadline expires
  · have missed := missDeadline_of_due next kind waiting due
    refine ⟨fun alone => after_live hp (missed.trans (if_neg (ne_true_of_eq_false alone))),
      fun part unsent => after_live hp (missed.trans (if_pos ?_))⟩
    rw [part, unsent]; rfl
  -- a load without its packet
  · refine after_live hp (cutoff_blanks next ?_)
    rintro (handed | drop | ⟨failed, blank⟩)
    · exact ne_true_of_eq_false bare handed
    · exact kind drop
    · exact notBlank.elim (ne_false_of_eq_true failed) (· blank)

end Sys2Proof.Machine

/-! ## Heads that come and go, and the reading of their records (O34) -/

namespace Sys2Proof.Machine

/-- Two changes of a head port that give it the same contents are the same change. -/
theorem modHp_congr {p : Port} {f g : HeadPort → HeadPort} {s : State} (h : f s.hp[p] = g s.hp[p]) : modHp p f s = modHp p g s :=
  congrArg (setHp p · s) h

section
variable {n : Port} {s : State}

/-! ### Presence (R247, R249, R250) -/

theorem plugged_early (h : s.pwr.released = false ∨ s.pwr.stage.toNat < 5) : plugged n s = modHp n (fun h => { h with present := true }) s := by
  refine if_neg ?_
  rw [Bool.and_eq_true, decide_eq_true_eq]
  rintro ⟨released, reached⟩
  exact h.elim (ne_false_of_eq_true released) (Nat.not_lt.2 reached)

theorem plugged_late (hr : s.pwr.released = true) (hs : 5 ≤ s.pwr.stage.toNat) : plugged n s = headPlugged n s :=
  if_pos (by rw [hr, decide_eq_true hs]; rfl)

theorem headPlugged_attached (h : s.hp[n].pstate ≠ .absent) : headPlugged n s = modHp n (fun h => { h with present := true }) s :=
  if_neg h

theorem headPlugged_absent (h : s.hp[n].pstate = .absent) :
    headPlugged n s = startReading n (modHp n (fun h => { h with present := true }) s) :=
  if_pos h

/-- Presence is only held before stage 5, and where the port has its head already. -/
theorem plugged_noted (h : s.pwr.released = false ∨ s.pwr.stage.toNat < 5 ∨ s.hp[n].pstate ≠ .absent) :
    plugged n s = modHp n (fun h => { h with present := true }) s := by
  by_cases early : s.pwr.released = false ∨ s.pwr.stage.toNat < 5
  · exact plugged_early early
  · obtain ⟨released, reached⟩ := not_or.1 early
    have attached : s.hp[n].pstate ≠ .absent := (h.resolve_left released).resolve_left reached
    exact (plugged_late (eq_true_of_ne_false released) (Nat.not_lt.1 reached)).trans (headPlugged_attached attached)

theorem headUnplugged_absent (h : s.hp[n].pstate = .absent) : headUnplugged n s = modHp n (fun h => { h with present := false }) s :=
  if_pos h

theorem headUnplugged_attached (h : s.hp[n].pstate ≠ .absent) :
    headUnplugged n s = countClass Cls.hpPresence (raise Src.headRemoved (dropPower n (modHp n (fun h => { h with
      present := false, pstate := .absent, reread := false, record := [], validTemp := none, err := setBit h.err 3, write := .idle,
      writeHeld := false, hot := false, hardHot := false, usagePend := 0 }) (endMail n 2 s)))) :=
  if_neg h

/-! ### The end of a reading, and its failed transfers (R240, R241, R247) -/

section
variable {c0 c1 d0 d1 : Option (List Byte)}

theorem finishReading_invalid (hr : readsRecord s.hp[n] = true) (h0 : (if s.hp[n].got0 = some none then none else c0) = d0)
    (h1 : (if s.hp[n].got1 = some none then none else c1) = d1) (unread : chooseCopy d0 d1 = none) :
    finishReading n c0 c1 s = raise Src.headRecordBad (hpErr n 6 (modHp n (fun h => { h with
      pstate := if h.reread then .shorted else .invalid, reread := false }) s)) := by
  simp only [finishReading, hr, if_true, h0, h1, unread]

theorem finishReading_valid {copy : Bool} {r : List Byte} (hr : readsRecord s.hp[n] = true)
    (h0 : (if s.hp[n].got0 = some none then none else c0) = d0) (h1 : (if s.hp[n].got1 = some none then none else c1) = d1)
    (chosen : chooseCopy d0 d1 = some (copy, r)) :
    finishReading n c0 c1 s = loadRecord n copy r ((d0.filter recordValid).isNone || (d1.filter recordValid).isNone) s := by
  simp only [finishReading, hr, if_true, h0, h1, chosen]

end

/-- A failed transfer of copy 0: the retry comes after 1 ms, unless it was the fourth failure. -/
theorem copyFailed_copy0 (hr : readsRecord s.hp[n] = true) :
    copyFailed n false s = i2cFailed n (modHp n (fun h => { h with
      readAt := s.now + 8000000, tries0 := h.tries0 + 1, got0 := if 4 ≤ h.tries0 + 1 then some none else h.got0 }) s) :=
  if_pos hr

/-- Copy 1 has its own count of tries. -/
theorem copyFailed_copy1 (hr : readsRecord s.hp[n] = true) :
    copyFailed n true s = i2cFailed n (modHp n (fun h => { h with
      readAt := s.now + 8000000, tries1 := h.tries1 + 1, got1 := if 4 ≤ h.tries1 + 1 then some none else h.got1 }) s) :=
  if_pos hr

theorem retryRead_due (hr : readsRecord s.hp[n] = true) (h : 0 < s.hp[n].tries0 ∨ 0 < s.hp[n].tries1) :
    retryRead n s = advanceTo s.hp[n].readAt s :=
  if_pos ⟨hr, h⟩

end

/-! ### O34 -/

/-- Settles O34: presence by the stage and by whether the port has its head, a reading by the copy that is chosen, and a failed transfer by
the number of its try. -/
theorem headRecords : Obligations.HeadRecords := by
  unfold Obligations.HeadRecords
  refine ⟨fun n s => ⟨fun held => congrArg (after s) (plugged_noted held), fun released reached absent => ?_,
      fun absent => congrArg (after s) (headUnplugged_absent absent),
      fun attached => congrArg (after s) (headUnplugged_attached attached)⟩,
    fun n s hp reads => ?_⟩
  · exact congrArg (after s) ((plugged_late released reached).trans (headPlugged_absent absent))
  intro h
  have fails {copy : Bool} {f g : HeadPort → HeadPort} (failed : copyFailed n copy s = i2cFailed n (modHp n f s)) (same : f h = g h) :
      exec (.i2cTimeout n (.read copy)) s = .next (settle s (i2cFailed n (modHp n g s))) :=
    after_live hp (failed.trans (congrArg (i2cFailed n) (modHp_congr same)))
  refine ⟨fun c0 c1 => ?_, fun again => fails (copyFailed_copy0 reads) ?_, fun last => fails (copyFailed_copy0 reads) ?_,
    fun again => fails (copyFailed_copy1 reads) ?_, fun tried => after_live hp (retryRead_due reads tried)⟩
  · intro d0 d1
    exact ⟨fun unread => after_live hp (finishReading_invalid reads rfl rfl unread),
      fun copy r chosen => after_live hp (finishReading_valid reads rfl rfl chosen)⟩
  · rw [if_neg (by omega : ¬ 4 ≤ h.tries0 + 1)]
  · rw [last]; rfl
  · rw [if_neg (by omega : ¬ 4 ≤ h.tries1 + 1)]

end Sys2Proof.Machine

/-! ## The power of a head port (O35) -/

namespace Sys2Proof.Machine

section
variable {n : Port} {s : State}

/-! ### CTL (R247, R248) -/

/-- PWR_OFF ends nothing on a port that is not SHORTED, or whose PWR_OFF does not go from 1 to 0. -/
theorem setPwrOff_stays {v : Bool} (h : s.hp[n].pstate ≠ .shorted ∨ s.hp[n].pwrOff = false ∨ v = true) :
    setPwrOff n v s = reviewPort n (modHp n (fun h => { h with pwrOff := v }) s) := by
  have stays : (s.hp[n].pstate == .shorted && s.hp[n].pwrOff && !v) = false := by
    rcases h with other | off | set
    · rw [beq_false_of_ne other]; rfl
    · rw [off, Bool.and_false]; rfl
    · rw [set, Bool.not_true, Bool.and_false]
  simp only [setPwrOff, setPower, stays, Bool.false_eq_true, if_false, Bool.not_false, Bool.and_true]
  rfl

/-- PWR_OFF 1 and then 0 ends SHORTED: a port that reads its record goes on in READING. -/
theorem setPwrOff_endsShort (short : s.hp[n].pstate = .shorted) (off : s.hp[n].pwrOff = true) :
    setPwrOff n false s = reviewPort n (modHp n (fun h => { h with
      pwrOff := false, pstate := if h.reread then .reading else .unpowered, reread := false }) s) := by
  have ends : (s.hp[n].pstate == .shorted && s.hp[n].pwrOff && !false) = true := by rw [short, off]; rfl
  simp only [setPwrOff, setPower, ends, if_true, Bool.not_true, Bool.and_false]
  rfl

/-! ### REREAD (R247, R248, R259) -/

/-- A document in progress that names the port is a document in progress. -/
theorem portInDoc_of_free (h : docInProgress s = false) : portInDoc n s = false := by
  simp only [docInProgress, List.any_eq_false] at h
  simp only [portInDoc, List.any_eq_false, Bool.and_eq_true, not_and]
  exact fun d hd admitted => absurd admitted (h d hd)

/-- With no document in progress HEAD_REREAD is carried out and not counted. -/
theorem exec_headReread_of_free (hc : s.link.cfgReady = true) (hd : docInProgress s = false) :
    exec (.headReread n) s = .next (settle s (rereadHead n (touchLink s))) := by
  have free : portInDoc n (touchLink s) = false := portInDoc_of_free hd
  refine after_onHost hc ?_
  simp only [free, touchLink_docInProgress, hd, countWhen, Bool.false_eq_true, if_false]

theorem rereadHead_absent (free : portInDoc n s = false) (h : s.hp[n].pstate = .absent) : rereadHead n s = s := by
  simp only [rereadHead, free, h, Bool.false_eq_true, if_false, if_true]

/-- On a port with a head the power goes off, a mailbox write is refused and the reading starts, whatever the state of the port. -/
theorem rereadHead_attached (free : portInDoc n s = false) (h : s.hp[n].pstate ≠ .absent) :
    rereadHead n s = startReading n (endMail n 2
      (if s.hp[n].pstate = .powering ∨ s.hp[n].pstate = .active then dropPower n (modHp n (fun h => { h with tempPeak := h.temp }) s)
        else modHp n (fun h => { h with tempPeak := h.temp }) s)) := by
  simp only [rereadHead, free, h, Bool.false_eq_true, if_false]

/-! ### The review of a port (R247, R248) -/

theorem powerOk_iff : powerOk n s = true ↔ s.hp[n].record ≠ [] ∧ s.hp[n].enable = true ∧ s.hp[n].pwrOff = false ∧
    s.top.state ≠ .safeHold ∧ s.pwr.standbyAxes = false := by
  simp only [powerOk, Bool.and_eq_true, Bool.not_eq_true', List.isEmpty_eq_false_iff, bne_iff_ne, and_assoc]

theorem reviewPort_loses (on : s.hp[n].pstate = .powering ∨ s.hp[n].pstate = .active) (h : powerOk n s = false) :
    reviewPort n s = dropPower n (modHp n (fun h => { h with pstate := .unpowered }) s) :=
  if_pos ⟨on, by rw [h]; rfl⟩

/-- A port whose conditions hold loses nothing. -/
theorem reviewPort_ok (h : powerOk n s = true) : reviewPort n s = reevaluate n s :=
  if_neg (by rw [h]; exact fun lost => nomatch lost.2)

theorem reviewPort_asks (off : s.hp[n].pstate = .unpowered) (h : powerOk n s = true) :
    reviewPort n s = requestPower n (modHp n (fun h => { h with pstate := .powering }) s) :=
  (reviewPort_ok h).trans (if_pos ⟨off, h⟩)

theorem reviewPort_keeps (on : s.hp[n].pstate = .powering ∨ s.hp[n].pstate = .active) (h : powerOk n s = true) : reviewPort n s = s := by
  have powered : s.hp[n].pstate ≠ .unpowered := by rcases on with on | on <;> rw [on] <;> decide
  exact (reviewPort_ok h).trans (if_neg fun off => powered off.1)

end

/-! ### O35 -/

/-- Settles O35: CTL and REREAD as guarded host writes with no document in progress, the review of a port by its state and by `powerOk`. -/
theorem headPower : Obligations.HeadPower := by
  unfold Obligations.HeadPower
  refine ⟨fun n s hc hd => ?_, fun n s => ⟨reviewPort_loses, reviewPort_asks, reviewPort_keeps, powerOk_iff⟩⟩
  intro u
  have writes {f : State → State} {t : State} (h : f u = t) : after s (onHost (guarded f) s) = .next (settle s t) :=
    after_onHost hc ((guarded_of_free (s := u) hd).trans h)
  have free : portInDoc n u = false := portInDoc_of_free hd
  have rereads {t : State} (h : rereadHead n u = t) : exec (.headReread n) s = .next (settle s t) :=
    (exec_headReread_of_free hc hd).trans (congrArg (after s) h)
  exact ⟨fun v => writes rfl, fun v stays => writes (setPwrOff_stays (s := u) stays),
    fun short off => writes (setPwrOff_endsShort (s := u) short off),
    fun absent => rereads (rereadHead_absent free absent), fun attached => rereads (rereadHead_attached free attached)⟩

end Sys2Proof.Machine

/-! ## Record writes (O37) -/

namespace Sys2Proof.Machine

section
variable {n : Port} {s : State}

/-! ### The start of a page (R257, R258) -/

theorem startPage_blocked (h : canWrite s.hp[n] = false) : startPage n s = modHp n (fun h => { h with writeHeld := true }) s :=
  if_pos (by rw [h]; rfl)

theorem startPage_goes (h : canWrite s.hp[n] = true) (window : writeWindow s = true) :
    startPage n s = modHp n (fun h => { h with writeHeld := false }) s := by
  simp only [startPage, h, window, Bool.not_true, Bool.false_eq_true, if_false, if_true]

theorem startPage_waits (h : canWrite s.hp[n] = true) (window : writeWindow s = false) :
    startPage n s = hpErr n 9 (modHp n (fun h => { h with writeHeld := true }) s) := by
  simp only [startPage, h, window, Bool.not_true, Bool.false_eq_true, if_false]

/-- A change of a port that leaves its state alone leaves it as able to write as it was. -/
theorem canWrite_modHp {f : HeadPort → HeadPort} (h : (f s.hp[n]).pstate = s.hp[n].pstate) :
    canWrite (modHp n f s).hp[n] = canWrite s.hp[n] := by
  rw [modHp_same, canWrite, h]
  rfl

/-! ### A write starts or goes on (R257) -/

theorem recordWrite_blocked (h : canWrite s.hp[n] = false) : recordWrite n s = s :=
  if_pos (by rw [h]; rfl)

theorem recordWrite_page {k : Nat} (can : canWrite s.hp[n] = true) (page : s.hp[n].write = .page k) (held : s.hp[n].writeHeld = true) :
    recordWrite n s = startPage n s := by
  simp only [recordWrite, can, page, held, Bool.not_true, Bool.false_eq_true, if_false, if_true]

theorem recordWrite_mail {d : List Byte} (can : canWrite s.hp[n] = true) (idle : s.hp[n].write = .idle) (mail : s.hp[n].mailWrite = some d) :
    recordWrite n s = beginMail n d s := by
  simp only [recordWrite, can, idle, mail, Bool.not_true, Bool.false_eq_true, if_false]

theorem recordWrite_usage (can : canWrite s.hp[n] = true) (idle : s.hp[n].write = .idle) (mail : s.hp[n].mailWrite = none)
    (usage : s.hp[n].usagePend ≠ 0) (fresh : s.hp[n].writeOver = false) : recordWrite n s = beginUsage n s := by
  have pending : s.hp[n].usagePend ≠ 0 ∧ (!s.hp[n].writeOver) = true := ⟨usage, by rw [fresh]; rfl⟩
  simp only [recordWrite, can, idle, mail, if_pos pending, Bool.not_true, Bool.false_eq_true, if_false]

theorem flushUsage_pending (usage : s.hp[n].usagePend ≠ 0) (can : canWrite s.hp[n] = true) (idle : s.hp[n].write = .idle)
    (mail : s.hp[n].mailWrite = none) : flushUsage n s = beginUsage n s :=
  if_pos ⟨usage, can, idle, by rw [mail]; rfl⟩

/-! ### The pages (R240, R257) -/

/-- Page `k` of the write goes out to the head's memory, into the copy not in use. -/
def pageOut (n : Port) (k : Nat) (s : State) : State :=
  { s with out := { s.out with head :=
    ⟨n, s.hp[n].memAddr, s.hp[n].memA16, (if s.hp[n].copy then 0 else 128) + 8 * k, slice s.hp[n].writeData (8 * k) 8⟩ :: s.out.head } }

theorem pageDone_next {k : Nat} (page : s.hp[n].write = .page k) (held : s.hp[n].writeHeld = false) (more : k < 15) :
    pageDone n s = startPage n (modHp n (fun h => { h with write := .page (k + 1) }) (pageOut n k s)) := by
  simp only [pageDone, page, held, more, Bool.false_eq_true, if_false, if_true]
  rfl

theorem pageDone_last (page : s.hp[n].write = .page 15) (held : s.hp[n].writeHeld = false) :
    pageDone n s = modHp n (fun h => { h with write := .readback }) (pageOut n 15 s) := by
  simp only [pageDone, page, held, Nat.lt_irrefl, Bool.false_eq_true, if_false]
  rfl

/-! ### The readback (R257, R258, R460) -/

section
variable {b : List Byte} (reads : s.hp[n].write = .readback)
include reads

theorem readbackDone_usage (valid : recordValid b = true) (mail : s.hp[n].mailRuns = false) :
    readbackDone n b s = modHp n (fun h => { h with
      write := .idle, writeTries := 0, writeOver := false, copy := !h.copy, record := b
      usagePend := h.usagePend - BitVec.ofNat 8 h.writeUnits }) s := by
  simp only [readbackDone, reads, valid, mail, Bool.false_eq_true, if_false, if_true]

theorem readbackDone_mail (valid : recordValid b = true) (mail : s.hp[n].mailRuns = true) :
    readbackDone n b s = endMail n 0 (modHp n (fun h => { h with write := .idle, writeTries := 0 }) s) := by
  simp only [readbackDone, reads, valid, mail, if_true]

theorem readbackDone_invalid (invalid : recordValid b = false) : readbackDone n b s = writeFailed n s := by
  simp only [readbackDone, reads, invalid, Bool.false_eq_true, if_false, if_true]

end

/-- What a failed write leaves in the port: the first three failures are retried after 1 s, and a usage write that fails once more waits for
further usage. -/
def failedWrite (now : Nat) (h : HeadPort) : HeadPort :=
  { h with
    write := if h.writeTries + 1 ≤ 3 then .retryWait else .idle, writeTries := h.writeTries + 1
    writeOver := h.writeOver || (decide (3 < h.writeTries + 1) && !h.mailRuns)
    writeAt := now + 8000000000, writeHeld := false }

/-- The failure is flagged and reported. -/
def reportWrite (n : Port) (s : State) : State := raise Src.headWriteFail (hpErr n 10 s)

/-- A failure that is not the last one of a mailbox write leaves the mailbox alone. -/
theorem writeFailed_retries (h : s.hp[n].writeTries < 3 ∨ s.hp[n].mailRuns = false) :
    writeFailed n s = reportWrite n (modHp n (failedWrite s.now) s) := by
  refine if_pos ?_
  rcases h with again | usage
  · rw [decide_eq_true (by omega : s.hp[n].writeTries + 1 ≤ 3)]; rfl
  · rw [usage]; exact Bool.or_true _

/-- The fourth failure of a mailbox write ends it with result 2. -/
theorem writeFailed_endsMail (tries : s.hp[n].writeTries = 3) (mail : s.hp[n].mailRuns = true) :
    writeFailed n s = endMail n 2 (reportWrite n (modHp n (failedWrite s.now) s)) :=
  if_neg (by rw [tries, mail]; decide)

theorem failedWrite_again {h : HeadPort} (now : Nat) (tries : h.writeTries < 3) :
    failedWrite now h = { h with
      write := .retryWait, writeTries := h.writeTries + 1, writeAt := now + 8000000000, writeHeld := false } := by
  have again : h.writeTries + 1 ≤ 3 := tries
  simp only [failedWrite, again, if_true, decide_eq_false (Nat.not_lt.2 again), Bool.false_and, Bool.or_false]

theorem failedWrite_usage {h : HeadPort} (now : Nat) (tries : h.writeTries = 3) (usage : h.mailRuns = false) :
    failedWrite now h = { h with
      write := .idle, writeTries := 4, writeOver := true, writeAt := now + 8000000000, writeHeld := false } := by
  simp [failedWrite, tries, usage]

theorem failedWrite_mail {h : HeadPort} (now : Nat) (tries : h.writeTries = 3) (mail : h.mailRuns = true) :
    failedWrite now h = { h with write := .idle, writeTries := 4, writeAt := now + 8000000000, writeHeld := false } := by
  simp [failedWrite, tries, mail]

theorem retryWrite_waiting (h : s.hp[n].write = .retryWait) :
    retryWrite n s = startPage n (modHp n (fun h => { h with write := .page 0 }) (advanceTo s.hp[n].writeAt s)) :=
  if_pos h

end

/-! ### O37 -/

/-- Settles O37: what each command makes of the write by its state, and each page by `startPage`, whose two conditions the steps before it
leave as they are. -/
theorem recordWrites : Obligations.RecordWrites := by
  unfold Obligations.RecordWrites
  intro n s hp h begun go held page
  have inDies {f : State → State} {t : State} (e : f s = t) : after s (live f s) = .next (settle s t) := after_live hp e
  refine ⟨fun d can idle mail => ?_, fun blocked => inDies (recordWrite_blocked blocked),
    fun k can isPage isHeld => ⟨fun window => inDies ((recordWrite_page can isPage isHeld).trans (startPage_goes can window)),
      fun window => inDies ((recordWrite_page can isPage isHeld).trans (startPage_waits can window))⟩,
    fun can idle mail usage fresh => inDies (recordWrite_usage can idle mail usage fresh),
    fun k isPage free more => ?_, fun last free => inDies (pageDone_last last free),
    fun b reads valid => ⟨fun usage => inDies (readbackDone_usage reads valid usage),
      fun mail => inDies (readbackDone_mail reads valid mail)⟩,
    fun b reads invalid => ?_, fun waits => ?_, fun hc usage can idle mail => after_onHost hc ?_⟩
  -- a mailbox write begins
  · have begins : recordWrite n s = startPage n (begun (mailRecord d h.record)) := recordWrite_mail can idle mail
    have able : canWrite (begun (mailRecord d h.record)).hp[n] = true := (canWrite_modHp rfl).trans ((canWrite_modHp rfl).trans can)
    exact ⟨fun window => inDies (begins.trans (startPage_goes able window)),
      fun window => inDies (begins.trans (startPage_waits able window))⟩
  -- a page that is not the last one
  · intro next
    have done : pageDone n s = startPage n next := pageDone_next isPage free more
    have able : canWrite next.hp[n] = canWrite h := canWrite_modHp rfl
    exact ⟨fun can window => inDies (done.trans (startPage_goes (able.trans can) window)),
      fun can window => inDies (done.trans (startPage_waits (able.trans can) window)),
      fun blocked => inDies (done.trans (startPage_blocked (able.trans blocked)))⟩
  -- a readback that is not valid
  · have fails := readbackDone_invalid (b := b) reads invalid
    refine ⟨fun again => inDies ?_, fun tries usage => inDies ?_, fun tries mail => inDies ?_⟩
    · exact (fails.trans (writeFailed_retries (.inl again))).trans
        (congrArg (reportWrite n) (modHp_congr (failedWrite_again s.now again)))
    · exact (fails.trans (writeFailed_retries (.inr usage))).trans
        (congrArg (reportWrite n) (modHp_congr (failedWrite_usage s.now tries usage)))
    · exact (fails.trans (writeFailed_endsMail tries mail)).trans
        (congrArg (fun t => endMail n 2 (reportWrite n t)) (modHp_congr (failedWrite_mail s.now tries mail)))
  -- a retry
  · intro again
    have retries : retryWrite n s = startPage n again := retryWrite_waiting waits
    have able : canWrite again.hp[n] = canWrite h := canWrite_modHp rfl
    exact ⟨fun can window => inDies (retries.trans (startPage_goes (able.trans can) window)),
      fun blocked => inDies (retries.trans (startPage_blocked (able.trans blocked)))⟩
  -- USAGE_FLUSH
  · refine flushUsage_pending ?_ ?_ ?_ ?_ <;> rw [countWhen_hp]
    exacts [usage, can, idle, mail]

end Sys2Proof.Machine

/-! ## Rails (O38) -/

namespace Sys2Proof.Machine

theorem modRail_same (r : Fin 4) (f : Rail → Rail) (s : State) : (modRail r f s).hdv.rails[r] = f s.hdv.rails[r] :=
  Vector.getElem_set_self _

/-- Two changes of a port's sub-block that give it the same contents are the same change. -/
theorem modHdv_congr {p : Port} {f g : HdvPort → HdvPort} {s : State} (h : f s.hdv.ports[p] = g s.hdv.ports[p]) :
    modHdv p f s = modHdv p g s :=
  congrArg (fun c => modHdv p (fun _ => c) s) h

section
variable {r : Fin 4} {s : State}

/-! ### The life of a rail (R261) -/

theorem softstartGood_starting (h : s.hdv.rails[r].state = .softstart) :
    softstartGood r s = serveWaiting r (modRail r (fun l => { l with state := .good }) (advanceTo s.hdv.rails[r].due s)) :=
  if_pos h

theorem idleOff_idle (good : s.hdv.rails[r].state = .good) (idle : railIdle r s = true) :
    idleOff r s = modRail r (fun l => { l with state := .off, rank := none }) (advanceTo s.hdv.rails[r].due s) :=
  if_pos ⟨good, idle⟩

theorem idleOff_of_not_good (h : s.hdv.rails[r].state ≠ .good) : idleOff r s = s := if_neg fun idle => h idle.1

theorem latchFaults_of_not_lasting (h : isLasting Cls.hdvRail s = false) : latchFaults s = s :=
  if_neg (ne_true_of_eq_false h)

/-- A fault whose class is not lasting ends by time. -/
theorem faultRecover_passing (fault : s.hdv.rails[r].state = .fault) (passing : isLasting Cls.hdvRail s = false) :
    faultRecover r s = railToOff r (advanceTo s.hdv.rails[r].due s) := by
  have unlatched : latchFaults (advanceTo s.hdv.rails[r].due s) = advanceTo s.hdv.rails[r].due s := latchFaults_of_not_lasting passing
  refine (if_pos fault).trans ?_
  rw [unlatched]
  exact if_pos fault

theorem faultRecover_of_not_fault (h : s.hdv.rails[r].state ≠ .fault) : faultRecover r s = s := if_neg h

theorem clearFault_latched (h : s.hdv.rails[r].state = .latched) : clearFault r s = railToOff r s := if_pos h

theorem clearFault_of_not_latched (h : s.hdv.rails[r].state ≠ .latched) : clearFault r s = s := if_neg h

/-! ### Slewing (R264) -/

/-- The code of a rail one step nearer to its target. -/
def slewedCode (l : Rail) : BitVec 12 :=
  if l.code.toNat < l.target.toNat then l.code + 1 else if l.target.toNat < l.code.toNat then l.code - 1 else l.code

theorem slewStep_short (slewing : s.hdv.rails[r].state = .slewing) (short : slewedCode s.hdv.rails[r] ≠ s.hdv.rails[r].target) :
    slewStep r s = modRail r (fun l => { l with code := slewedCode s.hdv.rails[r], due := max s.now s.hdv.rails[r].due + 512000 })
      (advanceTo s.hdv.rails[r].due s) :=
  (if_pos slewing).trans (if_neg short)

theorem slewStep_there (slewing : s.hdv.rails[r].state = .slewing) (there : slewedCode s.hdv.rails[r] = s.hdv.rails[r].target) :
    slewStep r s = serveWaiting r (modRail r (fun l => { l with code := slewedCode s.hdv.rails[r], state := .good })
      (advanceTo s.hdv.rails[r].due s)) :=
  (if_pos slewing).trans (if_pos there)

theorem slewStep_of_not_slewing (h : s.hdv.rails[r].state ≠ .slewing) : slewStep r s = s := if_neg h

/-! ### Faults (R266, R267) -/

section
variable {cause : RailCause}

theorem faultRail_faultable (h : faultable cause s.hdv.rails[r] = true) :
    faultRail r cause s = countClass Cls.hdvRail (raise Src.railFault ((railPorts r).foldl (fun s p =>
      if s.hp[p].pstate = .powering ∨ s.hp[p].pstate = .active then dropPower p (refusePower p s) else s)
      (modRail r (fun l => { l with
        state := .fault, err := setBit l.err (causeBit cause), waiting := 0, due := s.now + 800000000 }) s))) :=
  if_pos h

theorem faultRail_of_not_faultable (h : faultable cause s.hdv.rails[r] = false) : faultRail r cause s = s :=
  if_neg (ne_true_of_eq_false h)

/-- A fault that is not of VDRV concerns its own rail. -/
theorem railFaulted_own (h : cause ≠ .uvDrv) : railFaulted r cause s = latchFaults (faultRail r cause s) :=
  congrArg latchFaults (if_neg h)

end

theorem drvLow_faultable (h : faultable .uvDrv s.hdv.rails[r] = true) : drvLow s r = faultRail r .uvDrv s := if_pos h

theorem drvLow_of_not_faultable (h : faultable .uvDrv s.hdv.rails[r] = false) :
    drvLow s r = countClass Cls.hdvRail (raise Src.railFault (modRail r (fun l => { l with err := setBit l.err 3 }) s)) :=
  if_neg (ne_true_of_eq_false h)

/-! ### A set-point that changes during the soft start (R261, R264) -/

section
variable {v : Fin 8} (starting : s.hdv.rails[r].state = .softstart) (rank : s.hdv.rails[r].rank = some v)
include starting rank

theorem retarget_same (h : setPoint r v s = s.hdv.rails[r].code) : retarget r s = s := by
  simp only [retarget, rank, starting, h, if_true]

/-- The soft start goes on to the new code, and its end moves. -/
theorem retarget_starting (h : setPoint r v s ≠ s.hdv.rails[r].code) :
    retarget r s = modRail r (fun l => { l with
      target := setPoint r v s, code := setPoint r v s
      due := max (s.hdv.rails[r].due - softTime s.hdv.rails[r].code + (softTime (setPoint r v s) - msGrid 1)) s.now + 8000000 }) s := by
  simp only [retarget, rank, starting, h, if_false]
  rfl

end

end

/-! ### The voltage table and the sensing settings (R264, R274) -/

theorem fieldIn_iff {pos width lo hi : Nat} {w : Word} :
    fieldIn pos width lo hi w = true ↔ lo ≤ w.toNat / 2 ^ pos % 2 ^ width ∧ w.toNat / 2 ^ pos % 2 ^ width ≤ hi := by
  simp only [fieldIn, Bool.and_eq_true, decide_eq_true_eq]

theorem voltageIn_iff {w : Word} : fieldIn 0 16 0 4095 w = true ↔ w.toNat % 65536 ≤ 4095 := by
  rw [fieldIn_iff]; omega

theorem shuntIn_iff {w : Word} : fieldIn 16 16 1 65535 w = true ↔ 1 ≤ w.toNat / 65536 := by
  rw [fieldIn_iff]; have := w.isLt; omega

theorem settleIn_iff {w : Word} : fieldIn 8 4 2 15 w = true ↔ 2 ≤ w.toNat / 256 % 16 := by
  rw [fieldIn_iff]; omega

section
variable {w : Word} {s : State}

theorem writeVtab_inRange {i : Fin 8} (h : w.toNat % 65536 ≤ 4095) :
    writeVtab i w s = retargetAll { s with hdv := { s.hdv with vtab := s.hdv.vtab.set i.val (w.setWidth 16) i.isLt } } :=
  if_pos (voltageIn_iff.2 h)

theorem writeVtab_outOfRange {i : Fin 8} (h : 4095 < w.toNat % 65536) : writeVtab i w s = s :=
  if_neg fun inRange => Nat.not_lt.2 (voltageIn_iff.1 inRange) h

theorem writeSense_eq (p : Port) :
    writeSense p w s = modHdv p (fun h => { h with
      rshunt := if 1 ≤ w.toNat / 65536 then (w >>> 16).setWidth 16 else h.rshunt
      settle := if 2 ≤ w.toNat / 256 % 16 then (w >>> 8).setWidth 4 else h.settle
      gain := (w >>> 1).setWidth 2, echoEn := w.getLsbD 0 }) s := by
  simp only [writeSense, shuntIn_iff, settleIn_iff]

end

/-! ### O38 -/

/-- Settles O38: each command by what its rail does in the state that the clause names, low VDRV as the faults of the four rails in turn, the
settings as guarded host writes, and the set-point by `retarget_starting`. -/
theorem rails : Obligations.Rails := by
  unfold Obligations.Rails
  refine ⟨fun r s => ?_, fun r s hp => ?_, fun r cause s hp => ?_, fun w s hc free => ?_, fun r v s starting rank => ?_⟩
  · intro l s1
    have clears {t : State} (h : clearFault r (countWhen (docInProgress s) (touchLink s)) = t) (hc : s.link.cfgReady = true) :
        exec (.vhsFaultClr r) s = .next (settle s t) :=
      after_onHost hc h
    have kept : (countWhen (docInProgress s) (touchLink s)).hdv = s.hdv := by rw [countWhen_hdv, touchLink_hdv]
    exact ⟨fun hp starting => after_live hp (softstartGood_starting starting), fun hp good idle => after_live hp (idleOff_idle good idle),
      fun hp other => after_live hp (idleOff_of_not_good other), fun hp fault passing => after_live hp (faultRecover_passing fault passing),
      fun hp latched => after_live hp (faultRecover_of_not_fault fun fault => nomatch latched.symm.trans fault),
      fun hc latched => clears (clearFault_latched (by rw [kept]; exact latched)) hc,
      fun hc other => clears (clearFault_of_not_latched (by rw [kept]; exact other)) hc⟩
  · exact ⟨fun slewing short => after_live hp (slewStep_short slewing short), fun slewing there => after_live hp (slewStep_there slewing there),
      fun other => after_live hp (slewStep_of_not_slewing other)⟩
  · have own {t : State} (other : cause ≠ .uvDrv) (h : faultRail r cause s = t) :
        exec (.railFault r cause) s = .next (settle s (latchFaults t)) :=
      after_live hp ((railFaulted_own other).trans (congrArg latchFaults h))
    exact ⟨fun other can => own other (faultRail_faultable can), fun other cannot => own other (faultRail_of_not_faultable cannot),
      after_live hp rfl, drvLow_faultable, drvLow_of_not_faultable⟩
  · have writes {f : State → State} {t : State} (h : f (touchLink s) = t) : after s (onHost (guarded f) s) = .next (settle s t) :=
      after_onHost hc ((guarded_of_free (s := touchLink s) free).trans h)
    exact ⟨fun i => ⟨fun inRange => writes (writeVtab_inRange inRange), fun out => writes (writeVtab_outOfRange out)⟩,
      fun p => writes (writeSense_eq p)⟩
  · refine ⟨retarget_same starting rank, fun changed => ?_⟩
    rw [retarget_starting starting rank changed, modRail_same]
    exact ⟨rfl, rfl, starting, Nat.add_le_add_right (Nat.le_max_right _ _) _⟩

end Sys2Proof.Machine

/-! ## Power good, shorts and echo windows (O39) -/

namespace Sys2Proof.Machine

section
variable {n : Port} {s : State}

/-! ### Power good (R265) -/

theorem powerGood_powering (powering : s.hp[n].pstate = .powering) (gate : s.hdv.ports[n].gate = true) :
    powerGood n s = raise Src.headReady (modHp n (fun h => { h with pstate := .active, wasActive := true })
      (setNzh n { s.nzh[n] with exon := [] }
        (modHdv n (fun h => { h with pwrGood := true, gainK := 16777216, first := none, guardOk := false }) s))) :=
  if_pos ⟨powering, gate⟩

theorem powerTimeout_powering (powering : s.hp[n].pstate = .powering) (gate : s.hdv.ports[n].gate = true) :
    powerTimeout n s = refusePower n (releaseGate n (modHdv n (fun h => { h with err := setBit h.err 0 })
      (advanceTo s.hdv.ports[n].pgDue s))) :=
  if_pos ⟨powering, gate⟩

section
variable (h : s.hp[n].pstate ≠ .powering ∨ s.hdv.ports[n].gate = false)
include h

/-- The port does not await power good. -/
theorem not_awaiting : ¬ (s.hp[n].pstate = .powering ∧ s.hdv.ports[n].gate = true) :=
  not_and_or.2 (h.imp_right ne_true_of_eq_false)

theorem powerGood_of_not_awaiting : powerGood n s = s := if_neg (not_awaiting h)

theorem powerTimeout_of_not_awaiting : powerTimeout n s = s := if_neg (not_awaiting h)

end

/-! ### Shorts (R269, R273) -/

theorem declareShort_powered {comparator : Bool} (gate : s.hdv.ports[n].gate = true) :
    declareShort n comparator s = countClass Cls.hdvShort (raise Src.headShort (dropPower n (hpErr n 4
      (modHp n (fun h => { h with pstate := .shorted }) (modHdv n (fun h => { h with
        err := if comparator then setBit (setBit h.err 1) 2 else setBit h.err 1, shorts := satInc h.shorts }) s))))) :=
  if_pos gate

theorem declareShort_off {comparator : Bool} (gate : s.hdv.ports[n].gate = false) : declareShort n comparator s = s :=
  if_neg (ne_true_of_eq_false gate)

/-- The samples declare shorts on a class T head that senses. -/
theorem sampledShort_sensing (echo : s.hdv.ports[n].echoEn = true) (classT : recClassL s.hp[n].record = false) :
    sampledShort n s = declareShort n false s :=
  if_pos (by rw [echo, classT]; rfl)

theorem sampledShort_of_not_sensing (h : s.hdv.ports[n].echoEn = false ∨ recClassL s.hp[n].record = true) : sampledShort n s = s := by
  refine if_neg ?_
  rw [Bool.and_eq_true, Bool.not_eq_true']
  rintro ⟨echo, classT⟩
  exact h.elim (ne_false_of_eq_true echo) (ne_true_of_eq_false classT)

theorem sampledShort_off (gate : s.hdv.ports[n].gate = false) : sampledShort n s = s :=
  (congrArg (ite _ · s) (declareShort_off gate)).trans (ite_self s)

/-! ### Echo windows (R270 to R273, R275) -/

/-- The port takes up a baseline; the first one after power good stays the first (R270). -/
def takeBase (n : Port) (b : Nat) (s : State) : State :=
  modHdv n (fun h => { h with base := b, afresh := false, first := some (h.first.getD b) }) s

/-- A window is measured against the baseline that has just been taken, unless that baseline shows a short (R273). -/
def measureFromBase (n : Port) (ld : Load) (w : EchoIn) (win : List (Nat × Bool) × Nat) (s : State) : State :=
  if baseShort { s.hdv.ports[n] with scale := ld.scale } then declareShort n false s else releasePlanes n ld w (measureWindow n ld w win s)

section
variable {w : EchoIn}

theorem echoWindow_unheld (h : heldPlanes n w s = none) : echoWindow n w s = s := by
  simp only [echoWindow, h]

variable {ld : Load} (held : heldPlanes n w s = some ld)
include held

theorem echoWindow_unfired (h : (planeWindows ld w.plane)[w.number]? = none) : echoWindow n w s = s := by
  simp only [echoWindow, held, h]

variable {win : List (Nat × Bool) × Nat} (fired : (planeWindows ld w.plane)[w.number]? = some win)
include fired

theorem echoWindow_discarded
    (h : ld.cut = true ∨ s.hdv.ports[n].echoEn = false ∨ recClassL s.hp[n].record = true ∨ s.hdv.ports[n].gate = false) :
    echoWindow n w s = s := by
  have discards : (ld.cut || !s.hdv.ports[n].echoEn || recClassL s.hp[n].record || !s.hdv.ports[n].gate) = true := by
    simpa only [Bool.or_eq_true, Bool.not_eq_true', or_assoc] using h
  simp only [echoWindow, held, fired, discards, if_true]

section
variable (uncut : ld.cut = false) (echo : s.hdv.ports[n].echoEn = true) (classT : recClassL s.hp[n].record = false)
  (gate : s.hdv.ports[n].gate = true)
include uncut echo classT gate

/-- Without a new baseline the window is measured against the one in use. -/
theorem echoWindow_sameBase (h : newBase s.hdv.ports[n] w.guard = none) :
    echoWindow n w s = releasePlanes n ld w (measureWindow n ld w win s) := by
  simp only [echoWindow, held, fired, uncut, echo, classT, gate, h, Bool.not_true, Bool.or_false, Bool.false_eq_true, if_false]

/-- A new baseline is taken first, and may itself show a short. -/
theorem echoWindow_newBase {b : Nat} (h : newBase s.hdv.ports[n] w.guard = some b) :
    echoWindow n w s = measureFromBase n ld w win (takeBase n b s) := by
  simp only [echoWindow, held, fired, uncut, echo, classT, gate, h, Bool.not_true, Bool.or_false, Bool.false_eq_true, if_false]
  refine congrArg (measureFromBase n ld w win) (modHdv_congr ?_)
  cases s.hdv.ports[n].first with
  | none => simp only [Option.getD_none]
  | some f => simp only [Option.getD_some]

end

end

/-- A window that shows no short, with fewer than two plateau samples, carries no measurement. -/
theorem measureWindow_noEcho {ld : Load} {w : EchoIn} {win : List (Nat × Bool) × Nat}
    (quiet : sampleShort { s.hdv.ports[n] with scale := ld.scale }
      (sumOf (win.1.map fun t => pktExpect (usedPacket ld) w.plane t.1 (b2n t.2)))
      (plateau s.hdv.ports[n].settle.toNat win.2 w.samples) = false)
    (few : (plateau s.hdv.ports[n].settle.toNat win.2 w.samples).length < 2) :
    measureWindow n ld w win s = modHdv n (fun h => { h with noEcho := satInc h.noEcho }) s :=
  (if_neg (ne_true_of_eq_false quiet)).trans (if_pos few)

end

/-! ### O39 -/

/-- Settles O39: power good by whether the port awaits it, shorts by `declareShort` and by who may declare them, and a window by what the
baseline that it brings makes of it. -/
theorem portSupply : Obligations.PortSupply := by
  unfold Obligations.PortSupply
  refine ⟨fun n s hp => ?_, fun n s hp => ?_, fun n w s hp => ?_⟩
  · exact ⟨fun powering gate => ⟨after_live hp (powerGood_powering powering gate), after_live hp (powerTimeout_powering powering gate)⟩,
      fun other => ⟨after_live hp (powerGood_of_not_awaiting other), after_live hp (powerTimeout_of_not_awaiting other)⟩,
      fun _ _ => after_live hp rfl⟩
  · exact ⟨fun gate => after_live hp (declareShort_powered gate),
      fun gate echo classT => after_live hp ((sampledShort_sensing echo classT).trans (declareShort_powered gate)),
      fun other => after_live hp (sampledShort_of_not_sensing other),
      fun gate => ⟨after_live hp (sampledShort_off gate), after_live hp (declareShort_off gate)⟩⟩
  · refine ⟨fun unheld => after_live hp (echoWindow_unheld unheld), fun ld held unfired => after_live hp (echoWindow_unfired held unfired),
      fun ld win held fired => ⟨fun discarded => after_live hp (echoWindow_discarded held fired discarded),
        fun uncut echo classT gate => ?_⟩, fun _ _ _ => rfl, fun _ _ => measureWindow_noEcho⟩
    exact ⟨fun same => after_live hp (echoWindow_sameBase held fired uncut echo classT gate same),
      fun b new => after_live hp (echoWindow_newBase held fired uncut echo classT gate new)⟩

end Sys2Proof.Machine

/-! ## The map commands and the registers of nozzle health (O40) -/

namespace Sys2Proof.Machine

theorem setNzh_same (p : Port) (z : Nzh) (s : State) : (setNzh p z s).nzh[p] = z := Vector.getElem_set_self _

section
variable {n : Port} {s : State}

/-! ### The map commands (R286, R289) -/

/-- Noting a command leaves everything else of the port's nozzle health alone, its map included. -/
theorem noteMapCmd_same (op : BitVec 4) (x : BitVec 11) :
    (noteMapCmd n op x s).nzh[n] = { s.nzh[n] with mapOp := op, mapNozzle := x, mapResult := false } := setNzh_same _ _ _

/-- A map command is a guarded host write. -/
theorem after_mapCommand {op : BitVec 4} {x : BitVec 11} {f : State → State} {t : State} (hc : s.link.cfgReady = true)
    (hd : docInProgress s = false) (h : f (noteMapCmd n op x (touchLink s)) = t) : after s (mapCommand n op x f s) = .next (settle s t) :=
  after_onHost hc ((guarded_of_free (s := touchLink s) hd).trans h)

section
variable {x : Nat}

theorem addHost_refused (h : activeMissing s.nzh[n] x = true ∨ 64 ≤ activeCount s.nzh[n] ∨ freePlace s.nzh[n] = none) :
    addHost n x s = refuseMap n s :=
  if_pos (by simpa only [Bool.or_eq_true, decide_eq_true_eq, Option.isNone_iff_eq_none, or_assoc] using h)

theorem addHost_enters (new : activeMissing s.nzh[n] x = false) (few : activeCount s.nzh[n] < 64) (room : freePlace s.nzh[n] ≠ none) :
    addHost n x s = postMaps s (enterMissing n x .host s) := by
  refine if_neg ?_
  simp only [Bool.or_eq_true, decide_eq_true_eq, Option.isNone_iff_eq_none, not_or]
  exact ⟨⟨ne_true_of_eq_false new, Nat.not_le.2 few⟩, room⟩

theorem freeNozzle_missing (h : activeMissing s.nzh[n] x = true) :
    freeNozzle n x s = postMaps s (setNzh n (keepEntries (fun e => !isActive e || e.nozzle != x) s.nzh[n]) s) := if_pos h

theorem freeNozzle_refused (h : activeMissing s.nzh[n] x = false) : freeNozzle n x s = refuseMap n s := if_neg (ne_true_of_eq_false h)

end

/-! ### The configuration of contact sheets (R293) -/

theorem writeCsCfg_inRange {w : Word} (h : csCfgOk w = true) :
    writeCsCfg n w s = setNzh n { s.nzh[n] with csCfg := w &&& 0xFFFFF0FF } s := if_pos h

theorem writeCsCfg_outOfRange {w : Word} (h : csCfgOk w = false) : writeCsCfg n w s = nzhErr n 4 s := if_neg (ne_true_of_eq_false h)

end

/-! ### O40 -/

/-- Settles O40: each map command as a guarded host write, by whether the map that it finds accepts it, and each register by what its write
does. -/
theorem nozzleMaps : Obligations.NozzleMaps := by
  unfold Obligations.NozzleMaps
  refine ⟨fun n x s0 hc hd => ?_, fun n s0 hc => ?_⟩
  · intro s z s1 s2
    have z1 : s1.nzh[n] = { z with mapOp := 1, mapNozzle := x, mapResult := false } := noteMapCmd_same 1 x
    have z2 : s2.nzh[n] = { z with mapOp := 2, mapNozzle := x, mapResult := false } := noteMapCmd_same 2 x
    refine ⟨fun cannot => ?_, fun new few room => ?_, fun missing => ?_, fun other => ?_, after_mapCommand hc hd rfl, after_mapCommand hc hd rfl⟩
    · exact after_mapCommand hc hd (addHost_refused (by rw [z1]; exact cannot))
    · exact after_mapCommand hc hd (addHost_enters (by rw [z1]; exact new) (by rw [z1]; exact few) (by rw [z1]; exact room))
    · exact after_mapCommand hc hd (freeNozzle_missing (by rw [z2]; exact missing))
    · exact after_mapCommand hc hd (freeNozzle_refused (by rw [z2]; exact other))
  · exact ⟨after_onHost hc rfl, after_onHost hc rfl,
      fun _ hd inRange => (after_guarded hc hd).trans (congrArg (after s0) (writeCsCfg_inRange inRange)),
      fun _ hd out => (after_guarded hc hd).trans (congrArg (after s0) (writeCsCfg_outOfRange out))⟩

end Sys2Proof.Machine

/-! ## Contact sheets (O41) -/

namespace Sys2Proof.Machine

/-! ### The states of the sheets, which changes of the maps leave alone (R287, R292) -/

/-- The state of each port's contact sheet. -/
def sheetStates (s : State) (n : Port) : SheetState := s.nzh[n].csState

theorem sheetStates_of_nzh {s t : State} (h : s.nzh = t.nzh) : sheetStates s = sheetStates t := by
  funext n
  rw [sheetStates, h, sheetStates]

theorem sheetStates_setNzh {p : Port} {z : Nzh} {s : State} (h : z.csState = s.nzh[p].csState) :
    sheetStates (setNzh p z s) = sheetStates s := by
  funext n
  by_cases same : p = n
  · subst same
    exact (congrArg Nzh.csState (setNzh_same p z s)).trans h
  · exact congrArg Nzh.csState (Vector.getElem_set_ne p.isLt n.isLt (Fin.val_ne_of_ne same))

theorem pushLog_nzh (type aux : BitVec 8) (l : List Byte) (s : State) : (pushLog type aux l s).nzh = s.nzh := by
  unfold pushLog
  split <;> rfl

theorem logEntries_nzh (p : Port) (type : BitVec 8) (serial : DWord) (l : List MapEntry) (s : State) :
    (logEntries p type serial l s).nzh = s.nzh :=
  foldl_keep State.nzh _ (fun _ _ => pushLog_nzh _ _ _ _) l s

theorem logMaps_nzh (s0 s : State) : (logMaps s0 s).nzh = s.nzh :=
  foldl_keep State.nzh _ (fun _ _ => (logEntries_nzh _ _ _ _ _).trans (logEntries_nzh _ _ _ _ _)) _ s

theorem nzhErr_sheetStates (p : Port) (i : Nat) (s : State) : sheetStates (nzhErr p i s) = sheetStates s := sheetStates_setNzh rfl

theorem keepEntries_sheetStates (p : Port) (f : MapEntry → Bool) (s : State) :
    sheetStates (setNzh p (keepEntries f s.nzh[p]) s) = sheetStates s := sheetStates_setNzh rfl

theorem dropIncoming_sheetStates (w : List (Port × Nat × Port × Nat)) (s : State) (p : Port) :
    sheetStates (dropIncoming w s p) = sheetStates s := keepEntries_sheetStates _ _ _

theorem putEntry_csState (e : MapEntry) (z : Nzh) : (putEntry e z).csState = z.csState := by
  unfold putEntry
  split <;> rfl

theorem addIncoming_sheetStates (s : State) (t : Port × Nat × Port × Nat) : sheetStates (addIncoming s t) = sheetStates s := by
  unfold addIncoming
  dsimp only
  split
  · rfl
  · exact sheetStates_setNzh (putEntry_csState _ _)

/-- The entries are evaluated and the versions step, on every port alike. -/
theorem evalMaps_sheetStates (s0 s : State) : sheetStates (evalMaps s0 s) = sheetStates s := by
  have dropped := foldl_keep sheetStates _ (dropIncoming_sheetStates (wantedIncoming s)) (List.finRange 16) s
  have entered := (foldl_keep sheetStates _ addIncoming_sheetStates (wantedIncoming s) _).trans dropped
  refine Eq.trans (funext fun n => ?_) entered
  simp only [evalMaps, sheetStates, Fin.getElem_fin, Vector.getElem_ofFn]
  split <;> rfl

theorem postMaps_sheetStates (s0 s : State) : sheetStates (postMaps s0 s) = sheetStates s :=
  (sheetStates_of_nzh (logMaps_nzh _ _)).trans (evalMaps_sheetStates s0 s)

theorem raise_sheetStates (src : Nat) (s : State) : sheetStates (raise src s) = sheetStates s := rfl

theorem enterMissing_sheetStates (p : Port) (x : Nat) (k : MapKind) (s : State) : sheetStates (enterMissing p x k s) = sheetStates s := by
  unfold enterMissing
  dsimp only
  split
  · rfl
  split
  · exact (raise_sheetStates _ _).trans (sheetStates_setNzh rfl)
  split
  · exact (raise_sheetStates _ _).trans (sheetStates_setNzh rfl)
  · exact sheetStates_setNzh (putEntry_csState _ _)

/-- The sheet is DONE and its failed nozzles are its result (R292). -/
def endSheet (p : Port) (s : State) : State :=
  raise Src.csDone (setNzh p { s.nzh[p] with csState := .done, csResult := s.nzh[p].csBad } s)

theorem endSheet_done (p : Port) (s : State) : sheetStates (endSheet p s) p = .done := congrArg Nzh.csState (setNzh_same p _ s)

/-- Reporting that too many nozzles failed, or applying the result to the map, leaves the sheet DONE. -/
theorem finishSheet_sheetStates (p : Port) (s : State) : sheetStates (finishSheet p s) = sheetStates (endSheet p s) := by
  unfold finishSheet
  dsimp only
  split
  · exact nzhErr_sheetStates p 7 _
  split
  · refine (postMaps_sheetStates _ _).trans ((keepEntries_sheetStates _ _ _).trans ?_)
    exact foldl_keep sheetStates _ (fun s x => enterMissing_sheetStates p x .contact s) _ _
  · rfl

theorem finishSheet_done (p : Port) (s : State) : (finishSheet p s).nzh[p].csState = .done :=
  (congrFun (finishSheet_sheetStates p s) p).trans (endSheet_done p s)

section
variable {n : Port} {s : State}

/-! ### The start and the end of a sheet (R291) -/

theorem startSheet_starts {q : Fin 8} (maint : s.top.state = .maint) (active : s.hp[n].pstate = .active) (alone : sheetRuns s = false)
    (profile : spitProfile n s = some q) :
    startSheet n s = setNzh n { s.nzh[n] with
      csState := .running, csProfile := q, csFailed := 0, csNozzle := 0, csDrops := 0, csSeen := 0, csBad := [] } s := by
  simp only [startSheet, profile, maint, active, alone, Bool.not_false, and_self, if_true]

theorem startSheet_noProfile (profile : spitProfile n s = none) : startSheet n s = nzhErr n 5 s := by
  simp only [startSheet, profile]

theorem startSheet_refused (h : s.top.state ≠ .maint ∨ s.hp[n].pstate ≠ .active ∨ sheetRuns s = true) :
    startSheet n s = nzhErr n 5 s := by
  have cannot : ¬ (s.top.state = .maint ∧ s.hp[n].pstate = .active ∧ (!sheetRuns s) = true) := by
    rintro ⟨maint, active, alone⟩
    rw [Bool.not_eq_true'] at alone
    exact h.elim (· maint) (·.elim (· active) (ne_true_of_eq_false alone))
  cases profile : spitProfile n s with
  | none => exact startSheet_noProfile profile
  | some q => simp only [startSheet, profile, if_neg cannot]

theorem abortSheet_running (h : s.nzh[n].csState = .running) : abortSheet n s = setNzh n { s.nzh[n] with csState := .aborted } s := if_pos h

/-! ### A slot of a sheet, and its drop window (R290, R291) -/

/-- The time of the slot comes, and the next one follows at the spit rate, 50 µs later at the soonest. -/
def takeSlot (n : Port) (s : State) : State :=
  let t := advanceTo s.track[n].spitAt s
  setTrack n { s.track[n] with spitAt := t.now + max (usGrid 50) (ceilDiv 8000000000 (spitRate n s.nzh[n].csProfile t)) } t

/-- A spit that was fired has its drop judged. -/
def judgeFired (n : Port) (seen : Bool) (f : Bool × State) : State := if f.1 then judgeDrop n seen f.2 else f.2

section
variable {before : List Nat} {dd : List (Nat × Nat)} {a b : PassNote}

theorem sheetSlot_of_not_running (h : s.nzh[n].csState ≠ .running) : sheetSlot n before dd a b s = s := if_neg h

variable (running : s.nzh[n].csState = .running)
include running

theorem sheetSlot_blocked (nozzle : s.nzh[n].csNozzle = 0) (drops : s.nzh[n].csDrops = 0)
    (blocked : before.any (beamBlocked s.nzh[n].csCfg) = true) :
    sheetSlot n before dd a b s = nzhErr n 6 (setNzh n { s.nzh[n] with csState := .aborted } s) := by
  rw [← abortSheet_running running]
  exact (if_pos running).trans (if_pos ⟨nozzle, drops, blocked⟩)

theorem sheetSlot_fires
    (clear : s.nzh[n].csNozzle ≠ 0 ∨ s.nzh[n].csDrops ≠ 0 ∨ before.any (beamBlocked s.nzh[n].csCfg) = false) :
    sheetSlot n before dd a b s = judgeFired n (dropSeen s.nzh[n].csCfg dd)
      (fireSpit n s.nzh[n].csProfile (sheetPayload n (takeSlot n s)) a b (takeSlot n s)) := by
  refine (if_pos running).trans (if_neg ?_)
  rintro ⟨nozzle, drops, blocked⟩
  exact clear.elim (· nozzle) (·.elim (· drops) (ne_false_of_eq_true blocked))

end

theorem beamBlocked_iff {cfg : Word} {mv : Nat} : beamBlocked cfg mv = true ↔ mv < 10 * (cfg.toNat % 256) := decide_eq_true_iff

theorem dropSeen_single_iff {cfg : Word} {ns mv : Nat} : dropSeen cfg [(ns, mv)] = true ↔
    1000 * ((cfg.toNat / 1048576) % 64) ≤ ns ∧ ns ≤ 1000 * (cfg.toNat / 67108864) ∧ beamBlocked cfg mv = true := by
  simp only [dropSeen, List.any_cons, List.any_nil, Bool.or_false, Bool.and_eq_true, decide_eq_true_eq, and_assoc]

/-! ### The verdict of a nozzle (R290, R292) -/

section
variable {seen : Bool}

theorem judgeDrop_goesOn (h : s.nzh[n].csDrops + 1 < csDropsOf s.nzh[n]) :
    judgeDrop n seen s = setNzh n { s.nzh[n] with csDrops := s.nzh[n].csDrops + 1, csSeen := s.nzh[n].csSeen + b2n seen } s := if_pos h

theorem add_b2n_decide (k : Nat) (c : Prop) [Decidable c] : k + b2n (decide c) = if c then k + 1 else k := by
  by_cases h : c <;> simp [b2n, h]

/-- The nozzle whose `ok` drops were seen has passed or failed, and the next one follows. -/
def judgedNozzle (ok : Nat) (z : Nzh) : Nzh :=
  { z with
    csDrops := 0, csSeen := 0, csNozzle := z.csNozzle + 1
    csFailed := if ok < csPassMin z then z.csFailed + 1 else z.csFailed
    csBad := if ok < csPassMin z then z.csBad ++ [z.csNozzle] else z.csBad }

/-- The last window of a nozzle brings its verdict, and that of the last nozzle completes the sheet. -/
theorem judgeDrop_verdict (h : csDropsOf s.nzh[n] ≤ s.nzh[n].csDrops + 1) :
    judgeDrop n seen s =
      let t := setNzh n (judgedNozzle (s.nzh[n].csSeen + b2n seen) s.nzh[n]) s
      if recNozzles s.hp[n].record ≤ s.nzh[n].csNozzle + 1 then finishSheet n t else t := by
  refine (if_neg (Nat.not_lt.2 h)).trans ?_
  simp only [judgedNozzle, add_b2n_decide, decide_eq_true_eq, setNzh_hp]

theorem judgeDrop_nextNozzle (last : csDropsOf s.nzh[n] ≤ s.nzh[n].csDrops + 1) (more : s.nzh[n].csNozzle + 1 < recNozzles s.hp[n].record) :
    judgeDrop n seen s = setNzh n (judgedNozzle (s.nzh[n].csSeen + b2n seen) s.nzh[n]) s :=
  (judgeDrop_verdict last).trans (if_neg (Nat.not_le.2 more))

theorem judgeDrop_completes (last : csDropsOf s.nzh[n] ≤ s.nzh[n].csDrops + 1) (all : recNozzles s.hp[n].record ≤ s.nzh[n].csNozzle + 1) :
    judgeDrop n seen s = finishSheet n (setNzh n (judgedNozzle (s.nzh[n].csSeen + b2n seen) s.nzh[n]) s) :=
  (judgeDrop_verdict last).trans (if_pos all)

/-- CS_RESULT changes only where the sheet completes. -/
theorem judgeDrop_running_csResult (running : (judgeDrop n seen s).nzh[n].csState = .running) :
    (judgeDrop n seen s).nzh[n].csResult = s.nzh[n].csResult := by
  rcases Nat.lt_or_ge (s.nzh[n].csDrops + 1) (csDropsOf s.nzh[n]) with more | last
  · rw [judgeDrop_goesOn more, setNzh_same]
  rcases Nat.lt_or_ge (s.nzh[n].csNozzle + 1) (recNozzles s.hp[n].record) with more | all
  · rw [judgeDrop_nextNozzle last more, setNzh_same, judgedNozzle]
  · rw [judgeDrop_completes last all] at running
    exact nomatch running.symm.trans (finishSheet_done _ _)

end

end

/-! ### O41 -/

/-- Settles O41: the start by `startSheet_starts` and its refusals, each slot by whether the sheet runs and whether the beam is clear, and
the verdict by whether the window is the nozzle's last and the nozzle the sheet's last. -/
theorem contactSheets : Obligations.ContactSheets := by
  unfold Obligations.ContactSheets
  refine ⟨fun n s => ⟨fun hc maint active alone => ?_, fun hc other => after_onHost hc (startSheet_refused other),
    fun hc running => after_onHost hc (abortSheet_running running),
    fun _ _ _ _ hp running nozzle drops blocked => after_live hp (sheetSlot_blocked running nozzle drops blocked),
    fun _ _ _ _ hp running clear => after_live hp (sheetSlot_fires running clear),
    fun _ _ _ _ hp other => after_live hp (sheetSlot_of_not_running other),
    fun _ _ => beamBlocked_iff, fun _ _ _ => dropSeen_single_iff⟩,
    fun n seen s => ⟨judgeDrop_goesOn, judgeDrop_nextNozzle, judgeDrop_running_csResult⟩⟩
  cases profile : spitProfile n s with
  | none => exact after_onHost hc (startSheet_noProfile profile)
  | some q => exact after_onHost hc (startSheet_starts (s := touchLink s) maint active alone profile)

end Sys2Proof.Machine

/-! ## The queue, and what settling leaves (O1 to O4, O7) -/

namespace Sys2Proof.Machine

/-! ### The queue -/

theorem settle_pending (s0 s : State) : (settle s0 s).pending = s.pending := (settle_held s0 s).1

/-- A command keeps the queue where what it does before it settles keeps it. -/
theorem after_pending {c : Instr} {s s0 t u : State} (he : exec c s = after s0 u) (hu : u.pending = s.pending)
    (h : exec c s = .next t) : t.pending = s.pending := by
  obtain rfl : settle s0 u = t := Host.Outcome.next.inj (he.symm.trans h)
  exact (settle_pending s0 u).trans hu

/-- Every command keeps the queue: a register write through whichever window it comes, a trigger edge whether it wakes the device or not,
the others as their operations do. -/
theorem exec_keeps_pending {c : Instr} {s t : State} (h : exec c s = .next t) : t.pending = s.pending := by
  cases c with
  | registerWrite bus off val be => cases bus <;> exact after_pending rfl (by simp) h
  | docTrigEdge i rise dt n => exact after_pending rfl (live_pending _ _ fun u => by split <;> simp) h
  | _ => exact after_pending rfl (by simp) h

/-- Every command settles what it leads to, and so completes. -/
theorem exec_settles (c : Instr) (s : State) : ∃ s0 u, exec c s = after s0 u := by
  cases c with
  | registerWrite bus off val be => cases bus <;> exact ⟨_, _, rfl⟩
  | _ => exact ⟨_, _, rfl⟩

theorem step_of_empty {s : State} (h : s.pending = []) : step s = .next (idle s) := by
  unfold step
  rw [h]

theorem step_of_front {s : State} {c : Instr} {rest : List Instr} (h : s.pending = c :: rest) :
    step s = exec c { s with pending := rest } := by
  unfold step
  rw [h]

/-! ### O4, O1, O2 and O3 -/

/-- Settles O4: every command keeps the queue (`exec_keeps_pending`). -/
theorem commandsKeepQueue : Obligations.CommandsKeepQueue := fun _ _ _ => exec_keeps_pending

/-- Settles O1: the step takes the front from the queue. -/
theorem stepRunsFront : Obligations.StepRunsFront := fun _ _ _ => step_of_front rfl

/-- Settles O2: an empty queue idles, and a command that was in front keeps the rest of the queue. -/
theorem queueSteps : Obligations.QueueSteps := by
  refine ⟨fun s => step_of_empty, fun s t taken => ?_⟩
  cases queue : s.pending with
  | nil =>
    obtain rfl : idle s = t := Host.Outcome.next.inj ((step_of_empty queue).symm.trans taken)
    exact queue
  | cons c rest => exact exec_keeps_pending ((step_of_front queue).symm.trans taken)

/-- Settles O3: every command settles what it leads to (`exec_settles`). -/
theorem everyCommandCompletes : Obligations.EveryCommandCompletes := fun c s =>
  let ⟨s0, u, he⟩ := exec_settles c s
  ⟨settle s0 u, he⟩

/-! ### O7 -/

/-- Settles O7: the laws of what settling leaves alone, of the queue and the cells (`settle_held`) and of the other parts
(`settle_settled`). -/
theorem settleFrame : Obligations.SettleFrame := by
  intro s0 s
  obtain ⟨queue, cells⟩ := settle_held s0 s
  obtain ⟨now, free, enc, ftl, prof, thm, cap, otp, ready, d3hot, released, cfg, ignored, scratch, table, classes, dma⟩ := settle_settled s0 s
  exact ⟨queue, now, free, enc, ftl, prof, dma, thm, otp, cap, cells, ignored, scratch, table, classes, ready, d3hot, released, cfg⟩

end Sys2Proof.Machine

/-! ## Axis commands (O48) -/

namespace Sys2Proof.Machine

/-! ### The reasons of a refusal, in the order of R364 -/

section
variable {op now : Nat} {st : DevState} {vm : Bool} {a : Axis}

/-- The commands that move an axis: MOVE_ABS, MOVE_REL, HOME and JOG. -/
def movesAxis (op : Nat) : Prop := op = 1 ∨ op = 2 ∨ op = 3 ∨ op = 9

theorem cmdResult_illegal (move : movesAxis op) (illegal : motionState (maintOnly a) st = false) : cmdResult op now st vm a = 1 := by
  unfold cmdResult
  rcases move with rfl | rfl | rfl | rfl <;> simp [illegal]

theorem cmdResult_moving (move : movesAxis op ∨ op = 8) (legal : motionState (maintOnly a) st = true)
    (busy : a.motion ≠ .idle ∨ a.stoppedAt = some now) : cmdResult op now st vm a = 2 := by
  have moves : (a.motion != .idle || a.stoppedAt == some now) = true := by simpa using busy
  unfold cmdResult
  rcases move with (rfl | rfl | rfl | rfl) | rfl <;> simp [legal, moves]

/-- A command that moves an axis finds it idle in a state that allows the move. -/
def findsIdle (now : Nat) (st : DevState) (a : Axis) : Prop :=
  motionState (maintOnly a) st = true ∧ a.motion = .idle ∧ a.stoppedAt ≠ some now

theorem cmdResult_lost (idle : findsIdle now st a) (lost : a.posState.toNat < 2) : cmdResult 1 now st vm a = 3 := by
  obtain ⟨legal, still, running⟩ := idle
  unfold cmdResult
  simp [legal, still, running, lost]

theorem limitBars_of_chatter (fwd : Bool) (h : a.chatter = true) : limitBars fwd a = true := by simp [limitBars, h]

theorem limitBars_of_clear (fwd : Bool) (h : a.chatter = false) (hi : a.hiNow = false) (lo : a.loNow = false) : limitBars fwd a = false := by
  cases fwd <;> simp [limitBars, h, hi, lo]

theorem cmdResult_chatter (idle : findsIdle now st a) (chatter : a.chatter = true) : cmdResult 2 now st vm a = 4 := by
  obtain ⟨legal, still, running⟩ := idle
  unfold cmdResult
  simp [legal, still, running, chatter, limitBars_of_chatter]

theorem cmdResult_bridgeOff (idle : findsIdle now st a) (chatter : a.chatter = false) (hi : a.hiNow = false) (lo : a.loNow = false)
    (off : a.bridge = .off) : cmdResult 2 now st vm a = 5 := by
  obtain ⟨legal, still, running⟩ := idle
  unfold cmdResult
  simp [legal, still, running, chatter, off, limitBars_of_clear _ chatter hi lo]

theorem cmdResult_moves (idle : findsIdle now st a) (known : 2 ≤ a.posState.toNat) (chatter : a.chatter = false) (hi : a.hiNow = false)
    (lo : a.loNow = false) (on : a.bridge ≠ .off) : cmdResult 1 now st vm a = 0 ∧ cmdResult 2 now st vm a = 0 := by
  obtain ⟨legal, still, running⟩ := idle
  unfold cmdResult
  simp [legal, still, running, chatter, on, limitBars_of_clear _ chatter hi lo, Nat.not_lt.2 known]

theorem cmdResult_stops (legal : stopState st = true) : cmdResult 4 now st vm a = 0 ∧ cmdResult 5 now st vm a = 0 := by
  simp [cmdResult, legal]

theorem cmdResult_switches (legal : bridgeState st = true) :
    cmdResult 7 now st vm a = 0 ∧ cmdResult 6 now st true a = 0 ∧ cmdResult 6 now st false a = 5 := by
  simp [cmdResult, legal]

theorem cmdResult_unknown (h : op = 0 ∨ 10 ≤ op) : cmdResult op now st vm a = 6 := if_pos h

end

/-! ### MOT.STOP_ALL (R358) -/

theorem stopAxis_steady (i : Fin 4) (s : State) : Steady (stopAxis i s) s := by
  unfold stopAxis
  split
  · split
    · exact axisPoint_steady _ _ _
    · exact modAxis_steady _ _ _
  · exact modAxis_steady _ _ _

/-- Stopping an axis is noted with the time of the clock, which the stop leaves as it is. -/
theorem stopAll_eq (s : State) :
    let halt (i : Fin 4) (u : State) : State := modAxis i (fun x => { x with stoppedAt := some s.now }) (stopAxis i u)
    stopAll s = halt 3 (halt 2 (halt 1 (halt 0 s))) := by
  have now (i : Fin 4) (u : State) : (stopAxis i u).now = u.now := (stopAxis_steady i u).1
  simp [stopAll, forAxes, List.finRange, noteStop, now, modAxis]

/-! ### O48 -/

/-- Settles O48: each command runs `axisCommand` on the host's access, and each reason of R364 is a lemma about `cmdResult`. -/
theorem axisCommands : Obligations.AxisCommands := by
  unfold Obligations.AxisCommands
  refine ⟨fun a s hc => ?_, fun st vm now a => ?_⟩
  · have judged (op : Nat) (act : Fin 4 → State → State) : after s (onHost (axisCommand op a act) s) = .next (settle s
        (let r := cmdResult op s.now s.top.state s.mot.vmGood s.mot.axes[a]
         let n := modAxis a (noteAxisCmd op r) (touchLink s)
         if r = 0 then act a n else n)) := after_onHost hc rfl
    exact ⟨judged 1 moveAbs, judged 2 moveRel, judged 3 startHome, judged 4 softStop, judged 5 stopAxis, judged 6 energise,
      judged 7 disableAxis, judged 8 setPosition, judged 9 jogAxis, after_onHost hc (stopAll_eq (touchLink s))⟩
  · have moves : movesAxis 1 ∧ movesAxis 2 ∧ movesAxis 3 ∧ movesAxis 9 := by simp [movesAxis]
    obtain ⟨m1, m2, m3, m9⟩ := moves
    exact ⟨fun h => ⟨cmdResult_illegal m1 h, cmdResult_illegal m2 h, cmdResult_illegal m3 h, cmdResult_illegal m9 h⟩,
      fun h b => ⟨cmdResult_moving (.inl m1) h b, cmdResult_moving (.inl m2) h b, cmdResult_moving (.inl m3) h b,
        cmdResult_moving (.inr rfl) h b, cmdResult_moving (.inl m9) h b⟩,
      fun h i r => cmdResult_lost ⟨h, i, r⟩, fun h i r => cmdResult_chatter ⟨h, i, r⟩, fun h i r => cmdResult_bridgeOff ⟨h, i, r⟩,
      fun h i r => cmdResult_moves ⟨h, i, r⟩, cmdResult_stops, cmdResult_switches, cmdResult_unknown (.inl rfl),
      cmdResult_unknown (.inr (by decide))⟩

end Sys2Proof.Machine

/-! ## The thermal block (O51) -/

namespace Sys2Proof.Machine

/-! ### What settling leaves of the thermal block, and what an event writes -/

/-- Of the thermal block settling changes the flash window alone (R447). -/
theorem settle_thm {α : Type} (p : Thm → α) (hp : ∀ t, p t.unwindowed = p t) (s0 s : State) : p (settle s0 s).thm = p s.thm := by
  obtain ⟨-, -, -, -, -, thm, -⟩ := settle_settled s0 s
  rw [← hp, thm, hp]

theorem settle_now (s0 s : State) : (settle s0 s).now = s.now := (settle_settled s0 s).1

theorem settle_released (s0 s : State) : (settle s0 s).pwr.released = s.pwr.released := by
  obtain ⟨-, -, -, -, -, -, -, -, -, -, released, -⟩ := settle_settled s0 s
  exact released

section
variable {s : State}

/-- Only the event block and ADMIT_HOLD have been written. -/
def EventsOnly (a b : State) : Prop := ∃ e h, a = { b with evt := e, pond := { b.pond with admitHold := h } }

theorem EventsOnly.trans {a b c : State} (h1 : EventsOnly a b) (h2 : EventsOnly b c) : EventsOnly a c := by
  obtain ⟨e, h, rfl⟩ := h1
  obtain ⟨_, _, rfl⟩ := h2
  exact ⟨e, h, rfl⟩

theorem EventsOnly.either (c : Prop) [Decidable c] {t u s : State} (ht : EventsOnly t s) (hu : EventsOnly u s) :
    EventsOnly (if c then t else u) s := by
  split
  · exact ht
  · exact hu

theorem escalate_eventsOnly (c : Fin 32) (s : State) : EventsOnly (escalate c s) s :=
  .either _ ⟨_, _, rfl⟩ (.either _ ⟨_, _, rfl⟩ ⟨_, _, rfl⟩)

theorem countClass_eventsOnly (c : Fin 32) (s : State) : EventsOnly (countClass c s) s :=
  .either _ ((escalate_eventsOnly _ _).trans ⟨_, _, rfl⟩)
    (.either _ ((escalate_eventsOnly _ _).trans (.either _ ⟨_, _, rfl⟩ ⟨_, _, rfl⟩)) ⟨_, _, rfl⟩)

theorem countClass_thm (c : Fin 32) (s : State) : (countClass c s).thm = s.thm := by
  obtain ⟨e, h, eq⟩ := countClass_eventsOnly c s
  rw [eq]

theorem countClass_top (c : Fin 32) (s : State) : (countClass c s).top = s.top := by
  obtain ⟨e, h, eq⟩ := countClass_eventsOnly c s
  rw [eq]

theorem pushLog_thm (type aux : BitVec 8) (l : List Byte) (s : State) : (pushLog type aux l s).thm = s.thm := by
  unfold pushLog
  split <;> rfl

/-! ### Held faults that are shown (R359, R361, R376) -/

/-- Showing a fault leaves the power block, the device state and the latch of a shut-down. -/
structure Shown (a b : State) : Prop where
  pwr : a.pwr = b.pwr
  top : a.top = b.top
  tripped : a.thm.tripped = b.thm.tripped

namespace Shown

theorem refl (s : State) : Shown s s := ⟨rfl, rfl, rfl⟩

theorem trans {a b c : State} (h1 : Shown a b) (h2 : Shown b c) : Shown a c :=
  ⟨h1.pwr.trans h2.pwr, h1.top.trans h2.top, h1.tripped.trans h2.tripped⟩

theorem when (c : Prop) [Decidable c] {t s : State} (h : Shown t s) : Shown (if c then t else s) s := by
  split
  · exact h
  · exact refl s

theorem of_eventsOnly {a b : State} (h : EventsOnly a b) : Shown a b := by
  obtain ⟨_, _, rfl⟩ := h
  exact ⟨rfl, rfl, rfl⟩

end Shown

theorem forAxes_modAxis_shown (f : State → Axis → Axis) (s : State) : Shown (forAxes (fun i s => modAxis i (f s) s) s) s :=
  ⟨foldl_keep State.pwr (fun s i => modAxis i (f s) s) (fun _ _ => rfl) _ s,
    foldl_keep State.top (fun s i => modAxis i (f s) s) (fun _ _ => rfl) _ s,
    foldl_keep (fun s => s.thm.tripped) (fun s i => modAxis i (f s) s) (fun _ _ => rfl) _ s⟩

theorem vmFault_shown (flag : Nat) (perAxis : Bool) (s : State) : Shown (vmFault flag perAxis s) s :=
  have axes : Shown _ (motErr flag s) := forAxes_modAxis_shown
    (fun s a => { noteStop s.now (bridgesOff a) with err := if perAxis then setBit a.err 8 else a.err }) (motErr flag s)
  ⟨axes.pwr, axes.top, axes.tripped⟩

theorem faultBridge_shown (cause : BridgeCause) (s : State) : Shown (faultBridge cause s) s := by
  refine (Shown.of_eventsOnly (countClass_eventsOnly _ _)).trans (Shown.trans (b := match cause with
    | .overcurrent i => axisFault i 6 s
    | .openCoil i => axisFault i 7 s
    | .vmLow => vmFault 0 true s
    | .vmHigh => vmFault 1 false s) ⟨rfl, rfl, rfl⟩ ?_)
  cases cause with
  | overcurrent i => exact ⟨rfl, rfl, rfl⟩
  | openCoil i => exact ⟨rfl, rfl, rfl⟩
  | vmLow => exact vmFault_shown 0 true s
  | vmHigh => exact vmFault_shown 1 false s

theorem shutFlags_shown (cause : TripCause) (s : State) : Shown (shutFlags cause s) s := by
  have counted : Shown (countClass Cls.motBridge (raise Src.motFault (motErr 2 (thmErr 2 s)))) s :=
    (Shown.of_eventsOnly (countClass_eventsOnly _ _)).trans ⟨rfl, rfl, rfl⟩
  cases cause with
  | comparator => exact counted
  | openShort => exact ⟨counted.pwr, counted.top, counted.tripped⟩
  | driveHot => exact ⟨counted.pwr, counted.top, counted.tripped⟩

theorem showHeld_shown (p : Pwr) (s : State) : Shown (showHeld p s) s := by
  have shut : Shown (match p.heldShut with | some c => shutFlags c s | none => s) s := by
    cases p.heldShut with
    | none => exact .refl s
    | some c => exact shutFlags_shown c s
  exact (Shown.when _ (faultBridge_shown _ _)).trans ((Shown.when _ (faultBridge_shown _ _)).trans shut)

/-! ### The reading (R368, R378, R384) -/

section
variable {rd : ThmIn}

theorem takeReading_good (p : plausible rd = true) (good : s.thm.sensorFail = false) : takeReading rd s = { s with
    thm := { s.thm with
      plausible := rd.tLogic, plausPower := rd.pPackage * 1000, failRun := 0, passRun := s.thm.passRun + 1
      rcFast := rcTrimOf true rd.tLogic s }
    pwr := { s.pwr with rcTrim := rcTrimOf false rd.tLogic s } } := by
  simp only [takeReading, p, if_true, trimBoth, modThm, good, Bool.false_eq_true, if_false]
  rfl

theorem takeReading_failed (p : plausible rd = true) (failed : s.thm.sensorFail = true) : takeReading rd s = { s with
    thm := { s.thm with
      plausible := rd.tLogic, plausPower := rd.pPackage * 1000, failRun := 0, passRun := s.thm.passRun + 1 } } := by
  simp only [takeReading, p, if_true, trimBoth, modThm, failed]

/-- The third implausible reading in a row, counted and noted. -/
def thirdFailure (s : State) : State :=
  countClass Cls.thmSensor (modThm (fun t => { t with
    err := setBit t.err 0, plausFails := satInc t.plausFails, failRun := t.failRun + 1, passRun := 0 }) s)

theorem thirdFailure_thm (s : State) : (thirdFailure s).thm = { s.thm with
    err := setBit s.thm.err 0, plausFails := satInc s.thm.plausFails, failRun := s.thm.failRun + 1, passRun := 0 } := countClass_thm _ _

theorem thirdFailure_state (s : State) : (thirdFailure s).top.state = s.top.state := congrArg Top.state (countClass_top _ _)

theorem takeReading_third (p : plausible rd = false) (run : s.thm.failRun = 2) (good : s.thm.sensorFail = false) :
    takeReading rd s = sensorFails (thirdFailure s) := by
  refine (if_neg (ne_true_of_eq_false p)).trans (if_pos ?_)
  show (thirdFailure s).thm.failRun = 3 ∧ (!(thirdFailure s).thm.sensorFail) = true
  rw [thirdFailure_thm]
  exact ⟨congrArg (· + 1) run, congrArg not good⟩

theorem sensorFails_inSafeHold (held : s.top.state = .safeHold) : sensorFails s = raise Src.thmSensorFail (modThm (fun t => { t with
    sensorFail := true, resume := false, passRun := 0, err := setBit t.err 1 }) s) := if_pos held

theorem sensorFails_thm (free : s.top.state ≠ .safeHold) : (sensorFails s).thm = { s.thm with
    sensorFail := true, modelActive := true, resume := false, passRun := 0, hold := true, level := 64
    err := setBit s.thm.err 1, sensorFails := satInc s.thm.sensorFails } :=
  (congrArg State.thm (if_neg free)).trans (pushLog_thm _ _ _ _)

/-! ### The 1 ms update (R369 to R371) -/

/-- The flags and the level that T_ctl gives (R370, R371). -/
def thresholds (t : Thm) : Thm :=
  let warn := decide (1840 ≤ t.tCtl) || (t.warn && decide (1760 < t.tCtl))
  let thr := decide (2000 ≤ t.tCtl) || (t.throttle && decide (1920 < t.tCtl))
  let level := if t.modelActive then 64 else if thr then levelOf t.tCtl else 0
  { t with warn := warn, throttle := thr, level := level
           hold := level == 64 || (t.hold && (t.modelActive || decide (2160 < t.tCtl))) }

theorem applyThresholds_writes (s : State) : ∃ e c, applyThresholds s = { s with thm := thresholds s.thm, evt := e, chk := c } := by
  unfold applyThresholds
  dsimp only
  split <;> split <;> exact ⟨_, _, rfl⟩

theorem sensorRecovers_of_good (good : s.thm.sensorFail = false) : sensorRecovers s = s := by simp [sensorRecovers, good]

theorem modelHold_of_idle (idle : s.thm.modelActive = false) : modelHold s = s := by simp [modelHold, idle]

theorem tempTrigger_writes (s : State) : ∃ k, tempTrigger s = { s with cal := k } := by
  unfold tempTrigger
  dsimp only
  split
  · exact ⟨_, rfl⟩
  · exact ⟨_, rfl⟩

/-- What a plausible reading of a good sensor leaves in the thermal block. -/
def goodUpdate (rd : ThmIn) (s : State) : Thm :=
  thresholds (takeTemps { takePower rd s.thm with
    plausible := rd.tLogic, plausPower := rd.pPackage * 1000, failRun := 0, passRun := s.thm.passRun + 1
    rcFast := rcTrimOf true rd.tLogic s })

theorem thermalUpdate_good (p : plausible rd = true) (good : s.thm.sensorFail = false) (idle : s.thm.modelActive = false) :
    ∃ e c k, thermalUpdate rd s =
      { s with thm := goodUpdate rd s, pwr := { s.pwr with rcTrim := rcTrimOf false rd.tLogic s }, evt := e, chk := c, cal := k } := by
  obtain ⟨e, c, eq⟩ := applyThresholds_writes (modThm takeTemps (takeReading rd (modThm (takePower rd) s)))
  unfold thermalUpdate
  dsimp only
  rw [eq, takeReading_good p (s := modThm (takePower rd) s) good, sensorRecovers_of_good, modelHold_of_idle]
  · obtain ⟨k, eq⟩ := tempTrigger_writes { s with
      thm := goodUpdate rd s, pwr := { s.pwr with rcTrim := rcTrimOf false rd.tLogic s }, evt := e, chk := c }
    exact ⟨e, c, k, eq⟩
  · exact idle
  · exact good

/-- Such an update leaves the time, the channels, the loops, the fuses and the cells of the pond. -/
structure BesideThermal (a b : State) : Prop where
  now : a.now = b.now
  dma : a.dma = b.dma
  ftl : a.ftl = b.ftl
  otp : a.otp = b.otp
  cells : a.pond.mem = b.pond.mem

theorem thermalUpdate_leaves (p : plausible rd = true) (good : s.thm.sensorFail = false) (idle : s.thm.modelActive = false) :
    (thermalUpdate rd s).thm = goodUpdate rd s ∧ BesideThermal (thermalUpdate rd s) s := by
  obtain ⟨e, c, k, eq⟩ := thermalUpdate_good p good idle
  rw [eq]
  exact ⟨rfl, rfl, rfl, rfl, rfl, rfl⟩

/-- T_logic is the reading, while no model stands in for it. -/
theorem goodUpdate_eq (idle : s.thm.modelActive = false) :
    let avg := filterStep (tauDd s.thm * 100) s.thm.driveAvg ((rd.pVdrv + rd.pBridge) * 1000)
    let drive := rd.tLogic + riseOf (thetaDd s.thm) avg
    let ctl := max rd.tLogic drive
    let thr := decide (2000 ≤ ctl) || (s.thm.throttle && decide (1920 < ctl))
    (goodUpdate rd s).tLogic = rd.tLogic ∧ (goodUpdate rd s).tDrive = drive ∧ (goodUpdate rd s).tCtl = ctl ∧
      (goodUpdate rd s).peak = some (match s.thm.peak with | some p => max p ctl | none => ctl) ∧
      (goodUpdate rd s).warn = (decide (1840 ≤ ctl) || (s.thm.warn && decide (1760 < ctl))) ∧
      (goodUpdate rd s).throttle = thr ∧ (goodUpdate rd s).level = if thr then levelOf ctl else 0 := by
  cases peak : s.thm.peak <;> simp [goodUpdate, thresholds, takeTemps, takePower, thetaDd, idle, peak]

end

/-! ### The sensor counts as good again (R381) -/

theorem sensorRecovers_thm (failed : s.thm.sensorFail = true) (run : 1000 ≤ s.thm.passRun) (cool : s.thm.tCtl ≤ 2160)
    (resumed : s.thm.resume = true) : (sensorRecovers s).thm = thresholds (takeTemps { s.thm with
      sensorFail := false, modelActive := false, tModel := 0 }) := by
  refine (congrArg State.thm (if_pos (by simp [failed, run, cool, resumed]))).trans ((pushLog_thm _ _ _ _).trans ?_)
  obtain ⟨e, c, eq⟩ := applyThresholds_writes (modThm takeTemps (modThm (fun t => { t with
    sensorFail := false, modelActive := false, tModel := 0 }) s))
  exact congrArg State.thm eq

/-! ### The shut-down (R374 to R376) -/

section
variable {c : TripCause}

theorem shutDown_running (run : s.pwr.released = true) (good : s.pwr.supply.getLsbD 0 = true) (none : s.thm.tripped = none) :
    shutDown c s = resetBy 4 { s with
      thm := { s.thm with tripped := some c }
      pwr := { s.pwr with shutdowns := satInc s.pwr.shutdowns, heldShut := some c } } :=
  (if_pos ⟨good, by simp [none]⟩).trans (if_pos run)

theorem shutDown_inReset (held : s.pwr.released = false) (good : s.pwr.supply.getLsbD 0 = true) (none : s.thm.tripped = none) :
    shutDown c s = { s with thm := { s.thm with tripped := some c }, pwr := { s.pwr with
      shutdowns := satInc s.pwr.shutdowns, heldShut := some c, resetCause := 16, retCause := 16
      axisRecs := s.pwr.axisRecs.map fun r => { r with posState := 0, energised := false } } } :=
  (if_pos ⟨good, by simp [none]⟩).trans (if_neg (ne_true_of_eq_false held))

theorem shutDown_nothing (h : s.pwr.supply.getLsbD 0 = false ∨ s.thm.tripped ≠ none) : shutDown c s = s := by
  refine if_neg fun k => ?_
  obtain off | tripped := h
  · exact ne_true_of_eq_false off k.1
  · exact tripped (Option.isNone_iff_eq_none.1 k.2)

theorem driveTrip_of_cool (cool : s.thm.tDrive < 2400) : driveTrip s = s := if_neg (by omega)

theorem retestDiode_good (good : s.thm.tripped = none) {bad : Bool} {temp : Int} : retestDiode bad temp s = s := by
  unfold retestDiode
  rw [good]

theorem retestDiode_hot (tripped : s.thm.tripped = some c) {bad : Bool} {temp : Int} (hot : bad = true ∨ 2080 < temp) :
    retestDiode bad temp s = tickTo 8000000000 s := by
  unfold retestDiode
  rw [tripped]
  refine if_neg fun k => ?_
  obtain ⟨sound, cool⟩ := k
  obtain rfl | hot := hot
  · exact nomatch sound
  · omega

theorem releaseReset_good (supply : s.pwr.supply = 0x7F) (good : s.thm.tripped = none) (held : s.pwr.released = false) (x y : List (Nat × Byte)) :
    releaseReset x y s = beginStart (s.top.state == .standby && s.pwr.orderly) (readBank0 x (readBank1 y s)) :=
  if_pos ⟨supply, by simp [good], by simp [held]⟩

/-- A start leaves the dies released, and the latch of a shut-down as it was. -/
theorem beginStart_released (woken : Bool) (s : State) :
    (beginStart woken s).pwr.released = true ∧ (beginStart woken s).thm.tripped = s.thm.tripped := by
  have shown := showHeld_shown s.pwr
  unfold beginStart
  dsimp only
  rw [(shown _).pwr, (shown _).tripped]
  constructor <;> split <;> rfl

theorem retestDiode_restarts (tripped : s.thm.tripped = some c) {temp : Int} (cool : temp ≤ 2080) (perst : s.pwr.perst = true)
    (supply : s.pwr.supply = 0x7F) (held : s.pwr.released = false) :
    (retestDiode false temp s).thm.tripped = none ∧ (retestDiode false temp s).pwr.released = true := by
  have restart : retestDiode false temp s = releaseReset [] [] (modThm (fun t => { t with tripped := none }) (tickTo 8000000000 s)) := by
    unfold retestDiode
    rw [tripped]
    exact (if_pos ⟨rfl, cool⟩).trans (if_pos perst)
  have starts := releaseReset_good (s := modThm (fun t => { t with tripped := none }) (tickTo 8000000000 s)) supply rfl held [] []
  rw [restart, starts]
  exact (beginStart_released _ _).symm

end

end

/-! ### O51 -/

/-- Settles O51: the update by `thermalUpdate_good`, the readings by their run, the shut-down by where it finds the dies. -/
theorem thermalBlock : Obligations.ThermalBlock := by
  unfold Obligations.ThermalBlock
  refine ⟨fun rd s hr => ⟨fun p good idle cool => ?_, after_live hr rfl, fun p run good => ?_, fun p good => ?_, fun p failed => ?_⟩,
    fun s => ⟨fun hr busy => after_live hr (if_pos busy), fun hr free => after_live hr (if_neg (ne_true_of_eq_false free)),
      fun temp standby => congrArg (after s) (if_pos standby), fun temp awake => congrArg (after s) (if_neg awake),
      fun hc good => after_onHost hc (sensorRecovers_of_good good), fun hc failed run cool => ?_, fun hc => after_onHost hc rfl⟩,
    fun s => ⟨fun c hr supply good => ⟨_, congrArg (after s) (shutDown_running hr supply good), rfl, rfl, rfl, rfl, rfl, rfl⟩,
      fun c held supply good => congrArg (after s) (shutDown_inReset held supply good), fun c h => congrArg (after s) (shutDown_nothing h),
      fun hr supply good => ?_, fun c bad temp tripped hot => congrArg (after s) (retestDiode_hot tripped hot),
      fun c temp tripped cool perst supply held => ?_, fun bad temp good => congrArg (after s) (retestDiode_good good)⟩⟩
  · obtain ⟨thm, beside⟩ := thermalUpdate_leaves (s := tickTo 8000000 s) p good idle
    obtain ⟨tLogic, tDrive, tCtl, peak, warn, throttle, level⟩ := goodUpdate_eq (rd := rd) (s := tickTo 8000000 s) idle
    rw [← thm] at tLogic tDrive tCtl peak warn throttle level
    have trips : driveTrip (thermalUpdate rd (tickTo 8000000 s)) = thermalUpdate rd (tickTo 8000000 s) :=
      driveTrip_of_cool (tDrive.trans_lt cool)
    refine ⟨_, after_live hr trips, ?_⟩
    generalize thermalUpdate rd (tickTo 8000000 s) = u at *
    obtain ⟨now, -, -, ftl, -, -, -, otp, -, -, -, -, -, -, -, -, dma⟩ := settle_settled s u
    exact ⟨(settle_thm Thm.tLogic (fun _ => rfl) s u).trans tLogic, (settle_thm Thm.tDrive (fun _ => rfl) s u).trans tDrive,
      (settle_thm Thm.tCtl (fun _ => rfl) s u).trans tCtl, (settle_thm Thm.peak (fun _ => rfl) s u).trans peak,
      (settle_thm Thm.warn (fun _ => rfl) s u).trans warn, (settle_thm Thm.throttle (fun _ => rfl) s u).trans throttle,
      (settle_thm Thm.level (fun _ => rfl) s u).trans level, now.trans beside.now, dma.trans (congrArg _ beside.dma),
      ftl.trans beside.ftl, otp.trans beside.otp, (settle_held s u).2.trans beside.cells⟩
  · rw [takeReading_third p run good]
    have thm := thirdFailure_thm s
    rcases eq_or_ne s.top.state .safeHold with held | free
    · rw [sensorFails_inSafeHold ((thirdFailure_state s).trans held)]
      exact ⟨rfl, (congrArg Thm.plausFails thm :), fun free => absurd held free, fun _ => ⟨(congrArg Thm.modelActive thm :),
        (congrArg Thm.hold thm :), (congrArg Thm.level thm :), (congrArg Thm.plausible thm :)⟩⟩
    · have failed := sensorFails_thm ((thirdFailure_state s).trans_ne free)
      rw [thm] at failed
      exact ⟨congrArg Thm.sensorFail failed, congrArg Thm.plausFails failed, fun _ => ⟨congrArg Thm.modelActive failed,
        congrArg Thm.hold failed, congrArg Thm.level failed, congrArg Thm.sensorFails failed⟩, fun held => absurd held free⟩
  · rw [takeReading_good p good]
    exact ⟨rfl, rfl⟩
  · rw [takeReading_failed p failed]
    exact ⟨rfl, rfl⟩
  · have thm := sensorRecovers_thm (s := modThm (fun t => { t with resume := true }) (touchLink s)) failed run cool rfl
    exact ⟨settle s (resumeSensor (touchLink s)), after_onHost hc rfl, (settle_thm Thm.sensorFail (fun _ => rfl) s _).trans (congrArg Thm.sensorFail thm),
      (settle_thm Thm.modelActive (fun _ => rfl) s _).trans (congrArg Thm.modelActive thm),
      (settle_thm Thm.resume (fun _ => rfl) s _).trans (congrArg Thm.resume thm)⟩
  · exact ⟨_, congrArg (after s) (shutDown_running (s := { s with now := s.now + 16000000000 }) hr supply good),
      settle_thm Thm.tripped (fun _ => rfl) s _, settle_now s _, settle_released s _⟩
  · obtain ⟨good, runs⟩ := retestDiode_restarts tripped cool perst supply held
    exact ⟨settle s (retestDiode false temp s), rfl, (settle_thm Thm.tripped (fun _ => rfl) s _).trans good,
      (settle_released s _).trans runs⟩

end Sys2Proof.Machine

/-! ## Calibration (O52) -/

namespace Sys2Proof.Machine

/-! ### What a calibration leaves beside its own block -/

/-- The time, the power, the thermal and the calibration block are the same in both states. -/
structure BesideCal (a b : State) : Prop where
  now : a.now = b.now
  pwr : a.pwr = b.pwr
  thm : a.thm = b.thm
  cal : a.cal = b.cal

namespace BesideCal

theorem refl (s : State) : BesideCal s s := ⟨rfl, rfl, rfl, rfl⟩

theorem trans {a b c : State} (h1 : BesideCal a b) (h2 : BesideCal b c) : BesideCal a c :=
  ⟨h1.now.trans h2.now, h1.pwr.trans h2.pwr, h1.thm.trans h2.thm, h1.cal.trans h2.cal⟩

theorem of_eventsOnly {a b : State} (h : EventsOnly a b) : BesideCal a b := by
  obtain ⟨_, _, rfl⟩ := h
  exact ⟨rfl, rfl, rfl, rfl⟩

theorem foldl {α : Type} {g : State → α → State} (h : ∀ s a, BesideCal (g s a) s) (l : List α) (s : State) : BesideCal (l.foldl g s) s := by
  induction l generalizing s with
  | nil => exact refl s
  | cons a l ih => exact (ih (g s a)).trans (h s a)

end BesideCal

theorem raise_besideCal (src : Nat) (s : State) : BesideCal (raise src s) s := ⟨rfl, rfl, rfl, rfl⟩

theorem countClass_besideCal (c : Fin 32) (s : State) : BesideCal (countClass c s) s := .of_eventsOnly (countClass_eventsOnly c s)

theorem countClassN_besideCal (c : Fin 32) (n : Nat) (s : State) : BesideCal (countClassN c n s) s := by
  induction n generalizing s with
  | zero => exact .refl s
  | succ n ih => exact (ih _).trans (countClass_besideCal c s)

theorem retireChannel_besideCal (s : State) (ch : Chan) : BesideCal (retireChannel s ch) s := by
  unfold retireChannel dropPartial
  split
  · dsimp only
    split <;> exact ⟨rfl, rfl, rfl, rfl⟩
  · exact .refl s

theorem fixedTest_besideCal (ing : BitVec 20) (egr : BitVec 16) (s : State) : BesideCal (fixedTest ing egr s) s := by
  have retired : BesideCal ((List.finRange 20).foldl retireChannel { s with chk := { s.chk with fixedIng := ing, fixedEgr := egr } }) s :=
    (BesideCal.foldl retireChannel_besideCal _ _).trans ⟨rfl, rfl, rfl, rfl⟩
  unfold fixedTest
  dsimp only
  split
  · exact retired
  · exact (countClassN_besideCal _ _ _).trans ((raise_besideCal _ _).trans retired)

theorem retarget_besideCal (s : State) (r : Fin 4) : BesideCal (retarget r s) s := by
  unfold retarget
  dsimp only
  split
  · exact .refl s
  · split
    · split <;> exact ⟨rfl, rfl, rfl, rfl⟩
    · split <;> exact ⟨rfl, rfl, rfl, rfl⟩
    · exact ⟨rfl, rfl, rfl, rfl⟩
    · exact .refl s

theorem retargetAll_besideCal (s : State) : BesideCal (retargetAll s) s := .foldl retarget_besideCal _ s

theorem freshBases_besideCal (s : State) : BesideCal (freshBases s) s := ⟨rfl, rfl, rfl, rfl⟩

theorem pushLog_besideCal (type aux : BitVec 8) (l : List Byte) (s : State) : BesideCal (pushLog type aux l s) s := by
  unfold pushLog
  split <;> exact ⟨rfl, rfl, rfl, rfl⟩

theorem pushLog_hdv (type aux : BitVec 8) (l : List Byte) (s : State) : (pushLog type aux l s).hdv = s.hdv := by
  unfold pushLog
  split <;> rfl

theorem setState_cal (st : DevState) (s : State) : (setState st s).cal = s.cal := by
  unfold setState
  split
  · rfl
  · exact (pushLog_besideCal _ _ _ _).cal

/-! ### What the results change (R392, R394, R395) -/

/-- The calibration block apart from what the results of a run change. -/
def Cal.unmeasured (k : Cal) : Cal :=
  { k with trim := Vector.replicate 64 {}, interp := Vector.replicate 16 0, itemFail := 0, err := 0, calres := 0, railCorr := Vector.replicate 4 0 }

/-- Results of a run alone have been taken. -/
structure Measured (a b : State) : Prop where
  now : a.now = b.now
  pwr : a.pwr = b.pwr
  thm : a.thm = b.thm
  cal : a.cal.unmeasured = b.cal.unmeasured

namespace Measured

theorem of_beside {a b : State} (h : BesideCal a b) : Measured a b := ⟨h.now, h.pwr, h.thm, congrArg _ h.cal⟩

theorem trans {a b c : State} (h1 : Measured a b) (h2 : Measured b c) : Measured a c :=
  ⟨h1.now.trans h2.now, h1.pwr.trans h2.pwr, h1.thm.trans h2.thm, h1.cal.trans h2.cal⟩

theorem foldl {α : Type} {g : State → α → State} (h : ∀ s a, Measured (g s a) s) (l : List α) (s : State) : Measured (l.foldl g s) s := by
  induction l generalizing s with
  | nil => exact .of_beside (.refl s)
  | cons a l ih => exact (ih (g s a)).trans (h s a)

theorem when (c : Prop) [Decidable c] {t u s : State} (ht : Measured t s) (hu : Measured u s) : Measured (if c then t else u) s := by
  split
  · exact ht
  · exact hu

end Measured

section
variable {s : State} {full start : Bool} {rd : CalIn}

theorem modCal_measured {f : Cal → Cal} (h : (f s.cal).unmeasured = s.cal.unmeasured) : Measured (modCal f s) s := ⟨rfl, rfl, rfl, h⟩

/-- A failed item shows in ITEM_FAIL and ERR (R392). -/
theorem failItem_cal (item : Nat) (s : State) :
    (failItem item s).cal = { s.cal with itemFail := setBit s.cal.itemFail item, err := setBit s.cal.err 1 } :=
  (countClass_besideCal _ _).cal

theorem failItem_measured (item : Nat) (s : State) : Measured (failItem item s) s :=
  (Measured.of_beside (countClass_besideCal _ _)).trans ⟨rfl, rfl, rfl, rfl⟩

theorem takeCode_measured (start : Bool) (s : State) (t : Fin 64 × Int) : Measured (takeCode start s t) s := by
  unfold takeCode
  split
  · exact ⟨rfl, rfl, rfl, rfl⟩
  · split
    · exact failItem_measured _ s
    · exact .of_beside (.refl s)

theorem takeInterp_measured (l : List Nat) (s : State) : Measured (takeInterp l s) s := by
  unfold takeInterp
  split
  · exact modCal_measured (by simp only [Cal.unmeasured])
  · exact failItem_measured 8 s

/-- The trims of a run: none where IREF fails. -/
def takeTrims (start full : Bool) (rd : CalIn) (s : State) : State :=
  let s := modCal (fun k => { k with itemFail := 0 }) s
  let l := codesOf full rd s
  if irefFails l s then failItem 0 (modCal (fun k => { k with err := setBit k.err 0 }) s)
  else takeInterp rd.interp (l.foldl (takeCode start) s)

/-- What follows the trims in a full run: the board calibration and the fixed checkers (R144, R449). -/
def takeFull (rd : CalIn) (s : State) : State :=
  let s := fixedTest rd.ingFail rd.egrFail (modCal takeBoard s)
  if rd.ingFail = 0 ∧ rd.egrFail = 0 then s else failItem 9 s

theorem takeResults_eq (start full : Bool) (rd : CalIn) (s : State) :
    takeResults start full rd s = if full then takeFull rd (takeTrims start full rd s) else takeTrims start full rd s := rfl

theorem takeTrims_measured (start full : Bool) (rd : CalIn) (s : State) : Measured (takeTrims start full rd s) s := by
  refine .when _ ((failItem_measured _ _).trans ⟨rfl, rfl, rfl, rfl⟩) ((takeInterp_measured _ _).trans ?_)
  exact (Measured.foldl (takeCode_measured start) _ _).trans ⟨rfl, rfl, rfl, rfl⟩

theorem takeFull_measured (rd : CalIn) (s : State) : Measured (takeFull rd s) s := by
  have tested : Measured (fixedTest rd.ingFail rd.egrFail (modCal takeBoard s)) s :=
    (Measured.of_beside (fixedTest_besideCal _ _ _)).trans ⟨rfl, rfl, rfl, rfl⟩
  exact .when _ tested ((failItem_measured 9 _).trans tested)

theorem takeResults_measured (start full : Bool) (rd : CalIn) (s : State) : Measured (takeResults start full rd s) s := by
  rw [takeResults_eq]
  exact .when _ ((takeFull_measured _ _).trans (takeTrims_measured _ _ _ _)) (takeTrims_measured _ _ _ _)

/-- What the full run leaves in the fields that the board calibration writes, and in the trims. -/
theorem takeFull_cal (rd : CalIn) (s : State) :
    (takeFull rd s).cal.calres = (le32 s.cal.board 0).toInt ∧ (takeFull rd s).cal.trim = s.cal.trim := by
  have tested := (fixedTest_besideCal rd.ingFail rd.egrFail (modCal takeBoard s)).cal
  unfold takeFull
  dsimp only
  split
  · rw [tested]
    exact ⟨rfl, rfl⟩
  · rw [failItem_cal, tested]
    exact ⟨rfl, rfl⟩

theorem takeResults_board (start : Bool) (rd : CalIn) (s : State) : (takeResults start true rd s).cal.calres = (le32 s.cal.board 0).toInt := by
  have board : (takeTrims start true rd s).cal.board = s.cal.board := (congrArg Cal.board (takeTrims_measured start true rd s).cal :)
  exact (takeFull_cal rd (takeTrims start true rd s)).1.trans (by rw [board])

theorem takeResults_noIref (fails : irefFails (codesOf full rd s) s = true) : (takeResults start full rd s).cal.trim = s.cal.trim := by
  have none : (takeTrims start full rd s).cal.trim = s.cal.trim := by
    refine (congrArg (fun t : State => t.cal.trim) (if_pos fails)).trans ?_
    rw [failItem_cal]
    rfl
  rw [takeResults_eq]
  split
  · exact (takeFull_cal rd _).2.trans none
  · exact none

theorem takeCode_posts {i : Fin 64} {c : Int} (ok : codeOk s.cal.factory[i] c = true) : (takeCode false s (i, c)).cal.trim[i] =
    { target := BitVec.ofInt 12 c, now := if trimInUse i.val s then s.cal.trim[i].now else BitVec.ofInt 12 c } := by
  have posts : takeCode false s (i, c) = postTrim false i c s := if_pos ok
  rw [posts]
  refine (Vector.getElem_set_self _).trans ?_
  cases trimInUse i.val s <;> rfl

/-! ### The end of a run (R389, R391, R395) -/

theorem exitCal_exits (t : Nat) (k : Cal) : (exitCal t k).running = none ∧ (k.exitFull = true → (exitCal t k).dueFull ≠ none) := by
  unfold exitCal
  cases k.exitFull
  · exact ⟨rfl, nofun⟩
  · exact ⟨rfl, fun _ => nofun⟩

/-- The calibration block without what its triggers wait for. -/
def Cal.untriggered (k : Cal) : Cal := { k with running := none, dueFull := none, duePart := none, exitFull := false }

theorem exitCal_untriggered (t : Nat) (k : Cal) : (exitCal t k).untriggered = k.untriggered := by
  unfold exitCal
  cases k.exitFull <;> rfl

/-- The state in which the results have been taken, and the run ends. -/
def posted (start full : Bool) (rd : CalIn) (s : State) : State :=
  takeResults start full rd (advanceTo (s.cal.startAt + usGrid (calTimes full).1) s)

/-- What the end of a run writes into its block, with the results posted. -/
def endCal (full moving : Bool) (s0 s : State) : Cal :=
  let t := max s.now (s0.cal.startAt + usGrid (calTimes full).2)
  exitCal t { s.cal with
    lastFull := full, count := s.cal.count + 1, tempAny := s.thm.tCtl, tempFull := if full then s.thm.tCtl else s.cal.tempFull
    lastAt := t, lastTime := rtcNow { s with now := t }, stepAt := if moving then s.cal.stepAt else t + usGrid 64 }

/-- The end of a run, up to its log record and the baselines. -/
def ended (start full : Bool) (rd : CalIn) (s : State) : State :=
  let u := posted start full rd s
  raise Src.calDone { u with now := max u.now (s.cal.startAt + usGrid (calTimes full).2), cal := endCal full (trimsMove s) s u }

theorem finishCal_eq (start full : Bool) (rd : CalIn) (s : State) :
    finishCal start full rd s = logCal full (freshBases (retargetAll (ended start full rd s))) := rfl

theorem finishCal_besideCal (start full : Bool) (rd : CalIn) (s : State) : BesideCal (finishCal start full rd s) (ended start full rd s) := by
  rw [finishCal_eq]
  exact (pushLog_besideCal _ _ _ _).trans ((freshBases_besideCal _).trans (retargetAll_besideCal _))

theorem finishCal_afresh (start full : Bool) (rd : CalIn) (s : State) (p : Port) : (finishCal start full rd s).hdv.ports[p].afresh = true := by
  have logged : (finishCal start full rd s).hdv = (freshBases (retargetAll (ended start full rd s))).hdv := pushLog_hdv _ _ _ _
  rw [logged]
  exact congrArg HdvPort.afresh (Vector.getElem_map _ _)

/-- The stamp of the end: the reference and the length of the run, where the clock has not passed it. -/
theorem posted_end (start full : Bool) (rd : CalIn) (s : State) : max (posted start full rd s).now (s.cal.startAt + usGrid (calTimes full).2) =
    max s.now (s.cal.startAt + 8000 * (if full then 2400 else 300)) := by
  have now : (posted start full rd s).now = max s.now (s.cal.startAt + usGrid (calTimes full).1) :=
    (takeResults_measured start full rd (advanceTo (s.cal.startAt + usGrid (calTimes full).1) s)).now
  rw [now]
  cases full <;> simp only [calTimes, usGrid] <;> simp only [Bool.false_eq_true, if_false, if_true] <;> omega

theorem endCal_untriggered (full moving : Bool) (s0 s : State) :
    let t := max s.now (s0.cal.startAt + usGrid (calTimes full).2)
    let k := endCal full moving s0 s
    k.lastFull = full ∧ k.count = s.cal.count + 1 ∧ k.tempAny = s.thm.tCtl ∧ k.lastTime = rtcNow { s with now := t } ∧
      k.stepAt = (if moving then s.cal.stepAt else t + usGrid 64) ∧ k.lastAt = t := by
  have left := exitCal_untriggered (max s.now (s0.cal.startAt + usGrid (calTimes full).2)) { s.cal with
    lastFull := full, count := s.cal.count + 1, tempAny := s.thm.tCtl, tempFull := if full then s.thm.tCtl else s.cal.tempFull
    lastAt := max s.now (s0.cal.startAt + usGrid (calTimes full).2)
    lastTime := rtcNow { s with now := max s.now (s0.cal.startAt + usGrid (calTimes full).2) }
    stepAt := if moving then s.cal.stepAt else max s.now (s0.cal.startAt + usGrid (calTimes full).2) + usGrid 64 }
  exact ⟨(congrArg Cal.lastFull left :), (congrArg Cal.count left :), (congrArg Cal.tempAny left :), (congrArg Cal.lastTime left :),
    (congrArg Cal.stepAt left :), (congrArg Cal.lastAt left :)⟩

theorem finishCal_ends (start full : Bool) (rd : CalIn) (s : State) :
    let u := finishCal start full rd s
    u.cal.running = none ∧ u.cal.lastFull = full ∧ u.cal.count = s.cal.count + 1 ∧ u.cal.tempAny = s.thm.tCtl ∧ u.cal.lastTime = rtcNow u ∧
      u.cal.stepAt = (if trimsMove s then s.cal.stepAt else u.now + 512000) ∧ (∀ p : Port, u.hdv.ports[p].afresh = true) ∧
      u.cal.lastAt = max s.now (s.cal.startAt + 8000 * (if full then 2400 else 300)) ∧ u.now = u.cal.lastAt := by
  intro u
  have beside := finishCal_besideCal start full rd s
  have measured : Measured (posted start full rd s) (advanceTo (s.cal.startAt + usGrid (calTimes full).1) s) := takeResults_measured _ _ _ _
  have cal : u.cal = endCal full (trimsMove s) s (posted start full rd s) := beside.cal
  have now : u.now = max s.now (s.cal.startAt + 8000 * (if full then 2400 else 300)) := beside.now.trans (posted_end start full rd s)
  have pwr : u.pwr = (posted start full rd s).pwr := beside.pwr
  obtain ⟨lastFull, count, tempAny, lastTime, stepAt, lastAt⟩ := endCal_untriggered full (trimsMove s) s (posted start full rd s)
  rw [posted_end, ← cal] at lastTime stepAt lastAt
  rw [← cal] at lastFull count tempAny
  have running : u.cal.running = none := cal ▸ (exitCal_exits _ _).1
  refine ⟨running, lastFull, count.trans ?_, tempAny.trans (congrArg Thm.tCtl measured.thm), lastTime.trans ?_, stepAt.trans ?_,
    finishCal_afresh start full rd s, lastAt, now.trans lastAt.symm⟩
  · exact congrArg (· + 1) (congrArg Cal.count measured.cal :)
  · rw [rtcNow, rtcNow, pwr, now]
  · have kept : (posted start full rd s).cal.stepAt = s.cal.stepAt := (congrArg Cal.stepAt measured.cal :)
    rw [kept, now]
    rfl

theorem finishCal_exits (start full : Bool) (rd : CalIn) {s : State} (waits : s.cal.exitFull = true) :
    (finishCal start full rd s).cal.dueFull ≠ none := by
  have measured : Measured (posted start full rd s) (advanceTo (s.cal.startAt + usGrid (calTimes full).1) s) := takeResults_measured _ _ _ _
  have kept : (posted start full rd s).cal.exitFull = true := (congrArg Cal.exitFull measured.cal).trans waits
  rw [(finishCal_besideCal start full rd s).cal]
  exact (exitCal_exits _ _).2 kept

/-! ### Triggers (R390, R391) -/

theorem calPeriod_on (on : s.cal.cfg.getLsbD 24 = true) (idle : s.cal.running = none) (none : s.cal.dueFull = none) :
    let t := max s.now (s.cal.lastAt + 480000000000 * (s.cal.cfg.toNat % 256))
    calPeriod s = { s with now := t, cal := { s.cal with lastAt := t, duePart := some (s.cal.duePart.getD t) } } := by
  have period (k : Nat) : msGrid (60000 * k) = 480000000000 * k := by unfold msGrid; omega
  refine (if_pos on).trans ?_
  simp [calTrigger, modCal, advanceTo, idle, none, period]

theorem calPeriod_off (off : s.cal.cfg.getLsbD 24 = false) : calPeriod s = s := if_neg (ne_true_of_eq_false off)

section
variable {k : Nat}

theorem dueKind_full (due : s.cal.dueFull = some k) : dueKind s = some true := if_pos (by simp [due])

theorem calDue_runs (due : s.cal.dueFull = some k) (rest : s.top.state = .ready ∨ s.top.state = .gap) (free : docInProgress s = false)
    (runs : fwRuns s = true) (none : s.tpt.deferCal = none) : calDue s = startCal true s := by
  unfold calDue
  rw [dueKind_full due]
  exact if_pos ⟨rest, by simp [free], runs, by simp [none]⟩

theorem calDue_busy (due : s.cal.dueFull = some k) (busy : docInProgress s = true) : calDue s = s := by
  unfold calDue
  rw [dueKind_full due]
  exact if_neg (by simp [busy])

/-- The end of GRACE after a full trigger (R391). -/
def graceEnd (k : Nat) (s : State) : Nat := max s.now (k + 8000000000 * ((s.cal.cfg.toNat / 65536) % 256))

theorem calGrace_due (due : s.cal.dueFull = some k) : calGrace s =
    if legality 5 s.top.state = .refused then restartGrace { s with now := graceEnd k s }
    else { s with now := graceEnd k s, cal := { s.cal with overdue := true }, tpt := { s.tpt with deferCal := some true } } := by
  have grace (n : Nat) : msGrid (1000 * n) = 8000000000 * n := by unfold msGrid; omega
  unfold calGrace
  rw [dueKind_full due]
  simp [advanceTo, modCal, grace, graceEnd, due]

end

/-! ### Requests of the host (R334, R390) -/

theorem classDeferred_cal (full : Bool) (t : Tpt) : classDeferred (if full then 5 else 6) t = t.deferCal.isSome := by cases full <;> rfl

theorem legality_cal_accepted {st : DevState} (full : Bool) (h : st = .ready ∨ st = .gap) :
    legality (if full then 5 else 6) st = .accepted := by
  obtain rfl | rfl := h <;> cases full <;> rfl

theorem legality_cal_deferred {st : DevState} (full : Bool) (h : st = .print ∨ st = .maint ∨ st = .thermalHold) :
    legality (if full then 5 else 6) st = .deferred := by
  obtain rfl | rfl | rfl := h <;> cases full <;> rfl

theorem legality_cal_refused {st : DevState} (full : Bool) (h : st = .calib ∨ st = .safeHold) :
    legality (if full then 5 else 6) st = .refused := by
  obtain rfl | rfl := h <;> cases full <;> rfl

theorem calRequest_starts (full : Bool) (none : s.tpt.deferCal = none) (rest : s.top.state = .ready ∨ s.top.state = .gap) :
    calRequest full s = startCal full { s with cal := { s.cal with reqResult := 0 } } := by
  simp only [calRequest, classDeferred_cal, none, Option.isSome_none, Bool.false_eq_true, if_false, legality_cal_accepted full rest]
  rfl

theorem calRequest_defers (full : Bool) (none : s.tpt.deferCal = none) (print : s.top.state = .print) :
    calRequest full s = { s with cal := { s.cal with reqResult := 1 }, tpt := { s.tpt with deferCal := some full } } := by
  simp only [calRequest, classDeferred_cal, none, Option.isSome_none, Bool.false_eq_true, if_false, legality_cal_deferred full (.inl print)]
  cases full <;> rfl

theorem calRequest_refused (full : Bool) (some : s.tpt.deferCal ≠ none) :
    calRequest full s = { s with cal := { s.cal with reqResult := 2 } } := by
  simp only [calRequest, classDeferred_cal, Option.isSome_iff_ne_none.2 some, if_true]
  rfl

/-! ### Runs (R389, R391) -/

theorem calibrated_idle (rd : CalIn) (idle : s.cal.running = none) : calibrated rd s = s := by
  unfold calibrated
  rw [idle]

theorem inStage_of_state {n : Nat} (h : s.top.state ≠ .boot) : inStage n s = false := by simp [inStage, h]

theorem calibrated_partial (rd : CalIn) (part : s.cal.running = some false) (calib : s.top.state = .calib) :
    calibrated rd s = enterRest (finishCal false false rd s) := by
  have boot : inStage 6 s = false := inStage_of_state (by rw [calib]; decide)
  simp only [calibrated, part, boot, calib, Bool.false_eq_true, if_false, if_true]

theorem calTrigger_inPartial (part : s.cal.running = some false) :
    (calTrigger true s).cal.exitFull = true ∧ (calTrigger true s).cal.dueFull = s.cal.dueFull := by
  simp [calTrigger, part]

theorem startCal_cal (full : Bool) (s : State) :
    (startCal full s).cal.running = some (full || s.cal.dueFull.isSome) ∧ (startCal full s).cal.dueFull = none := by
  unfold startCal
  rw [setState_cal]
  exact ⟨rfl, rfl⟩

/-! ### The movement of the trims (R394) -/

theorem stepTrim_eq (t : Trim) : stepTrim t = { t with
    now := if t.now.toNat < t.target.toNat then t.now + 1 else if t.target.toNat < t.now.toNat then t.now - 1 else t.now } := by
  unfold stepTrim
  split
  · rfl
  · split <;> rfl

theorem trimStep_moves (moves : trimsMove s = true) :
    let t := max s.now s.cal.stepAt
    trimStep s = { s with now := t, cal := { s.cal with
      stepAt := t + 512000
      trim := s.cal.trim.map fun k => { k with now :=
        if k.now.toNat < k.target.toNat then k.now + 1 else if k.target.toNat < k.now.toNat then k.now - 1 else k.now } } } := by
  refine (if_pos moves).trans ?_
  rw [funext stepTrim_eq]
  rfl

theorem trimStep_still (still : trimsMove s = false) : trimStep s = s := if_neg (ne_true_of_eq_false still)

end

/-! ### O52 -/

/-- Settles O52: the triggers and requests by what is due and deferred, the end of a run by `finishCal_ends`, its results by
`takeResults_eq`. -/
theorem calibration : Obligations.Calibration := by
  unfold Obligations.Calibration
  refine ⟨fun s => ⟨fun hr on idle none => after_live hr (calPeriod_on on idle none), fun hr off => after_live hr (calPeriod_off off),
      fun k hr due => ⟨fun rest free runs none => after_live hr ((calDue_runs due rest free runs none).trans rfl),
        fun busy => after_live hr (calDue_busy due busy), fun legal => after_live hr ((calGrace_due due).trans (if_neg legal)),
        fun refused => after_live hr ((calGrace_due due).trans ((if_pos refused).trans ?_))⟩,
      fun hc => ⟨fun none rest => ⟨after_onHost hc (calRequest_starts true none rest), after_onHost hc (calRequest_starts false none rest)⟩,
        fun none print => ⟨after_onHost hc (calRequest_defers true none print), after_onHost hc (calRequest_defers false none print)⟩,
        fun some => ⟨after_onHost hc (calRequest_refused true some), after_onHost hc (calRequest_refused false some)⟩⟩⟩,
    fun rd s => ⟨fun hr idle => after_live hr (calibrated_idle rd idle), fun hr part calib => after_live hr (calibrated_partial rd part calib),
      fun start full => finishCal_ends start full rd s, fun start full waits => finishCal_exits start full rd waits, calTrigger_inPartial,
      fun full => startCal_cal full s, fun start => takeResults_board start rd s, fun _ _ fails => takeResults_noIref fails,
      fun _ _ ok => takeCode_posts ok, fun hr moves => after_live hr (trimStep_moves moves), fun hr still => after_live hr (trimStep_still still)⟩⟩
  simp [restartGrace, modCal, due, graceEnd]

end Sys2Proof.Machine

/-! ## SLEEP, STANDBY and the always-on domain (O56) -/

namespace Sys2Proof.Machine

/-! ### What stopping the loops and the axes leaves beside it (R358, R425, R426) -/

namespace BesideCal

theorem when (c : Prop) [Decidable c] {t u s : State} (ht : BesideCal t s) (hu : BesideCal u s) : BesideCal (if c then t else u) s := by
  split
  · exact ht
  · exact hu

end BesideCal

section
variable (x : LoopId) (s : State)

theorem modLoop_besideCal (f : Loop → Loop) : BesideCal (modLoop x f s) s := ⟨rfl, rfl, rfl, rfl⟩

theorem applyEnc_besideCal (w : Word) : BesideCal (applyEnc x w s) s := by
  have ends (i : Fin 2) (u : State) : BesideCal (endIndex i u) u :=
    .foldl (fun u y => .when _ (modLoop_besideCal y u _) (.refl u)) _ u
  exact .when _ ((modLoop_besideCal x _ _).trans (.when _ (modLoop_besideCal x s _) ((ends _ _).trans (modLoop_besideCal x s _))))
    (.when _ (modLoop_besideCal x s _) ((ends _ _).trans (modLoop_besideCal x s _)))

theorem applyIdle_besideCal : BesideCal (applyIdle x s) s := by
  have port (p : Port) (u : State) : BesideCal (applyPort p u) u := by
    unfold applyPort
    dsimp only
    split
    · exact ⟨rfl, rfl, rfl, rfl⟩
    · exact .refl u
  exact .foldl (fun u p => .when _ (port p u) (.refl u)) _ s

theorem enforce_besideCal {α : Type} {held : Option α} {apply : α → State → State} (h : ∀ a u, BesideCal (apply a u) u) :
    BesideCal (enforce held apply s) s := by
  cases held with
  | none => exact .refl s
  | some a => exact h a s

theorem applyHeld_besideCal : BesideCal (applyHeld x s) s := by
  rw [applyHeld_eq]
  exact (applyIdle_besideCal x _).trans ((enforce_besideCal _ fun _ u => modLoop_besideCal x u _).trans
    ((enforce_besideCal _ fun w u => applyEnc_besideCal x u w).trans (enforce_besideCal s fun _ _ => ⟨rfl, rfl, rfl, rfl⟩)))

end

theorem stopLoops_besideCal (s : State) : BesideCal (stopLoops s) s :=
  .foldl (fun u x => .when _ ((applyHeld_besideCal x _).trans (modLoop_besideCal x u _)) (.refl u)) _ s

theorem resumeLoops_besideCal (s : State) : BesideCal (resumeLoops s) s :=
  .foldl (fun u x => .when _ ((applyHeld_besideCal x _).trans (modLoop_besideCal x u _)) (.refl u)) _ s

section
variable (i : Fin 4) (s : State)

theorem modAxis_besideCal (f : Axis → Axis) : BesideCal (modAxis i f s) s := ⟨rfl, rfl, rfl, rfl⟩

theorem axisPoint_besideCal (g : Leg) : BesideCal (axisPoint i g s) s := by
  have ends (u : State) : BesideCal (legEnd i u) u := by
    unfold legEnd
    dsimp only
    split <;> exact ⟨rfl, rfl, rfl, rfl⟩
  exact .when _ ((ends _).trans (modAxis_besideCal i s _)) (modAxis_besideCal i s _)

theorem softStop_besideCal : BesideCal (softStop i s) s := by
  unfold softStop
  dsimp only
  split
  · exact .when _ (axisPoint_besideCal i s _) (.when _ (.refl s) (modAxis_besideCal i s _))
  · exact .when _ (modAxis_besideCal i s _) (.refl s)

end

theorem softStopAll_besideCal (s : State) : BesideCal (softStopAll s) s := .foldl (fun u i => softStop_besideCal i u) _ s

/-! ### SLEEP (R424 to R427) -/

section
variable {s : State}

theorem setState_link (st : DevState) (s : State) : (setState st s).link = s.link := by
  unfold setState
  split
  · rfl
  · unfold pushLog
    dsimp only
    split <;> rfl

theorem enterSleep_enters (s : State) : (enterSleep s).top.state = .sleep ∧ (enterSleep s).link.readyGate = true ∧
    (enterSleep s).pwr = { s.pwr with fireLock := false, coreLock := false, coreOnDemand := false, sleptAt := some s.now } := by
  have stopped : BesideCal (stopLoops (softStopAll s)) s := (stopLoops_besideCal _).trans (softStopAll_besideCal s)
  unfold enterSleep
  generalize stopLoops (softStopAll s) = u at stopped
  dsimp only
  rw [setState_state, setState_link, setState_pwr, ← stopped.pwr, ← stopped.now]
  exact ⟨rfl, rfl, rfl⟩

theorem requestSleep_accepted (rest : s.top.state = .ready ∨ s.top.state = .gap)
    (allowed : s.pwr.cfg.getLsbD 0 = false ∨ s.link.d3hot = true) (awake : s.pwr.wakeSeen ≠ some s.now) :
    requestSleep s = enterSleep (notePwr 1 0 s) := by
  refine if_pos ?_
  have ok : sleepOk s = true := by rcases rest with rest | rest <;> simp [sleepOk, rest]
  have d3 : (d3Sleep s && !s.link.d3hot) = false := by
    rcases allowed with allowed | allowed
    · rw [d3Sleep, allowed, Bool.false_and]
    · rw [allowed, Bool.not_true, Bool.and_false]
  simp [ok, d3, awake]

theorem requestSleep_refused (h : (s.top.state ≠ .ready ∧ s.top.state ≠ .gap) ∨ (s.pwr.cfg.getLsbD 0 = true ∧ s.link.d3hot = false) ∨
    s.pwr.wakeSeen = some s.now) : requestSleep s = { s with pwr := { s.pwr with cmdOp := 1, cmdResult := 2 } } := by
  refine if_neg ?_
  rcases h with ⟨ready, gap⟩ | ⟨d3, hot⟩ | seen
  · simp [sleepOk, ready, gap]
  · simp [d3Sleep, d3, hot]
  · simp [seen]

theorem requestWake_wakes (sleeps : s.top.state = .sleep) (earlier : s.pwr.sleptAt ≠ some s.now) :
    requestWake s = openGate (resumeLoops (raise Src.wake (setState .ready { s with pwr := { s.pwr with
      cmdOp := 2, cmdResult := 0, fireLock := true, coreLock := true, coreOnDemand := false, wakeCause := 0 } }))) := by
  unfold requestWake leaveSleep
  rw [if_pos sleeps, if_pos (show (notePwr 2 0 s).top.state = .sleep from sleeps),
    if_neg (show ¬(notePwr 2 0 s).pwr.sleptAt = some (notePwr 2 0 s).now from earlier)]
  rfl

theorem openGate_pwr (s : State) : (openGate s).pwr = s.pwr := by
  have rings (ch : Chan) (v : DWord) (u : State) : Beside (ringBell ch v u) u := by
    unfold ringBell
    dsimp only
    split
    · exact .refl u
    · exact .refl u
    · exact .either _ ((raise_beside _ _).trans (chanErr_beside _ _ u)) ((chanWake_beside _ _).trans (setDma_beside _ _ u))
  refine foldl_keep State.pwr _ (fun u ch => ?_) _ _
  dsimp only
  split
  · exact (rings _ _ _).pwr
  · exact (chanWake_beside ch u).pwr

/-- Leaving SLEEP in the clock of its request takes the request back (R424). -/
theorem leaveSleep_sameClock (cause : Word) (sleeps : s.top.state = .sleep) (same : s.pwr.sleptAt = some s.now) :
    (leaveSleep cause s).pwr = { s.pwr with
      cmdOp := 1, cmdResult := 2, fireLock := true, coreLock := true, coreOnDemand := false, wakeCause := cause } := by
  unfold leaveSleep
  rw [if_pos sleeps, if_pos same]
  dsimp only
  rw [openGate_pwr, (resumeLoops_besideCal _).pwr]
  exact setState_pwr .ready _

theorem wakeBy_source {bit : Nat} (source : s.pwr.cfg.getLsbD bit = true) :
    wakeBy bit s = leaveSleep (1#32 <<< (bit - 8)) { s with pwr := { s.pwr with wakeSeen := some s.now } } := if_pos source

/-! ### The entry to STANDBY (R428) -/

/-- The axes and the power block are the same in both states: the firmware's writes to the flash change neither. -/
structure BesideFlash (a b : State) : Prop where
  mot : a.mot = b.mot
  pwr : a.pwr = b.pwr

namespace BesideFlash

theorem refl (s : State) : BesideFlash s s := ⟨rfl, rfl⟩

theorem trans {a b c : State} (h1 : BesideFlash a b) (h2 : BesideFlash b c) : BesideFlash a c :=
  ⟨h1.mot.trans h2.mot, h1.pwr.trans h2.pwr⟩

theorem when (c : Prop) [Decidable c] {t u s : State} (ht : BesideFlash t s) (hu : BesideFlash u s) :
    BesideFlash (if c then t else u) s := by
  split
  · exact ht
  · exact hu

theorem foldl {α : Type} {g : State → α → State} (h : ∀ s a, BesideFlash (g s a) s) (l : List α) (s : State) :
    BesideFlash (l.foldl g s) s := by
  induction l generalizing s with
  | nil => exact refl s
  | cons a l ih => exact (ih (g s a)).trans (h s a)

end BesideFlash

theorem placeRecord_besideFlash (r : LogRec) (s : State) : BesideFlash (placeRecord r s) s := ⟨rfl, rfl⟩

theorem compact_besideFlash (s : State) : BesideFlash (compact s) s := by
  have places (l : List LogRec) (u : State) : BesideFlash (l.foldl (fun s r => placeRecord r s) u) u :=
    .foldl (fun u r => placeRecord_besideFlash r u) l u
  have erases (op : FlashOp) (f : Mgt → Mgt) (u : State) : BesideFlash (flashOp op (modMgt f u)) u := ⟨rfl, rfl⟩
  exact (places _ _).trans ((erases _ _ _).trans (places _ s))

theorem writeRecord_besideFlash (s : State) : BesideFlash (writeRecord true s) s := by
  unfold writeRecord
  refine .when _ (.refl s) ?_
  split
  · exact .refl s
  · have room : BesideFlash (if compacts s.mgt then compact s else s) s := .when _ (compact_besideFlash s) (.refl s)
    dsimp only
    generalize (if compacts s.mgt then compact s else s) = u at room ⊢
    exact ⟨room.mot, room.pwr⟩

theorem drainLog_besideFlash (s : State) : BesideFlash (drainLog s) s := .foldl (fun u _ => writeRecord_besideFlash u) _ s

theorem setState_mot (st : DevState) (s : State) : (setState st s).mot = s.mot := by
  unfold setState
  split
  · rfl
  · unfold pushLog
    dsimp only
    split <;> rfl

theorem goQuiet_besideFlash (st : DevState) (s : State) : BesideFlash (goQuiet st s) s := by
  have change (u : State) : BesideFlash (setState st u) u := ⟨setState_mot st u, setState_pwr st u⟩
  exact (change _).trans (.when _ ⟨rfl, rfl⟩ (.refl s))

theorem enterStandby_enters (stops : s.pwr.standbyAxes = true) (still : axesStill s = true) :
    (enterStandby s).top.state = .standby ∧ (enterStandby s).pwr.released = false ∧ (enterStandby s).pwr.orderly = true ∧
      (enterStandby s).pwr.aonCfg = s.pwr.cfg ∧ (enterStandby s).pwr.mainEn = (s.pwr.mainEn && !s.pwr.cfg.getLsbD 1) ∧
      (enterStandby s).pwr.axisRecs = Vector.ofFn fun i => axisRecord s.mot.axes[i] := by
  obtain ⟨mot, pwr⟩ := (drainLog_besideFlash _).trans (goQuiet_besideFlash .standby s)
  unfold enterStandby
  rw [if_pos (by rw [stops, still]; rfl)]
  generalize drainLog (goQuiet .standby s) = u at mot pwr
  rw [← mot, ← pwr]
  exact ⟨rfl, rfl, rfl, rfl, rfl, rfl⟩

theorem quiesceStandby_quiet (pend : s.pwr.standbyPend = true) (first : s.pwr.standbyAxes = false) (free : docInProgress s = false)
    (none : writesRun s = false) :
    quiesceStandby s = modPwr (fun p => { p with standbyAxes := true }) (softStopAll (endWork s)) :=
  if_pos (by simp [pend, first, free, none])

theorem quiesceStandby_busy (busy : docInProgress s = true ∨ writesRun s = true) : quiesceStandby s = s :=
  if_neg (by rcases busy with busy | busy <;> simp [busy])

theorem endWork_rest (maint : s.top.state ≠ .maint) (calib : s.top.state ≠ .calib) : endWork s = s :=
  (if_neg maint).trans (if_neg calib)

/-! ### The always-on domain (R430 to R433) -/

theorem raiseMain_raises {bit : Nat} (standby : s.top.state = .standby) (low : s.pwr.mainEn = false)
    (source : s.pwr.aonCfg.getLsbD bit = true) :
    raiseMain bit s = { s with pwr := { s.pwr with mainEn := true, wakeCause := 1#32 <<< (bit - 8) } } :=
  if_pos ⟨standby, by simp [low], source⟩

theorem raiseMain_otherSource {bit : Nat} (other : s.pwr.aonCfg.getLsbD bit = false) : raiseMain bit s = s :=
  if_neg (by simp [other])

/-- The RTC tick that commits a written value is the next one, and the RTC then shows the value. -/
theorem commitRtc_shows {v : BitVec 48} (armed : s.pwr.rtcArmed = some v) :
    (commitRtc s).pwr.rtcArmed = none ∧ s.now ≤ (commitRtc s).now ∧ rtcNow (commitRtc s) = v := by
  have tick : max s.now (ceilDiv ((s.now * 4096 / 1000000000 + 1) * 1000000000) 4096) * 4096 / 1000000000 =
      s.now * 4096 / 1000000000 + 1 := by
    unfold ceilDiv
    omega
  unfold commitRtc
  rw [armed]
  refine ⟨rfl, Nat.le_max_left _ _, ?_⟩
  simp only [rtcNow, modPwr, advanceTo, tick]
  exact BitVec.sub_add_cancel _ _

end

/-! ### O56 -/

/-- Settles O56: SLEEP by `enterSleep_enters`, a wake in its clock by `leaveSleep_sameClock`, STANDBY by `enterStandby_enters`, and the RTC by
`commitRtc_shows`. -/
theorem sleepAndStandby : Obligations.SleepAndStandby := by
  unfold Obligations.SleepAndStandby
  refine ⟨fun s => ⟨fun hc => ⟨fun rest allowed awake => ?_, fun seen => after_onHost hc (requestSleep_refused (.inr (.inr seen))),
      fun ready gap => after_onHost hc (requestSleep_refused (.inl ⟨ready, gap⟩)),
      fun d3 hot => after_onHost hc (requestSleep_refused (.inr (.inl ⟨d3, hot⟩))),
      fun sleeps earlier => after_onHost hc (requestWake_wakes sleeps earlier), fun awake => after_onHost hc (if_neg awake),
      fun on => after_onHost hc (if_neg on), after_onHost hc rfl⟩,
    fun hr => ⟨fun pend first free none => ⟨fun maint calib => after_live hr ?_, fun maint => after_live hr ?_⟩,
      fun bit source sleeps same => ?_, fun busy => after_live hr (quiesceStandby_busy busy), fun stops still => ?_,
      fun sleeps => after_live hr (if_pos sleeps), fun sleeps runs => after_live hr (if_pos ⟨sleeps, runs⟩)⟩⟩,
    fun s => ⟨fun standby low source => congrArg (after s) (raiseMain_raises standby low source),
      fun other => congrArg (after s) (raiseMain_otherSource other), fun standby low source set => ?_,
      fun clear => congrArg (after s) (if_neg (ne_true_of_eq_false clear)), fun search => congrArg (after s) (if_pos search),
      fun crystal => congrArg (after s) (if_neg (ne_true_of_eq_false crystal)), fun rc => congrArg (after s) (if_pos rc),
      fun v hc => after_onHost hc rfl, fun v armed => ?_, fun none => ?_, fun v hr ramp => after_live hr ?_, fun i v hc => after_onHost hc rfl⟩⟩
  · obtain ⟨state, gate, pwr⟩ := enterSleep_enters (notePwr 1 0 (touchLink s))
    refine ⟨_, after_onHost hc (requestSleep_accepted rest allowed awake), state, ?_⟩
    rw [pwr]
    exact ⟨rfl, rfl, gate, rfl, rfl, rfl⟩
  · rw [quiesceStandby_quiet pend first free none, endWork_rest maint calib]
    rfl
  · rw [quiesceStandby_quiet pend first free none, endWork, if_pos maint]
    rfl
  · rw [(congrArg State.pwr (wakeBy_source source)).trans (leaveSleep_sameClock _ sleeps same)]
    exact ⟨rfl, rfl, rfl⟩
  · obtain ⟨state, released, orderly, cfg, main, recs⟩ := enterStandby_enters stops still
    refine ⟨_, after_live hr rfl, state, released, orderly, cfg, main, fun a => ?_⟩
    rw [recs]
    exact Vector.getElem_ofFn a.isLt
  · exact congrArg (after s) ((if_pos set).trans (raiseMain_raises standby low source))
  · exact ⟨commitRtc s, rfl, commitRtc_shows armed⟩
  · refine congrArg (after s) ?_
    unfold commitRtc
    rw [none]
  · unfold rampEnds
    rw [ramp]
    rfl

end Sys2Proof.Machine

/-! ## Self-tests of the engines and quiet points (O43) -/

namespace Sys2Proof.Machine

/-! ### What a change of roles and a fault report keep -/

section
variable {x : EngId} {s : State}

/-- The firmware runs as before where only the log queue of the management block has changed. -/
theorem fwRuns_of_unqueued {a b : State} (h : a.mgt.unqueued = b.mgt.unqueued) : fwRuns a = fwRuns b := by
  have running : a.mgt.running = b.mgt.running := (congrArg Mgt.running h :)
  have restarting : a.mgt.restarting = b.mgt.restarting := (congrArg Mgt.restarting h :)
  rw [fwRuns, running, restarting, fwRuns]

theorem setRoles_keeps (a b : Role) (s : State) : (setRoles a b s).sup.swap = s.sup.swap ∧ fwRuns (setRoles a b s) = fwRuns s := by
  have reviewed (t : State) : (reviewRelease t).sup = t.sup ∧ (reviewRelease t).mgt = t.mgt :=
    ⟨foldl_keep State.sup _ (fun t p => setStore_sup p _ t) _ t, foldl_keep State.mgt _ (fun t p => setStore_mgt p _ t) _ t⟩
  have logged (t : State) : (logEngines false t).sup = t.sup := by
    unfold logEngines pushLog
    split <;> rfl
  unfold setRoles
  split
  · exact ⟨rfl, rfl⟩
  · exact ⟨(congrArg Sup.swap ((reviewed _).1.trans (logged _)) :),
      fwRuns_of_unqueued ((congrArg Mgt.unqueued (reviewed _).2).trans (pushLog_unqueued _ _ _ _))⟩

theorem rolesFor_keeps (x : EngId) (r other : Role) (s : State) :
    (rolesFor x r other s).sup.swap = s.sup.swap ∧ fwRuns (rolesFor x r other s) = fwRuns s := by
  cases x
  · exact setRoles_keeps r other s
  · exact setRoles_keeps other r s

/-- What a self-test's end reads is as a report of its failure leaves it. -/
theorem noteFault_selftest_keeps (x : EngId) (s : State) :
    (noteFault x 7 0 0 s).sup.swap = s.sup.swap ∧ (noteFault x 7 0 0 s).sup.restarting = s.sup.restarting ∧
      (noteFault x 7 0 0 s).sup.staging = s.sup.staging ∧ roleOf x (noteFault x 7 0 0 s) = roleOf x s := by
  obtain ⟨e, h, eq⟩ : ∃ e h, noteFault x 7 0 0 s = { setEng x { eng x s with
        health := { (eng x s).health with lastKind := 7, faults := satInc (eng x s).health.faults } } s with
      evt := e, pond := { s.pond with admitHold := h }
      sup := { s.sup with lastEvent := lastEventWord (some x) 7 0 0, faultAt := some s.now } } := by
    obtain ⟨e, h, eq⟩ := countClass_eventsOnly (engClass x) (raise Src.engFault
      { setEng x { eng x s with health := { (eng x s).health with lastKind := 7, faults := satInc (eng x s).health.faults } } s with
        evt := { s.evt with engClass := some (engClass x) }
        sup := { s.sup with lastEvent := lastEventWord (some x) 7 0 0, faultAt := some s.now } })
    exact ⟨e, h, by cases x <;> exact eq⟩
  rw [eq]
  cases x <;> exact ⟨rfl, rfl, rfl, rfl⟩

/-! ### The end of a self-test (R312, R317) -/

theorem endSelftest_idle (none : (eng x s).selftest = false) (pass : Bool) : endSelftest x pass s = s :=
  if_pos (by rw [none]; rfl)

/-- What a self-test's end has recorded before it acts. -/
def selftestNoted (x : EngId) (pass : Bool) (s : State) : State :=
  if pass then raise Src.engSelftest (stopSelftest x s) else noteFault x 7 0 0 (supErr 7 (raise Src.engSelftest (stopSelftest x s)))

theorem selftestNoted_keeps (x : EngId) (pass : Bool) (s : State) :
    (selftestNoted x pass s).sup.swap = s.sup.swap ∧ (selftestNoted x pass s).sup.restarting = s.sup.restarting ∧
      (selftestNoted x pass s).sup.staging = s.sup.staging ∧ roleOf x (selftestNoted x pass s) = roleOf x s := by
  obtain ⟨kswap, krestarting, kstaging⟩ : (stopSelftest x s).sup.swap = s.sup.swap ∧ (stopSelftest x s).sup.restarting = s.sup.restarting ∧
      (stopSelftest x s).sup.staging = s.sup.staging := by
    cases x <;> exact ⟨rfl, rfl, rfl⟩
  cases pass with
  | true => exact ⟨kswap, krestarting, kstaging, (by cases x <;> rfl)⟩
  | false =>
    obtain ⟨swap, restarting, staging, role⟩ := noteFault_selftest_keeps x (supErr 7 (raise Src.engSelftest (stopSelftest x s)))
    exact ⟨swap.trans kswap, restarting.trans krestarting, staging.trans kstaging, role.trans (by cases x <;> rfl)⟩

theorem endSelftest_rejoins (runs : (eng x s).selftest = true) (start : s.sup.restarting = false) (closed : s.sup.swap = .closed)
    (role : roleOf x s = .rejoining) (pass : Bool) : endSelftest x pass s =
      let u := selftestNoted x pass s
      if pass then { u with sup := { u.sup with rejoinWait := true } } else closeFailed (rolesFor x .retired .solo u) := by
  obtain ⟨kswap, krest, -, krole⟩ := selftestNoted_keeps x pass s
  have noted : selftestNoted x pass s = (if pass then raise Src.engSelftest (stopSelftest x s)
    else noteFault x 7 0 0 (supErr 7 (raise Src.engSelftest (stopSelftest x s)))) := rfl
  unfold endSelftest
  simp only [runs, Bool.not_true, Bool.false_eq_true, if_false, ← noted]
  simp [krest, start, kswap, closed, krole, role]

theorem endSelftest_swaps (runs : (eng x s).selftest = true) (start : s.sup.restarting = false) (armed : s.sup.swap = .armed)
    (staging : s.sup.staging = x) (pass : Bool) : endSelftest x pass s =
      let u := selftestNoted x pass s
      if pass then { u with sup := { u.sup with swap := .ready } } else endSwap true u := by
  obtain ⟨kswap, krest, kstaging, -⟩ := selftestNoted_keeps x pass s
  have noted : selftestNoted x pass s = (if pass then raise Src.engSelftest (stopSelftest x s)
    else noteFault x 7 0 0 (supErr 7 (raise Src.engSelftest (stopSelftest x s)))) := rfl
  unfold endSelftest
  simp only [runs, Bool.not_true, Bool.false_eq_true, if_false, ← noted]
  simp [krest, start, kswap, armed, kstaging, staging]

/-! ### Quiet points (R313, R314) -/

theorem quietActions_elsewhere (h : docInProgress s = true ∨ (s.top.state ≠ .ready ∧ s.top.state ≠ .gap)) : quietActions s = s := by
  refine if_neg ?_
  rcases h with busy | ⟨ready, gap⟩
  · simp [atQuietPoint, busy]
  · simp [atQuietPoint, ready, gap]

/-- Where no firmware runs after the pair's action, no calibration of an activation follows it. -/
theorem quietActions_of_pair {u : State} (free : docInProgress s = false) (rest : s.top.state = .ready ∨ s.top.state = .gap)
    (pair : pairQuiet s = u) (firmware : fwRuns u = false) : quietActions s = u := by
  have quiet : atQuietPoint s = true := by rcases rest with rest | rest <;> simp [atQuietPoint, free, rest]
  unfold quietActions
  simp [quiet, pair, firmware]

theorem pairQuiet_holds (safe : s.sup.safePending = true) :
    pairQuiet s = setState .safeHold { s with sup := { s.sup with safePending := false, engSafeHold := true } } := if_pos safe

theorem pairQuiet_switches (safe : s.sup.safePending = false) (switch : s.sup.switchPending = true) :
    pairQuiet s = closeFailed (startSelftest (mainEng s) (giveBrake (mainEng s).other (rolesFor (mainEng s) .rejoining .solo
      { s with sup := { s.sup with switchPending := false, rejoinWait := false } }))) :=
  (if_neg (ne_true_of_eq_false safe)).trans (if_pos switch)

theorem pairQuiet_rejoins (safe : s.sup.safePending = false) (switch : s.sup.switchPending = false) (closed : s.sup.swap = .closed)
    (waits : s.sup.rejoinWait = true) (once : s.sup.rejoining = false) :
    pairQuiet s = queueFull 0 { s with sup := { s.sup with rejoining := true, rejoinDue := BitVec.allOnes 16 } } := by
  simp [pairQuiet, safe, switch, closed, waits, once, swapOpenNow, startRejoin]

theorem setState_fwRuns (st : DevState) (s : State) : fwRuns (setState st s) = fwRuns s := fwRuns_of_unqueued (setState_unqueued st s)

theorem closeFailed_fwRuns (s : State) : fwRuns (closeFailed s) = fwRuns s := by
  unfold closeFailed
  split <;> rfl

theorem startSelftest_fwRuns (x : EngId) (s : State) : fwRuns (startSelftest x s) = fwRuns s := by
  cases x <;> rfl

end

/-! ### O43 -/

/-- Settles O43: a self-test's end by the role and the swap that its record leaves, a quiet point by the pair's action. -/
theorem selftestsAndQuietPoints : Obligations.SelftestsAndQuietPoints := by
  unfold Obligations.SelftestsAndQuietPoints
  refine ⟨fun x s hr => ⟨fun none ok => after_live hr (endSelftest_idle none ok), fun runs start closed role => ⟨?_, ?_⟩,
      fun runs start armed staging => ⟨?_, ?_⟩⟩,
    fun s hr => ⟨fun elsewhere => after_live hr (quietActions_elsewhere elsewhere), fun free ready safe switch firmware => ?_,
      fun free gap safe firmware => ?_, fun free ready safe switch closed waits once firmware => ?_⟩⟩
  · exact after_live hr (endSelftest_rejoins runs start closed role true)
  · refine after_live hr ((endSelftest_rejoins runs start closed role false).trans (closeFailed_of_ne ?_))
    rw [(rolesFor_keeps x _ _ _).1, (selftestNoted_keeps x false s).1, closed]
    decide
  · exact after_live hr (endSelftest_swaps runs start armed staging true)
  · exact after_live hr (endSelftest_swaps runs start armed staging false)
  · refine after_live hr (quietActions_of_pair free (.inl ready) (pairQuiet_switches safe switch) ?_)
    rw [closeFailed_fwRuns, startSelftest_fwRuns]
    exact (rolesFor_keeps _ _ _ _).2.trans firmware
  · exact after_live hr (quietActions_of_pair free (.inr gap) (pairQuiet_holds safe) ((setState_fwRuns _ _).trans firmware))
  · exact after_live hr (quietActions_of_pair free (.inl ready) (pairQuiet_rejoins safe switch closed waits once) firmware)

end Sys2Proof.Machine

/-! ## Commands of the transport port (O45, O46, O47) -/

namespace Sys2Proof.Machine

/-! ### How a command is judged (R331, R334) -/

section
variable {op : Nat} {bad idle : Bool} {act : State → State} {s : State}

theorem tpCommand_notReady (h : notReady s.top.state = true) : tpCommand op bad idle act s = refuseNotNow op s := if_pos h

theorem tpCommand_bad (h : notReady s.top.state = false) : tpCommand op true idle act s = refuseBad op s :=
  (if_neg (ne_true_of_eq_false h)).trans (if_pos rfl)

/-- Nothing to act on, or a command of the class deferred already: whatever the state, the command is refused. -/
theorem tpCommand_idle (h : (idle || classDeferred op s.tpt) = true) : tpCommand op false idle act s = refuseNotNow op s := by
  unfold tpCommand
  rw [if_neg Bool.false_ne_true, if_pos h, ite_self]

theorem tpCommand_judged (h : notReady s.top.state = false) (none : classDeferred op s.tpt = false) :
    tpCommand op false false act s = match legality op s.top.state with
      | .accepted => act (noteCmd op 0 s)
      | .deferred => deferCmd op (noteCmd op 1 s)
      | .refused => refuseNotNow op s := by
  exact (if_neg (ne_true_of_eq_false h)).trans ((if_neg Bool.false_ne_true).trans (if_neg (by simp [none])))

/-- A state that takes no command of the port has none that it accepts or defers. -/
theorem notReady_of_legality (legal : legality op s.top.state ≠ .refused) : notReady s.top.state = false := by
  refine Bool.eq_false_iff.2 fun h => legal ?_
  exact if_pos h

theorem tpCommand_accepted (legal : legality op s.top.state = .accepted) (none : classDeferred op s.tpt = false) :
    tpCommand op false false act s = act (noteCmd op 0 s) := by
  rw [tpCommand_judged (notReady_of_legality (by rw [legal]; decide)) none, legal]

theorem tpCommand_deferred (legal : legality op s.top.state = .deferred) (none : classDeferred op s.tpt = false) :
    tpCommand op false false act s = deferCmd op (noteCmd op 1 s) := by
  rw [tpCommand_judged (notReady_of_legality (by rw [legal]; decide)) none, legal]

theorem tpCommand_refused (legal : legality op s.top.state = .refused) (none : classDeferred op s.tpt = false) :
    tpCommand op false false act s = refuseNotNow op s := by
  cases h : notReady s.top.state with
  | true => exact tpCommand_notReady h
  | false => rw [tpCommand_judged h none, legal]

end

section
variable {st : DevState}

/-- A command that no rule defers or refuses is accepted where any is (R334). -/
theorem legality_always {op : Nat} (op0 : op = 0 ∨ op = 1 ∨ op = 2 ∨ op = 4 ∨ op = 9 ∨ op = 10 ∨ op = 11) (h : notReady st = false) :
    legality op st = .accepted := by
  refine (if_neg (ne_true_of_eq_false h)).trans ?_
  rcases op0 with rfl | rfl | rfl | rfl | rfl | rfl | rfl <;> rfl

theorem legality_stop (h : notReady st = false) (calib : st ≠ .calib) : legality 3 st = .accepted :=
  (if_neg (ne_true_of_eq_false h)).trans (if_neg calib)

theorem legality_maint_accepted (h : st = .ready ∨ st = .gap) : legality 7 st = .accepted := by
  rcases h with rfl | rfl <;> rfl

theorem legality_maint_deferred (h : st = .print ∨ st = .calib ∨ st = .thermalHold) : legality 7 st = .deferred := by
  rcases h with rfl | rfl | rfl <;> rfl

theorem legality_maint_refused (h : st = .maint ∨ st = .safeHold) : legality 7 st = .refused := by
  rcases h with rfl | rfl <;> rfl

theorem legality_exit_refused (h : st ≠ .maint) : legality 8 st = .refused := by
  cases takes : notReady st with
  | true => exact if_pos takes
  | false => exact (if_neg (ne_true_of_eq_false takes)).trans (if_neg h)

end

/-! ### O45: the commands in the states that take them -/

section
variable {s : State}

theorem admitCommand_accepted {op : Nat} (op0 : op = 1 ∨ op = 2) (v : Bool) (host : Option Bool) (h : notReady s.top.state = false) :
    admitCommand op v host s =
      setAdmitHold (v || host == some true) (noteCmd op 0 (match host with | some w => setAdmitHold w s | none => s)) := by
  have none (t : Tpt) : classDeferred op t = false := by rcases op0 with rfl | rfl <;> rfl
  have always : op = 0 ∨ op = 1 ∨ op = 2 ∨ op = 4 ∨ op = 9 ∨ op = 10 ∨ op = 11 := by omega
  cases host <;> exact tpCommand_accepted (legality_always always h) (none _)

theorem admitCommand_notReady {op : Nat} (v : Bool) (h : notReady s.top.state = true) : admitCommand op v none s = refuseNotNow op s :=
  tpCommand_notReady h

theorem hostAdmit_ready (w : Bool) (h : s.link.cfgReady = true) : hostAdmit (some w) s = some w := if_pos h

theorem hostAdmit_unready (w : Bool) (h : s.link.cfgReady = false) : hostAdmit (some w) s = none := if_neg (ne_true_of_eq_false h)

theorem hostAdmit_none (s : State) : hostAdmit none s = none := ite_self _

/-- A command with something of its kind to act on is accepted where no state refuses it. -/
theorem tpCommand_acts {op : Nat} {act : State → State} (op0 : op = 0 ∨ op = 1 ∨ op = 2 ∨ op = 4 ∨ op = 9 ∨ op = 10 ∨ op = 11)
    (h : notReady s.top.state = false) (none : classDeferred op s.tpt = false) :
    tpCommand op false false act s = act (noteCmd op 0 s) := tpCommand_accepted (legality_always op0 h) none

end

/-- Settles O45: the judgement of `tpCommand` at each command's operand, state and class. -/
theorem portCommands : Obligations.PortCommands := by
  unfold Obligations.PortCommands
  intro s hr refuse
  refine ⟨fun held => ?_, fun takes => ⟨after_live hr (tpCommand_acts (.inl rfl) takes rfl), ?_, ?_, fun w hc => ⟨?_, ?_⟩,
    fun w hc => ⟨?_, ?_⟩, fun none calib => after_live hr (tpCommand_accepted (legality_stop takes calib) none),
    fun none calib => after_live hr (tpCommand_deferred (by rw [calib]; rfl) none), fun some one live none => ?_,
    fun zero => ?_, fun r rest queued => ⟨?_, ?_⟩, fun empty => ?_, after_live hr (tpCommand_acts (by decide) takes rfl),
    fun range => ?_, fun zero stop => ?_⟩⟩
  · exact ⟨after_live hr (tpCommand_notReady held), after_live hr (tpCommand_notReady held), after_live hr (tpCommand_notReady held),
      after_live hr (tpCommand_notReady held), after_live hr (tpCommand_notReady held), after_live hr (tpCommand_notReady held),
      after_live hr (tpCommand_notReady held), after_live hr (tpCommand_notReady held), after_live hr (tpCommand_notReady held),
      after_live hr (tpCommand_notReady held), after_live hr (by rw [hostAdmit_none]; exact admitCommand_notReady true held),
      after_live hr (by rw [hostAdmit_none]; exact admitCommand_notReady false held)⟩
  · exact after_live hr (by rw [hostAdmit_none]; exact admitCommand_accepted (.inl rfl) true none takes)
  · exact after_live hr (by rw [hostAdmit_none]; exact admitCommand_accepted (.inr rfl) false none takes)
  · refine after_live hr ?_
    rw [hostAdmit_ready w hc, admitCommand_accepted (.inr rfl) false (some w) takes]
    cases w <;> rfl
  · exact after_live hr (by rw [hostAdmit_ready w hc]; exact admitCommand_accepted (.inl rfl) true (some w) takes)
  · exact congrArg (fun host => after s (live (admitCommand 2 false host) s)) ((hostAdmit_unready w hc).trans (hostAdmit_none s).symm)
  · exact congrArg (fun host => after s (live (admitCommand 1 true host) s)) ((hostAdmit_unready w hc).trans (hostAdmit_none s).symm)
  · refine after_live hr ?_
    have named : (argDoc s.tpt == 0 || argDoc s.tpt == BitVec.allOnes 32) = false := by
      rw [Bool.or_eq_false_iff]
      exact ⟨beq_false_of_ne some, beq_false_of_ne one⟩
    rw [named, live]
    exact tpCommand_acts (by decide) takes none
  · refine after_live hr ?_
    rw [zero]
    exact tpCommand_bad takes
  · refine after_live hr ?_
    rw [queued]
    refine (tpCommand_acts (by decide) takes rfl).trans ?_
    simp only [ackFault, modTpt, noteCmd, queued, List.drop_succ_cons, List.drop_zero]
  · rintro q l rfl
    rfl
  · refine after_live hr ?_
    rw [empty]
    exact tpCommand_idle rfl
  · refine after_live hr ?_
    rw [decide_eq_true range]
    exact tpCommand_bad takes
  · refine after_live hr ?_
    have range : decide (2 < s.tpt.arg0.toNat) = false := by rw [zero]; rfl
    have idle : nothingDeferred s.tpt = false := by simp [nothingDeferred, zero, stop]
    rw [range, idle]
    refine (tpCommand_acts (by decide) takes rfl).trans ?_
    simp [cancelClass, noteCmd, modTpt, zero]

/-! ### O46: the modes, and the deferred commands in their order (R335) -/

section
variable {s : State}

/-- CANCEL with a class in range acts where a command of it is deferred. -/
theorem tpCommand_cancel (takes : notReady s.top.state = false) (range : s.tpt.arg0.toNat ≤ 2) :
    tpCommand 11 (decide (2 < s.tpt.arg0.toNat)) (nothingDeferred s.tpt) cancelClass s =
      if nothingDeferred s.tpt = true then refuseNotNow 11 s else cancelClass (noteCmd 11 0 s) := by
  rw [decide_eq_false (Nat.not_lt.2 range)]
  split
  · next idle => exact tpCommand_idle (by rw [idle]; rfl)
  · next idle =>
    rw [Bool.eq_false_iff.2 idle]
    exact tpCommand_acts (by decide) takes rfl

theorem runStop_none (none : s.tpt.deferStop = false) : runStop s = s := if_neg (ne_true_of_eq_false none)

theorem runStop_due (stop : s.tpt.deferStop = true) (takes : notReady s.top.state = false) (calib : s.top.state ≠ .calib) :
    runStop s = stopDevice (noteDone (modTpt (fun t => { t with deferStop := false }) s)) := by
  rw [runStop, if_pos stop, legality_stop takes calib]

theorem runStop_waits (calib : s.top.state = .calib) : runStop s = s := by
  have waits : legality 3 s.top.state = .deferred := by rw [calib]; rfl
  rw [runStop, waits]
  exact ite_self _

theorem runCal_none (none : s.tpt.deferCal = none) : runCal s = s := by rw [runCal, none]

theorem runCal_accepted {full : Bool} (some : s.tpt.deferCal = some full) (rest : s.top.state = .ready ∨ s.top.state = .gap) :
    runCal s = if (loadsPassed s && fwRuns s) = true then startCal full (noteDone (modTpt (fun t => { t with deferCal := none }) s))
      else s := by
  have legal : legality 5 s.top.state = .accepted := legality_cal_accepted true rest
  simp only [runCal, some, legal]

theorem runCal_waits {full : Bool} (some : s.tpt.deferCal = some full)
    (busy : s.top.state = .print ∨ s.top.state = .maint ∨ s.top.state = .thermalHold) : runCal s = s := by
  have legal : legality 5 s.top.state = .deferred := legality_cal_deferred true busy
  simp only [runCal, some, legal]

theorem runCal_refused {full : Bool} (some : s.tpt.deferCal = some full) (busy : s.top.state = .calib ∨ s.top.state = .safeHold) :
    runCal s = cancelCal s := by
  have legal : legality 5 s.top.state = .refused := legality_cal_refused true busy
  simp only [runCal, some, legal]

theorem runMaint_none (none : s.tpt.deferMaint = false) : runMaint s = s := if_neg (ne_true_of_eq_false none)

theorem runMaint_accepted (some : s.tpt.deferMaint = true) (rest : s.top.state = .ready ∨ s.top.state = .gap) :
    runMaint s = if loadsPassed s = true then beginMaint (noteDone (modTpt (fun t => { t with deferMaint := false }) s)) else s := by
  rw [runMaint, if_pos some, legality_maint_accepted rest]

/-- A deferred MAINT_ENTER waits in the states that defer it. -/
theorem runMaint_waits (busy : s.top.state = .print ∨ s.top.state = .calib ∨ s.top.state = .thermalHold) : runMaint s = s := by
  rw [runMaint, legality_maint_deferred busy]
  exact ite_self _

theorem runMaint_refused (some : s.tpt.deferMaint = true) (busy : s.top.state = .maint ∨ s.top.state = .safeHold) :
    runMaint s = cancelMaint s := by
  rw [runMaint, if_pos some, legality_maint_refused busy]

theorem startCal_state (full : Bool) (s : State) : (startCal full s).top.state = .calib := setState_state _ _

theorem cancelCal_deferMaint (s : State) : (cancelCal s).tpt.deferMaint = s.tpt.deferMaint := by
  unfold cancelCal
  split <;> rfl

end

/-- Settles O46: the judgement of `tpCommand` by the state, and each deferred command in turn. -/
theorem portModes : Obligations.PortModes := by
  unfold Obligations.PortModes
  refine ⟨fun s hr none => ?_, fun s hr none => ⟨fun rest => after_live hr (tpCommand_accepted (legality_maint_accepted rest) none),
      fun busy => after_live hr (tpCommand_deferred (legality_maint_deferred busy) none),
      fun busy => after_live hr (tpCommand_refused (legality_maint_refused busy) none),
      fun maint => after_live hr (tpCommand_accepted (by rw [maint]; rfl) none),
      fun other => after_live hr (tpCommand_refused (legality_exit_refused other) none)⟩,
    fun s hr takes => ⟨fun some => ?_, fun some => ⟨after_live hr (tpCommand_idle some), after_live hr (tpCommand_idle some)⟩,
      fun arg => ?_, fun arg => ?_, fun arg => ?_⟩,
    fun s hr => ⟨after_live hr rfl, fun stop cal maint => ?_, fun stop takes calib => ?_, fun stop calib none => ?_,
      fun full stop some => ⟨fun rest passed fw => ?_, fun maint => ⟨fun rest waits => ?_, fun busy => ?_, fun busy => ?_⟩⟩,
      fun stop cal some => ⟨fun rest => ?_, fun busy => ?_, fun busy => ?_⟩⟩⟩
  · have free : s.tpt.deferCal.isSome = false := by rw [none]; rfl
    exact ⟨fun rest => ⟨after_live hr (tpCommand_accepted (legality_cal_accepted true rest) free),
        after_live hr (tpCommand_accepted (legality_cal_accepted false rest) free)⟩,
      fun busy => ⟨after_live hr (tpCommand_deferred (legality_cal_deferred true busy) free),
        after_live hr (tpCommand_deferred (legality_cal_deferred false busy) free)⟩,
      fun busy => ⟨after_live hr (tpCommand_refused (legality_cal_refused true busy) free),
        after_live hr (tpCommand_refused (legality_cal_refused false busy) free)⟩⟩
  · have taken : s.tpt.deferCal.isSome = true := Option.isSome_iff_ne_none.2 some
    exact ⟨after_live hr (tpCommand_idle taken), after_live hr (tpCommand_idle taken)⟩
  · refine after_live hr ((tpCommand_cancel takes (by rw [arg]; decide)).trans ?_)
    cases h : s.tpt.deferStop <;> simp [nothingDeferred, cancelClass, noteCmd, modTpt, arg, h]
  · refine after_live hr ((tpCommand_cancel takes (by rw [arg]; decide)).trans ?_)
    cases h : s.tpt.deferCal <;> simp [nothingDeferred, cancelClass, noteCmd, modTpt, arg, h]
  · refine after_live hr ((tpCommand_cancel takes (by rw [arg]; decide)).trans ?_)
    cases h : s.tpt.deferMaint <;> simp [nothingDeferred, cancelClass, noteCmd, modTpt, arg, h]
  · exact after_live hr (by rw [runDeferred, runStop_none stop, runCal_none cal, runMaint_none maint])
  · exact after_live hr (by rw [runDeferred, runStop_due stop takes calib])
  · exact after_live hr (by rw [runDeferred, runStop_waits calib, runCal_none none, runMaint_waits (.inr (.inl calib))])
  · refine after_live hr ?_
    rw [runDeferred, runStop_none stop, runCal_accepted some rest, if_pos (by rw [passed, fw]; rfl),
      runMaint_waits (.inr (.inl (startCal_state _ _)))]
  · refine after_live hr ?_
    rw [runDeferred, runStop_none stop, runCal_accepted some rest, if_neg (by rcases waits with waits | waits <;> simp [waits]),
      runMaint_none maint]
  · exact after_live hr (by rw [runDeferred, runStop_none stop, runCal_waits some busy, runMaint_none maint])
  · refine after_live hr ?_
    rw [runDeferred, runStop_none stop, runCal_refused some busy, runMaint_none ((cancelCal_deferMaint s).trans maint)]
  · exact after_live hr (by rw [runDeferred, runStop_none stop, runCal_none cal, runMaint_accepted some rest])
  · exact after_live hr (by rw [runDeferred, runStop_none stop, runCal_none cal, runMaint_waits busy])
  · exact after_live hr (by rw [runDeferred, runStop_none stop, runCal_none cal, runMaint_refused some busy])

/-! ### O47: mail and pulses (R329, R341) -/

section
variable {s : State}

theorem pulseFalls_queued (queued : 0 < s.tpt.pulses) (high : s.tpt.pulseLow = false) :
    pulseFalls s = modTpt (fun t => { t with pulses := t.pulses - 1, pulseLow := true, pulseAt := max s.now t.pulseAt + 16000 })
      { s with now := max s.now s.tpt.pulseAt } := by
  simp [pulseFalls, queued, high, advanceTo, modTpt, usGrid]

theorem pulseRises_low (low : s.tpt.pulseLow = true) :
    pulseRises s = modTpt (fun t => { t with pulseLow := false, pulseAt := max s.now t.pulseAt + 8000 })
      { s with now := max s.now s.tpt.pulseAt } := by
  simp [pulseRises, low, advanceTo, modTpt, usGrid]

end

/-- Settles O47, by the register that is written and the level of the pulse. -/
theorem portMailAndPulse : Obligations.PortMailAndPulse := by
  unfold Obligations.PortMailAndPulse
  exact fun s => ⟨fun i v hc => ⟨fun other => after_onHost hc (if_neg other), fun last => after_onHost hc (if_pos last)⟩,
    fun i v hr => ⟨fun held => after_live hr (if_pos held),
      fun takes other => after_live hr ((if_neg (ne_true_of_eq_false takes)).trans (if_neg other)),
      fun takes last => after_live hr ((if_neg (ne_true_of_eq_false takes)).trans (if_pos last))⟩,
    fun hr queued high => after_live hr (pulseFalls_queued queued high), fun hr low => after_live hr (pulseRises_low low)⟩

end Sys2Proof.Machine

/-! ## Servo periods, limits and bridge faults (O49, O50) -/

namespace Sys2Proof.Machine

/-! ### What a change of one axis, or of each, leaves -/

theorem modAxis_axis (i : Fin 4) (f : Axis → Axis) (s : State) : (modAxis i f s).mot.axes[i] = f s.mot.axes[i] := Vector.getElem_set_self ..

/-- A change of every axis by what the clock shows. -/
theorem forAxes_modAxis (f : Nat → Axis → Axis) (s : State) :
    (forAxes (fun i u => modAxis i (f u.now) u) s).mot.axes = s.mot.axes.map (f s.now) := by
  ext j hj
  have : j = 0 ∨ j = 1 ∨ j = 2 ∨ j = 3 := by omega
  rcases this with rfl | rfl | rfl | rfl <;> simp [forAxes, List.finRange, modAxis]

/-! ### O49: servo periods and timers -/

section
variable {i : Fin 4} {s : State}

theorem servoTick_eq (rd : ServoIn) (s : State) :
    servoTick rd s = servoAxis 3 rd.load3 (servoAxis 2 rd.load2 (servoAxis 1 rd.load1 (servoAxis 0 rd.load0
      { s with now := max s.now s.mot.servoAt, mot := { s.mot with servoAt := max s.now s.mot.servoAt + 400000, vm := satNat 16 rd.vm10mV } }))) := by
  simp only [servoTick, advanceTo, usGrid, Nat.reduceMul]

theorem servoFinds_rest (rest : s.mot.axes[i].leg = none) : servoFinds i 0 s = s := by
  have far : seekTooFar s.mot.axes[i] = false := by rw [seekTooFar, rest]
  exact (if_neg (by decide)).trans (if_neg (ne_true_of_eq_false far))

theorem servoAxis_rest (load : Nat) (rest : s.mot.axes[i].leg = none) :
    servoAxis i load s = modAxis i (fun a => servoCurrents s.thm.level s.mot.vm.toNat load { a with stallRun := 0 })
      (modAxis i (fun a => { a with trail := a.pos :: a.trail.take 511 }) s) := by
  have still : axisMoves s.mot.axes[i] = false := by rw [axisMoves, rest]; rfl
  unfold servoAxis
  simp only [rest, still, Bool.and_false, Bool.false_and, Bool.false_eq_true, if_false]
  exact servoFinds_rest (by rw [modAxis_axis, modAxis_axis]; exact rest)

theorem settleEnd_settled (settle : s.mot.axes[i].home = .settle) :
    settleEnd i s = modAxis i (fun x => beginLeg .homing .backoff (!homeDir x) (some (x.backoff.toNat * 65536)) (homeSpeed x) x)
      { s with now := max s.now s.mot.axes[i].settleAt } := if_pos settle

theorem holdEnd_due {t : Nat} (due : s.mot.axes[i].holdAt = some t) :
    holdEnd i s = modAxis i (fun x => { x with holdAt := none, bridge := if x.bridge = .off then .off else .hold })
      { s with now := max s.now t } := by
  rw [holdEnd, due]
  rfl

theorem holdEnd_none (none : s.mot.axes[i].holdAt = none) : holdEnd i s = s := by rw [holdEnd, none]

end

/-- Settles O49, an axis at rest by what its period makes of it. -/
theorem axisTiming : Obligations.AxisTiming := by
  unfold Obligations.AxisTiming
  refine ⟨fun rd s hr => after_live hr (servoTick_eq rd s), fun i load s rest => ?_,
    fun a s hr => ⟨fun settle => after_live hr (settleEnd_settled settle), fun other => after_live hr (if_neg other),
      fun t due => after_live hr (holdEnd_due due), fun none => after_live hr (holdEnd_none none)⟩⟩
  rw [servoAxis_rest load rest, modAxis_axis, modAxis_axis]
  exact ⟨rfl, rfl, rfl⟩

/-! ### O50: the limits (R352, R353, R356) -/

section
variable {a : Fin 4} {hi level : Bool} {n : Nat} {s : State}

theorem limitQualifies_iff (hi level : Bool) (n : Nat) (x : Axis) : limitQualifies hi level n x = true ↔
    x.limCfg.getLsbD (if hi then 17 else 16) = true ∧
      (level == x.limCfg.getLsbD (if hi then 19 else 18)) ≠ (if hi then x.hiNow else x.loNow) ∧
      10 * ((x.limCfg.toNat / (if hi then 256 else 1)) % 256) ≤ n := by
  rw [limitQualifies, Bool.and_eq_true, Bool.and_eq_true, bne_iff_ne, decide_eq_true_iff, and_assoc]
  rfl

theorem limitChange_unqualified (h : limitQualifies hi level n s.mot.axes[a] = false) : limitChange a hi level n s = s :=
  if_pos (by rw [h]; rfl)

/-- The changes of a limit input within 100 ms, the present one first (R353). -/
def recentChanges (hi : Bool) (now : Nat) (x : Axis) : List Nat :=
  (now :: if hi then x.hiTimes else x.loTimes).filter fun t => decide (now < t + 800000000)

/-- A change that counts is remembered with its time. -/
def noteChange (hi tripped : Bool) (recent : List Nat) (x : Axis) : Axis :=
  if hi then { x with hiNow := tripped, hiTimes := recent.take 8 } else { x with loNow := tripped, loTimes := recent.take 8 }

theorem noteChange_keeps (hi tripped : Bool) (recent : List Nat) (x : Axis) :
    (noteChange hi tripped recent x).home = x.home ∧ (noteChange hi tripped recent x).leg = x.leg ∧
      (noteChange hi tripped recent x).cfg = x.cfg := by
  cases hi <;> exact ⟨rfl, rfl, rfl⟩

theorem limitChange_qualified (h : limitQualifies hi level n s.mot.axes[a] = true) :
    limitChange a hi level n s =
      let x := s.mot.axes[a]
      let tripped := levelTrips hi level x
      let s1 := modAxis a (noteChange hi tripped (recentChanges hi s.now x)) s
      let u := if tripped then limitTrips a hi (edgePosition n x s) s1 else s1
      if 8 ≤ (recentChanges hi s.now x).length ∧ !u.mot.axes[a].chatter then
        countClass Cls.motLimit (raise Src.motLimit (stopAxis a (modAxis a (fun x => { x with err := setBit x.err 3, chatter := true }) u)))
      else u := by
  unfold limitChange
  rw [if_neg (by rw [h]; decide)]
  simp only [msGrid, Nat.reduceMul]
  rfl

/-- A limit that trips acts by the homing phase of its axis. -/
theorem limitTrips_idle (home : s.mot.axes[a].home = .none) (e : BitVec 48) :
    limitTrips a hi e s = if travels hi s.mot.axes[a] then countClass Cls.motLimit (raise Src.motLimit (stopAxis a
      (modAxis a (fun x => { x with err := setBit x.err 2, limTrips := satInc x.limTrips }) s))) else s := by
  simp only [limitTrips, home]

theorem limitTrips_backoff (home : s.mot.axes[a].home = .backoff) (e : BitVec 48) : limitTrips a hi e s = homeFails a 4 s := by
  simp only [limitTrips, home]

theorem limitTrips_seek (home : s.mot.axes[a].home = .seek) (e : BitVec 48) :
    limitTrips a hi e s = if limAsHome s.mot.axes[a] = true ∧ hi = homeDir s.mot.axes[a] then limitReference a e s else homeFails a 4 s := by
  simp only [limitTrips, home, Bool.and_eq_true, beq_iff_eq]

theorem slowDown_pos (m : Motion) (h : HomePhase) (now : Nat) (x : Axis) : (slowDown m h now x).pos = x.pos := by
  unfold slowDown
  split
  · rfl
  · dsimp only
    split <;> rfl

theorem limitReference_pos (a : Fin 4) (e : BitVec 48) (s : State) :
    (limitReference a e s).mot.axes[a].pos = s.mot.axes[a].pos + (wholePos s.mot.axes[a].homeOffset - e) := by
  rw [limitReference, modAxis_axis]
  dsimp only
  split
  · exact slowDown_pos _ _ _ _
  · exact slowDown_pos _ _ _ _

theorem homeFails_axis (a : Fin 4) (bit : Nat) (s : State) : (homeFails a bit s).mot.axes[a] =
    { standStill s.now s.mot.axes[a] with posState := 1, err := setBit s.mot.axes[a].err bit } :=
  modAxis_axis a (fun a => { standStill s.now a with posState := 1, err := setBit a.err bit }) s

end

/-! ### Bridge faults (R359, R361) -/

section
variable {a : Fin 4} {s : State}

theorem bridgeFault_running {c : BridgeCause} (hr : s.pwr.released = true) :
    bridgeFault c s = if faultWatched c s then faultBridge c s else s := if_pos hr

theorem bridgeFault_standby {c : BridgeCause} (held : s.pwr.released = false) (standby : s.top.state = .standby) :
    bridgeFault c s = retainedFault c s := (if_neg (ne_true_of_eq_false held)).trans (if_pos standby)

theorem bridgeFault_elsewhere {c : BridgeCause} (held : s.pwr.released = false) (other : s.top.state ≠ .standby) : bridgeFault c s = s :=
  (if_neg (ne_true_of_eq_false held)).trans (if_neg other)

/-- A fault that is watched for takes the bridges off. -/
theorem bridgeFault_watched {c : BridgeCause} (hr : s.pwr.released = true) (watched : faultWatched c s = true) :
    bridgeFault c s = faultBridge c s := (bridgeFault_running hr).trans (if_pos watched)

theorem openCoil_watched : faultWatched (.openCoil a) s = true ↔ s.mot.axes[a].bridge ≠ .off ∧ 12800 ≤ s.mot.axes[a].iSet ∧
    s.mot.axes[a].speed.natAbs < s.mot.axes[a].stall.toNat % 65536 := by
  rw [faultWatched, Bool.and_eq_true, Bool.and_eq_true, bne_iff_ne, decide_eq_true_iff, decide_eq_true_iff, and_assoc]
  rfl

theorem vmFault_axis (flag : Nat) (perAxis : Bool) (a : Fin 4) (s : State) : (vmFault flag perAxis s).mot.axes[a] =
    { noteStop s.now (bridgesOff s.mot.axes[a]) with err := if perAxis then setBit s.mot.axes[a].err 8 else s.mot.axes[a].err } := by
  have each := forAxes_modAxis (fun now x => { noteStop now (bridgesOff x) with err := if perAxis then setBit x.err 8 else x.err }) (motErr flag s)
  exact (congrArg (·[a]) each).trans (Vector.getElem_map _ a.isLt)

theorem vmIsGood_axis (a : Fin 4) (s : State) : (vmIsGood s).mot.axes[a] =
    if s.mot.axes[a].reenergise then { s.mot.axes[a] with reenergise := false, bridge := .hold } else s.mot.axes[a] := by
  have each := forAxes_modAxis (fun _ x => if x.reenergise then { x with reenergise := false, bridge := .hold } else x)
    { s with mot := { s.mot with vmGood := true } }
  exact (congrArg (·[a]) each).trans (Vector.getElem_map _ a.isLt)

theorem vmIsGood_vmGood (s : State) : (vmIsGood s).mot.vmGood = true := rfl

end

/-- Settles O50: a change of a limit by `limitChange_qualified`, what it trips by the phase of homing, a fault by the bridges it takes. -/
theorem axisFaults : Obligations.AxisFaults := by
  unfold Obligations.AxisFaults
  refine ⟨fun a hi level n s hr => ?_, fun c s held supply standby => ?_, fun c s held other => congrArg (after s) (bridgeFault_elsewhere held other),
    fun s hr => ?_⟩
  · intro x tripped recent s1 u
    obtain ⟨home, leg, cfg⟩ := noteChange_keeps hi tripped recent x
    have noted : s1 = modAxis a (noteChange hi tripped recent) s := rfl
    have axis : s1.mot.axes[a] = noteChange hi tripped recent x := by rw [noted, modAxis_axis]
    have homeIs {h : HomePhase} (e : x.home = h) : s1.mot.axes[a].home = h := by rw [axis, home, e]
    have travelsAs : travels hi s1.mot.axes[a] = travels hi x := by rw [axis, travels, leg, travels]
    have found (new : limitQualifies hi level n x = true) : limitChange a hi level n s =
        if 8 ≤ recent.length ∧ (!u.mot.axes[a].chatter) = true then countClass Cls.motLimit (raise Src.motLimit (stopAxis a
          (modAxis a (fun x => { x with err := setBit x.err 3, chatter := true }) u))) else u := limitChange_qualified new
    refine ⟨limitQualifies_iff hi level n x, fun old => after_live hr (limitChange_unqualified old), fun new => ⟨fun calm => ?_, fun often calm => ?_⟩,
      fun e => ⟨fun none towards => ?_, fun none away => ?_, fun back => limitTrips_backoff (homeIs back) e, fun seek => ?_,
        limitReference_pos a e s, ?_, ?_⟩⟩
    · refine after_live hr ((found new).trans (if_neg ?_))
      rintro ⟨often, quiet⟩
      rcases calm with few | chatter
      · exact absurd often (Nat.not_le.2 few)
      · rw [chatter] at quiet
        exact Bool.false_ne_true quiet
    · exact after_live hr ((found new).trans (if_pos ⟨often, by rw [calm]; rfl⟩))
    · rw [limitTrips_idle (homeIs none), travelsAs, if_pos towards]
    · rw [limitTrips_idle (homeIs none), travelsAs, if_neg (ne_true_of_eq_false away)]
    · rw [limitTrips_seek (homeIs seek), axis, limAsHome, homeDir, cfg]
      rfl
    · rw [homeFails_axis]
      rfl
    · rw [homeFails_axis]
  · refine congrArg (after s) ((bridgeFault_standby held standby).trans ?_)
    rcases supply with rfl | rfl <;> rfl
  · intro off
    refine ⟨fun a => congrArg (after s) (bridgeFault_watched hr rfl), fun a => ⟨fun on current slow => ?_, fun unwatched => ?_⟩,
      congrArg (after s) (bridgeFault_watched hr rfl), congrArg (after s) (bridgeFault_watched hr rfl), fun a => ?_,
      vmIsGood s, after_live hr rfl, vmIsGood_vmGood s, fun a => vmIsGood_axis a s⟩
    · exact congrArg (after s) (bridgeFault_watched hr (openCoil_watched.2 ⟨on, current, slow⟩))
    · refine congrArg (after s) ((bridgeFault_running hr).trans (if_neg fun watched => ?_))
      obtain ⟨on, current, slow⟩ := openCoil_watched.1 watched
      rcases unwatched with h | h | h
      · exact on h
      · omega
      · omega
    · rw [vmFault_axis]
      exact ⟨rfl, rfl⟩

end Sys2Proof.Machine

/-! ## Supplies, resets and reset release (O54) -/

namespace Sys2Proof.Machine

/-! ### Supplies and resets (R421, R423, R434) -/

section
variable {s : State}

theorem mainFalls_released (i : Fin 6) (hr : s.pwr.released = true) (on : s.top.state ≠ .off) :
    mainFalls i s = toStandby (resetBy 1 { s with pwr := { s.pwr with
      supply := clearBit s.pwr.supply (i.val + 1), orderly := false } }) := (if_neg on).trans (if_pos hr)

theorem mainFalls_standby (i : Fin 6) (held : s.pwr.released = false) (standby : s.top.state = .standby) :
    mainFalls i s = { s with pwr := { s.pwr with supply := clearBit s.pwr.supply (i.val + 1) } } := by
  refine (if_neg ?_).trans ((if_neg (ne_true_of_eq_false held)).trans (if_pos standby))
  show s.top.state ≠ .off
  rw [standby]
  decide

theorem mainFalls_starting (i : Fin 6) (held : s.pwr.released = false) (on : s.top.state ≠ .off) (other : s.top.state ≠ .standby) :
    mainFalls i s = toStandby (modPwr (fun p => if s.thm.tripped.isSome then { p with orderly := false }
      else putCause 2 { p with orderly := false }) { s with pwr := { s.pwr with supply := clearBit s.pwr.supply (i.val + 1) } }) :=
  (if_neg on).trans ((if_neg (ne_true_of_eq_false held)).trans (if_neg other))

/-! ### The banks of the retention (R429) -/

theorem readBank0_unchanged (s : State) : readBank0 [] s = s := by
  unfold readBank0
  rfl

theorem readBank1_unchanged (s : State) : readBank1 [] s = s := by
  unfold readBank1
  rfl

theorem readBank0_fails {x : List (Nat × Byte)} (flips : x ≠ []) (bad : bankGood (flipBytes (bank0Bytes s.pwr) x) = false) :
    readBank0 x s = bank0Fails s :=
  (if_neg (by simpa using flips)).trans (if_neg (ne_true_of_eq_false bad))

theorem readBank0_loads {x : List (Nat × Byte)} (flips : x ≠ []) (good : bankGood (flipBytes (bank0Bytes s.pwr) x) = true) :
    readBank0 x s = { s with pwr := loadBank0 (flipBytes (bank0Bytes s.pwr) x) s.pwr } :=
  (if_neg (by simpa using flips)).trans (if_pos good)

/-- Bank 1 holds nothing of the axes, of the device state or of the faults that the start is to show. -/
theorem readBank1_keeps (y : List (Nat × Byte)) (s : State) : (readBank1 y s).mot = s.mot ∧ (readBank1 y s).top = s.top ∧
    (readBank1 y s).pwr.heldShut = s.pwr.heldShut ∧ (readBank1 y s).pwr.heldVm = s.pwr.heldVm := by
  unfold readBank1
  dsimp only
  split
  · exact ⟨rfl, rfl, rfl, rfl⟩
  · split <;> exact ⟨rfl, rfl, rfl, rfl⟩

/-- Bank 0 read as cleared; the axes show it at a wake from STANDBY. -/
theorem bank0Fails_clears (s : State) : (bank0Fails s).pwr = { s.pwr with
      retCause := 0, attempts := 0, shutdowns := 0, orderly := false, axisRecs := Vector.replicate 4 {}, retUser := Vector.replicate 7 0
      err := setBit s.pwr.err 3 } ∧
    (bank0Fails s).mot.axes = if s.top.state = .standby then s.mot.axes.map fun a => { a with err := setBit a.err 9 } else s.mot.axes := by
  have kept : (forAxes (fun i s => axisErr i 9 s) s).pwr = s.pwr :=
    foldl_keep State.pwr (fun s i => axisErr i 9 s) (fun _ _ => rfl) _ s
  unfold bank0Fails
  by_cases standby : s.top.state = .standby
  · simp only [standby, if_true]
    constructor
    · rw [← kept]
      rfl
    · exact forAxes_modAxis (fun _ a => { a with err := setBit a.err 9 }) s
  · simp only [standby, if_false]
    exact ⟨rfl, rfl⟩

/-! ### The start (R361, R376, R420) -/

/-- What reset release has set before the start shows what befell the device. -/
def releasedFor (woken : Bool) (s : State) : State :=
  { s with
    top := { s.top with state := .boot }
    pwr := putCause (startCause woken s.pwr) { s.pwr with
      released := true, releasedAt := s.now, perst := true, attempts := satInc s.pwr.attempts, stage := 1
      mainEn := true, heldShut := none, heldVm := 0 } }

theorem beginStart_eq (woken : Bool) (s : State) : beginStart woken s =
    showHeld s.pwr (if woken && s.pwr.orderly then restoreAxes (releasedFor woken s) else releasedFor woken s) := rfl

theorem showHeld_nothing {p : Pwr} (none : p.heldShut = none) (vm : p.heldVm = 0) (s : State) : showHeld p s = s := by
  unfold showHeld
  rw [none, vm]
  rfl

theorem showHeld_shut {p : Pwr} {c : TripCause} (some : p.heldShut = some c) (vm : p.heldVm = 0) (s : State) :
    showHeld p s = shutFlags c s := by
  unfold showHeld
  rw [some, vm]
  rfl

theorem setBit_getLsbD_of {n b : Nat} {w : BitVec n} (i : Nat) (h : w.getLsbD b = true) : (setBit w i).getLsbD b = true := by
  simp [setBit, h]

/-- Counting an event leaves what is pending pending. -/
theorem countClass_pend (c : Fin 32) {b : Nat} (h : s.evt.pend.getLsbD b = true) : (countClass c s).evt.pend.getLsbD b = true := by
  have escalated (u : State) : (escalate c u).evt.pend = u.evt.pend := by
    unfold escalate
    split
    · rfl
    · split <;> rfl
  have either (p : Prop) [Decidable p] {t u : State} (ht : t.evt.pend.getLsbD b = true) (hu : u.evt.pend.getLsbD b = true) :
      (if p then t else u).evt.pend.getLsbD b = true := by
    split
    · exact ht
    · exact hu
  exact either _ (by rw [escalated]; exact h) (either _ (by rw [escalated]; exact either _ h (setBit_getLsbD_of _ h)) h)

/-- A shut-down since the last start shows with its flags, and the axes are as they were. -/
theorem shutFlags_shows (c : TripCause) (s : State) : (shutFlags c s).thm.err.getLsbD 2 = true ∧ (shutFlags c s).mot.err.getLsbD 2 = true ∧
    (shutFlags c s).evt.pend.getLsbD Src.motFault = true ∧ (shutFlags c s).mot.axes = s.mot.axes := by
  let u := raise Src.motFault (motErr 2 (thmErr 2 s))
  have thm : (countClass Cls.motBridge u).thm.err.getLsbD 2 = true := by
    rw [countClass_thm]
    exact setBit_getLsbD_self _ (by decide)
  have mot : (countClass Cls.motBridge u).mot = u.mot := by
    obtain ⟨e, h, eq⟩ := countClass_eventsOnly Cls.motBridge u
    rw [eq]
  have flag : (countClass Cls.motBridge u).mot.err.getLsbD 2 = true := by
    rw [mot]
    exact setBit_getLsbD_self _ (by decide)
  have pend : (countClass Cls.motBridge u).evt.pend.getLsbD Src.motFault = true :=
    countClass_pend _ (setBit_getLsbD_self _ (by decide))
  have axes : (countClass Cls.motBridge u).mot.axes = s.mot.axes := by rw [mot]; rfl
  cases c with
  | comparator => exact ⟨thm, flag, pend, axes⟩
  | openShort => exact ⟨setBit_getLsbD_of _ thm, flag, pend, axes⟩
  | driveHot => exact ⟨setBit_getLsbD_of _ thm, flag, pend, axes⟩

theorem beginStart_pwr (woken : Bool) (s : State) : (beginStart woken s).pwr = (releasedFor woken s).pwr := by
  rw [beginStart_eq, (showHeld_shown _ _).pwr]
  split <;> rfl

theorem beginStart_top (woken : Bool) (s : State) : (beginStart woken s).top = (releasedFor woken s).top := by
  rw [beginStart_eq, (showHeld_shown _ _).top]
  split <;> rfl

/-- Without a fault of the supply the start leaves the axes to the restoration. -/
theorem beginStart_axes (woken : Bool) (vm : s.pwr.heldVm = 0) : (beginStart woken s).mot.axes =
    (if woken && s.pwr.orderly then restoreAxes s else s).mot.axes := by
  have shows (u : State) : (showHeld s.pwr u).mot.axes = u.mot.axes := by
    cases held : s.pwr.heldShut with
    | none => rw [showHeld_nothing held vm]
    | some c =>
      obtain ⟨-, -, -, axes⟩ := shutFlags_shows c u
      rw [showHeld_shut held vm, axes]
  rw [beginStart_eq, shows]
  split <;> rfl

/-- A shut-down since the last start shows at this one, and is no longer held. -/
theorem beginStart_shows {woken : Bool} {c : TripCause} (some : s.pwr.heldShut = some c) (vm : s.pwr.heldVm = 0) :
    (beginStart woken s).thm.err.getLsbD 2 = true ∧ (beginStart woken s).mot.err.getLsbD 2 = true ∧
      (beginStart woken s).pwr.heldShut = none ∧ (beginStart woken s).evt.pend.getLsbD Src.motFault = true := by
  have pwr : (beginStart woken s).pwr.heldShut = none := by rw [beginStart_pwr]; rfl
  have eq : beginStart woken s = shutFlags c _ := (beginStart_eq woken s).trans (showHeld_shut some vm _)
  obtain ⟨thm, mot, pend, -⟩ := shutFlags_shows c (if woken && s.pwr.orderly then restoreAxes (releasedFor woken s) else releasedFor woken s)
  exact ⟨by rw [eq]; exact thm, by rw [eq]; exact mot, pwr, by rw [eq]; exact pend⟩

theorem restoreAxes_axis (a : Fin 4) (s : State) : (restoreAxes s).mot.axes[a] = restoreAxis s.pwr.axisRecs[a] s.mot.axes[a] :=
  Vector.getElem_ofFn a.isLt

theorem beginStart_restores (a : Fin 4) (orderly : s.pwr.orderly = true) (vm : s.pwr.heldVm = 0) :
    (beginStart true s).mot.axes[a] = restoreAxis s.pwr.axisRecs[a] s.mot.axes[a] := by
  rw [← restoreAxes_axis]
  refine congrArg (·[a]) ((beginStart_axes true vm).trans ?_)
  rw [orderly, Bool.and_self, if_pos rfl]

/-- A bank 0 that fails its check starts the device with nothing restored, and the axes show it at a wake from STANDBY. -/
theorem beginStart_failed (woken : Bool) (vm : s.pwr.heldVm = 0) :
    let u := beginStart woken (bank0Fails s)
    u.top.state = .boot ∧ u.pwr.attempts = 1 ∧ u.pwr.err.getLsbD 3 = true ∧ u.pwr.retUser = Vector.replicate 7 0 ∧
      u.mot.axes = if s.top.state = .standby then s.mot.axes.map fun a => { a with err := setBit a.err 9 } else s.mot.axes := by
  obtain ⟨pwr, axes⟩ := bank0Fails_clears s
  have held : (bank0Fails s).pwr.heldVm = 0 := by rw [pwr]; exact vm
  have cold : (woken && (bank0Fails s).pwr.orderly) = false := by rw [pwr, Bool.and_false]
  refine ⟨by rw [beginStart_top]; rfl, ?_, ?_, ?_, ?_⟩
  · rw [beginStart_pwr, releasedFor, pwr]
    rfl
  · rw [beginStart_pwr, releasedFor, pwr]
    exact setBit_getLsbD_self _ (by decide)
  · rw [beginStart_pwr, releasedFor, pwr]
    rfl
  · rw [beginStart_axes _ held, cold, ← axes]
    rfl

end

/-! ### O54 -/

/-- Settles O54: each reset by its operation, the start by what `releasedFor` sets and what the banks give. -/
theorem suppliesAndResets : Obligations.SuppliesAndResets := by
  unfold Obligations.SuppliesAndResets
  refine fun s => ⟨fun low => ⟨vaonRises s, rfl, ?_⟩, fun high => congrArg (after s) (if_pos high), ⟨vaonFalls s, rfl, rfl, rfl, rfl, rfl, rfl⟩,
    fun i => rfl, fun i hr on => ⟨_, congrArg (after s) (mainFalls_released i hr on), rfl, rfl, rfl, rfl, rfl, rfl, rfl, rfl⟩,
    fun i held standby => congrArg (after s) (mainFalls_standby i held standby),
    fun i held on other => ⟨_, congrArg (after s) (mainFalls_starting i held on other), rfl, ?_⟩,
    fun hr => ⟨_, congrArg (after s) (if_pos hr), rfl, rfl, rfl, rfl, rfl, rfl⟩,
    fun held => congrArg (after s) (if_neg (ne_true_of_eq_false held)),
    fun hr => ⟨_, congrArg (after s) (if_pos hr), rfl, (by decide : setBit (0 : Word) 1 = 2), rfl⟩,
    fun held => congrArg (after s) (if_neg (ne_true_of_eq_false held)),
    fun x y bars => congrArg (after s) (if_neg ?_), fun supply good held => ?_⟩
  · rw [vaonRises, if_neg (ne_true_of_eq_false low)]
    exact ⟨rfl, rfl, rfl, rfl, rfl, BitVec.sub_add_cancel 0 _, rfl⟩
  · cases tripped : s.thm.tripped <;> simp [toStandby, modPwr, putCause]
  · rintro ⟨supply, good, held⟩
    rcases bars with h | h | h
    · exact h supply
    · exact h (Option.isNone_iff_eq_none.1 good)
    · rw [h] at held
      exact Bool.false_ne_true held
  · have release (x y : List (Nat × Byte)) := releaseReset_good supply good held x y
    have plain : releaseReset [] [] s = beginStart (s.top.state == .standby && s.pwr.orderly) s := by
      rw [release, readBank1_unchanged, readBank0_unchanged]
    refine ⟨fun other none vm => ?_, fun standby orderly vm => ?_, fun c some vm => ?_, fun x y flips bad none vm => ?_, fun x flips fits => ?_⟩
    · have woken : (s.top.state == DevState.standby) = false := beq_false_of_ne other
      refine congrArg (after s) (plain.trans ?_)
      rw [woken, Bool.false_and, beginStart_eq, showHeld_nothing none vm]
      rfl
    · have woken : (s.top.state == DevState.standby && s.pwr.orderly) = true := by rw [standby, orderly]; rfl
      rw [woken] at plain
      refine ⟨beginStart true s, congrArg (after s) plain, ?_, ?_, ?_, fun a => ?_⟩
      · rw [beginStart_pwr]
        show startCause true s.pwr = _
        cases shut : s.pwr.heldShut <;> simp [startCause, shut]
      · rw [beginStart_pwr]
        rfl
      · rw [beginStart_pwr]
        rfl
      · rw [beginStart_restores a orderly vm]
        exact ⟨rfl, rfl⟩
    · exact ⟨_, congrArg (after s) plain, beginStart_shows some vm⟩
    · obtain ⟨mot, top, -, vms⟩ := readBank1_keeps y s
      obtain ⟨boot, attempts, err, user, axes⟩ := beginStart_failed (s.top.state == .standby && s.pwr.orderly) (vms.trans vm)
      refine ⟨_, congrArg (after s) ((release x y).trans (congrArg (beginStart _) (readBank0_fails flips bad))), boot, attempts, err, user, fun a => ?_⟩
      rw [axes, top, mot]
      by_cases standby : s.top.state = .standby
      · simp only [standby, if_true, Fin.getElem_fin, Vector.getElem_map]
        simp [setBit]
      · simp [standby]
    · refine congrArg (after s) ((release x []).trans (congrArg (beginStart _) ?_))
      rw [readBank1_unchanged]
      exact readBank0_loads flips fits

end Sys2Proof.Machine

/-! ## The fuse commands, cells and pulses (O53) -/

namespace Sys2Proof.Machine

/-! ### Codewords and the list of cells (R396, R399) -/

theorem eccEncode_data (v : DWord) : (eccEncode v).setWidth 64 = v := by
  refine BitVec.eq_of_getLsbD_eq fun i hi => ?_
  have parity : (eccEncode v).getLsbD i = (bchCheck v ++ v : BitVec 78).getLsbD i := BitVec.getLsbD_append.trans (if_pos (by omega))
  have check : (bchCheck v ++ v : BitVec 78).getLsbD i = v.getLsbD i := BitVec.getLsbD_append.trans (if_pos hi)
  rw [BitVec.getLsbD_setWidth, parity, check, decide_eq_true hi, Bool.true_and]

/-- A codeword decodes to its data with nothing corrected. -/
theorem eccDecode_eccEncode (v : DWord) : eccDecode (eccEncode v) = some (v, 0) := by
  have word : isCodeword (eccEncode v) = true := by rw [isCodeword, eccEncode_data, beq_self_eq_true]
  rw [eccDecode, if_pos word, eccEncode_data]

section
variable {α : Type} {key : α → Nat} {x : α} {p : α → Bool}

theorem insertBy_find_other (other : p x = false) (l : List α) : (insertBy key x l).find? p = l.find? p := by
  induction l with
  | nil => simp [insertBy, other]
  | cons y l ih =>
    unfold insertBy
    split
    · rw [List.find?_cons_of_neg (by simp [other])]
    · rw [List.find?_cons, ih, List.find?_cons]

theorem insertBy_find_same (same : p x = true) {l : List α} (none : ∀ y ∈ l, p y = false) : (insertBy key x l).find? p = some x := by
  induction l with
  | nil => simp [insertBy, same]
  | cons y l ih =>
    unfold insertBy
    split
    · exact List.find?_cons_of_pos same
    · rw [List.find?_cons_of_neg (by simp [none y (List.mem_cons_self ..)])]
      exact ih fun z hz => none z (List.mem_cons_of_mem _ hz)

end

section
variable {w : Nat} {l : List FuseRead}

theorem cellsOf_filter_other {v : Nat} (other : w ≠ v) : cellsOf w (l.filter fun x => x.word != v) = cellsOf w l := by
  have found : (l.filter fun x => x.word != v).find? (fun c => c.word == w) = l.find? fun c => c.word == w := by
    rw [List.find?_filter]
    refine congrArg (List.find? · l) (funext fun x => ?_)
    by_cases h : x.word = w <;> simp [h, other]
  rw [cellsOf, found, cellsOf]

theorem cellsOf_putCells_other {c : FuseRead} (other : w ≠ c.word) : cellsOf w (putCells c l) = cellsOf w l := by
  have found := insertBy_find_other (key := fun x => x.word) (p := fun x => x.word == w) (beq_false_of_ne other.symm)
    (l.filter fun x => x.word != c.word)
  rw [← cellsOf_filter_other (l := l) other, cellsOf, putCells, found, cellsOf]

theorem cellsOf_putCells_same (c : FuseRead) (l : List FuseRead) : cellsOf c.word (putCells c l) = c := by
  have found := insertBy_find_same (key := fun x => x.word) (p := fun x => x.word == c.word) (x := c) (beq_self_eq_true _)
    (l := l.filter fun x => x.word != c.word) fun y hy => by simpa using (List.mem_filter.1 hy).2
  rw [cellsOf, putCells, found]

/-- A cell that reads 1 at every level. -/
def burnedCell (c : FuseRead) (i : Nat) : Prop := c.normal.getLsbD i = true ∧ c.low.getLsbD i = true ∧ c.high.getLsbD i = true

theorem mergeCells_burned {old : FuseRead} {i : Nat} (h : burnedCell old i) (new : FuseRead) : burnedCell (mergeCells old new) i := by
  obtain ⟨normal, low, high⟩ := h
  simp [burnedCell, mergeCells, normal, low, high]

theorem isBlank_of_burned {c : FuseRead} {i : Nat} (h : burnedCell c i) : isBlank c = false := by
  have some : c.normal ≠ 0 := by
    rintro zero
    have := h.1
    rw [zero] at this
    simp at this
  rw [isBlank, beq_false_of_ne some]
  rfl

/-- No reading of the array unburns a cell. -/
theorem takeWord_burned {i : Nat} (h : burnedCell (cellsOf w l) i) (c : FuseRead) : burnedCell (cellsOf w (takeWord l c)) i := by
  unfold takeWord
  dsimp only
  split
  · exact h
  · by_cases same : c.word = w
    · subst same
      have merged := mergeCells_burned h c
      rw [isBlank_of_burned merged, if_neg Bool.false_ne_true]
      exact (cellsOf_putCells_same (mergeCells (cellsOf c.word l) c) l).symm ▸ merged
    · split
      · rwa [cellsOf_filter_other (Ne.symm same)]
      · rwa [cellsOf_putCells_other (c := mergeCells (cellsOf c.word l) c) (Ne.symm same)]

theorem takeWords_burned {i : Nat} (words : List FuseRead) (h : burnedCell (cellsOf w l) i) :
    burnedCell (cellsOf w (words.foldl takeWord l)) i := by
  induction words generalizing l with
  | nil => exact h
  | cons c words ih => exact ih (takeWord_burned h c)

end

/-! ### READ and REREAD (R402) -/

section
variable {s : State}

theorem settle_otp (s0 s : State) : (settle s0 s).otp = s.otp := by
  obtain ⟨-, -, -, -, -, -, -, otp, -⟩ := settle_settled s0 s
  exact otp

/-- What a host command leaves of the fuses. -/
theorem exec_otp {f : State → State} {o : Otp} (hc : s.link.cfgReady = true) (h : (f (touchLink s)).otp = o) :
    ∃ t, after s (onHost f s) = .next t ∧ t.otp = o :=
  ⟨_, after_onHost hc rfl, (settle_otp s _).trans h⟩

theorem readFuse_corrected (w : BitVec 9) (free : s.otp.burn = none) :
    let raw := (cellsOf w.toNat s.otp.cells).normal
    let d := match eccDecode raw with | some v => v.1 | none => raw.setWidth 64
    (readFuse w 0 s).otp = { s.otp with
      data := (if statOf w.toNat s.otp = some .ambiguous then raw.setWidth 64 else d)
      cmdLevel := 0, cmdOp := 1, cmdWord := w, cmdResult := 0 } := by
  intro raw d
  have value : (match statOf w.toNat s.otp, eccDecode raw with
      | some .ambiguous, _ | _, none => raw.setWidth 64
      | _, some t => t.1) = if statOf w.toNat s.otp = some .ambiguous then raw.setWidth 64 else d := by
    cases decoded : eccDecode raw with
    | none =>
      cases statOf w.toNat s.otp with
      | none => simp [d, decoded]
      | some st => cases st <;> simp [d, decoded]
    | some t =>
      cases stat : statOf w.toNat s.otp with
      | none => simp [d, decoded]
      | some st => cases st <;> simp [d, decoded]
  rw [← value, readFuse, if_neg (by simp [free])]
  rfl

theorem readFuse_level3 (w : BitVec 9) (free : s.otp.burn = none) : (readFuse w 3 s).otp = { s.otp with
    cmdLevel := 3, cmdOp := 1, cmdWord := w, cmdResult := 14, err := setBit s.otp.err 4 } := by
  rw [readFuse, if_neg (by simp [free])]
  simp [refuseOtp, otpErr, modOtp, noteOtp, free]

theorem readFuse_busy (w : BitVec 9) (level : BitVec 2) (busy : s.otp.burn ≠ none) :
    (readFuse w level s).otp = { s.otp with err := setBit s.otp.err 4 } := by
  have some : s.otp.burn.isSome = true := Option.isSome_iff_ne_none.2 busy
  rw [readFuse, if_pos some, refuseOtp, if_pos some]
  rfl

theorem countClassN_eventsOnly (c : Fin 32) (n : Nat) (s : State) : EventsOnly (countClassN c n s) s := by
  induction n generalizing s with
  | zero => exact ⟨_, _, rfl⟩
  | succ n ih => exact (ih _).trans (countClass_eventsOnly c s)

/-- A report of WEAK items changes the flags of the fuse block alone. -/
theorem reportWeak_otp (s : State) : ∃ e, (reportWeak s).otp = { s.otp with err := e } := by
  unfold reportWeak
  dsimp only
  split
  · exact ⟨_, rfl⟩
  · obtain ⟨e, h, eq⟩ := countClassN_eventsOnly Cls.otpWeak (weakCount s.otp) (raise Src.otpWeak (otpErr 6 s))
    rw [eq]
    exact ⟨_, rfl⟩

theorem rereadFuses_otp (words : List FuseRead) (locks : List LockRead) (free : s.otp.burn = none) :
    let o := (rereadFuses words locks s).otp
    o.values = s.otp.values ∧ o.cells = (takeCells words locks s.otp).cells ∧ o.locks = (takeCells words locks s.otp).locks ∧
      o.lockUse = s.otp.lockUse ∧ o.cmdOp = 7 ∧ o.cmdResult = 0 ∧ o.reads = satInc s.otp.reads := by
  intro o
  let u := noteOtp 7 s.otp.cmdWord 0 (modOtp (fun o => restat s.pwr.journal (takeCells words locks o)) s)
  let v := modOtp (fun o => { o with reads := satInc o.reads, ambig := firstAmbiguous u.otp }) u
  obtain ⟨e, otp⟩ := reportWeak_otp v
  have eq : rereadFuses words locks s = reportWeak v := if_neg (by simp [free])
  rw [show o = { v.otp with err := e } from (congrArg State.otp eq).trans otp]
  exact ⟨rfl, rfl, rfl, rfl, rfl, rfl, rfl⟩

/-! ### Burns (R403, R404) -/

theorem burnCommand_eq (op : Nat) (w : BitVec 9) (hc : s.link.cfgReady = true) : after s (onHost (burnCommand op w) s) =
    match burnRefused op w.toNat s.otp.data (touchLink s) with
    | some r => .next (settle s (refuseOtp op w r (touchLink s)))
    | none => .next (settle s (runBurn burnFuel (noteRegion 0x13 0 (2 ^ 65) (startBurn op w.toNat (noteOtp op w 15 (touchLink s)))))) := by
  cases judged : burnRefused op w.toNat s.otp.data (touchLink s) with
  | none => exact after_onHost hc (by rw [burnCommand, show burnRefused op w.toNat (touchLink s).otp.data _ = none from judged])
  | some r => exact after_onHost hc (by rw [burnCommand, show burnRefused op w.toNat (touchLink s).otp.data _ = some r from judged])

/-- A burn waits for its next pulse while the temperature allows one. -/
theorem runBurn_waits {b : Burn} (burn : s.otp.burn = some b) (bits : b.bits ≠ []) (cool : ctlInWindow s = true) :
    runBurn burnFuel s = s := by
  have step (n : Nat) : runBurn (n + 1) s = s := by
    have left : b.bits.isEmpty = false := by simpa using bits
    simp [runBurn, burn, left, cool]
  exact step 199

theorem startBurn_program (w : BitVec 9) (s : State) :
    let u := startBurn 2 w.toNat (noteOtp 2 w 15 s)
    u.otp.cmdResult = 15 ∧ u.otp.cells = s.otp.cells ∧ u.pwr.journal = some ⟨w, 0, eccEncode s.otp.data⟩ ∧
      u.otp.burn = some { op := 2, target := w.toNat, value := s.otp.data, word := w.toNat, step := .word true, tries := 0, done := 0
                          code := eccEncode s.otp.data, bits := bitsOf (eccEncode s.otp.data), due := s.now + 104000 } := by
  refine ⟨rfl, rfl, ?_, ?_⟩
  · simp [startBurn, afterJournal, burnWord, modOtp, noteOtp]
  · simp [startBurn, afterJournal, burnWord, modOtp, noteOtp, usGrid]

theorem bitPulse_idle (none : s.otp.burn = none) (v : Bool) : bitPulse v s = s := by rw [bitPulse, none]

section
variable {b : Burn} {bit : Nat} {rest : List Nat}

theorem bitPulse_verified (burn : s.otp.burn = some b) (bits : b.bits = bit :: rest) :
    bitPulse true s = runBurn burnFuel (bitVerified b bit rest { s with
      now := max s.now b.due, out := { s.out with fuse := (BitVec.ofNat 9 b.word, bit) :: s.out.fuse } }) := by
  simp only [bitPulse, burn, bits, if_true, advanceTo]

theorem bitPulse_tried (burn : s.otp.burn = some b) (bits : b.bits = bit :: rest) (few : b.tries < 3) :
    bitPulse false s = { s with
      now := max s.now b.due, out := { s.out with fuse := (BitVec.ofNat 9 b.word, bit) :: s.out.fuse }
      otp := { s.otp with burn := some { b with tries := b.tries + 1, due := max s.now b.due + 96000 } } } := by
  simp only [bitPulse, burn, bits, Bool.false_eq_true, if_false, few, if_true, advanceTo, modOtp, usGrid, Nat.reduceMul]

/-- A verified bit of a word sets its cell, and the burn goes on to the bits that are left. -/
theorem bitVerified_word (step : b.step = .word true) (s : State) :
    let u := bitVerified b bit rest s
    u.now = s.now ∧ u.out = s.out ∧ u.thm = s.thm ∧
      u.otp = { (setCell b.word bit s).otp with burn := some { b with bits := rest, tries := 0, done := b.done + 1, due := s.now + 96000 } } := by
  have due : s.now + usGrid 12 = s.now + 96000 := by rw [usGrid]
  rw [← due]
  unfold bitVerified
  simp only [step]
  cases (setCell b.word bit s).pwr.journal <;> exact ⟨rfl, rfl, rfl, rfl⟩

end

end

/-! ### O53 -/

/-- Settles O53: READ and REREAD by the word's cells, a burn by its refusal, a cell by `takeWords_burned`, a pulse by its step. -/
theorem fuses : Obligations.Fuses := by
  unfold Obligations.Fuses
  refine ⟨fun w s hc => ⟨fun free => exec_otp hc (readFuse_corrected (s := touchLink s) w free),
      fun free => exec_otp hc (readFuse_level3 (s := touchLink s) w free),
      fun level busy => exec_otp hc (readFuse_busy (s := touchLink s) w level busy),
      ⟨burnCommand_eq 2 w hc, burnCommand_eq 3 w hc, burnCommand_eq 4 w hc, burnCommand_eq 5 w hc, burnCommand_eq 6 w hc⟩,
      startBurn_program w s, fun b burn bits cool => runBurn_waits burn bits cool, fun words locks free => ?_⟩,
    fun words locks o w i normal low high => (takeWords_burned words ⟨normal, low, high⟩).1, eccDecode_eccEncode,
    fun s hr => ⟨fun none v => after_live hr (bitPulse_idle none v), fun b bit next rest burn bits step cool => ⟨?_, fun few =>
      ⟨_, after_live hr (bitPulse_tried burn bits few), rfl, rfl⟩⟩⟩⟩
  · obtain ⟨values, cells, taken, use, op, result, reads⟩ := rereadFuses_otp (s := touchLink s) words locks free
    obtain ⟨t, eq, otp⟩ := exec_otp (s := s) hc (rfl : (rereadFuses words locks (touchLink s)).otp = _)
    refine ⟨t, eq, ?_⟩
    rw [otp]
    exact ⟨values, cells, taken, use, op, result, reads⟩
  · obtain ⟨now, out, thm, otp⟩ := bitVerified_word (bit := bit) (rest := next :: rest) step { s with
      now := max s.now b.due, out := { s.out with fuse := (BitVec.ofNat 9 b.word, bit) :: s.out.fuse } }
    refine ⟨_, after_live hr ((bitPulse_verified burn bits).trans (runBurn_waits (congrArg Otp.burn otp) (List.cons_ne_nil _ _) ?_)),
      now, (congrArg Out.fuse out :), (congrArg Otp.burn otp :), (congrArg Otp.cells otp :), (congrArg Otp.values otp :),
      (congrArg Otp.locks otp :)⟩
    rw [ctlInWindow, thm]
    exact cool

end Sys2Proof.Machine

/-! ## MSI-X and the lasting classes (O60) -/

namespace Sys2Proof.Machine

/-! ### Messages (R467) -/

section
variable {v : Fin 128} {s : State}

theorem sendPending_open (pending : s.evt.pba.getLsbD v.val = true) (isOpen : vecOpen v s = true) (ended : s.evt.holdEnd[v] = none) :
    sendPending v s = sendMsi v s := if_pos (by simp [pending, isOpen, holdingOff, ended])

theorem sendPending_none (none : s.evt.pba.getLsbD v.val = false) : sendPending v s = s :=
  if_neg (by rw [none]; exact Bool.false_ne_true)

theorem holdoffEnds_idle (none : s.evt.holdEnd[v] = none) : holdoffEnds v s = s := by rw [holdoffEnds, none]

/-- A held vector is pending once its holdoff has ended. -/
theorem holdoffEnds_sends {t : Nat} (ends : s.evt.holdEnd[v] = some t) (held : s.evt.held.getLsbD v.val = true) (isOpen : vecOpen v s = true) :
    holdoffEnds v s = sendMsi v { s with
      now := max s.now t
      evt := { s.evt with holdEnd := s.evt.holdEnd.set v.val none v.isLt, held := clearBit s.evt.held v.val, pba := setBit s.evt.pba v.val } } := by
  have was : (advanceTo t s).evt.held.getLsbD v.val = true := held
  unfold holdoffEnds
  rw [ends]
  dsimp only
  rw [if_pos was]
  exact sendPending_open (setBit_getLsbD_self _ v.isLt) isOpen (Vector.getElem_set_self ..)

theorem setVecMask_unmasks (pending : s.evt.pba.getLsbD v.val = true) (enabled : s.link.msixEn = true) (master : s.link.busMaster = true)
    (unmasked : s.link.funcMask = false) (ended : s.evt.holdEnd[v] = none) : setVecMask v false s =
      sendMsi v { s with evt := { s.evt with table := s.evt.table.set v.val { s.evt.table[v] with masked := false } v.isLt } } := by
  refine sendPending_open pending ?_ ended
  simp [vecOpen, vecMasked, enabled, master, unmasked]

end

/-! ### A write of 1 to LASTING bits (R471) -/

theorem clearBit_getLsbD {n : Nat} (w : BitVec n) {i j : Nat} (h : i < n) : (clearBit w i).getLsbD j = (w.getLsbD j && j != i) := by
  have bit : (1#n <<< i).getLsbD j = (decide (j < n) && j == i) := by
    rw [BitVec.getLsbD_shiftLeft, BitVec.getLsbD_one]
    by_cases same : j = i
    · simp [same, h, Nat.zero_lt_of_lt h]
    · by_cases below : j < i
      · simp [below, same]
      · simp [below, same, show j - i ≠ 0 by omega]
  by_cases inside : j < n
  · rw [clearBit, BitVec.getLsbD_and, BitVec.getLsbD_not, bit, decide_eq_true inside, Bool.true_and, Bool.true_and]
    rfl
  · rw [BitVec.getLsbD_of_ge _ _ (Nat.le_of_not_lt inside), BitVec.getLsbD_of_ge w _ (Nat.le_of_not_lt inside), Bool.false_and]

/-- What a write to a class's LASTING bit reads and changes of the class: the clock, the class and its bit. -/
def classView (c : Fin 32) (s : State) : Nat × ErrClass × Bool := (s.now, s.evt.classes[c], isLasting c s)

/-- The class after the write. -/
def clearedView (x : Nat × ErrClass × Bool) : Nat × ErrClass × Bool :=
  (x.1, { x.2.1 with times := [], cleared := some (x.1, x.2.2, x.2.1.times) }, x.2.2 && x.2.1.hitAt == some x.1)

section
variable {c : Fin 32} {s : State}

theorem clearClass_view_same (c : Fin 32) (s : State) : classView c (clearClass c s) = clearedView (classView c s) := by
  have cls : (clearClass c s).evt.classes[c] =
      { s.evt.classes[c] with times := [], cleared := some (s.now, isLasting c s, s.evt.classes[c].times) } := Vector.getElem_set_self ..
  have bit : isLasting c (clearClass c s) = (isLasting c s && s.evt.classes[c].hitAt == some s.now) := by
    show (if isLasting c s && s.evt.classes[c].hitAt == some s.now then s.evt.lasting else clearBit s.evt.lasting c.val).getLsbD c.val = _
    split
    · next kept => rw [kept]; exact (Bool.and_eq_true _ _ ▸ kept).1
    · next gone => rw [Bool.eq_false_iff.2 gone, clearBit_getLsbD _ c.isLt, bne_self_eq_false, Bool.and_false]
  rw [classView, cls, bit]
  rfl

theorem clearClass_view_other {d : Fin 32} (other : d ≠ c) : classView c (clearClass d s) = classView c s := by
  have apart : d.val ≠ c.val := fun e => other (Fin.ext e)
  have cls : (clearClass d s).evt.classes[c] = s.evt.classes[c] := Vector.getElem_set_ne d.isLt c.isLt apart
  have bit : isLasting c (clearClass d s) = isLasting c s := by
    show (if isLasting d s && s.evt.classes[d].hitAt == some s.now then s.evt.lasting else clearBit s.evt.lasting d.val).getLsbD c.val = _
    split
    · rfl
    · rw [clearBit_getLsbD _ d.isLt, bne_iff_ne.2 apart.symm, Bool.and_true, isLasting]
  rw [classView, cls, bit]
  rfl

/-- The write at one class. -/
def writeLasting (w : Word) (s : State) (c : Fin 32) : State := if w.getLsbD c.val then clearClass c s else s

theorem writeLasting_view (w : Word) (c : Fin 32) (s : State) :
    classView c (writeLasting w s c) = if w.getLsbD c.val then clearedView (classView c s) else classView c s := by
  unfold writeLasting
  split
  · exact clearClass_view_same c s
  · rfl

theorem writeLasting_view_other {d : Fin 32} (other : d ≠ c) (w : Word) : classView c (writeLasting w s d) = classView c s := by
  unfold writeLasting
  split
  · exact clearClass_view_other other
  · rfl

theorem writeLasting_view_absent (w : Word) {l : List (Fin 32)} (absent : c ∉ l) (s : State) :
    classView c (l.foldl (writeLasting w) s) = classView c s := by
  induction l generalizing s with
  | nil => rfl
  | cons d l ih =>
    obtain ⟨other, rest⟩ := not_or.1 fun h => absent (List.mem_cons.2 h)
    exact (ih rest _).trans (writeLasting_view_other (Ne.symm other) w)

/-- Each class is cleared once, where its bit is written. -/
theorem clearLasting_view (w : Word) (c : Fin 32) (s : State) :
    classView c (clearLasting w s) = if w.getLsbD c.val then clearedView (classView c s) else classView c s := by
  obtain ⟨l, r, parts⟩ := List.append_of_mem (List.mem_finRange c)
  have once : (l ++ c :: r).Nodup := parts ▸ List.nodup_finRange 32
  obtain ⟨-, tail, apart⟩ := List.nodup_append.1 once
  have left : c ∉ l := fun h => apart c h c (List.mem_cons_self ..) rfl
  have right : c ∉ r := (List.nodup_cons.1 tail).1
  have order : clearLasting w s = r.foldl (writeLasting w) (writeLasting w (l.foldl (writeLasting w) s) c) := by
    show (List.finRange 32).foldl (writeLasting w) s = _
    rw [parts, List.foldl_append, List.foldl_cons]
  rw [order, writeLasting_view_absent w right, writeLasting_view, writeLasting_view_absent w left]

/-- The write leaves the settings, what is pending, the log and the device state. -/
theorem clearLasting_keeps (w : Word) (s : State) : (clearLasting w s).evt.cfg = s.evt.cfg ∧ (clearLasting w s).evt.pend = s.evt.pend ∧
    (clearLasting w s).mgt = s.mgt ∧ (clearLasting w s).top = s.top := by
  have each {α : Type} (f : State → α) (h : ∀ c u, f (clearClass c u) = f u) : f (clearLasting w s) = f s := by
    refine foldl_keep f (writeLasting w) (fun u c => ?_) _ s
    unfold writeLasting
    split
    · exact h c u
    · rfl
  exact ⟨each (fun u => u.evt.cfg) fun _ _ => rfl, each (fun u => u.evt.pend) fun _ _ => rfl, each State.mgt fun _ _ => rfl,
    each State.top fun _ _ => rfl⟩

/-- An event that reaches THRESHOLD in the clock of the write that cleared its class sets the bit again and raises nothing anew. -/
theorem countClass_sameClock {old : List Nat} (cleared : clearedNow c s = some (true, old)) (off : isLasting c s = false)
    (reached : s.evt.cfg[c].threshold.toNat ≤ inWindow ((usNow s :: old).take s.evt.cfg[c].threshold.toNat) (usNow s)
      (s.evt.cfg[c].window.toNat * 1000)) :
    isLasting c (countClass c s) = true ∧ (countClass c s).evt.raised = s.evt.raised := by
  have escalated (u : State) : (escalate c u).evt.lasting = u.evt.lasting ∧ (escalate c u).evt.raised = u.evt.raised := by
    unfold escalate
    split
    · exact ⟨rfl, rfl⟩
    · split <;> exact ⟨rfl, rfl⟩
  unfold countClass
  simp only [cleared, decide_eq_true reached, Option.isSome_some, if_true]
  split
  · next on => exact absurd on (ne_true_of_eq_false off)
  · rw [isLasting, (escalated _).1, (escalated _).2]
    exact ⟨setBit_getLsbD_self _ c.isLt, rfl⟩

end

/-! ### O60 -/

/-- Settles O60: messages by what holds them back, the LASTING bits class by class, the same clock by `countClass_sameClock`. -/
theorem eventCommands : Obligations.EventCommands := by
  unfold Obligations.EventCommands
  refine fun s => ⟨fun v t hr ends held isOpen => after_live hr (holdoffEnds_sends ends held isOpen),
    fun v hr none => after_live hr (holdoffEnds_idle none),
    fun v hc => ⟨fun none => after_onHost hc (sendPending_none none),
      fun pending enabled master unmasked ended => after_onHost hc (setVecMask_unmasks (s := touchLink s) pending enabled master unmasked ended)⟩,
    fun hc => ⟨after_onHost hc rfl, fun w => ?_, fun c old cleared off reached => countClass_sameClock cleared off reached,
      after_onHost hc rfl, after_onHost hc rfl⟩⟩
  obtain ⟨cfg, pend, mgt, top⟩ := clearLasting_keeps w (touchLink s)
  refine ⟨clearLasting w (touchLink s), after_onHost hc rfl, cfg, pend, mgt, top, fun c => ⟨fun unwritten => ?_, fun written => ?_⟩⟩
  · have view := clearLasting_view w c (touchLink s)
    rw [unwritten, if_neg Bool.false_ne_true] at view
    exact ⟨congrArg (fun x => x.2.1) view, congrArg (fun x => x.2.2) view⟩
  · have view := clearLasting_view w c (touchLink s)
    rw [written, if_pos rfl] at view
    have cls : (clearLasting w (touchLink s)).evt.classes[c] = { s.evt.classes[c] with
        times := [], cleared := some (s.now, isLasting c s, s.evt.classes[c].times) } := congrArg (fun x => x.2.1) view
    have now : (clearLasting w (touchLink s)).now = s.now := congrArg Prod.fst view
    refine ⟨by rw [cls], by rw [cls], ?_, congrArg (fun x => x.2.2) view⟩
    rw [clearedNow, cls, now]
    exact if_pos rfl

end Sys2Proof.Machine

/-! ## INVALIDATE and RELOAD (O59) -/

namespace Sys2Proof.Machine

section
variable {kolto slotB : Bool} {s : State}

/-- Neither command acts while a session exists or without the firmware (R459). -/
theorem slotCommand_busy (h : fwRuns s = false ∨ s.mgt.updState ≠ .idle) : (!fwRuns s || s.mgt.updState != .idle) = true := by
  rcases h with h | h <;> simp [h]

theorem slotCommand_free (fw : fwRuns s = true) (idle : s.mgt.updState = .idle) : ¬(!fwRuns s || s.mgt.updState != .idle) = true := by
  simp [fw, idle]

theorem invalidateSlot_clears (fw : fwRuns s = true) (idle : s.mgt.updState = .idle)
    (other : (s.mgt.slots[slotIx kolto (!slotB)]).isSome = true) : invalidateSlot kolto slotB s =
      startFlash (.program (slotBase kolto slotB) [0, 0, 0, 0]) { s with mgt := { s.mgt with
        updOp := 4, updKind := kolto, updSlot := slotB, updResult := 0
        slots := s.mgt.slots.set (slotIx kolto slotB).val none (slotIx kolto slotB).isLt } } :=
  (if_neg (slotCommand_free fw idle)).trans (if_neg (by rw [← Option.not_isSome, other]; decide))

theorem invalidateSlot_last (fw : fwRuns s = true) (idle : s.mgt.updState = .idle) (none : s.mgt.slots[slotIx kolto (!slotB)] = none) :
    invalidateSlot kolto slotB s = { s with mgt := { s.mgt with updOp := 4, updKind := kolto, updSlot := slotB, updResult := 2 } } :=
  (if_neg (slotCommand_free fw idle)).trans (if_pos (by rw [none]; rfl))

theorem firstValid_both {m : Mgt} {i j : Image} (a : m.slots[slotIx kolto false] = some i) (b : m.slots[slotIx kolto true] = some j) :
    firstValid kolto m = some (seqNewer j.seq i.seq) := by
  rw [firstValid, a, b]

theorem firstValid_only {m : Mgt} (none : m.slots[slotIx kolto (!slotB)] = none) (own : (m.slots[slotIx kolto slotB]).isSome = true) :
    firstValid kolto m = some slotB := by
  obtain ⟨i, image⟩ := Option.isSome_iff_exists.1 own
  cases slotB with
  | false => rw [firstValid, image, show m.slots[slotIx kolto true] = _ from none]
  | true => rw [firstValid, image, show m.slots[slotIx kolto false] = _ from none]

theorem firstValid_none {m : Mgt} (other : m.slots[slotIx kolto (!slotB)] = none) (own : m.slots[slotIx kolto slotB] = none) :
    firstValid kolto m = none := by
  cases slotB with
  | false => rw [firstValid, own, show m.slots[slotIx kolto true] = _ from other]
  | true => rw [firstValid, own, show m.slots[slotIx kolto false] = _ from other]

theorem reloadSlot_activates {b : Bool} (fw : fwRuns s = true) (idle : s.mgt.updState = .idle) (valid : firstValid kolto s.mgt = some b) :
    reloadSlot kolto s = activate kolto b (noteUpd 5 kolto s.mgt.updSlot 0 s) := by
  refine (if_neg (slotCommand_free fw idle)).trans ?_
  rw [valid]

theorem reloadSlot_none (fw : fwRuns s = true) (idle : s.mgt.updState = .idle) (none : firstValid kolto s.mgt = none) :
    reloadSlot kolto s = noteUpd 5 kolto s.mgt.updSlot 2 s := by
  refine (if_neg (slotCommand_free fw idle)).trans ?_
  rw [none]

end

/-- Settles O59, by the valid slots of the kind. -/
theorem invalidateAndReload : Obligations.InvalidateAndReload := by
  unfold Obligations.InvalidateAndReload
  exact ⟨fun k b s hc busy => ⟨after_onHost hc (if_pos (slotCommand_busy (s := touchLink s) busy)),
      after_onHost hc (if_pos (slotCommand_busy (s := touchLink s) busy))⟩,
    fun k b s hc fw idle => ⟨fun i j a c => after_onHost hc (reloadSlot_activates (s := touchLink s) fw idle (firstValid_both a c)),
      fun other => after_onHost hc (invalidateSlot_clears (s := touchLink s) fw idle other),
      fun none => after_onHost hc (invalidateSlot_last (s := touchLink s) fw idle none),
      fun none some => after_onHost hc (reloadSlot_activates (s := touchLink s) fw idle (firstValid_only none some)),
      fun other none => after_onHost hc (reloadSlot_none (s := touchLink s) fw idle (firstValid_none other none))⟩⟩

end Sys2Proof.Machine

/-! ## The processor, the log, the mailbox, recovery and SMBus (O57) -/

namespace Sys2Proof.Machine

/-! ### Restarts (R444) -/

section
variable {s : State}

theorem releaseUnit_free (s : State) : (releaseUnit true s).chk.units[7].mgtOwn = false := by
  unfold releaseUnit
  split
  · exact congrArg ChkUnit.mgtOwn (Vector.getElem_set_self (i := 7) (by decide))
  · next free => exact Bool.eq_false_iff.2 free

/-- A restart without a session releases the unit that the firmware has claimed. -/
theorem beginRestart_quiet (watchdog : Bool) (runs : s.mgt.running = true) (quiet : sessionRuns s.mgt = false) :
    (beginRestart watchdog s).mgt = { s.mgt with restarting := true, restartBy := s.now + 480000000, byWatchdog := watchdog } ∧
      (beginRestart watchdog s).chk.units[7].mgtOwn = false := by
  have eq : beginRestart watchdog s = modMgt (fun m => { m with
      restarting := true, restartBy := (releaseUnit true s).now + 480000000, byWatchdog := watchdog }) (releaseUnit true s) := by
    simp only [beginRestart, runs, quiet, if_true, Bool.false_eq_true, if_false, msGrid, Nat.reduceMul]
  have now : (releaseUnit true s).now = s.now := (releaseUnit_steady true s).1
  rw [eq, now]
  refine ⟨?_, releaseUnit_free s⟩
  rw [modMgt_mgt, releaseUnit_mgt]

theorem beginRestart_session (watchdog : Bool) (runs : s.mgt.running = true) (session : sessionRuns s.mgt = true) :
    beginRestart watchdog s = modMgt (fun m => { m with
      restarting := true, restartBy := (failSession s).now + 480000000, byWatchdog := watchdog }) (failSession s) := by
  simp only [beginRestart, runs, session, if_true, msGrid, Nat.reduceMul]

theorem tripWatchdog_runs (fw : fwRuns s = true) : tripWatchdog s =
    countClass Cls.mgtWatchdog (mgtErr 3 (beginRestart true { s with now := s.now + 800000000 })) := by
  simp only [tripWatchdog, fw, if_true, msGrid, Nat.reduceMul]

end

/-! ### The slots that a restart tries (R444, R451) -/

section
variable {kolto : Bool} {a b : List Byte} {ok : List (Nat × Word) → Bool} {s : State} {x y : Bool} {i : Image}

theorem trySlots_head {l : List Bool} (valid : slotImage kolto a b ok s.otp x = some i) :
    trySlots kolto a b ok (x :: l) s = (some (x, i), scanSlot kolto x (slotBytes a b x) s) := by simp [trySlots, valid]

theorem trySlots_next (bad : slotImage kolto a b ok s.otp x = none) (valid : slotImage kolto a b ok s.otp y = some i) :
    trySlots kolto a b ok [x, y] s = (some (y, i), scanSlot kolto y (slotBytes a b y) (slotTried kolto a b s x)) := by
  simp [trySlots, bad, valid]

theorem trySlots_vain {l : List Bool} (bad : ∀ x ∈ l, slotImage kolto a b ok s.otp x = none) :
    trySlots kolto a b ok l s = (none, l.foldl (slotTried kolto a b) s) := by
  have all : l.takeWhile (fun x => (slotImage kolto a b ok s.otp x).isNone) = l :=
    List.takeWhile_eq_self_iff.2 fun x hx => by rw [bad x hx]; rfl
  simp [trySlots, all]

/-- The management block apart from its log queue and its flags. -/
def Mgt.unreported (m : Mgt) : Mgt := { m with fifo := [], lost := 0, lostEvent := false, err := 0 }

theorem pushLog_unreported (type aux : BitVec 8) (l : List Byte) (s : State) : (pushLog type aux l s).mgt.unreported = s.mgt.unreported := by
  unfold pushLog
  split <;> rfl

theorem mgtErr_unreported (i : Nat) (s : State) : (mgtErr i s).mgt.unreported = s.mgt.unreported := rfl

/-- A slot tried in vain is logged and flagged. -/
theorem slotTried_unreported (kolto : Bool) (a b : List Byte) (s : State) (x : Bool) :
    (slotTried kolto a b s x).mgt.unreported = s.mgt.unreported := by
  unfold slotTried
  dsimp only
  split
  · rw [slotFails, countClass_mgt, mgtErr_unreported, pushLog_unreported, scanSlot_mgt]
  · rfl

theorem slotsTried_unreported (kolto : Bool) (a b : List Byte) (l : List Bool) (s : State) :
    (l.foldl (slotTried kolto a b) s).mgt.unreported = s.mgt.unreported :=
  foldl_keep (fun u => u.mgt.unreported) _ (fun u x => slotTried_unreported kolto a b u x) l s

end

section
variable {a b : List Byte} {s : State} {i : Image}

/-- What a restart's end finds valid: the slot tried, and the state that the trial leaves. -/
def slotsFound (a b : List Byte) (s : State) : Option (Bool × Image) × State :=
  trySlots false a b rangeOnly (if s.mgt.trying.isSome then [s.mgt.fwSlot] else [s.mgt.fwSlot, !s.mgt.fwSlot]) (noteSlots false a b rangeOnly s)

theorem restartEnds_found {x : Bool} (restarts : s.mgt.restarting = true) (found : (slotsFound a b s).1 = some (x, i))
    (other : (slotsFound a b s).2.mgt.activation ≠ .firmware) : restartEnds a b s =
      raise Src.mgtRestart (modMgt (fun m => { m with restarting := false, restarts := satInc m.restarts, fwSlot := x, fwVer := i.secVer })
        (slotsFound a b s).2) := by
  unfold restartEnds
  rw [if_pos restarts]
  show (match (slotsFound a b s).1 with | some (x, i) => _ | none => _) = _
  rw [found]
  exact if_neg other

theorem restartEnds_vain (restarts : s.mgt.restarting = true) (vain : (slotsFound a b s).1 = none) :
    restartEnds a b s = (slotsFound a b s).2 := by
  unfold restartEnds
  rw [if_pos restarts]
  show (match (slotsFound a b s).1 with | some (x, i) => _ | none => _) = _
  rw [vain]
  exact rfl

/-- The firmware of the slot in force passes its check again. -/
theorem slotsFound_same (valid : parseImage false (slotBytes a b s.mgt.fwSlot) rangeOnly s.otp = some i) :
    (slotsFound a b s).1 = some (s.mgt.fwSlot, i) ∧ (slotsFound a b s).2.mgt = (noteSlots false a b rangeOnly s).mgt := by
  have first (l : List Bool) : trySlots false a b rangeOnly (s.mgt.fwSlot :: l) (noteSlots false a b rangeOnly s) = _ := trySlots_head valid
  unfold slotsFound
  split
  · rw [first]
    exact ⟨rfl, scanSlot_mgt _ _ _ _⟩
  · rw [first]
    exact ⟨rfl, scanSlot_mgt _ _ _ _⟩

/-- It does not, and that of the other slot does. -/
theorem slotsFound_other (tested : s.mgt.trying = none) (bad : parseImage false (slotBytes a b s.mgt.fwSlot) rangeOnly s.otp = none)
    (valid : parseImage false (slotBytes a b (!s.mgt.fwSlot)) rangeOnly s.otp = some i) :
    (slotsFound a b s).1 = some (!s.mgt.fwSlot, i) ∧ (slotsFound a b s).2.mgt.unreported = (noteSlots false a b rangeOnly s).mgt.unreported := by
  have second : trySlots false a b rangeOnly [s.mgt.fwSlot, !s.mgt.fwSlot] (noteSlots false a b rangeOnly s) = _ := trySlots_next bad valid
  rw [slotsFound, if_neg (by simp [tested]), second]
  exact ⟨rfl, (congrArg Mgt.unreported (scanSlot_mgt _ _ _ _)).trans (slotTried_unreported _ _ _ _ _)⟩

/-- Neither does, or an image that is tried for the first time does not. -/
theorem slotsFound_none (bad : parseImage false (slotBytes a b s.mgt.fwSlot) rangeOnly s.otp = none)
    (last : parseImage false (slotBytes a b (!s.mgt.fwSlot)) rangeOnly s.otp = none ∨ s.mgt.trying ≠ none) :
    (slotsFound a b s).1 = none ∧ (slotsFound a b s).2.mgt.unreported = (noteSlots false a b rangeOnly s).mgt.unreported := by
  have vain : slotsFound a b s = (none, (if s.mgt.trying.isSome then [s.mgt.fwSlot] else [s.mgt.fwSlot, !s.mgt.fwSlot]).foldl
      (slotTried false a b) (noteSlots false a b rangeOnly s)) := by
    refine trySlots_vain fun x hx => ?_
    show parseImage false (slotBytes a b x) rangeOnly s.otp = none
    split at hx
    · rw [List.mem_singleton.1 hx, bad]
    · next tested =>
      have other := last.resolve_right fun h => tested (Option.isSome_iff_ne_none.2 h)
      rcases List.mem_pair.1 hx with rfl | rfl
      · exact bad
      · exact other
  rw [vain]
  exact ⟨rfl, slotsTried_unreported _ _ _ _ _⟩

/-- The end of a restart that is no activation: the slot in force, else the other one, else the restart goes on. -/
theorem restartEnds_ends (restarts : s.mgt.restarting = true) (other : s.mgt.activation ≠ .firmware) :
    let old := parseImage false (slotBytes a b s.mgt.fwSlot) rangeOnly s.otp
    let next := parseImage false (slotBytes a b (!s.mgt.fwSlot)) rangeOnly s.otp
    let u := restartEnds a b s
    (∀ i, old = some i → u.mgt.restarting = false ∧ u.mgt.restarts = satInc s.mgt.restarts ∧ u.mgt.fwSlot = s.mgt.fwSlot ∧
      u.mgt.fwVer = i.secVer ∧ u.evt.pend.getLsbD Src.mgtRestart = true) ∧
    (∀ i, old = none → next = some i → s.mgt.trying = none → u.mgt.restarting = false ∧ u.mgt.fwSlot = (!s.mgt.fwSlot) ∧
      u.mgt.fwVer = i.secVer) ∧
    (old = none → next = none ∨ s.mgt.trying ≠ none → u.mgt.restarting = true) := by
  refine ⟨fun i valid => ?_, fun i bad valid tested => ?_, fun bad last => ?_⟩
  · obtain ⟨found, mgt⟩ := slotsFound_same valid
    have count : (slotsFound a b s).2.mgt.restarts = s.mgt.restarts := (congrArg Mgt.restarts mgt).trans rfl
    rw [restartEnds_found restarts found (by rw [mgt]; exact other)]
    exact ⟨rfl, congrArg satInc count, rfl, rfl, setBit_getLsbD_self _ (by decide)⟩
  · obtain ⟨found, mgt⟩ := slotsFound_other tested bad valid
    have kept : (slotsFound a b s).2.mgt.activation = s.mgt.activation := (congrArg Mgt.activation mgt :)
    rw [restartEnds_found restarts found (by rw [kept]; exact other)]
    exact ⟨rfl, rfl, rfl⟩
  · obtain ⟨vain, mgt⟩ := slotsFound_none bad last
    have kept : (slotsFound a b s).2.mgt.restarting = s.mgt.restarting := (congrArg Mgt.restarting mgt :)
    rw [restartEnds_vain restarts vain, kept, restarts]

end

/-! ### Readings and the log ring (R443, R452, R454) -/

section
variable {s : State} {r : LogRec} {rest : List LogRec}

theorem takeReadings_eq (vm pk : Nat) (r0 r1 r2 r3 : RailRead) (sup : List Nat) (fw : fwRuns s = true) :
    takeReadings vm pk r0 r1 r2 r3 sup s = measureRail 3 r3 (measureRail 2 r2 (measureRail 1 r1 (measureRail 0 r0 { s with
      now := (s.now / 800000000 + 1) * 800000000
      mgt := { s.mgt with tCtl := s.thm.tCtl, supplies := sup, vm10mV := vm, package := pk, rails := #v[r0.v10mV, r1.v10mV, r2.v10mV, r3.v10mV] } }))) := by
  refine (if_pos fw).trans ?_
  simp only [modMgt, tickTo, msGrid, Nat.reduceMul]

theorem measureRails (r0 r1 r2 r3 : RailRead) (s : State) :
    let u := measureRail 3 r3 (measureRail 2 r2 (measureRail 1 r1 (measureRail 0 r0 s)))
    u.hdv.rails[0].vout = satNat 16 r0.v10mV ∧ u.hdv.rails[0].iout = satNat 16 r0.i10mA ∧
      u.hdv.rails[3].vout = satNat 16 r3.v10mV ∧ u.hdv.rails[3].iout = satNat 16 r3.i10mA := by
  simp [measureRail, modRail]

theorem writeRecord_placed (writes : logWrites s = true) (queued : s.mgt.fifo = r :: rest) (room : compacts s.mgt = false) :
    writeRecord true s = placeRecord r (modMgt (fun m => { m with fifo := rest }) s) := by
  simp only [writeRecord, writes, queued, room, Bool.not_true, Bool.false_eq_true, if_false, if_true, flashResult]

theorem writeRecord_torn (writes : logWrites s = true) (queued : s.mgt.fifo = r :: rest) (room : compacts s.mgt = false) :
    writeRecord false s = countClass Cls.flash (tearPlace r s) := by
  simp only [writeRecord, writes, queued, room, Bool.not_true, Bool.false_eq_true, if_false, flashResult]

theorem writeRecord_compacts (writes : logWrites s = true) (queued : s.mgt.fifo = r :: rest) (full : compacts s.mgt = true) :
    writeRecord true s = placeRecord r (modMgt (fun m => { m with fifo := rest }) (compact s)) := by
  simp only [writeRecord, writes, queued, full, Bool.not_true, Bool.false_eq_true, if_false, if_true, flashResult]

theorem writeRecord_idle (ok : Bool) (idle : logWrites s = false ∨ s.mgt.fifo = []) : writeRecord ok s = s := by
  unfold writeRecord
  split
  · rfl
  · next writes =>
    rw [idle.resolve_left (by simpa using writes)]

end

/-! ### The mailbox and recovery (R460, R461) -/

section
variable {s : State}

/-- A legal head record is handed to its port, whose write begins with the first page. -/
theorem mailHeadWrite_taken {p : Port} (arg : s.mgt.mbxArg.toNat = p.val) (normal : s.mgt.recovery = false) (free : mbxBusy s = false)
    (len : mbxLenOk s.mgt = true) (valid : recordValid (mbxBytes 128 s.mgt) = true) (some : s.hp[p].record ≠ [])
    (serial : recSerial (mbxBytes 128 s.mgt) = recSerial s.hp[p].record) (can : canWrite s.hp[p] = true) :
    mailHeadWrite s = recordWrite p (modHp p (fun h => { h with mailWrite := Option.some (mbxBytes 128 s.mgt) }) (noteMbx 1 3 s)) := by
  have inRange : s.mgt.mbxArg.toNat < 16 := arg ▸ p.isLt
  have port : (⟨s.mgt.mbxArg.toNat, inRange⟩ : Port) = p := Fin.ext arg
  unfold mailHeadWrite
  simp only [normal, free, Bool.false_eq_true, if_false, inRange, dite_true, port]
  refine if_pos ?_
  rw [len, valid, List.isEmpty_eq_false_iff.2 some, serial, can, beq_self_eq_true]
  rfl

/-- The start of a page changes what holds it, and neither the page nor the data. -/
theorem startPage_keeps (p : Port) (s : State) : (startPage p s).hp[p].write = s.hp[p].write ∧
    (startPage p s).hp[p].writeData = s.hp[p].writeData ∧ (startPage p s).mgt = s.mgt := by
  unfold startPage
  split
  · rw [modHp_same]
    exact ⟨rfl, rfl, rfl⟩
  · split
    · rw [modHp_same]
      exact ⟨rfl, rfl, rfl⟩
    · rw [hpErr, modHp_same, modHp_same]
      exact ⟨rfl, rfl, rfl⟩

theorem beginMail_begins (p : Port) (r : List Byte) (s : State) : (beginMail p r s).hp[p].write = .page 0 ∧
    (beginMail p r s).hp[p].writeData = mailRecord r s.hp[p].record ∧ (beginMail p r s).mgt = s.mgt := by
  obtain ⟨write, data, mgt⟩ := startPage_keeps p (modHp p (fun h => { h with
      write := .page 0, writeData := mailRecord r s.hp[p].record, writeUnits := 0, writeTries := 0 })
    (modHp p (fun h => { h with mailRuns := true }) s))
  rw [modHp_same] at write data
  exact ⟨write, data, mgt⟩

theorem mailUserRead_copies (normal : s.mgt.recovery = false) (free : mbxBusy s = false) (len : mbxLenOk s.mgt = true)
    (inRange : 2048 * s.mgt.mbxArg.toNat + s.mgt.mbxLen.toNat ≤ s.mgt.user.length) : mailUserRead s = mbxDone 2 0 { s with
      mgt := putMbx (slice s.mgt.user (2048 * s.mgt.mbxArg.toNat) s.mgt.mbxLen.toNat) s.mgt } := by
  refine (if_neg (ne_true_of_eq_false normal)).trans ((if_neg (ne_true_of_eq_false free)).trans (if_pos ?_))
  simp [len, inRange]

theorem startFlashes_mgt (l : List FlashOp) (s : State) : ∃ w, (startFlashes l s).mgt = { s.mgt with flashWait := w } := by
  induction l generalizing s with
  | nil => exact ⟨s.mgt.flashWait, rfl⟩
  | cons op l ih =>
    obtain ⟨_, first⟩ := startFlash_mgt op s
    obtain ⟨w, rest⟩ := ih (startFlash op s)
    rw [first] at rest
    exact ⟨w, rest⟩

/-- A chunk that does not follow the bytes received ends in a new start of the recovery. -/
theorem recoverChunk_outOfOrder (back : Option (List Byte)) (recovers : s.mgt.recovery = true) (len : mbxLenOk s.mgt = true)
    (later : 0 < s.mgt.mbxArg.toNat) (order : 2048 * s.mgt.mbxArg.toNat ≠ s.mgt.recImage.length) :
    recoverChunk back s = recoveryRestart (mbxDone 3 2 s) := by
  have first : ¬2048 * s.mgt.mbxArg.toNat = 0 := by omega
  unfold recoverChunk
  simp only [recovers, len, Bool.not_true, Bool.false_eq_true, if_false, first]
  exact if_pos order

theorem recoveryRestart_mgt (s : State) : (recoveryRestart s).mgt.mbxResult = s.mgt.mbxResult ∧ (recoveryRestart s).mgt.recImage = [] ∧
    (recoveryRestart s).mgt.recovery = s.mgt.recovery := by
  obtain ⟨w, mgt⟩ := startFlashes_mgt (eraseOps (slotBase false false) (slotSize false) (slotSize false)) s
  unfold recoveryRestart
  rw [modMgt_mgt, mgt]
  exact ⟨rfl, rfl, rfl⟩

/-- A chunk in its place joins the image and is programmed. -/
def chunkTaken (s : State) : State :=
  startFlash (.program (slotBase false false + 2048 * s.mgt.mbxArg.toNat) (mbxBytes s.mgt.mbxLen.toNat s.mgt))
    (modMgt (fun m => { m with recImage := m.recImage ++ mbxBytes s.mgt.mbxLen.toNat s.mgt }) s)

theorem chunkTaken_image (s : State) : (chunkTaken s).mgt.recImage = s.mgt.recImage ++ mbxBytes s.mgt.mbxLen.toNat s.mgt := by
  obtain ⟨w, mgt⟩ := startFlash_mgt (.program (slotBase false false + 2048 * s.mgt.mbxArg.toNat) (mbxBytes s.mgt.mbxLen.toNat s.mgt))
    (modMgt (fun m => { m with recImage := m.recImage ++ mbxBytes s.mgt.mbxLen.toNat s.mgt }) s)
  exact congrArg Mgt.recImage mgt

/-- The image is judged once it is whole. -/
theorem recoverChunk_taken (back : Option (List Byte)) (recovers : s.mgt.recovery = true) (len : mbxLenOk s.mgt = true)
    (later : 0 < s.mgt.mbxArg.toNat) (order : 2048 * s.mgt.mbxArg.toNat = s.mgt.recImage.length) :
    recoverChunk back s = if recWhole (s.mgt.recImage ++ mbxBytes s.mgt.mbxLen.toNat s.mgt) then
      recoverEnds (back.getD (s.mgt.recImage ++ mbxBytes s.mgt.mbxLen.toNat s.mgt)) (chunkTaken s) else mbxDone 3 0 (chunkTaken s) := by
  have first : ¬2048 * s.mgt.mbxArg.toNat = 0 := by omega
  have beyond : 256 < 2048 * s.mgt.mbxArg.toNat + (mbxBytes s.mgt.mbxLen.toNat s.mgt).length := by omega
  have start : max 256 (2048 * s.mgt.mbxArg.toNat) = 2048 * s.mgt.mbxArg.toNat := by omega
  have whole : 256 - 2048 * s.mgt.mbxArg.toNat = 0 := by omega
  unfold recoverChunk
  simp only [recovers, len, Bool.not_true, Bool.false_eq_true, if_false, first]
  rw [if_neg (not_not.2 order)]
  simp only [beyond, if_true, start, whole, List.drop_zero]
  rw [← chunkTaken_image]
  rfl

end

/-! ### SMBus (R462) -/

section
variable {addr : BitVec 7} {code : Byte} {extra : List Byte} {pec : Bool} {data : Option (List Byte)} {s : State}

theorem smbAnswer_elsewhere (other : addr ≠ s.mgt.smbAddr) : smbAnswer addr code extra pec data s = s := if_pos other

theorem smbAnswer_busy (halted : fwRuns s = false) : smbAnswer s.mgt.smbAddr code extra pec data s = reply [1] s :=
  (if_neg (not_not.2 rfl)).trans (if_pos (by rw [halted]; rfl))

theorem smbAnswer_data {b : List Byte} (fw : fwRuns s = true) :
    smbAnswer s.mgt.smbAddr code [] pec (some b) s = reply (0 :: (b ++ if pec then [pecOf s.mgt.smbAddr code b] else [])) s :=
  (if_neg (not_not.2 rfl)).trans (if_neg (by rw [fw]; decide))

theorem smbAnswer_nack (fw : fwRuns s = true) (bad : data = none ∨ extra ≠ []) : smbAnswer s.mgt.smbAddr code extra pec data s = reply [2] s := by
  refine (if_neg (not_not.2 rfl)).trans ((if_neg (by rw [fw]; decide)).trans ?_)
  cases data with
  | none => rfl
  | some b => exact if_neg (by simpa using bad.resolve_left (Option.some_ne_none b))

end

/-! ### O57 -/

/-- Settles O57: restarts by the slots found valid, the log by `writeRecord`'s cases, the mailbox by its record, SMBus by `smbAnswer`. -/
theorem management : Obligations.Management := by
  unfold Obligations.Management
  refine ⟨fun s => ⟨fun hc runs quiet => ?_, fun hc halted => after_onHost hc (if_neg (ne_true_of_eq_false halted)),
      fun hc runs session => after_onHost hc (beginRestart_session (s := touchLink s) false runs session),
      fun hr fw => after_live hr (tripWatchdog_runs fw), fun a b hr restarts other => ⟨_, after_live hr rfl, restartEnds_ends restarts other⟩,
      fun hc => after_onHost hc rfl, fun vm pk r0 r1 r2 r3 sup hr fw => ?_,
      fun r rest hr writes queued => ⟨fun room => ⟨?_, ?_⟩, fun full => after_live hr (writeRecord_compacts writes queued full)⟩,
      fun ok hr idle => after_live hr (writeRecord_idle ok idle)⟩,
    fun s => ⟨fun hc => ⟨fun p arg normal free len valid some serial can idle => ?_, fun normal busy => ⟨?_, ?_⟩,
        fun normal free len inRange => after_onHost hc (mailUserRead_copies (s := touchLink s) normal free len inRange),
        fun back recovers len later => ⟨fun order => ⟨fun part => ?_, fun whole => ?_⟩, fun order => ?_⟩⟩,
      fun hr => ⟨fun c x pec fw => ⟨fun v word => after_live hr ?_, fun bad => after_live hr (smbAnswer_nack fw ?_), fun block => after_live hr ?_,
          fun bad => after_live hr (smbAnswer_nack fw ?_)⟩,
        fun a c x pec other => ⟨after_live hr (smbAnswer_elsewhere other), after_live hr (smbAnswer_elsewhere other)⟩,
        fun halted => ⟨fun c x pec => ⟨after_live hr (smbAnswer_busy halted), after_live hr (smbAnswer_busy halted)⟩,
          after_live hr (if_neg (ne_true_of_eq_false halted))⟩,
        fun fw => ⟨_, after_live hr (if_pos fw), rfl, rfl⟩⟩⟩⟩
  · obtain ⟨mgt, unit⟩ := beginRestart_quiet (s := touchLink s) false runs quiet
    exact ⟨_, after_onHost hc rfl, mgt, unit⟩
  · exact ⟨_, after_live hr (takeReadings_eq vm pk r0 r1 r2 r3 sup fw), rfl, rfl, measureRails r0 r1 r2 r3 _⟩
  · exact after_live hr (writeRecord_placed writes queued room)
  · exact after_live hr (writeRecord_torn writes queued room)
  · have taken := mailHeadWrite_taken (s := touchLink s) arg normal free len valid some serial can
    have port := modHp_same p (fun h => { h with mailWrite := Option.some (mbxBytes 128 s.mgt) }) (noteMbx 1 3 (touchLink s))
    have begins := recordWrite_mail (n := p) (d := mbxBytes 128 s.mgt)
      (s := modHp p (fun h => { h with mailWrite := Option.some (mbxBytes 128 s.mgt) }) (noteMbx 1 3 (touchLink s)))
      (by rw [port]; exact can) (by rw [port]; exact idle) (by rw [port])
    obtain ⟨write, data, mgt⟩ := beginMail_begins p (mbxBytes 128 s.mgt)
      (modHp p (fun h => { h with mailWrite := Option.some (mbxBytes 128 s.mgt) }) (noteMbx 1 3 (touchLink s)))
    refine ⟨_, after_onHost hc (taken.trans begins), congrArg Mgt.mbxResult mgt, write, ?_⟩
    rw [data, port]
    rfl
  · exact after_onHost hc ((if_neg (ne_true_of_eq_false normal)).trans (if_pos busy))
  · exact after_onHost hc ((if_neg (ne_true_of_eq_false normal)).trans (if_pos busy))
  · exact after_onHost hc ((recoverChunk_taken (s := touchLink s) back recovers len later order).trans (if_neg (ne_true_of_eq_false part)))
  · exact after_onHost hc ((recoverChunk_taken (s := touchLink s) back recovers len later order).trans (if_pos whole))
  · obtain ⟨result, image, recovery⟩ := recoveryRestart_mgt (mbxDone 3 2 (touchLink s))
    exact ⟨_, after_onHost hc (recoverChunk_outOfOrder (s := touchLink s) back recovers len later order), result.trans rfl, image,
      recovery.trans recovers⟩
  · rw [smbRead, word]
    exact smbAnswer_data fw
  · exact bad.imp_left fun none => by rw [none]; rfl
  · rw [smbBlock, if_pos block]
    exact smbAnswer_data fw
  · exact bad.imp_left fun other => if_neg other

end Sys2Proof.Machine
